-- ==== Sys2Proof/Word.lean ====
section
/-! DEFINITION. The word types of the model: bytes, 64-bit data words and the cargo word of R6. -/
namespace Sys2Proof

/-- A byte. -/
abbrev Byte := BitVec 8

/-- The DATA of a cargo word, and every 64-bit register (R6, R250). -/
abbrev W64 := BitVec 64

/-- KIND of a cargo word (R6): 0b00 middle, 0b01 first, 0b10 last, 0b11 only. -/
inductive Kind where
  | middle
  | first
  | last
  | only
  deriving DecidableEq, Repr

/-- The cargo word of R6. -/
structure Cargo where
  v : Bool
  kind : Kind
  bytes : BitVec 4
  p : Bool
  data : W64
  deriving DecidableEq, Repr

/-- A word with V = 0: every other bit zero (R7, R325). -/
def Cargo.empty : Cargo := ⟨false, .middle, 0, false, 0⟩

/-- A payload word of a frame: its DATA and its P bit (R10). -/
structure PWord where
  data : W64
  p : Bool
  deriving DecidableEq, Repr

/-- A ring frame (R10): header DATA, payload words, trailer DATA. -/
structure Frame where
  hdr : W64
  pay : List PWord
  trl : W64
  deriving DecidableEq, Repr

end Sys2Proof
end

