-- ==== Sys2Proof/Syntax.lean ====
section
/-! DEFINITION. The commands of the block: one constructor for each row of spec/opcode_table.json, with the row's operands (log entry 1). -/

namespace Sys2Proof

/-- Who asks the dictionary (R515): a ring node, a Gangplank source address and port, or the local core. -/
inductive Req where
  | ring (node : BitVec 8)
  | gangplank (ip : BitVec 32) (port : BitVec 16)
  | core
  deriving DecidableEq, Repr

/-- What the surroundings show at a tick boundary, besides what the state holds. -/
structure TickEnv where
  /-- Words by which the elastic buffer of each port lies off its centre (R87). -/
  elastic : List Int
  /-- Time since the receive direction of each port entered Detect, in us (R120). -/
  bringup : List (BitVec 32)
  /-- Quays whose clocks are good, one bit each (R434 step 8). -/
  quaysGood : BitVec 4
  /-- Items of R420 that failed in the tick just ended. -/
  stFail : BitVec 6
  /-- The reference clock is outside 25 ppm of the working domain (R423). -/
  refBad : Bool
  /-- `MNV_N` is high; `BATT_ON` is high (R543). -/
  mnv : Bool
  batt : Bool
  deriving DecidableEq, Repr

/-- What a tick marker ordered set and its tide header slots show the receiver (R50, R51, R82). -/
structure TickMark where
  /-- CONTENT of the TICK block on each lane; none where it is missing or in the wrong slot. -/
  ticks : List (Option W64)
  /-- Receive stamp of the TICK on the stamp lane less the own boundary of the tick, in 2^-16 ns, as taken. -/
  stamp : Int
  /-- Word 0 of the ring-state slot. -/
  ring : W64
  /-- Doorbell map. -/
  bells : BitVec 256
  deriving DecidableEq, Repr

/-- A training frame as it stands on a lane: the sync header and the payload of its first block, and the payloads of the TRAIN blocks after it as far
as the receiver checks them (R78, R96). -/
structure TrainFrame where
  hdr : BitVec 2
  body : BitVec 72
  trains : List (BitVec 72)
  deriving DecidableEq, Repr

/-- A bad block on a lane (R79): its sync header, its payload as descrambled, and its place in the frame in progress, if it stands in one. -/
structure BadBlock where
  lane : Fin 5
  hdr : BitVec 2
  body : BitVec 72
  place : Option (Fin 34)
  deriving DecidableEq, Repr

/-- A frame as it comes in on a port: its words, the position in the stream of the first of them, by which the lanes carry them (R42), and the receive
stamp of its header less the own boundary of the tick, in 2^-16 ns, as taken (R145). -/
structure FrameIn where
  words : List Cargo
  first : Fin 5
  stamp : Int
  deriving DecidableEq, Repr

/-- A fault event as a detector reports it (R473). -/
structure Event where
  src : BitVec 8
  inst : BitVec 8
  detail : BitVec 32
  deriving DecidableEq, Repr

/-- A CAN frame on a bus (R350): its identifier, its format, whether it is a remote frame, ESI, and its data bytes. -/
structure CanFrame where
  id : BitVec 29
  ext : Bool
  fdf : Bool
  brs : Bool
  rtr : Bool
  esi : Bool
  data : List Byte
  deriving DecidableEq, Repr

/-- A UDP datagram at the Gangplank port (R520), with what its lower layers show. -/
structure Datagram where
  srcIp : BitVec 32
  srcPort : BitVec 16
  dstPort : BitVec 16
  /-- Fragmented, with IP options, or with a checksum that fails. -/
  bad : Bool
  bytes : List Byte
  deriving DecidableEq, Repr

/-- The commands (95_what_each_step_holds.md: each is whole and indivisible). -/
inductive Instr where
  /-- `POWER_ON` (R448): VAON rising through its valid threshold resets every domain D0 to D7 as a cold reset; straps as the board holds them, `SLIPWAY_N` low, a thermal diode fitted. -/
  | powerOn (roleB : Bool) (boot : BitVec 2) (slipLow : Bool) (diode : Bool)
  /-- `RESET_N_ASSERT` (R450): RESET_N is held low long enough for the glitch filter to take it as a reset, which is cold or warm according to WARM_PIN; with the levels on the straps that a cold reset samples. -/
  | resetNAssert (roleB : Bool) (boot : BitVec 2)
  /-- `RESET_N_RELEASE` (R450): RESET_N has been high for 100 ns, so the release sequence begins. -/
  | resetNRelease
  /-- `WATCHDOG_KICK` (R451): A write of 0xA5 to WDT_KICK restarts the watchdog count. -/
  | watchdogKick (r : Req) (v : BitVec 8)
  /-- `WDT_PERIOD_WRITE` (R451): A write to WDT_PERIOD sets the watchdog period and restarts the count with the new period. -/
  | wdtPeriodWrite (r : Req) (v : BitVec 16)
  /-- `WATCHDOG_EXPIRY` (R451): The watchdog expires, giving a warm reset of source 0x04. -/
  | watchdogExpiry
  /-- `RESET_CMD_WRITE` (R452): A keyed write to RESET_CMD accepts a full reset, with a source code that depends on the origin of the write. -/
  | resetCmdWrite (r : Req) (v : BitVec 32)
  /-- `RESET_CMD_ASSERT` (R452): 10 us after acceptance, the commanded warm reset asserts. -/
  | resetCmdAssert
  /-- `CRITICAL_STATE_ERROR` (R453): An uncorrected or parity error in critical state raises a fatal record of source 0x3C; unit 0 to 4 for instances 1 to 5 of source 0x3C. -/
  | criticalStateError (unit : Fin 5) (bay : Fin 2048)
  /-- `CRITICAL_RESET_TIMER` (R453): 1 ms after the keepers release following a critical-state error, the controller issues a warm reset of source 0x08. -/
  | criticalResetTimer
  /-- `RESET_ASSERTION_END` (R456): The minimum reset assertion of 16 reference cycles ends, and the release gap towards D1 begins. -/
  | resetAssertionEnd
  /-- `DOMAIN_RELEASE` (R456): The next domain is released once REL_GAP has passed and its clock is good; with the time since the end of assertion, and whether `REFCLK_P` showed 16 edges within 2 us. -/
  | domainRelease (us : BitVec 32) (refEdges : Bool)
  /-- `DOMAIN_CLOCK_TIMEOUT` (R457): A domain still lacks a good clock 2 ms after it became due, so it is declared held. -/
  | domainClockTimeout
  /-- `OPTION_LOAD_COMPLETE` (R461): Option loading ends, and all the options read take effect together; with the 16 bytes read from the flash. -/
  | optionLoadComplete (word : BitVec 128)
  /-- `SAVED_STATE_LOAD` (R432): In Berthing, the node loads the valid saved-state slot with the later SLOT_SEQ. -/
  | savedStateLoad
  /-- `BERTHING_COMPLETE` (R458): All domains are released, options are loaded, saved state is valid and a ring direction is Active or timed out; with the twin holding `TWIN_OWN_N` low or not. -/
  | berthingComplete (lineLow : Bool)
  /-- `POSITION_B_CLAIM_TIMEOUT` (R32): A position B chip with no heartbeat and TWIN_OWN_N still high 100 ms after Berthing completed enters Working. -/
  | positionBClaimTimeout
  /-- `SLIPWAY_KEY_WRITE` (R34): A correct test key written to SLIPWAY_KEY takes the node into Slipway, and a wrong key is refused. -/
  | slipwayKeyWrite (r : Req) (v : BitVec 64)
  /-- `SLIPWAY_KEY_WINDOW_END` (R33): No valid key arrives within 1 s, so the strap is ignored, a corrected fault is recorded and Berthing continues. -/
  | slipwayKeyWindowEnd
  /-- `BLOCK_RESET_WRITE` (R463): A write to BLOCK_RESET asks the named blocks to quiesce before they are reset. -/
  | blockResetWrite (r : Req) (v : BitVec 32)
  /-- `BLOCK_QUIESCE_END` (R463): A block becomes idle or QUIESCE_TICKS expires, and its reset is asserted, forced when it timed out. -/
  | blockQuiesceEnd (b : Fin 22) (forced : Bool)
  /-- `BLOCK_RESET_RELEASE` (R463): After 16 cycles, the block leaves reset on the first cycle on which its clock is good. -/
  | blockResetRelease (b : Fin 22) (clockGood : Bool)
  /-- `BLOCK_CLOCK_TIMEOUT` (R463): The block's clock is still not good 2 ms after release was due, so it is held and a contained record is raised. -/
  | blockClockTimeout (b : Fin 22)
  /-- `BLOCK_RESET_ABORT` (R464): Bit 31 of BLOCK_RESET aborts the resets not yet asserted. -/
  | blockResetAbort (r : Req)
  /-- `VIO_OUT_OF_RANGE` (R468): A bank supply leaves its range, so its pads are isolated and a contained record is raised. -/
  | vioOutOfRange (q : Fin 4)
  /-- `VIO_RESTORE` (R468): The bank supply has been valid again for 1 ms, so its outputs are reapplied at the next boundary; with the range the supply lies in: 3.3 V or 1.8 V. -/
  | vioRestore (q : Fin 4) (high : Bool)
  /-- `SUPPLY_MONITOR_BAD` (R563): A rail monitor reads bad for 2 us, so the pads are isolated and D1 to D7 are held in reset. -/
  | supplyMonitorBad
  /-- `SUPPLY_MONITOR_GOOD` (R563): All monitors read good again, and the domains are released as after a source 0x02 reset. -/
  | supplyMonitorGood
  /-- `TAP_RESET` (R581): TRST_N low resets the test access port. -/
  | tapReset
  /-- `TAP_IDCODE` (R581): The IDCODE instruction selects the 32-bit identity register. -/
  | tapIdcode
  /-- `TAP_SAMPLE_PRELOAD` (R581): The SAMPLE/PRELOAD instruction selects the boundary register. -/
  | tapSamplePreload
  /-- `TAP_EXTEST` (R582): EXTEST drives from the boundary register only when SLIPWAY_N was low at power-on, and otherwise acts as BYPASS. -/
  | tapExtest
  /-- `TAP_CLAMP` (R582): CLAMP is accepted only with the Slipway strap, and otherwise acts as BYPASS. -/
  | tapClamp
  /-- `TAP_HIGHZ` (R582): HIGHZ is accepted only with the Slipway strap, and otherwise acts as BYPASS. -/
  | tapHighz
  /-- `TAP_BYPASS` (R581): BYPASS, and every unlisted code, selects the bypass register. -/
  | tapBypass (code : BitVec 8)
  /-- `TICK_BOUNDARY` (R68): At each tick boundary the node runs the ordered boundary steps on the first quay clock edge. -/
  | tickBoundary (env : TickEnv)
  /-- `SCHEDULED_ENTRY_DUE` (R52): At an entry's START_SLOT the Working chip sends its scheduled frame both East and West. -/
  | scheduledEntryDue (entry : Fin 2048)
  /-- `SCHED_FRAME_RECEIVE` (R54): A scheduled copy is held whole and checked, then delivered, absorbed, dropped or kept as a candidate; at local port 3 + q. -/
  | schedFrameReceive (q : Fin 5)
  /-- `TICK_MARKER_RECEIVE` (R49): A received tick marker places the boundaries of a node not yet locked and gives the tick number. -/
  | tickMarkerReceive (port : Fin 3) (m : TickMark)
  /-- `TIDE_PLAN_COMMIT` (R64): A write to TIDE_PLAN_COMMIT starts the check of the staged plan. -/
  | tidePlanCommit (r : Req)
  /-- `TIDE_PLAN_CHECK_COMPLETE` (R65): The plan check ends, and the plan is either armed and saved or refused with a code. -/
  | tidePlanCheckComplete
  /-- `OBJECT_WRITE` (R19): A write to an object that has no row of its own is checked for rights and applied at its effect time. -/
  | objectWrite (r : Req) (idx : BitVec 16) (sub : BitVec 8) (v : List Byte)
  /-- `DETECT_PROBE` (R88): A 1 ms common-mode step probes each lane for a far receiver. -/
  | detectProbe (port : Fin 3) (present : List Bool) (clock : Bool)
  /-- `PILOT_TIMEOUT` (R88): Pilot does not finish in 20 ms, so the direction returns to Detect; of the transmit or the receive direction. -/
  | pilotTimeout (port : Fin 3) (tx : Bool)
  /-- `BIT_LOCK_CHECK_COMPLETE` (R88): The 2^24-bit check ends, and RX_READY is set when three lanes show no errors. -/
  | bitLockCheckComplete (port : Fin 3) (errFree : List Bool)
  /-- `BIT_LOCK_TIMEOUT` (R88): Bit lock does not pass in 5 ms, so the direction returns to Pilot; of the transmit or the receive direction. -/
  | bitLockTimeout (port : Fin 3) (tx : Bool)
  /-- `BLOCK_LOCK_ACHIEVED` (R88): 64 valid headers on every lane with TICK aligned move the direction to Harbour. -/
  | blockLockAchieved (port : Fin 3)
  /-- `BLOCK_LOCK_TIMEOUT` (R88): Block lock does not arrive within 3 ticks, so the direction returns to Pilot; of the transmit or the receive direction. -/
  | blockLockTimeout (port : Fin 3) (tx : Bool)
  /-- `HARBOUR_BLOCK_RECEIVE` (R93): An accepted HARBOUR block is checked against the Harbour rules, and the result is reported. -/
  | harbourBlockReceive (port : Fin 3) (h : W64)
  /-- `HARBOUR_TIMEOUT` (R88): Harbour does not end within 10 ms, so the direction returns to Detect; of the transmit or the receive direction. -/
  | harbourTimeout (port : Fin 3) (tx : Bool)
  /-- `BRINGUP_TIMEOUT` (R91): BRINGUP_TO expires without Active, so the direction counts as down; of the transmit or the receive direction. -/
  | bringupTimeout (port : Fin 3) (tx : Bool)
  /-- `TRAINING_MARK_RECEIVE` (R96): The transmitter handles a tap request that arrives in two consecutive MARK blocks. -/
  | trainingMarkReceive (port : Fin 3) (lane : Fin 5) (f : TrainFrame)
  /-- `SYNC_ERROR` (R79): An invalid or unknown block is counted and replaced by a poisoned word. -/
  | syncError (port : Fin 3) (b : BadBlock)
  /-- `CONTROL_BLOCK_CHECK_FAIL` (R81): A control block whose CHECK fails is ignored and counted. -/
  | controlBlockCheckFail (port : Fin 3)
  /-- `CLOCK_LANE_LOSS` (R86): The clock lane shows no transitions for 100 ns. -/
  | clockLaneLoss (port : Fin 3)
  /-- `ELASTIC_BUFFER_OVERFLOW` (R111): The elastic buffer overflows, so the receive direction is declared down. -/
  | elasticBufferOverflow (port : Fin 3)
  /-- `SPAN_NOTICE_RECEIVE` (R113): A SPAN notice updates the ring map, is relayed, and stops the node named in FAR from sending. -/
  | spanNoticeReceive (port : Fin 3) (n : W64)
  /-- `RETURN_HOLD_EXPIRY` (R117): RETURN_HOLD ticks pass, so the returned direction carries asynchronous frames again. -/
  | returnHoldExpiry (port : Fin 3)
  /-- `LANE_FAIL` (R105): A lane of the set fails, its cause is written, poisoning begins and a LANEMAP request is sent. -/
  | laneFail (port : Fin 3) (lane : Fin 5) (cause : BitVec 8)
  /-- `LANEMAP_RECEIVE` (R107): The transmitter takes the new lane set from the next or the following boundary; with whether the spare is ready 640 ns before the next boundary. -/
  | lanemapReceive (port : Fin 3) (m : W64) (ready : Bool)
  /-- `EBB_BLOCK_RECEIVE` (R100): The receiver freezes and squelches the named lanes. -/
  | ebbBlockReceive (port : Fin 3) (m : W64)
  /-- `MOORING_NO_RECEIVER_TIMEOUT` (R99): Detect has found no mooring receiver for 1 s, so the mooring link enters Ebb. -/
  | mooringNoReceiverTimeout
  /-- `EBB_EXIT_LOCK_RESULT` (R101): The lane locks after its burst, or it goes back through Pilot. -/
  | ebbExitLockResult (port : Fin 3) (lane : Fin 5) (locked : Bool)
  /-- `LOOP_MODE_WRITE` (R102): A loop is selected on a port, accepted only with ADMIN set or in Slipway. -/
  | loopModeWrite (r : Req) (port : Fin 3) (v : BitVec 8)
  /-- `LOOP_REQUEST_RECEIVE` (R103): A far node starts or stops returning every block, as the LOOP request asks. -/
  | loopRequestReceive (port : Fin 3) (m : W64)
  /-- `FAR_LOOP_TICK_TIMEOUT` (R103): No TICK has arrived for 4 ticks, so a far-end loop ends. -/
  | farLoopTickTimeout (port : Fin 3)
  /-- `PRBS_GENERATE_SET` (R104): Bit 0 of PRBS_CTRL makes each lane send training frames. -/
  | prbsGenerateSet (r : Req) (port : Fin 3) (v : BitVec 8)
  /-- `PRBS_CHECK_SET` (R104): Bit 1 of PRBS_CTRL makes each lane check received TRAIN blocks and count errors. -/
  | prbsCheckSet (r : Req) (port : Fin 3) (v : BitVec 8)
  /-- `PRBS_COUNTERS_CLEAR` (R104): Bit 2 of PRBS_CTRL clears the PRBS error counters. -/
  | prbsCountersClear (r : Req) (port : Fin 3) (v : BitVec 8)
  /-- `LANE_RETRAIN` (R110): A failed lane that carries no traffic is retrained on its own. -/
  | laneRetrain (r : Req) (port : Fin 3) (lane : Fin 5)
  /-- `LANE_RETRAIN_COMPLETE` (R110): A retrained lane that passes becomes the spare, or is added back to a three-lane set. -/
  | laneRetrainComplete (port : Fin 3) (lane : Fin 5) (passed : Bool)
  /-- `PORT_RETRAIN` (R120): The RETRAIN command restarts both span directions of a port at Detect. -/
  | portRetrain (r : Req) (port : Fin 3)
  /-- `SURVEY_NOTICE_SEND` (R118): A survey notice is sent both ways on a change of its fields, or every 1,024 ticks. -/
  | surveyNoticeSend
  /-- `SURVEY_NOTICE_RECEIVE` (R118): A survey notice is consumed, duplicates are absorbed, and the ring map is updated. -/
  | surveyNoticeReceive
  /-- `SURVEY_NODE_EXPIRY` (R118): A node not refreshed for 3,072 ticks is dropped from the ring map. -/
  | surveyNodeExpiry (node : BitVec 8)
  /-- `AXIS_SCAN_COMPLETE` (R126): An axis scan ends, and H, V and the eye centre are derived; with its counts at the middle point, at phases -2 to -32, 2 to 32, and at voltages -5 to -150 mV, 5 to 150 mV. -/
  | axisScanComplete (port : Fin 3) (lane : Fin 5) (mid : Nat) (left right down up : List Nat)
  /-- `EYE_MAP_COMPLETE` (R125): A full eye map ends, and the next map begins; with the 2,013 counts. -/
  | eyeMapComplete (port : Fin 3) (lane : Fin 5) (points : List Byte)
  /-- `DFE_UPDATE` (R128): The DFE taps take a sign-sign LMS update once per 4,096 bits; with the taps that go up and those that go down by 1 mV. -/
  | dfeUpdate (port : Fin 3) (lane : Fin 5) (up down : BitVec 5)
  /-- `SLACK_WATER_START` (R131): The node fills transmit slack water with TAPREQ, PSTEP and CAL words; with the transmit stamp of the reference header less the boundary, in 2^-12 ns. -/
  | slackWaterStart (port : Fin 3) (txOff : BitVec 32)
  /-- `SLACK_WATER_RECEIVE` (R132): A received slack water is handled in stream order, and the moves are made at the move point; with the CONTENT of its IDLE, TAPREQ, PSTEP and CAL blocks, the CAL blocks of positions 19 and 20 apart. -/
  | slackWaterReceive (port : Fin 3) (idles taps steps calRef calRep : List W64)
  /-- `TRIAL_ANSWER_TIMEOUT` (R142): With no answer in 8 ticks, the trial continues or is abandoned by comparing the coefficients. -/
  | trialAnswerTimeout (port : Fin 3) (lane : Fin 5)
  /-- `ASYM_WINDOW_END` (R147): At the end of a 64-tick window, the mean of the valid samples is formed. -/
  | asymWindowEnd (port : Fin 3)
  /-- `ASYM_SURVEY_SEND` (R148): Each node sends an asymmetry survey for the span on its East port. -/
  | asymSurveySend
  /-- `ASYM_SURVEY_RECEIVE` (R148): Asymmetry surveys are consumed, and duplicates are absorbed. -/
  | asymSurveyReceive
  /-- `ASYM_COMPUTE` (R149): The ring asymmetry is computed, and each span's value in use moves under the slew limit. -/
  | asymCompute
  /-- `RING_FRAME_RECEIVE` (R166): A frame arriving on a ring or mooring port is checked and routed. -/
  | ringFrameReceive (port : Fin 3) (f : FrameIn)
  /-- `ORPHAN_WORD_DROP` (R164): A word outside a frame that is neither first nor only is dropped and counted. -/
  | orphanWordDrop (port : Fin 3) (w : Cargo)
  /-- `OUTPUT_FRAME_START` (R173): An output starts the next released frame once its region and credit allow; of a ring output or the mooring link (a quay or the local block takes its next frame in the command that performs it), with the region and the slots left in it. -/
  | outputFrameStart (out : Fin 3) (asyncRegion : Bool) (room : BitVec 16)
  /-- `CREDIT_WORD_RECEIVE` (R179): A valid credit word updates the upstream credit. -/
  | creditWordReceive (port : Fin 3) (w : W64)
  /-- `CREDIT_WORD_INSERT` (R180): When a changed FREED has not left for 40 ns, an IDLE credit word is inserted. -/
  | creditWordInsert (port : Fin 3)
  /-- `OUTPUT_STALL` (R183): An output that lacks credit for STALL_TICKS boundaries counts as down. -/
  | outputStall (port : Fin 3)
  /-- `LINGER_EXPIRY` (R185): When linger expires, frames for the down output are discarded with cause 0x05. -/
  | lingerExpiry (port : Fin 3)
  /-- `SHARED_PEAK_READ` (R197): A read of SHARED_PEAK returns it and resets it to the present value. -/
  | sharedPeakRead (r : Req)
  /-- `RESEQ_PEAK_READ` (R199): A read of RESEQ_PEAK returns it and resets it. -/
  | reseqPeakRead (r : Req) (port : Fin 8)
  /-- `POSTED_WRITE_ISSUE` (R212): The origin bridge accepts a posted write from a local source and sends it in frames; the local core as the source. -/
  | postedWriteIssue (addr : W64) (words : List W64) (ack : Bool)
  /-- `POSTED_WRITE_RECEIVE` (R213): A target performs a posted write in ascending address order; at local port 3 + q. -/
  | postedWriteReceive (q : Fin 5)
  /-- `POSTED_WRITE_RESUME` (R213): A window frees room, so the waiting posted write continues; at local port 3 + q. -/
  | postedWriteResume (q : Fin 5)
  /-- `TARGET_WAIT_EXPIRY` (R213): After TARGET_WAIT, the rest of the frame is refused with BUSY; at local port 3 + q. -/
  | targetWaitExpiry (q : Fin 5)
  /-- `REQUEST_ISSUE` (R222): A local source issues a tagged request, reserving response room; the local core as the source. -/
  | requestIssue (op size : BitVec 4) (count : BitVec 8) (addr : W64) (words : List W64)
  /-- `TAG_WAIT_RESUME` (R222): A source waiting for a free tag gets one and issues its request. -/
  | tagWaitResume
  /-- `READ_REQUEST_RECEIVE` (R210): A target checks a READ and returns a READ_RESPONSE; at local port 3 + q. -/
  | readRequestReceive (q : Fin 5)
  /-- `WRITE_REQUEST_RECEIVE` (R208): A target performs a WRITE and returns a WRITE_RESPONSE; at local port 3 + q. -/
  | writeRequestReceive (q : Fin 5)
  /-- `BAD_OP_REQUEST` (R208): A request with a reserved OP or SIZE is refused with BAD_OP; at local port 3 + q. -/
  | badOpRequest (q : Fin 5)
  /-- `READ_RESPONSE_RECEIVE` (R224): A response completes its tag, or is dropped as late. -/
  | readResponseReceive
  /-- `WRITE_RESPONSE_RECEIVE` (R211): A WRITE_RESPONSE completes a write, acknowledges it, or reports a refusal. -/
  | writeResponseReceive
  /-- `READ_TIMEOUT` (R223): No response within READ_TIMEOUT, so TIMEOUT or NO_ACK is reported. -/
  | readTimeout (tag : Fin 16)
  /-- `TAG_REISSUE_HOLD_END` (R224): A tag freed by timeout may be reissued after a further READ_TIMEOUT. -/
  | tagReissueHoldEnd (tag : Fin 16)
  /-- `RESPONSE_ROOM_WAIT_END` (R225): A response waiting for room in the target's partition is written. -/
  | responseRoomWaitEnd
  /-- `TRANSFER_ABORT` (R228): A source aborts a transfer, and frames that have not begun are not sent. -/
  | transferAbort
  /-- `PREFETCH_READ_AHEAD` (R229): The bridge reads ahead into a stream while the local bus is free. -/
  | prefetchReadAhead
  /-- `PREFETCH_HOLD_EXPIRY` (R230): A stream unused for PREFETCH_HOLD ticks is discarded. -/
  | prefetchHoldExpiry
  /-- `POP_WINDOW_READ` (R231): A read of a pop window pops words, and ends at the first empty one; up to n words of FIFO f, numbered as in FIFO_PARITY_ERROR. -/
  | popWindowRead (f : Fin 180) (n : BitVec 8)
  /-- `USER_WINDOW_READ` (R272): A read of a crane user window sets the crane's user-read flag; word w. -/
  | userWindowRead (g : Fin 64) (w : Fin 8)
  /-- `USER_WINDOW_WRITE` (R272): A write of a crane user window sets the crane's user-write flag; word w. -/
  | userWindowWrite (g : Fin 64) (w : Fin 8) (v : W64)
  /-- `WORK_TIME_WINDOW_READ` (R221): A read of the first word of the time window latches both words; of the first or the second word. -/
  | workTimeWindowRead (second : Bool)
  /-- `MANIFEST_COMMIT` (R240): A write to MANIFEST_COMMIT starts the check of the staged records. -/
  | manifestCommit (r : Req)
  /-- `MANIFEST_COMMIT_COMPLETE` (R241): An accepted commit changes the table and the disable list at one instant. -/
  | manifestCommitComplete
  /-- `CRANE_WAIT` (R259): WAIT holds the crane until its chosen condition is seen. -/
  | craneWait (g : Fin 64)
  /-- `WAIT_WAKE` (R259): The WAIT condition is seen, and the next instruction begins two edges later; with the level to which the synchronised level of the wait pin has changed since the WAIT began, if it has, and TOFF on the edge. -/
  | waitWake (g : Fin 64) (edge : Option Bool) (toff : BitVec 32)
  /-- `CRANE_SHIN` (R262): SHIN samples COUNT bits into SHIFT_PART. -/
  | craneShin (g : Fin 64)
  /-- `CRANE_SHOUT` (R261): SHOUT sends COUNT bits of SOR, optionally duplex. -/
  | craneShout (g : Fin 64)
  /-- `SHIFT_END` (R266): A shift ends, and SIR, SC or OP are updated; with the bit periods whose trail strobe has passed since the last such command, whether the next lead strobe has passed too, and the levels of the IN group on each trail strobe. -/
  | shiftEnd (g : Fin 64) (periods : BitVec 7) (lead : Bool) (samples : List (BitVec 8))
  /-- `CRANE_PUSH` (R268): PUSH writes SIR to the receive FIFO, or discards it when there is no room. -/
  | cranePush (g : Fin 64)
  /-- `PUSH_ROOM_WAKE` (R268): A blocking PUSH finds room and writes. -/
  | pushRoomWake (g : Fin 64)
  /-- `CRANE_PULL` (R269): PULL moves the head word into SOR, or is stale on an empty FIFO. -/
  | cranePull (g : Fin 64)
  /-- `PULL_WORD_WAKE` (R270): A blocking PULL takes the first unpoisoned word that arrives. -/
  | pullWordWake (g : Fin 64)
  /-- `CRANE_SET` (R271): SET writes a 13-bit immediate to its target. -/
  | craneSet (g : Fin 64)
  /-- `CRANE_MOV` (R272): MOV combines a source into a destination; with TOFF on the edge. -/
  | craneMov (g : Fin 64) (toff : BitVec 32)
  /-- `CRANE_JMP` (R273): JMP goes to its target when its condition holds. -/
  | craneJmp (g : Fin 64)
  /-- `CRANE_LOOP` (R273): LOOP decrements LC and jumps while LC is non-zero. -/
  | craneLoop (g : Fin 64)
  /-- `SIG_FLAG_SET` (R274): SIG sets a quay flag. -/
  | sigFlagSet (g : Fin 64)
  /-- `SIG_FLAG_CLEAR` (R274): SIG clears a quay flag; with whether a set of the same flag falls on the same quay edge. -/
  | sigFlagClear (g : Fin 64) (setToo : Bool)
  /-- `SIG_IRQ` (R274): SIG makes a quay interrupt line pending. -/
  | sigIrq (g : Fin 64)
  /-- `SIG_NOTE` (R274): SIG raises a crane notice to the firmware. -/
  | sigNote (g : Fin 64)
  /-- `CRANE_STAMP` (R275): STAMP pushes the coarse capture of a pin as a word. -/
  | craneStamp (g : Fin 64)
  /-- `CRANE_SYNC` (R276): SYNC waits at the gang barrier. -/
  | craneSync (g : Fin 64)
  /-- `SYNC_RELEASE` (R276): All gang members have arrived, so they go on together. -/
  | syncRelease (gang : Fin 64)
  /-- `CRANE_CHK` (R277): CHK feeds SIR to the crane's check unit; with whether the unit is serving an earlier access. -/
  | craneChk (g : Fin 64) (busy : Bool)
  /-- `CHK_UNIT_WAKE` (R277): The check unit becomes free, and the waiting CHK feeds. -/
  | chkUnitWake (g : Fin 64)
  /-- `INSTRUCTION_DELAY_END` (R257): The strobe count of an instruction delay completes, and the next instruction begins. -/
  | instructionDelayEnd (g : Fin 64)
  /-- `TALLY_FETCH_ERROR` (R312): A fetch finds a Tally error, which is corrected and written back, or faults the crane; with the data bits found inverted besides those the state holds. -/
  | tallyFetchError (g : Fin 64) (upset : BitVec 24)
  /-- `CRANE_HALT` (R287): CRANE_CMD HALT stops the crane on the next edge and records HALT_INFO. -/
  | craneHalt (r : Req) (g : Fin 64)
  /-- `CRANE_RESTART` (R288): CRANE_CMD RESTART resumes a halted crane, or restarts it at ENTRY. -/
  | craneRestart (r : Req) (g : Fin 64)
  /-- `CRANE_START` (R283): CRANE_CMD START is a gang start of one. -/
  | craneStart (r : Req) (g : Fin 64)
  /-- `GANG_START` (R283): GANG_START starts the cranes in the mask, or is refused with BUSY. -/
  | gangStart (r : Req) (mask : BitVec 64)
  /-- `GANG_HALT` (R295): GANG_HALT halts every crane in the mask. -/
  | gangHalt (r : Req) (mask : BitVec 64)
  /-- `CLOCK_RESTART` (R284): CLOCK_RESTART restarts the dividers of the running members. -/
  | clockRestart (r : Req) (mask : BitVec 64)
  /-- `QUAY_COMMIT` (R294): QUAY_COMMIT checks the staged crane objects. -/
  | quayCommit (r : Req) (q : Fin 4)
  /-- `QUAY_FLAGS_WRITE` (R274): A write sets and clears the quay flags. -/
  | quayFlagsWrite (r : Req) (q : Fin 4) (v : BitVec 16)
  /-- `QUAY_IRQ_CLEAR` (R274): Writing 1 clears a pending quay interrupt line. -/
  | quayIrqClear (r : Req) (q : Fin 4) (v : BitVec 8)
  /-- `TALLY_LOAD` (R299): A Tally load record is checked and written whole, or refused. -/
  | tallyLoad (r : Req) (v : List Byte)
  /-- `TALLY_READ_DATA_READ` (R301): A read returns 64 Tally words, writing back corrected errors. -/
  | tallyReadDataRead (r : Req)
  /-- `STAGE_LOAD` (R302): A record is written into the staging window. -/
  | stageLoad (r : Req) (v : List Byte)
  /-- `SWAP_ARM` (R304): SWAP_CMD 1 checks and arms a tide swap. -/
  | swapArm (r : Req)
  /-- `SWAP_CANCEL` (R307): SWAP_CMD 2 cancels an armed swap. -/
  | swapCancel (r : Req)
  /-- `SWAP_COPY_COMPLETE` (R306): The swap copy ends, and SWAP_CMD reads DONE. -/
  | swapCopyComplete
  /-- `SCRUB_READ` (R311): The scrubber reads one word every 512 ns and writes back corrected errors; with the data bits found inverted besides those the state holds. -/
  | scrubRead (upset : BitVec 24)
  /-- `FIFO_PARITY_ERROR` (R335): A parity error in marks or pointers empties the FIFO; FIFO f: 0 to 63 crane receive, 64 to 127 crane transmit, 128 to 135 CAN receive, 136 to 143 CAN gateway, 144 to 147 coarse logs, 148 to 179 fine capture. -/
  | fifoParityError (f : Fin 180)
  /-- `FIFO_FLUSH` (R336): FIFO_FLUSH empties the receive FIFO, the transmit FIFO or both. -/
  | fifoFlush (r : Req) (g : Fin 64) (v : BitVec 8)
  /-- `NOTICE_PEND_CLEAR` (R331): Writing 1 clears a pending FIFO notice. -/
  | noticePendClear (r : Req) (g : Fin 64) (v : BitVec 8)
  /-- `CHECK_FEED` (R339): A feed gives 1 to 8 bytes to a check unit's running CRC; a feed of 2^width bytes. -/
  | checkFeed (u : Fin 4) (width : Fin 4) (data : W64) (poisoned : Bool) (busy : Bool)
  /-- `CHECK_ACCESS_WAIT_END` (R340): A waiting access to a busy check unit is served. -/
  | checkAccessWaitEnd (u : Fin 4)
  /-- `CHECK_RESULT_WRITE` (R342): A write to RESULT sets the running CRC and clears PARITY. -/
  | checkResultWrite (u : Fin 4) (v : W64)
  /-- `CHECK_UNIT_INIT` (R343): CONTROL INIT initialises the unit. -/
  | checkUnitInit (u : Fin 4)
  /-- `CHECK_POLY_CHANGE` (R343): A change of POLY selects a polynomial and initialises the unit. -/
  | checkPolyChange (u : Fin 4) (poly : Fin 5)
  /-- `CHECK_PARITY_ERROR` (R344): A parity error in the running CRC sets PARITY and raises a record. -/
  | checkParityError (u : Fin 4)
  /-- `CAN_FRAME_RECEIVE` (R362): At the end of a frame received without error, the filters decide its storing and gatewaying; the frame, and the stamp word of its start-of-frame edge (R357). -/
  | canFrameReceive (k : Fin 8) (f : CanFrame) (sof : W64)
  /-- `CAN_RX_ERROR` (R351): A receive error sends an error frame and updates the counters; with kind + 1 and the bit position as `LAST_ERR` codes them, and whether ISO 11898-1 adds 8 rather than 1. -/
  | canRxError (k : Fin 8) (kind : Fin 5) (pos : BitVec 8) (heavy : Bool)
  /-- `CAN_TX_CHOOSE` (R367): When the bus becomes idle, the controller chooses the candidate that would win arbitration. -/
  | canTxChoose (k : Fin 8)
  /-- `CAN_ARB_LOST` (R368): Lost arbitration is counted, and the candidate stays pending. -/
  | canArbLost (k : Fin 8)
  /-- `CAN_TX_COMPLETE` (R359): A frame sent without error takes STATUS DONE; with the transmitter delay measured in the frame and the stamp word of its start-of-frame edge. -/
  | canTxComplete (k : Fin 8) (tdc : BitVec 8) (sof : W64)
  /-- `CAN_TX_ERROR` (R368): An attempt ending in error counts towards the retry limit; as CAN_RX_ERROR, with whether the arbitration field had ended and whether ISO 11898-1 adds 8. -/
  | canTxError (k : Fin 8) (kind : Fin 5) (pos : BitVec 8) (past counts : Bool)
  /-- `CAN_RECOVER` (R373): CAN_CMD RECOVER starts the bus-off recovery count. -/
  | canRecover (r : Req) (k : Fin 8)
  /-- `CAN_RECOVERY_COMPLETE` (R373): 128 recessive sequences make the controller error active, and the held messages return to pending. -/
  | canRecoveryComplete (k : Fin 8)
  /-- `CAN_BUFFER_TRANSMIT` (R359): A control word CMD 1 requests transmission of a buffer; a write of CMD 1 with RETRY. -/
  | canBufferTransmit (k : Fin 8) (b : Fin 65) (retry : BitVec 4)
  /-- `CAN_BUFFER_ABORT` (R369): CMD 2 aborts a transmission under its point of no return; a write of CMD 2. -/
  | canBufferAbort (k : Fin 8) (b : Fin 65)
  /-- `CAN_BUFFER_RELEASE` (R359): CMD 3 releases a buffer to EMPTY. -/
  | canBufferRelease (k : Fin 8) (b : Fin 65)
  /-- `CAN_GW_QUEUE_EMPTY` (R369): CAN_CMD 2 empties the gateway queue. -/
  | canGwQueueEmpty (r : Req) (k : Fin 8)
  /-- `CAN_RX_QUEUE_EMPTY` (R376): CAN_CMD 3 empties the receive queue. -/
  | canRxQueueEmpty (r : Req) (k : Fin 8)
  /-- `CAN_COMMIT` (R374): CAN_COMMIT checks the staged controller configuration. -/
  | canCommit (r : Req) (k : Fin 8)
  /-- `CAN_CONFIG_APPLY` (R375): The committed settings apply after the frame in progress ends. -/
  | canConfigApply (k : Fin 8)
  /-- `CAN_IRQ_CLEAR` (R377): Writing 1 clears CAN_IRQ bits. -/
  | canIrqClear (r : Req) (k : Fin 8) (v : BitVec 16)
  /-- `CAN_BUS_JOIN` (R356): After 11 recessive bits, the controller joins the bus. -/
  | canBusJoin (k : Fin 8)
  /-- `TIME_WORDS_RECEIVE` (R390): Time words are checked for usability, and the upstream port is chosen; with words 0 to 3, 4 to 6 and 7. -/
  | timeWordsReceive (port : Fin 2) (fields rest : List Cargo) (check : Cargo)
  /-- `ECHO_WORDS_RECEIVE` (R387): Echo words give a round-trip sample and update LINK_RT; with words 0 to 2, 3, 4 to 6 and 7. -/
  | echoWordsReceive (port : Fin 2) (fields : List Cargo) (walk : Cargo) (rest : List Cargo) (check : Cargo)
  /-- `PPS_EDGE` (R383): A PPS_IN edge is captured and accepted or rejected; with its capture time less the boundary, in 125 ps. -/
  | ppsEdge (off : BitVec 32)
  /-- `PPS_MISS_TIMEOUT` (R383): No accepted edge for 1.001 s puts the master into holdover. -/
  | ppsMissTimeout
  /-- `TIME_SET_WRITE` (R382): TIME_SET sets the mastered domain's time. -/
  | timeSetWrite (r : Req) (v : BitVec 80)
  /-- `DOMAIN_SWITCH_WRITE` (R394): A write to DOMAIN_SWITCH arms a switch, or is refused. -/
  | domainSwitchWrite (r : Req) (v : BitVec 64)
  /-- `PIN_EDGE` (R399): A pin level change records its coarse capture; field pins 0 to 255 and `CANn_RX` 256 to 263, with the quay edge in ns and the edge in 125 ps, both less the boundary. -/
  | pinEdge (pin : Fin 264) (level : Bool) (ns fine : BitVec 32)
  /-- `PULSE_ARM` (R403): CONTROL ARM checks and arms a pulse generator; a write of CONTROL with ARM set, with its time in ns after the boundary. -/
  | pulseArm (r : Req) (n : Fin 16) (v : W64) (ns : BitVec 32)
  /-- `PULSE_STOP` (R403): CONTROL STOP ends the generator after the pulse in progress; a write of CONTROL with STOP set. -/
  | pulseStop (r : Req) (n : Fin 16) (v : W64)
  /-- `PULSE_EDGE` (R403): A generator reaches a pulse edge time and drives its target. -/
  | pulseEdge (n : Fin 16)
  /-- `PULSE_TARGET_RELEASE` (R404): Writing another TARGET while the generator is idle releases the held pin. -/
  | pulseTargetRelease (r : Req) (n : Fin 16) (target : BitVec 9)
  /-- `HEARTBEAT_RECEIVE` (R417): A received heartbeat is recorded as seen, with its drive map. -/
  | heartbeatReceive (f : Frame)
  /-- `HEALTH_REPORT_RECEIVE` (R419): The twin's health report is kept for the ready guard. -/
  | healthReportReceive (f : Frame)
  /-- `TWIN_FRAME_DROP` (R415): A twin frame with a bad trailer or a reserved TKIND is dropped. -/
  | twinFrameDrop (f : Frame)
  /-- `SELFTEST_CYCLE_END` (R421): A 1,024-tick self-test cycle ends, and SELFTEST_OK is set. -/
  | selftestCycleEnd
  /-- `GIVE_UP` (R424): An enabled criterion with the twin ready makes the owner give up ownership. -/
  | giveUp
  /-- `HANDOVER` (R425): HANDOVER 1 hands ownership to a ready twin. -/
  | handover (r : Req)
  /-- `HANDOVER_ABORT` (R425): HANDOVER 2 aborts before TWIN_OWN_N is released. -/
  | handoverAbort (r : Req)
  /-- `STATE_SAVE` (R428): STATE_SAVE is a configuration commit of the saved state. -/
  | stateSave (r : Req)
  /-- `SAVED_STATE_WRITE_COMPLETE` (R428): The slot write is verified. -/
  | savedStateWriteComplete (verified : Bool)
  /-- `STATE_COPY_RECEIVE` (R431): The twin checks a received copy, writes it and acknowledges; with whether the slot it completes is written and verified. -/
  | stateCopyReceive (f : Frame) (verified : Bool)
  /-- `COPY_ACK_RECEIVE` (R431): A copy acknowledgement is counted, or schedules a retry. -/
  | copyAckReceive (f : Frame)
  /-- `COPY_RETRY_TIMER` (R431): After 1 s a failed copy is resent, at most three times. -/
  | copyRetryTimer
  /-- `TAKEOVER_START` (R434): TWIN_OWN_N high for 4 us starts the quay clocks and input buffers. -/
  | takeoverStart
  /-- `PICKUP_SAMPLE` (R435): Mapped pins are sampled every 2 us until two samples agree; with the levels of the field lines. -/
  | pickupSample (levels : BitVec 256)
  /-- `OWNERSHIP_CLAIM` (R434): With the line still high, the incoming chip claims TWIN_OWN_N and enters Working; with the line found low or still high at step 6. -/
  | ownershipClaim (lineLow : Bool)
  /-- `KEEPER_RELEASE` (R433): Seeing the line low for 1 us, the keepers release the pins. -/
  | keeperRelease
  /-- `CLAIM_WAIT_EXPIRY` (R441): With no claim, the releasing chip takes ownership back. -/
  | claimWaitExpiry
  /-- `FAULT_EVENT` (R474): A fault event makes a record, or advances REPEAT. -/
  | faultEvent (e : Event)
  /-- `RECORD_STORE_PARITY` (R476): A parity error in a record place empties it and records source 0x3F. -/
  | recordStoreParity (place : Fin 64)
  /-- `FAULT_LIST_READ` (R480): A read latches all open records and clears UPDATED. -/
  | faultListRead (r : Req)
  /-- `FAULT_CLEAR_ONE` (R481): OP 0x01 clears one record when its REPEAT matches. -/
  | faultClearOne (r : Req) (seq : BitVec 16) (reps : BitVec 8)
  /-- `FAULT_CLEAR_CORRECTED` (R481): OP 0x02 clears the corrected records not updated since they were read. -/
  | faultClearCorrected (r : Req)
  /-- `FAULT_CLEAR_CONTAINED` (R481): OP 0x03 clears the corrected and contained records not updated since they were read. -/
  | faultClearContained (r : Req)
  /-- `FAULT_INJECT_RECORD` (R487): Method 0b01 makes an injected fault record. -/
  | faultInjectRecord (r : Req) (src inst : BitVec 8) (arg : BitVec 32)
  /-- `FAULT_INJECT_SINGLE_BIT` (R487): Method 0b10 inverts one stored data bit. -/
  | faultInjectSingleBit (r : Req) (src inst : BitVec 8) (bit : BitVec 7) (arg : BitVec 32)
  /-- `FAULT_INJECT_DOUBLE_BIT` (R487): Method 0b11 inverts two stored data bits. -/
  | faultInjectDoubleBit (r : Req) (src inst : BitVec 8) (bit : BitVec 7) (arg : BitVec 32)
  /-- `GW_SAMPLE` (R493): Every 1 us the Gangway samples its inputs and takes its decisions; the ball GW_VIN in uV, V_OUT and V_GS in mV, V_SNS in uV. -/
  | gwSample (vin vout vgs vsns : BitVec 32)
  /-- `GW_EN_HIGH` (R495): GW_EN high for 10 us moves DISABLED to QUALIFY. -/
  | gwEnHigh
  /-- `GW_EN_LOW_DROP` (R503): GW_EN low for 10 us drops the gate. -/
  | gwEnLowDrop
  /-- `GW_INSERT_DELAY_END` (R496): The insertion or restart delay has passed in the start window. -/
  | gwInsertDelayEnd
  /-- `GW_FAST_TRIP` (R497): V_SNS reaching twice GW_VCL trips within 500 ns; with V_SNS in uV. -/
  | gwFastTrip (vsns : BitVec 32)
  /-- `GW_RAMP_TIMEOUT` (R497): RAMP not done within GW_RAMP_MAX trips with cause 0x7. -/
  | gwRampTimeout
  /-- `GW_FAULT_TIMER_EXPIRY` (R498): The fault timer reaching GW_FAULT_TIME trips the branch. -/
  | gwFaultTimerExpiry
  /-- `GW_DIODE_READING` (R499): A thermal diode reading replaces the slow model term; with the reading in 0.1 degree, signed. -/
  | gwDiodeReading (t : BitVec 16)
  /-- `GW_COOLDOWN_END` (R500): The cooldown ends and LATCHED may end. -/
  | gwCooldownEnd
  /-- `GW_POWER_GOOD` (R501): 1,000 clean SETTLE samples enter GOOD and raise GW_PG. -/
  | gwPowerGood
  /-- `GW_UNDERVOLTAGE_DROP` (R503): V_IN below the run window on 100 samples drops the gate. -/
  | gwUndervoltageDrop
  /-- `GW_OVERVOLTAGE_DROP` (R503): V_IN above the run window on 2 samples drops the gate. -/
  | gwOvervoltageDrop
  /-- `GW_PEAK_T_READ` (R508): A read of GW_PEAK_T resets it to the present value. -/
  | gwPeakTRead (r : Req)
  /-- `SEG_READ` (R517): A segmented upload copies the value and returns bytes. -/
  | segRead (r : Req) (idx : BitVec 16) (sub : BitVec 8) (offset : BitVec 32) (count : BitVec 8)
  /-- `SEG_WRITE` (R516): A segmented download appends bytes and writes at TOTAL. -/
  | segWrite (r : Req) (idx : BitVec 16) (sub : BitVec 8) (total offset : BitVec 32) (v : List Byte)
  /-- `SEG_ABORT` (R515): SEG_ABORT closes the requester's transfer context. -/
  | segAbort (r : Req) (idx : BitVec 16) (sub : BitVec 8)
  /-- `OBJ_INFO` (R513): OBJ_INFO returns an object's descriptor. -/
  | objInfo (r : Req) (idx : BitVec 16) (sub : BitVec 8)
  /-- `SEG_TIMEOUT_EXPIRY` (R515): An idle context closes after SEG_TIMEOUT. -/
  | segTimeoutExpiry (r : Req) (idx : BitVec 16) (sub : BitVec 8)
  /-- `GANGPLANK_DATAGRAM` (R520): A UDP datagram is checked, its role judged and its request sent on. -/
  | gangplankDatagram (d : Datagram)
  /-- `ARP_REQUEST` (R520): An ARP request for the node's address is answered. -/
  | arpRequest (target : BitVec 32)
  /-- `LOCK_OPEN` (R528): OWNER_LOCK OP 0x01 opens the lock with the right key. -/
  | lockOpen (r : Req) (key : BitVec 32)
  /-- `LOCK_CLOSE` (R528): OWNER_LOCK OP 0x02 closes the lock. -/
  | lockClose (r : Req)
  /-- `LOCK_TIMEOUT_EXPIRY` (R529): The lock closes after LOCK_TIMEOUT without a holder write. -/
  | lockTimeoutExpiry
  /-- `LOCK_LOCKOUT_END` (R529): The 60 s lockout after 8 wrong keys ends. -/
  | lockLockoutEnd
  /-- `UPD_OPEN` (R543): UPD_CMD 1 opens a session and erases the inactive slot. -/
  | updOpen (r : Req)
  /-- `UPD_OPEN_RESUME` (R543): UPD_CMD 2 opens a session keeping the data received. -/
  | updOpenResume (r : Req)
  /-- `UPD_ERASE_COMPLETE` (R543): The erase of the inactive slot ends. -/
  | updEraseComplete
  /-- `UPD_CHUNK_WRITE` (R545): An image record is programmed in order, or refused. -/
  | updChunkWrite (r : Req) (v : List Byte)
  /-- `UPD_VERIFY` (R548): UPD_CMD 3 starts the image check. -/
  | updVerify (r : Req)
  /-- `UPD_VERIFY_COMPLETE` (R548): The check ends verified, or with a code. -/
  | updVerifyComplete
  /-- `UPD_ACTIVATE` (R549): UPD_CMD 4 writes the trial boot record or the configuration commit. -/
  | updActivate (r : Req)
  /-- `ACTIVATE_RECORD_VERIFIED` (R549): The boot record is verified and the management pause begins. -/
  | activateRecordVerified
  /-- `ACTIVATE_LOAD_COMPLETE` (R549): The new firmware runs, the pause ends and the trial starts. -/
  | activateLoadComplete
  /-- `UPD_CONFIRM` (R552): UPD_CMD 5 confirms the trial and ends the session. -/
  | updConfirm (r : Req)
  /-- `UPD_CLOSE` (R544): UPD_CMD 6 ends the session with cause 0x00. -/
  | updClose (r : Req)
  /-- `UPD_ABORT` (R551): UPD_CMD 7 aborts an activation before its point of no return. -/
  | updAbort (r : Req)
  /-- `UPD_TRIAL_EXPIRY` (R552): No confirmation within 60 s reverts the image. -/
  | updTrialExpiry
  /-- `RELAY_OPEN` (R547): A relay OPEN opens the lock and a session. -/
  | relayOpen
  /-- `RELAY_BLOCK` (R547): A relay BLOCK delivers image bytes. -/
  | relayBlock
  /-- `RELAY_VERIFY` (R547): A relay VERIFY acts as UPD_CMD 3. -/
  | relayVerify
  /-- `RELAY_ACTIVATE` (R547): A relay ACTIVATE acts as UPD_CMD 4. -/
  | relayActivate
  /-- `RELAY_CONFIRM` (R547): A relay CONFIRM acts as UPD_CMD 5. -/
  | relayConfirm
  /-- `RELAY_CLOSE` (R547): A relay CLOSE acts as UPD_CMD 6. -/
  | relayClose
  /-- `RELAY_FRAME_DROP` (R547): A relay frame with a reserved RKIND or failing its header check is dropped. -/
  | relayFrameDrop
  /-- `VAON_INVALID` (R562): VAON falls below 2.70 V and stops counting as valid, so the whole chip, D0 included, loses power, along with its keepers, latch, cooldown and TWIN_OWN_N claim. -/
  | vaonInvalid
  /-- `DIE_TEMP_UPDATE` (R583): Every 1 ms from the release of D4, DIE_TEMP is updated from the junction sensor, and DIE_TEMP_MAX is raised when the new value is higher. -/
  | dieTempUpdate (t : BitVec 16)
  deriving DecidableEq, Repr

end Sys2Proof
end

