-- ==== Sys2Proof/WellFormed.lean ====
section
/-! DEFINITION. Well-formedness of a command: what its operands must satisfy beyond their types. Each meaning is total and holds for ill-formed
operands too; a well-formed command is one that the surroundings of the block can really bring about. -/

namespace Sys2Proof

/-- A value of an object is no longer than a DOMAIN can be (R511). -/
def bytesOk (v : List Byte) : Bool := decide (v.length ≤ 65536)

/-- A frame on a CAN bus (R350): a base identifier has 11 bits, a remote frame carries no data, a classical frame at most 8 bytes, a CAN FD frame
at most 64. -/
def CanFrame.wellFormed (f : CanFrame) : Bool :=
  (f.ext || decide (f.id.toNat < 2 ^ 11)) && (!f.rtr || (f.data.isEmpty && !f.fdf)) && decide (f.data.length ≤ if f.fdf then 64 else 8)

/-- A frame between the chips of a pair: at most 32 payload words (R10, R415). -/
def Frame.wellFormed (f : Frame) : Bool := decide (f.pay.length ≤ 32)

/-- Lanes of a port: 5 on a ring port, 1 on the mooring link (R77, R119). -/
def lanesOf (port : Fin 3) : Nat := if port.val = 2 then 1 else 5

/-- A command is well formed. -/
def Instr.wellFormed : Instr → Bool
  | .tickBoundary env => decide (env.elastic.length = 3) && decide (env.bringup.length = 3)
  | .tickMarkerReceive p m => decide (m.ticks.length = lanesOf p)
  | .objectWrite _ _ _ v => bytesOk v
  | .tallyLoad _ v => bytesOk v
  | .stageLoad _ v => bytesOk v
  | .updChunkWrite _ v => bytesOk v
  | .segWrite _ _ _ _ _ v => decide (v.length ≤ 255)
  | .detectProbe p l _ => decide (l.length = lanesOf p)
  | .bitLockCheckComplete p l => decide (l.length = lanesOf p)
  | .eyeMapComplete _ _ l => decide (l.length = 2013)
  | .trainingMarkReceive _ _ f => decide (f.trains.length ≤ 63)
  | .axisScanComplete _ _ _ a b c d => decide (a.length = 16) && decide (b.length = 16) && decide (c.length = 30) && decide (d.length = 30)
  | .ringFrameReceive _ f => decide (1 ≤ f.words.length)
  | .postedWriteIssue _ ws _ => decide (1 ≤ ws.length)
  | .requestIssue _ _ _ _ ws => decide (ws.length ≤ 30)
  | .shiftEnd _ n _ l => decide (l.length = n.toNat)
  | .canFrameReceive _ f _ => f.wellFormed
  | .timeWordsReceive _ a b _ => decide (a.length = 4) && decide (b.length = 3)
  | .echoWordsReceive _ a _ b _ => decide (a.length = 3) && decide (b.length = 3)
  | .heartbeatReceive f => f.wellFormed
  | .healthReportReceive f => f.wellFormed
  | .twinFrameDrop f => f.wellFormed
  | .stateCopyReceive f _ => f.wellFormed
  | .copyAckReceive f => f.wellFormed
  | .gangplankDatagram d => decide (d.bytes.length ≤ 65507)
  | _ => true

end Sys2Proof
end

