-- ==== Sys2Proof/Decode.lean ====
section
/-! DEFINITION. The command that a word of the opcode table spells. The table gives none of its rows bits: the commands of this block
are accesses, events and ticks, not words. -/

namespace Sys2Proof

/-- The command that nbits bits w spell: none, since no row of the table gives bits. -/
def decodeTableWord (_nbits _w : Nat) : Option Instr := none

end Sys2Proof
end

