-- ==== Sys2Proof/Config.lean ====
section
/-! DEFINITION. What the manual leaves per part, per image or open: opaque constants, of which nothing is known (log entries 3 to 7). -/

namespace Sys2Proof.Config

/-- Free value number n: where the spec fixes an effect but not a value, the step applies this to
`State.freeCount` and advances the counter (log entry 3). -/
opaque freeValue : Nat → BitVec 64

/-- `SILICON_REV`, eFuse (R536). -/
opaque siliconRev : BitVec 8
/-- `SERIAL_NUMBER`, eFuse (R536). -/
opaque serialNumber : BitVec 64
/-- `FW_GEN` of the image in slot i (R536, R541). -/
opaque fwGen : Nat → BitVec 16
/-- `FW_VERSION` text of the image in slot i (R536). -/
opaque fwVersion : Nat → List Byte
/-- `GP_MAC`, eFuse (R538). -/
opaque gpMac : BitVec 48
/-- `TX_LAT` of ring port p, eFuse trim, ps (R389, R411). -/
opaque txLat : Nat → BitVec 16
/-- `RX_LAT` of ring port p, eFuse trim, ps (R389, R411). -/
opaque rxLat : Nat → BitVec 16
/-- Whether eFuse key i is blank (R541, R587). -/
opaque keyBlank : Nat → Bool
/-- Whether the Ed25519 signature of an image (its bytes) verifies with key i (R541, R548 code 0x05):
the keys are per part, so the answer is open. -/
opaque signatureOk : Nat → List Byte → Bool
/-- Byte a of the harbourmaster core's data SRAM before anything has written it (R204 kind 16): the spec
gives no contents. -/
opaque sramByte : Nat → Byte

/-- What a field pin whose input buffer is off, or whose pads are isolated, reads as to a crane in a tick: the spec gives no level
(log entry 94). -/
opaque deafPin : Nat → Nat → Bool

end Sys2Proof.Config
end

