-- ==== Sys2Proof/Machine/Bits.lean ====
section
/-! DEFINITION. Bit fields, byte order (R2), two's complement and lists of flags. -/

namespace Sys2Proof.Machine

/-- Bits [lo + len - 1 : lo] of a number (R2). -/
def fld (v lo len : Nat) : Nat := v / 2 ^ lo % 2 ^ len

/-- Bit i of a number. -/
def bit (v i : Nat) : Bool := v.testBit i

/-- Bits [lo + len - 1 : lo] of a 64-bit word. -/
def wfld (w : W64) (lo len : Nat) : Nat := fld w.toNat lo len

/-- A 64-bit word of a number. -/
def w64 (n : Nat) : W64 := BitVec.ofNat 64 n

/-- 1 for true. -/
def b2n (b : Bool) : Nat := if b then 1 else 0

/-- A number with bit i set to b. -/
def setBit (v i : Nat) (b : Bool) : Nat :=
  if v.testBit i then (if b then v else v - 2 ^ i) else (if b then v + 2 ^ i else v)

/-- The bits of a that are not set in m. -/
def clearBits (a m : Nat) : Nat := a ^^^ (a &&& m)

/-- Every bit below n. -/
def lowBits (n : Nat) : Nat := 2 ^ n - 1

/-- The number of set bits below n. -/
def popCount : Nat → Nat → Nat
  | 0, _ => 0
  | n + 1, v => b2n (v.testBit n) + popCount n v

/-- The positions below n of the set bits, ascending. -/
def bitsOf (n v : Nat) : List Nat := (List.range n).filter (fun i => v.testBit i)

/-- The number whose set bits are the listed positions. -/
def maskOf (l : List Nat) : Nat := l.foldl (fun m i => setBit m i true) 0

/-- A byte of a number. -/
def byte (n : Nat) : Byte := BitVec.ofNat 8 n

/-- The n low bytes of a number, byte 0 first (R2). -/
def bytesOf : Nat → Nat → List Byte
  | 0, _ => []
  | n + 1, v => byte v :: bytesOf n (v / 256)

/-- The number that bytes hold, byte 0 first (R2). -/
def ofBytes : List Byte → Nat
  | [] => 0
  | b :: t => b.toNat + 256 * ofBytes t

/-- len bytes of a list from position lo. -/
def slice (bs : List Byte) (lo len : Nat) : List Byte := (bs.drop lo).take len

/-- The number in the n bytes at position lo. -/
def num (bs : List Byte) (lo n : Nat) : Nat := ofBytes (slice bs lo n)

/-- The signed number that the low w bits hold in two's complement. -/
def toSigned (w v : Nat) : Int :=
  let u := v % 2 ^ w
  if u < 2 ^ (w - 1) then (u : Int) else (u : Int) - (2 ^ w : Nat)

/-- The w bits of a signed number in two's complement. -/
def ofSigned (w : Nat) (i : Int) : Nat := (i % ((2 ^ w : Nat) : Int)).toNat

/-- The n words that bytes give, byte 0 of each word first; bytes past the end are 0. -/
def wordsOf (n : Nat) (bs : List Byte) : List W64 :=
  (List.range n).map (fun i => w64 (num bs (8 * i) 8))

/-- The bytes of words, byte 0 of each word first. -/
def bytesOfWords (ws : List W64) : List Byte := ws.flatMap (fun w => bytesOf 8 w.toNat)

/-- The number of words of 8 bytes that hold n bytes. -/
def wordCount (n : Nat) : Nat := (n + 7) / 8

/-- Bytes padded with zeros to a multiple of 8 (R427). -/
def pad8 (bs : List Byte) : List Byte := bs ++ List.replicate (8 * wordCount bs.length - bs.length) 0

/-- A list with its place i changed by f. -/
def modifyAt {α : Type} (l : List α) (i : Nat) (f : α → α) : List α :=
  match l, i with
  | [], _ => []
  | a :: t, 0 => f a :: t
  | a :: t, i + 1 => a :: modifyAt t i f

/-- A list without the elements that p picks. -/
def dropWhere {α : Type} (l : List α) (p : α → Bool) : List α := l.filter (fun a => !p a)

/-- The absolute difference of two numbers. -/
def absDiff (a b : Nat) : Nat := if a < b then b - a else a - b

/-- A number kept at or below a limit. -/
def capAt (lim n : Nat) : Nat := if lim < n then lim else n

/-- An integer kept between two limits. -/
def clampInt (lo hi i : Int) : Int := if i < lo then lo else if hi < i then hi else i

/-- The integer nearest to n / d for a positive d, halves away from zero. -/
def roundDiv (n : Int) (d : Nat) : Int :=
  if 0 ≤ n then (2 * n + d) / (2 * d) else - ((2 * (-n) + d) / (2 * d))

end Sys2Proof.Machine
end

