-- ==== Sys2Proof/Machine/Crc.lean ====
section
/-! DEFINITION. The CRCs of R337, computed over a sequence of bytes under R338. -/

namespace Sys2Proof.Machine

/-- The parameters of a polynomial of R337; for a reflected code, poly is the polynomial with its bits
in reverse order, and the shift register runs from its low end. -/
structure CrcPar where
  width : Nat
  poly : Nat
  init : Nat
  refl : Bool
  xorOut : Nat
  deriving DecidableEq, Repr

/-- The polynomials of R337 by code; a reserved code has none. -/
def crcPar : Nat → Option CrcPar
  | 0 => some ⟨8, 0x1D, 0xFF, false, 0xFF⟩
  | 1 => some ⟨16, 0x1021, 0xFFFF, false, 0⟩
  | 2 => some ⟨32, 0xEDB88320, 0xFFFFFFFF, true, 0xFFFFFFFF⟩
  | 3 => some ⟨32, 0x82F63B78, 0xFFFFFFFF, true, 0xFFFFFFFF⟩
  | 4 => some ⟨64, 0x42F0E1EBA9EA3693, 0, false, 0⟩
  | _ => none

/-- The shift register after one bit. -/
def crcBit (p : CrcPar) (reg : Nat) (b : Bool) : Nat :=
  if p.refl then
    (if (reg.testBit 0) != b then (reg / 2) ^^^ p.poly else reg / 2)
  else
    (if (reg.testBit (p.width - 1)) != b then (reg * 2 % 2 ^ p.width) ^^^ p.poly else reg * 2 % 2 ^ p.width)

/-- The shift register after one byte: from bit 7 when not reflected, from bit 0 when reflected (R338). -/
def crcByte (p : CrcPar) (reg : Nat) (b : Byte) : Nat :=
  let order := if p.refl then [0, 1, 2, 3, 4, 5, 6, 7] else [7, 6, 5, 4, 3, 2, 1, 0]
  order.foldl (fun r i => crcBit p r (b.toNat.testBit i)) reg

/-- The shift register after a sequence of bytes. -/
def crcFeed (p : CrcPar) (reg : Nat) (bs : List Byte) : Nat := bs.foldl (crcByte p) reg

/-- The result that a shift register shows. -/
def crcOut (p : CrcPar) (reg : Nat) : Nat := reg ^^^ p.xorOut

/-- The CRC-8 of code 0. -/
def crc8 (bs : List Byte) : Nat :=
  let p : CrcPar := ⟨8, 0x1D, 0xFF, false, 0xFF⟩
  crcOut p (crcFeed p p.init bs)

/-- The CRC-32C of code 3. -/
def crc32c (bs : List Byte) : Nat :=
  let p : CrcPar := ⟨32, 0x82F63B78, 0xFFFFFFFF, true, 0xFFFFFFFF⟩
  crcOut p (crcFeed p p.init bs)

end Sys2Proof.Machine
end

