-- ==== Sys2Proof/Machine/Maps.lean ====
section
/-! DEFINITION. Sparse maps from numbers: lists of (key, value) pairs with keys strictly rising and no entry
equal to the default, which every unlisted key reads as. -/

namespace Sys2Proof.Machine

/-- The value at a key; an unlisted key reads as the default d. -/
def mapGet {α : Type} (d : α) : List (Nat × α) → Nat → α
  | [], _ => d
  | (k, v) :: t, i => if i = k then v else mapGet d t i

/-- The map with the value at a key changed; the canonical form is kept. -/
def mapSet {α : Type} [DecidableEq α] (d : α) : List (Nat × α) → Nat → α → List (Nat × α)
  | [], i, x => if x = d then [] else [(i, x)]
  | (k, v) :: t, i, x =>
    if i < k then (if x = d then (k, v) :: t else (i, x) :: (k, v) :: t)
    else if i = k then (if x = d then t else (i, x) :: t)
    else (k, v) :: mapSet d t i x

/-- Keys strictly rise, from a lower bound. -/
def keysFrom {α : Type} : Nat → List (Nat × α) → Bool
  | _, [] => true
  | lo, (k, _) :: t => decide (lo ≤ k) && keysFrom (k + 1) t

/-- The canonical form of a map with default d: keys strictly rising, no entry equal to the default. -/
def mapWf {α : Type} [DecidableEq α] (d : α) (m : List (Nat × α)) : Bool :=
  keysFrom 0 m && m.all (fun e => decide (e.2 ≠ d))

/-- Every value of a map changed by a function; an entry that becomes the default is not listed. -/
def mapValues {α : Type} [DecidableEq α] (d : α) (f : α → α) (m : List (Nat × α)) : List (Nat × α) :=
  m.filterMap (fun e => if f e.2 = d then none else some (e.1, f e.2))

/-- The map after each pair of a list is written in order. -/
def mapSetAll {α : Type} [DecidableEq α] (d : α) (m : List (Nat × α)) (l : List (Nat × α)) : List (Nat × α) :=
  l.foldl (fun m e => mapSet d m e.1 e.2) m

end Sys2Proof.Machine
end

