-- ==== Sys2Proof/Machine/Objects.lean ====
section
/-! DEFINITION. The object dictionary of the node: one definition for each object of the spec's object tables, and the table of them all (R16, R17, R19, R509 to R511). -/

namespace Sys2Proof.Machine

/-- Data types of R511 that objects of the dictionary have. -/
inductive OType where
  | bool | u8 | u16 | u32 | u64 | i16 | i32 | i64 | time80 | time96 | str | domain
  deriving DecidableEq, Repr

/-- Access rights of R17. -/
inductive Access where
  | ro | rw | wo | rwb | rwl | cmd
  deriving DecidableEq, Repr

/-- Effect times of R19. -/
inductive Effect where
  | immediate | tide | commit | none
  deriving DecidableEq, Repr

/-- What an object's Meaning column says of the values a write may give: any; from lo to hi; no bit outside
a mask; signed from lo to hi; or a check of its own (`specialOk`). -/
inductive Chk where
  | any
  | range (lo hi : Nat)
  | mask (m : Nat)
  | srange (lo hi : Int)
  | special
  deriving DecidableEq, Repr

/-- An object: index, subindex, type, right, effect time, default (of a DOMAIN: its length in bytes; every
byte is 0, those of `DPORT_ENABLE` 0xFF) and the values it takes (R16). -/
structure Obj where
  idx : Nat
  sub : Nat
  ty : OType
  acc : Access
  eff : Effect
  dflt : Nat
  chk : Chk
  deriving DecidableEq, Repr

/-- The key of an object in the object store. -/
def Obj.key (o : Obj) : Nat := o.idx * 256 + o.sub

/-- A row of the table: the first copy of an object, and the rule by which its copies are numbered:
n1 groups at a distance of stride, each of n2 objects at consecutive indexes. -/
structure ObjRow where
  obj : Obj
  n1 : Nat
  stride : Nat
  n2 : Nat
  deriving DecidableEq, Repr

/-- `TIDE_PLAN_STAGE` (R74). -/
def Obj.tidePlanStage : Obj := ⟨0x2800, 0x01, .domain, .rwl, .commit, 0, .any⟩
/-- `TIDE_PLAN_COMMIT` (R74). -/
def Obj.tidePlanCommit : Obj := ⟨0x2800, 0x02, .u8, .cmd, .immediate, 0, .any⟩
/-- `TIDE_PLAN_RESULT` (R74). -/
def Obj.tidePlanResult : Obj := ⟨0x2800, 0x03, .u32, .ro, .none, 0, .any⟩
/-- `TIDE_GEN_ACTIVE` (R74). -/
def Obj.tideGenActive : Obj := ⟨0x2800, 0x04, .u32, .ro, .none, 0, .any⟩
/-- `TIDE_GEN_ARMED` (R74). -/
def Obj.tideGenArmed : Obj := ⟨0x2800, 0x05, .u32, .ro, .none, 0, .any⟩
/-- `TIDE_ACT_TICK` (R74). -/
def Obj.tideActTick : Obj := ⟨0x2800, 0x06, .u64, .ro, .none, 0, .any⟩
/-- `TIDE_PLAN_ACTIVE` (R74). -/
def Obj.tidePlanActive : Obj := ⟨0x2800, 0x07, .domain, .ro, .none, 0, .any⟩
/-- `TICK_NUMBER` (R74). -/
def Obj.tickNumber : Obj := ⟨0x2801, 0x01, .u64, .ro, .none, 0, .any⟩
/-- `TICK_CODE` (R74). -/
def Obj.tickCode : Obj := ⟨0x2801, 0x02, .u8, .ro, .none, 1, .any⟩
/-- `RING_TRANSIT_MEAS` (R74). -/
def Obj.ringTransitMeas : Obj := ⟨0x2801, 0x03, .u32, .ro, .none, 0, .any⟩
/-- `TIDE_WRITE_QUEUE` (R74). -/
def Obj.tideWriteQueue : Obj := ⟨0x2801, 0x04, .u8, .ro, .none, 0, .any⟩
/-- `STALE_TIDE_CNT` (R74). -/
def Obj.staleTideCnt : Obj := ⟨0x2802, 0x01, .u32, .ro, .none, 0, .any⟩
/-- `SCHED_ABSORBED_CNT` (R74). -/
def Obj.schedAbsorbedCnt : Obj := ⟨0x2802, 0x02, .u32, .ro, .none, 0, .any⟩
/-- `SCHED_MISSING_CNT` (R74). -/
def Obj.schedMissingCnt : Obj := ⟨0x2802, 0x03, .u32, .ro, .none, 0, .any⟩
/-- `SCHED_LAST_MISSING` (R74). -/
def Obj.schedLastMissing : Obj := ⟨0x2802, 0x04, .u16, .ro, .none, 65535, .any⟩
/-- `SCHED_POISONED_CNT` (R74). -/
def Obj.schedPoisonedCnt : Obj := ⟨0x2802, 0x05, .u32, .ro, .none, 0, .any⟩
/-- `ASYNC_DEFER_CNT` (R74). -/
def Obj.asyncDeferCnt : Obj := ⟨0x2802, 0x06, .u32, .ro, .none, 0, .any⟩
/-- `GEN_MISMATCH_CNT` (R74). -/
def Obj.genMismatchCnt : Obj := ⟨0x2802, 0x07, .u32, .ro, .none, 0, .any⟩
/-- `SCHED_UNKNOWN_CNT` (R74). -/
def Obj.schedUnknownCnt : Obj := ⟨0x2802, 0x08, .u32, .ro, .none, 0, .any⟩
/-- `SCHED_DROP_CNT` (R74). -/
def Obj.schedDropCnt : Obj := ⟨0x2802, 0x09, .u32, .ro, .none, 0, .any⟩
/-- `RX_STATE`, port p (R120). -/
def Obj.rxState (p : Nat) : Obj := ⟨0x2000 + 256 * p, 0x01, .u8, .ro, .none, 0, .any⟩
/-- `TX_STATE`, port p (R120). -/
def Obj.txState (p : Nat) : Obj := ⟨0x2000 + 256 * p, 0x02, .u8, .ro, .none, 0, .any⟩
/-- `DIR_STATUS`, port p (R120). -/
def Obj.dirStatus (p : Nat) : Obj := ⟨0x2000 + 256 * p, 0x03, .u8, .ro, .none, 0, .any⟩
/-- `RX_SET`, port p (R120). -/
def Obj.rxSet (p : Nat) : Obj := ⟨0x2000 + 256 * p, 0x04, .u8, .ro, .none, 0, .any⟩
/-- `TX_SET`, port p (R120). -/
def Obj.txSet (p : Nat) : Obj := ⟨0x2000 + 256 * p, 0x05, .u8, .ro, .none, 0, .any⟩
/-- `ADMIN`, port p (R120). -/
def Obj.admin (p : Nat) : Obj := ⟨0x2000 + 256 * p, 0x06, .u8, .rwl, .immediate, 0, .range 0 1⟩
/-- `PRESET_INIT`, port p (R120). -/
def Obj.presetInit (p : Nat) : Obj := ⟨0x2000 + 256 * p, 0x07, .u8, .rwb, .immediate, 1, .range 0 7⟩
/-- `SPARE_EBB`, port p (R120). -/
def Obj.spareEbb (p : Nat) : Obj := ⟨0x2000 + 256 * p, 0x08, .bool, .rw, .tide, 0, .any⟩
/-- `BRINGUP_TO`, port p (R120). -/
def Obj.bringupTo (p : Nat) : Obj := ⟨0x2000 + 256 * p, 0x09, .u16, .rwb, .immediate, 500, .range 50 10000⟩
/-- `LANE_ERR_LIMIT`, port p (R120). -/
def Obj.laneErrLimit (p : Nat) : Obj := ⟨0x2000 + 256 * p, 0x0A, .u16, .rw, .tide, 16, .any⟩
/-- `RETURN_HOLD`, port p (R120). -/
def Obj.returnHold (p : Nat) : Obj := ⟨0x2000 + 256 * p, 0x0B, .u16, .rw, .tide, 16, .any⟩
/-- `LOOP_MODE`, port p (R120). -/
def Obj.loopMode (p : Nat) : Obj := ⟨0x2000 + 256 * p, 0x0C, .u8, .rwl, .immediate, 0, .range 0 3⟩
/-- `FAR_LOOP_ACCEPT`, port p (R120). -/
def Obj.farLoopAccept (p : Nat) : Obj := ⟨0x2000 + 256 * p, 0x0D, .bool, .rwl, .immediate, 0, .any⟩
/-- `PRBS_CTRL`, port p (R120). -/
def Obj.prbsCtrl (p : Nat) : Obj := ⟨0x2000 + 256 * p, 0x0E, .u8, .rwl, .immediate, 0, .mask 0x7⟩
/-- `RETRAIN`, port p (R120). -/
def Obj.retrain (p : Nat) : Obj := ⟨0x2000 + 256 * p, 0x0F, .u8, .cmd, .immediate, 0, .any⟩
/-- `HARBOUR_RESULT`, port p (R120). -/
def Obj.harbourResult (p : Nat) : Obj := ⟨0x2000 + 256 * p, 0x10, .u8, .ro, .none, 0, .any⟩
/-- `FAR_HARBOUR`, port p (R120). -/
def Obj.farHarbour (p : Nat) : Obj := ⟨0x2000 + 256 * p, 0x11, .u64, .ro, .none, 0, .any⟩
/-- `DOWN_CNT`, port p (R120). -/
def Obj.downCnt (p : Nat) : Obj := ⟨0x2000 + 256 * p, 0x12, .u32, .ro, .none, 0, .any⟩
/-- `RETRAIN_CNT`, port p (R120). -/
def Obj.retrainCnt (p : Nat) : Obj := ⟨0x2000 + 256 * p, 0x13, .u32, .ro, .none, 0, .any⟩
/-- `SPARE_SWITCH_CNT`, port p (R120). -/
def Obj.spareSwitchCnt (p : Nat) : Obj := ⟨0x2000 + 256 * p, 0x14, .u32, .ro, .none, 0, .any⟩
/-- `CONTROL_ERR_CNT`, port p (R120). -/
def Obj.controlErrCnt (p : Nat) : Obj := ⟨0x2000 + 256 * p, 0x15, .u32, .ro, .none, 0, .any⟩
/-- `BRINGUP_US`, port p (R120). -/
def Obj.bringupUs (p : Nat) : Obj := ⟨0x2000 + 256 * p, 0x16, .u32, .ro, .none, 0, .any⟩
/-- `ELASTIC_ADJ_CNT`, port p (R120). -/
def Obj.elasticAdjCnt (p : Nat) : Obj := ⟨0x2000 + 256 * p, 0x17, .u32, .ro, .none, 0, .any⟩
/-- `LANE_STATE`, port p, lane l (R121). -/
def Obj.laneState (p l : Nat) : Obj := ⟨0x2010 + 256 * p + l, 0x01, .u8, .ro, .none, 0, .any⟩
/-- `FAIL_CAUSE`, port p, lane l (R121). -/
def Obj.failCause (p l : Nat) : Obj := ⟨0x2010 + 256 * p + l, 0x02, .u8, .ro, .none, 0, .any⟩
/-- `SYNC_ERR_CNT`, port p, lane l (R121). -/
def Obj.syncErrCnt (p l : Nat) : Obj := ⟨0x2010 + 256 * p + l, 0x03, .u32, .ro, .none, 0, .any⟩
/-- `TX_TAPS`, port p, lane l (R121). -/
def Obj.txTaps (p l : Nat) : Obj := ⟨0x2010 + 256 * p + l, 0x04, .u32, .ro, .none, 1901312, .any⟩
/-- `RX_POLARITY`, port p, lane l (R121). -/
def Obj.rxPolarity (p l : Nat) : Obj := ⟨0x2010 + 256 * p + l, 0x05, .bool, .ro, .none, 0, .any⟩
/-- `PRBS_ERR`, port p, lane l (R121). -/
def Obj.prbsErr (p l : Nat) : Obj := ⟨0x2010 + 256 * p + l, 0x06, .u32, .ro, .none, 0, .any⟩
/-- `LANE_RETRAIN`, port p, lane l (R121). -/
def Obj.laneRetrain (p l : Nat) : Obj := ⟨0x2010 + 256 * p + l, 0x07, .u8, .cmd, .immediate, 0, .any⟩
/-- `CLK_STATE`, port p (R121). -/
def Obj.clkState (p : Nat) : Obj := ⟨0x2018 + 256 * p, 0x01, .u8, .ro, .none, 0, .any⟩
/-- `CLK_LOSS_CNT`, port p (R121). -/
def Obj.clkLossCnt (p : Nat) : Obj := ⟨0x2018 + 256 * p, 0x02, .u32, .ro, .none, 0, .any⟩
/-- `RING_MAP` (R122). -/
def Obj.ringMap : Obj := ⟨0x2300, 0x01, .domain, .ro, .none, 0, .any⟩
/-- `RING_NODES` (R122). -/
def Obj.ringNodes : Obj := ⟨0x2300, 0x02, .u8, .ro, .none, 0, .any⟩
/-- `RING_CLOSED` (R122). -/
def Obj.ringClosed : Obj := ⟨0x2300, 0x03, .bool, .ro, .none, 0, .any⟩
/-- `DOWN_DIRS` (R122). -/
def Obj.downDirs : Obj := ⟨0x2300, 0x04, .u8, .ro, .none, 0, .any⟩
/-- `SPAN_NOTICE_CNT` (R122). -/
def Obj.spanNoticeCnt : Obj := ⟨0x2300, 0x05, .u32, .ro, .none, 0, .any⟩
/-- `UNREACHABLE_CNT` (R122). -/
def Obj.unreachableCnt : Obj := ⟨0x2300, 0x06, .u32, .ro, .none, 0, .any⟩
/-- `SURVEY_SEQ` (R122). -/
def Obj.surveySeq : Obj := ⟨0x2300, 0x07, .u16, .ro, .none, 0, .any⟩
/-- `CAL_ENABLE`, port p (R155). -/
def Obj.calEnable (p : Nat) : Obj := ⟨0x2400 + 256 * p, 0x01, .u8, .rwl, .tide, 7, .mask 0x7⟩
/-- `CAL_INTERVAL`, port p (R155). -/
def Obj.calInterval (p : Nat) : Obj := ⟨0x2400 + 256 * p, 0x02, .u16, .rw, .tide, 1024, .range 64 65535⟩
/-- `CAL_INTERVAL_LOW`, port p (R155). -/
def Obj.calIntervalLow (p : Nat) : Obj := ⟨0x2400 + 256 * p, 0x03, .u16, .rw, .tide, 16, .range 16 65535⟩
/-- `CAL_GAIN_MIN`, port p (R155). -/
def Obj.calGainMin (p : Nat) : Obj := ⟨0x2400 + 256 * p, 0x04, .u8, .rw, .tide, 4, .any⟩
/-- `EYE_WARN_H`, port p (R155). -/
def Obj.eyeWarnH (p : Nat) : Obj := ⟨0x2400 + 256 * p, 0x05, .u8, .rw, .tide, 20, .any⟩
/-- `EYE_WARN_V`, port p (R155). -/
def Obj.eyeWarnV (p : Nat) : Obj := ⟨0x2400 + 256 * p, 0x06, .u8, .rw, .tide, 30, .any⟩
/-- `EYE_FAIL_H`, port p (R155). -/
def Obj.eyeFailH (p : Nat) : Obj := ⟨0x2400 + 256 * p, 0x07, .u8, .rw, .tide, 12, .any⟩
/-- `EYE_FAIL_V`, port p (R155). -/
def Obj.eyeFailV (p : Nat) : Obj := ⟨0x2400 + 256 * p, 0x08, .u8, .rw, .tide, 15, .any⟩
/-- `CAL_KEEP_CNT`, port p (R155). -/
def Obj.calKeepCnt (p : Nat) : Obj := ⟨0x2400 + 256 * p, 0x09, .u32, .ro, .none, 0, .any⟩
/-- `CAL_REVERT_CNT`, port p (R155). -/
def Obj.calRevertCnt (p : Nat) : Obj := ⟨0x2400 + 256 * p, 0x0A, .u32, .ro, .none, 0, .any⟩
/-- `CAL_ABANDON_CNT`, port p (R155). -/
def Obj.calAbandonCnt (p : Nat) : Obj := ⟨0x2400 + 256 * p, 0x0B, .u32, .ro, .none, 0, .any⟩
/-- `PSTEP_SUM`, port p (R155). -/
def Obj.pstepSum (p : Nat) : Obj := ⟨0x2400 + 256 * p, 0x0C, .i32, .ro, .none, 0, .any⟩
/-- `FAR_PSTEP_SUM`, port p (R155). -/
def Obj.farPstepSum (p : Nat) : Obj := ⟨0x2400 + 256 * p, 0x0D, .i32, .ro, .none, 0, .any⟩
/-- `ASYM_FIXED`, port p (R155). -/
def Obj.asymFixed (p : Nat) : Obj := ⟨0x2400 + 256 * p, 0x0E, .i32, .rwl, .tide, 0, .any⟩
/-- `ASYM_FIXED` of the West port: the F that the west neighbour publishes (R155). -/
def Obj.asymFixedWest : Obj := ⟨0x2500, 0x0E, .i32, .ro, .none, 0, .any⟩
/-- `Q_MEAN`, port p (R155). -/
def Obj.qMean (p : Nat) : Obj := ⟨0x2400 + 256 * p, 0x0F, .i32, .ro, .none, 0, .any⟩
/-- `Q_FAR_MEAN`, port p (R155). -/
def Obj.qFarMean (p : Nat) : Obj := ⟨0x2400 + 256 * p, 0x10, .i32, .ro, .none, 0, .any⟩
/-- `ASYM_SPAN`, port p (R155). -/
def Obj.asymSpan (p : Nat) : Obj := ⟨0x2400 + 256 * p, 0x11, .i32, .ro, .none, 0, .any⟩
/-- `ASYM_EST`, port p (R155). -/
def Obj.asymEst (p : Nat) : Obj := ⟨0x2400 + 256 * p, 0x12, .i32, .ro, .none, 0, .any⟩
/-- `ASYM_APPLIED`, port p (R155). -/
def Obj.asymApplied (p : Nat) : Obj := ⟨0x2400 + 256 * p, 0x13, .i32, .ro, .none, 0, .any⟩
/-- `ASYM_SAMPLES`, port p (R155). -/
def Obj.asymSamples (p : Nat) : Obj := ⟨0x2400 + 256 * p, 0x14, .u16, .ro, .none, 0, .any⟩
/-- `ASYM_STATE`, port p (R155). -/
def Obj.asymState (p : Nat) : Obj := ⟨0x2400 + 256 * p, 0x15, .u8, .ro, .none, 0, .any⟩
/-- `EYE_H`, port p, lane l (R156). -/
def Obj.eyeH (p l : Nat) : Obj := ⟨0x2408 + 256 * p + l, 0x01, .u8, .ro, .none, 0, .any⟩
/-- `EYE_V`, port p, lane l (R156). -/
def Obj.eyeV (p l : Nat) : Obj := ⟨0x2408 + 256 * p + l, 0x02, .u16, .ro, .none, 0, .any⟩
/-- `EYE_MAP`, port p, lane l (R156). -/
def Obj.eyeMap (p l : Nat) : Obj := ⟨0x2408 + 256 * p + l, 0x03, .domain, .ro, .none, 0, .any⟩
/-- `SAMPLER_POS`, port p, lane l (R156). -/
def Obj.samplerPos (p l : Nat) : Obj := ⟨0x2408 + 256 * p + l, 0x04, .i16, .ro, .none, 0, .any⟩
/-- `CTLE_CODE`, port p, lane l (R156). -/
def Obj.ctleCode (p l : Nat) : Obj := ⟨0x2408 + 256 * p + l, 0x05, .u8, .ro, .none, 0, .any⟩
/-- `DFE_TAPS`, port p, lane l (R156). -/
def Obj.dfeTaps (p l : Nat) : Obj := ⟨0x2408 + 256 * p + l, 0x06, .u64, .ro, .none, 0, .any⟩
/-- `TRIAL_STATE`, port p, lane l (R156). -/
def Obj.trialState (p l : Nat) : Obj := ⟨0x2408 + 256 * p + l, 0x07, .u8, .ro, .none, 0, .any⟩
/-- `TRIAL_NEXT`, port p, lane l (R156). -/
def Obj.trialNext (p l : Nat) : Obj := ⟨0x2408 + 256 * p + l, 0x08, .u8, .ro, .none, 1, .any⟩
/-- `MAP_CNT`, port p, lane l (R156). -/
def Obj.mapCnt (p l : Nat) : Obj := ⟨0x2408 + 256 * p + l, 0x09, .u32, .ro, .none, 0, .any⟩
/-- `LOW_MARGIN_CNT`, port p, lane l (R156). -/
def Obj.lowMarginCnt (p l : Nat) : Obj := ⟨0x2408 + 256 * p + l, 0x0A, .u32, .ro, .none, 0, .any⟩
/-- `PSTEP_CNT`, port p, lane l (R156). -/
def Obj.pstepCnt (p l : Nat) : Obj := ⟨0x2408 + 256 * p + l, 0x0B, .u32, .ro, .none, 0, .any⟩
/-- `ASYM_RING_M` (R157). -/
def Obj.asymRingM : Obj := ⟨0x2700, 0x01, .i32, .ro, .none, 0, .any⟩
/-- `ASYM_RING_RT` (R157). -/
def Obj.asymRingRt : Obj := ⟨0x2700, 0x02, .u32, .ro, .none, 0, .any⟩
/-- `ASYM_RING_F` (R157). -/
def Obj.asymRingF : Obj := ⟨0x2700, 0x03, .i32, .ro, .none, 0, .any⟩
/-- `ASYM_RESID` (R157). -/
def Obj.asymResid : Obj := ⟨0x2700, 0x04, .i32, .ro, .none, 0, .any⟩
/-- `ASYM_RESID_LIMIT` (R157). -/
def Obj.asymResidLimit : Obj := ⟨0x2700, 0x05, .u16, .rw, .tide, 2000, .any⟩
/-- `ASYM_SLEW` (R157). -/
def Obj.asymSlew : Obj := ⟨0x2700, 0x06, .u16, .rw, .tide, 50, .range 1 1000⟩
/-- `ASYM_FREEZE` (R157). -/
def Obj.asymFreeze : Obj := ⟨0x2700, 0x07, .bool, .rw, .tide, 0, .any⟩
/-- `ASYM_WINDOW` (R157). -/
def Obj.asymWindow : Obj := ⟨0x2700, 0x08, .u32, .ro, .none, 0, .any⟩
/-- `ASYM_FROZEN_CNT` (R157). -/
def Obj.asymFrozenCnt : Obj := ⟨0x2700, 0x09, .u32, .ro, .none, 0, .any⟩
/-- `LINGER_TICKS` (R197). -/
def Obj.lingerTicks : Obj := ⟨0x3000, 0x01, .u8, .rw, .tide, 2, .range 0 16⟩
/-- `STALL_TICKS` (R197). -/
def Obj.stallTicks : Obj := ⟨0x3000, 0x02, .u8, .rw, .tide, 32, .range 20 255⟩
/-- `OUT_SHARE_MAX` (R197). -/
def Obj.outShareMax : Obj := ⟨0x3000, 0x03, .u16, .rw, .tide, 256, .range 64 832⟩
/-- `ROW_CE_LIMIT` (R197). -/
def Obj.rowCeLimit : Obj := ⟨0x3000, 0x04, .u8, .rw, .tide, 4, .range 1 255⟩
/-- `HOLD_FREE` (R197). -/
def Obj.holdFree : Obj := ⟨0x3001, 0x01, .u16, .ro, .none, 2048, .any⟩
/-- `SHARED_USED` (R197). -/
def Obj.sharedUsed : Obj := ⟨0x3001, 0x02, .u16, .ro, .none, 0, .any⟩
/-- `SHARED_PEAK` (R197). -/
def Obj.sharedPeak : Obj := ⟨0x3001, 0x03, .u16, .ro, .none, 0, .any⟩
/-- `BAYS_RETIRED` (R197). -/
def Obj.baysRetired : Obj := ⟨0x3001, 0x04, .u16, .ro, .none, 0, .any⟩
/-- `BAYS_RETIRING` (R197). -/
def Obj.baysRetiring : Obj := ⟨0x3001, 0x05, .u16, .ro, .none, 0, .any⟩
/-- `SPARE_ROWS_LEFT` (R197). -/
def Obj.spareRowsLeft : Obj := ⟨0x3001, 0x06, .u8, .ro, .none, 16, .any⟩
/-- `ROWS_SPARED_CNT` (R197). -/
def Obj.rowsSparedCnt : Obj := ⟨0x3001, 0x07, .u32, .ro, .none, 0, .any⟩
/-- `HOLD_CE_CNT` (R197). -/
def Obj.holdCeCnt : Obj := ⟨0x3001, 0x08, .u32, .ro, .none, 0, .any⟩
/-- `HOLD_UE_CNT` (R197). -/
def Obj.holdUeCnt : Obj := ⟨0x3001, 0x09, .u32, .ro, .none, 0, .any⟩
/-- `LAST_WORN_ROW` (R197). -/
def Obj.lastWornRow : Obj := ⟨0x3001, 0x0A, .u16, .ro, .none, 65535, .any⟩
/-- `HEADER_DISCARD_CNT` (R198). -/
def Obj.headerDiscardCnt : Obj := ⟨0x3002, 0x01, .u32, .ro, .none, 0, .any⟩
/-- `DEST_DISABLED_CNT` (R198). -/
def Obj.destDisabledCnt : Obj := ⟨0x3002, 0x02, .u32, .ro, .none, 0, .any⟩
/-- `STALE_MANIFEST_CNT` (R198). -/
def Obj.staleManifestCnt : Obj := ⟨0x3002, 0x03, .u32, .ro, .none, 0, .any⟩
/-- `LINGER_DISCARD_CNT` (R198). -/
def Obj.lingerDiscardCnt : Obj := ⟨0x3002, 0x04, .u32, .ro, .none, 0, .any⟩
/-- `ORPHAN_WORD_CNT` (R198). -/
def Obj.orphanWordCnt : Obj := ⟨0x3002, 0x05, .u32, .ro, .none, 0, .any⟩
/-- `LENGTH_ERR_CNT` (R198). -/
def Obj.lengthErrCnt : Obj := ⟨0x3002, 0x06, .u32, .ro, .none, 0, .any⟩
/-- `TRUNCATED_CNT` (R198). -/
def Obj.truncatedCnt : Obj := ⟨0x3002, 0x07, .u32, .ro, .none, 0, .any⟩
/-- `TTL_EXPIRED_CNT` (R198). -/
def Obj.ttlExpiredCnt : Obj := ⟨0x3002, 0x08, .u32, .ro, .none, 0, .any⟩
/-- `DISCARD_LAST` (R198). -/
def Obj.discardLast : Obj := ⟨0x3002, 0x09, .u32, .ro, .none, 0, .any⟩
/-- `DPORT_ENABLE` (R198). -/
def Obj.dportEnable : Obj := ⟨0x3002, 0x0A, .domain, .rwl, .tide, 32, .any⟩
/-- `CLASS11_CNT` (R198). -/
def Obj.class11Cnt : Obj := ⟨0x3002, 0x0B, .u32, .ro, .none, 0, .any⟩
/-- `PAYLOAD_CRC_CNT` (R198). -/
def Obj.payloadCrcCnt : Obj := ⟨0x3002, 0x0C, .u32, .ro, .none, 0, .any⟩
/-- `PART_USED`, unit u (R199). -/
def Obj.partUsed (u : Nat) : Obj := ⟨0x3010 + u, 0x01, .u16, .ro, .none, 0, .any⟩
/-- `PART_LIMIT`, unit u (R199). -/
def Obj.partLimit (u : Nat) : Obj := ⟨0x3010 + u, 0x02, .u16, .ro, .none, 384, .any⟩
/-- `CREDIT`, unit u (R199). -/
def Obj.credit (u : Nat) : Obj := ⟨0x3010 + u, 0x03, .u16, .ro, .none, 0, .any⟩
/-- `FAR_LIMIT`, unit u (R199). -/
def Obj.farLimit (u : Nat) : Obj := ⟨0x3010 + u, 0x04, .u16, .ro, .none, 0, .any⟩
/-- `OUT_SHARED`, unit u (R199). -/
def Obj.outShared (u : Nat) : Obj := ⟨0x3010 + u, 0x05, .u16, .ro, .none, 0, .any⟩
/-- `OUT_STATE`, unit u (R199). -/
def Obj.outState (u : Nat) : Obj := ⟨0x3010 + u, 0x06, .u8, .ro, .none, 0, .any⟩
/-- `LINGER_FRAMES`, unit u (R199). -/
def Obj.lingerFrames (u : Nat) : Obj := ⟨0x3010 + u, 0x07, .u16, .ro, .none, 0, .any⟩
/-- `LINGER_CNT`, unit u (R199). -/
def Obj.lingerCnt (u : Nat) : Obj := ⟨0x3010 + u, 0x08, .u32, .ro, .none, 0, .any⟩
/-- `LINGER_DISC_CNT`, unit u (R199). -/
def Obj.lingerDiscCnt (u : Nat) : Obj := ⟨0x3010 + u, 0x09, .u32, .ro, .none, 0, .any⟩
/-- `STALL_CNT`, unit u (R199). -/
def Obj.stallCnt (u : Nat) : Obj := ⟨0x3010 + u, 0x0A, .u32, .ro, .none, 0, .any⟩
/-- `FRAMES_IN_CNT`, unit u (R199). -/
def Obj.framesInCnt (u : Nat) : Obj := ⟨0x3010 + u, 0x0B, .u32, .ro, .none, 0, .any⟩
/-- `FRAMES_OUT_CNT`, unit u (R199). -/
def Obj.framesOutCnt (u : Nat) : Obj := ⟨0x3010 + u, 0x0C, .u32, .ro, .none, 0, .any⟩
/-- `RESEQ_PEAK`, unit u (R199). -/
def Obj.reseqPeak (u : Nat) : Obj := ⟨0x3010 + u, 0x0D, .u8, .ro, .none, 0, .any⟩
/-- `AUDIT_PASS_CNT` (R200). -/
def Obj.auditPassCnt : Obj := ⟨0x3020, 0x01, .u32, .ro, .none, 0, .any⟩
/-- `AUDIT_POS` (R200). -/
def Obj.auditPos : Obj := ⟨0x3020, 0x02, .u16, .ro, .none, 0, .any⟩
/-- `LEAK_CNT` (R200). -/
def Obj.leakCnt : Obj := ⟨0x3020, 0x03, .u32, .ro, .none, 0, .any⟩
/-- `LAST_LEAK` (R200). -/
def Obj.lastLeak : Obj := ⟨0x3020, 0x04, .u64, .ro, .none, 0, .any⟩
/-- `AUDIT_MISMATCH_CNT` (R200). -/
def Obj.auditMismatchCnt : Obj := ⟨0x3020, 0x05, .u32, .ro, .none, 0, .any⟩
/-- `AUDIT_LAST_SUM` (R200). -/
def Obj.auditLastSum : Obj := ⟨0x3020, 0x06, .u64, .ro, .none, 0, .any⟩
/-- `PREFETCH_EN` (R243). -/
def Obj.prefetchEn : Obj := ⟨0x3400, 0x01, .u32, .rwl, .tide, 120174, .mask 0x1D5EE⟩
/-- `PREFETCH_DEPTH` (R243). -/
def Obj.prefetchDepth : Obj := ⟨0x3400, 0x02, .u8, .rw, .tide, 4, .range 1 8⟩
/-- `PREFETCH_HOLD` (R243). -/
def Obj.prefetchHold : Obj := ⟨0x3400, 0x03, .u8, .rw, .tide, 1, .range 1 16⟩
/-- `READ_TIMEOUT` (R243). -/
def Obj.readTimeout : Obj := ⟨0x3400, 0x04, .u8, .rw, .tide, 8, .range 2 255⟩
/-- `TARGET_WAIT` (R243). -/
def Obj.targetWait : Obj := ⟨0x3400, 0x05, .u8, .rw, .tide, 1, .range 1 16⟩
/-- `TAGS_FREE` (R243). -/
def Obj.tagsFree : Obj := ⟨0x3400, 0x06, .u8, .ro, .none, 16, .any⟩
/-- `INBOUND_USED` (R243). -/
def Obj.inboundUsed : Obj := ⟨0x3400, 0x07, .u16, .ro, .none, 0, .any⟩
/-- `MSG_ROUTE` (R243). -/
def Obj.msgRoute : Obj := ⟨0x3400, 0x08, .u64, .rwl, .tide, 0, .any⟩
/-- `POSTED_OUT_CNT` (R244). -/
def Obj.postedOutCnt : Obj := ⟨0x3401, 0x01, .u32, .ro, .none, 0, .any⟩
/-- `POSTED_IN_CNT` (R244). -/
def Obj.postedInCnt : Obj := ⟨0x3401, 0x02, .u32, .ro, .none, 0, .any⟩
/-- `REQ_OUT_CNT` (R244). -/
def Obj.reqOutCnt : Obj := ⟨0x3401, 0x03, .u32, .ro, .none, 0, .any⟩
/-- `REQ_IN_CNT` (R244). -/
def Obj.reqInCnt : Obj := ⟨0x3401, 0x04, .u32, .ro, .none, 0, .any⟩
/-- `REFUSED_IN_CNT` (R244). -/
def Obj.refusedInCnt : Obj := ⟨0x3401, 0x05, .u32, .ro, .none, 0, .any⟩
/-- `REFUSED_OUT_CNT` (R244). -/
def Obj.refusedOutCnt : Obj := ⟨0x3401, 0x06, .u32, .ro, .none, 0, .any⟩
/-- `ORDER_REFUSED_CNT` (R244). -/
def Obj.orderRefusedCnt : Obj := ⟨0x3401, 0x07, .u32, .ro, .none, 0, .any⟩
/-- `TIMEOUT_CNT` (R244). -/
def Obj.timeoutCnt : Obj := ⟨0x3401, 0x08, .u32, .ro, .none, 0, .any⟩
/-- `LATE_RESPONSE_CNT` (R244). -/
def Obj.lateResponseCnt : Obj := ⟨0x3401, 0x09, .u32, .ro, .none, 0, .any⟩
/-- `REFUSAL_LOST_CNT` (R244). -/
def Obj.refusalLostCnt : Obj := ⟨0x3401, 0x0A, .u32, .ro, .none, 0, .any⟩
/-- `PREFETCH_HIT_CNT` (R244). -/
def Obj.prefetchHitCnt : Obj := ⟨0x3401, 0x0B, .u32, .ro, .none, 0, .any⟩
/-- `PREFETCH_DISCARD_CNT` (R244). -/
def Obj.prefetchDiscardCnt : Obj := ⟨0x3401, 0x0C, .u32, .ro, .none, 0, .any⟩
/-- `ROLLBACK_CNT` (R244). -/
def Obj.rollbackCnt : Obj := ⟨0x3401, 0x0D, .u32, .ro, .none, 0, .any⟩
/-- `SIDE_EFFECT_DISCARD_CNT` (R244). -/
def Obj.sideEffectDiscardCnt : Obj := ⟨0x3401, 0x0E, .u32, .ro, .none, 0, .any⟩
/-- `LAST_REFUSAL` (R244). -/
def Obj.lastRefusal : Obj := ⟨0x3401, 0x0F, .u64, .ro, .none, 0, .any⟩
/-- `LAST_SIDE_EFFECT_ADDR` (R244). -/
def Obj.lastSideEffectAddr : Obj := ⟨0x3401, 0x10, .u64, .ro, .none, 0, .any⟩
/-- `MANIFEST_STAGE` (R245). -/
def Obj.manifestStage : Obj := ⟨0x3500, 0x01, .domain, .rwl, .commit, 0, .any⟩
/-- `MANIFEST_DISABLE` (R245). -/
def Obj.manifestDisable : Obj := ⟨0x3500, 0x02, .domain, .rwl, .commit, 0, .any⟩
/-- `MANIFEST_COMMIT` (R245). -/
def Obj.manifestCommit : Obj := ⟨0x3500, 0x03, .u8, .cmd, .immediate, 0, .any⟩
/-- `MANIFEST_RESULT` (R245). -/
def Obj.manifestResult : Obj := ⟨0x3500, 0x04, .u32, .ro, .none, 0, .any⟩
/-- `MANIFEST_GEN` (R245). -/
def Obj.manifestGen : Obj := ⟨0x3500, 0x05, .u32, .ro, .none, 0, .any⟩
/-- `MAN_READ_INDEX` (R245). -/
def Obj.manReadIndex : Obj := ⟨0x3500, 0x06, .u16, .rw, .immediate, 0, .range 0 2047⟩
/-- `MAN_READ_ENTRY` (R245). -/
def Obj.manReadEntry : Obj := ⟨0x3500, 0x07, .domain, .ro, .none, 16, .any⟩
/-- `MAN_ENTRIES_USED` (R245). -/
def Obj.manEntriesUsed : Obj := ⟨0x3500, 0x08, .u16, .ro, .none, 0, .any⟩
/-- `MAN_LOOKUP_CNT` (R245). -/
def Obj.manLookupCnt : Obj := ⟨0x3500, 0x09, .u32, .ro, .none, 0, .any⟩
/-- `MAN_MISS_CNT` (R245). -/
def Obj.manMissCnt : Obj := ⟨0x3500, 0x0A, .u32, .ro, .none, 0, .any⟩
/-- `MAN_SIZE_DROP_CNT` (R245). -/
def Obj.manSizeDropCnt : Obj := ⟨0x3500, 0x0B, .u32, .ro, .none, 0, .any⟩
/-- `MAN_LAST_MISS` (R245). -/
def Obj.manLastMiss : Obj := ⟨0x3500, 0x0C, .u64, .ro, .none, 0, .any⟩
/-- `CRANE_STATE`, unit u (R292). -/
def Obj.craneState (u : Nat) : Obj := ⟨0x4200 + u, 0x01, .u8, .ro, .none, 0, .any⟩
/-- `CRANE_CMD`, unit u (R292). -/
def Obj.craneCmd (u : Nat) : Obj := ⟨0x4200 + u, 0x02, .u8, .cmd, .immediate, 0, .any⟩
/-- `CRANE_CTRL`, unit u (R292). -/
def Obj.craneCtrl (u : Nat) : Obj := ⟨0x4200 + u, 0x03, .u32, .rwl, .commit, 0, .mask 0x3F03FF⟩
/-- `CLK_DIV`, unit u (R292). -/
def Obj.clkDiv (u : Nat) : Obj := ⟨0x4200 + u, 0x04, .u32, .rwl, .tide, 65536, .range 65536 4294967295⟩
/-- `TALLY_BASE`, unit u (R292). -/
def Obj.tallyBase (u : Nat) : Obj := ⟨0x4200 + u, 0x05, .u16, .rwl, .commit, 0, .range 0 1023⟩
/-- `TALLY_LEN`, unit u (R292). -/
def Obj.tallyLen (u : Nat) : Obj := ⟨0x4200 + u, 0x06, .u16, .rwl, .commit, 0, .range 0 1024⟩
/-- `ENTRY`, unit u (R292). -/
def Obj.entry (u : Nat) : Obj := ⟨0x4200 + u, 0x07, .u16, .rwl, .commit, 0, .any⟩
/-- `WRAP`, unit u (R292). -/
def Obj.wrap (u : Nat) : Obj := ⟨0x4200 + u, 0x08, .u16, .rwl, .commit, 0, .any⟩
/-- `PIN_OUT`, unit u (R292). -/
def Obj.pinOut (u : Nat) : Obj := ⟨0x4200 + u, 0x09, .u16, .rwl, .commit, 0, .special⟩
/-- `PIN_IN`, unit u (R292). -/
def Obj.pinIn (u : Nat) : Obj := ⟨0x4200 + u, 0x0A, .u16, .rwl, .commit, 0, .special⟩
/-- `PIN_SIDE`, unit u (R292). -/
def Obj.pinSide (u : Nat) : Obj := ⟨0x4200 + u, 0x0B, .u16, .rwl, .commit, 0, .special⟩
/-- `PIN_WAIT`, unit u (R292). -/
def Obj.pinWait (u : Nat) : Obj := ⟨0x4200 + u, 0x0C, .u8, .rwl, .commit, 0, .mask 0xBF⟩
/-- `PIN_INIT`, unit u (R292). -/
def Obj.pinInit (u : Nat) : Obj := ⟨0x4200 + u, 0x0D, .u32, .rwl, .commit, 0, .mask 0x8FFF0FFF⟩
/-- `PC`, unit u (R292). -/
def Obj.pc (u : Nat) : Obj := ⟨0x4200 + u, 0x10, .u16, .ro, .none, 0, .any⟩
/-- `REG_X`, unit u (R292). -/
def Obj.regX (u : Nat) : Obj := ⟨0x4200 + u, 0x11, .u32, .ro, .none, 0, .any⟩
/-- `REG_Y`, unit u (R292). -/
def Obj.regY (u : Nat) : Obj := ⟨0x4200 + u, 0x12, .u32, .ro, .none, 0, .any⟩
/-- `REG_LC`, unit u (R292). -/
def Obj.regLc (u : Nat) : Obj := ⟨0x4200 + u, 0x13, .u16, .ro, .none, 0, .any⟩
/-- `REG_SIR`, unit u (R292). -/
def Obj.regSir (u : Nat) : Obj := ⟨0x4200 + u, 0x14, .u64, .ro, .none, 0, .any⟩
/-- `REG_SOR`, unit u (R292). -/
def Obj.regSor (u : Nat) : Obj := ⟨0x4200 + u, 0x15, .u64, .ro, .none, 0, .any⟩
/-- `REG_SCOP`, unit u (R292). -/
def Obj.regScop (u : Nat) : Obj := ⟨0x4200 + u, 0x16, .u32, .ro, .none, 0, .any⟩
/-- `SHIFT_STATE`, unit u (R292). -/
def Obj.shiftState (u : Nat) : Obj := ⟨0x4200 + u, 0x17, .u16, .ro, .none, 0, .any⟩
/-- `SHIFT_PART`, unit u (R292). -/
def Obj.shiftPart (u : Nat) : Obj := ⟨0x4200 + u, 0x18, .u64, .ro, .none, 0, .any⟩
/-- `HALT_INFO`, unit u (R292). -/
def Obj.haltInfo (u : Nat) : Obj := ⟨0x4200 + u, 0x19, .u8, .ro, .none, 0, .any⟩
/-- `FAULT_CAUSE`, unit u (R292). -/
def Obj.faultCause (u : Nat) : Obj := ⟨0x4200 + u, 0x1A, .u8, .ro, .none, 0, .any⟩
/-- `STALE_CNT`, unit u (R292). -/
def Obj.staleCnt (u : Nat) : Obj := ⟨0x4200 + u, 0x1B, .u32, .ro, .none, 0, .any⟩
/-- `PUSH_DROP_CNT`, unit u (R292). -/
def Obj.pushDropCnt (u : Nat) : Obj := ⟨0x4200 + u, 0x1C, .u32, .ro, .none, 0, .any⟩
/-- `POISON_PULL_CNT`, unit u (R292). -/
def Obj.poisonPullCnt (u : Nat) : Obj := ⟨0x4200 + u, 0x1D, .u32, .ro, .none, 0, .any⟩
/-- `FRAME_ERR_CNT`, unit u (R292). -/
def Obj.frameErrCnt (u : Nat) : Obj := ⟨0x4200 + u, 0x1E, .u32, .ro, .none, 0, .any⟩
/-- `SHIFT_DISCARD_CNT`, unit u (R292). -/
def Obj.shiftDiscardCnt (u : Nat) : Obj := ⟨0x4200 + u, 0x1F, .u32, .ro, .none, 0, .any⟩
/-- `LATE_HALT_CNT`, unit u (R292). -/
def Obj.lateHaltCnt (u : Nat) : Obj := ⟨0x4200 + u, 0x20, .u32, .ro, .none, 0, .any⟩
/-- `NOTICE_CNT`, unit u (R292). -/
def Obj.noticeCnt (u : Nat) : Obj := ⟨0x4200 + u, 0x21, .u32, .ro, .none, 0, .any⟩
/-- `QUAY_COMMIT`, unit u (R293). -/
def Obj.quayCommit (u : Nat) : Obj := ⟨0x4100 + u, 0x01, .u8, .cmd, .tide, 0, .any⟩
/-- `QUAY_RESULT`, unit u (R293). -/
def Obj.quayResult (u : Nat) : Obj := ⟨0x4100 + u, 0x02, .u32, .ro, .none, 0, .any⟩
/-- `QUAY_FLAGS`, unit u (R293). -/
def Obj.quayFlags (u : Nat) : Obj := ⟨0x4100 + u, 0x03, .u16, .rw, .immediate, 0, .any⟩
/-- `QUAY_IRQ`, unit u (R293). -/
def Obj.quayIrq (u : Nat) : Obj := ⟨0x4100 + u, 0x04, .u8, .rw, .immediate, 0, .any⟩
/-- `QUAY_IRQ_EN`, unit u (R293). -/
def Obj.quayIrqEn (u : Nat) : Obj := ⟨0x4100 + u, 0x05, .u8, .rw, .immediate, 0, .any⟩
/-- `QUAY_TOFF`, unit u (R293). -/
def Obj.quayToff (u : Nat) : Obj := ⟨0x4100 + u, 0x06, .u32, .ro, .none, 0, .any⟩
/-- `GANG_START` (R295). -/
def Obj.gangStart : Obj := ⟨0x4180, 0x01, .u64, .cmd, .immediate, 0, .any⟩
/-- `GANG_HALT` (R295). -/
def Obj.gangHalt : Obj := ⟨0x4180, 0x02, .u64, .cmd, .immediate, 0, .any⟩
/-- `CLOCK_RESTART` (R295). -/
def Obj.clockRestart : Obj := ⟨0x4180, 0x03, .u64, .cmd, .immediate, 0, .any⟩
/-- `GANG_REFUSED` (R295). -/
def Obj.gangRefused : Obj := ⟨0x4180, 0x04, .u64, .ro, .none, 0, .any⟩
/-- `TALLY_LOAD` (R316). -/
def Obj.tallyLoad : Obj := ⟨0x4000, 0x01, .domain, .rwl, .immediate, 0, .any⟩
/-- `TALLY_READ_ADDR` (R316). -/
def Obj.tallyReadAddr : Obj := ⟨0x4000, 0x02, .u16, .rw, .immediate, 0, .range 0 1023⟩
/-- `TALLY_READ_DATA` (R316). -/
def Obj.tallyReadData : Obj := ⟨0x4000, 0x03, .domain, .ro, .none, 0, .any⟩
/-- `TALLY_RESULT` (R316). -/
def Obj.tallyResult : Obj := ⟨0x4000, 0x04, .u32, .ro, .none, 0, .any⟩
/-- `TALLY_PAGE_MAP` (R316). -/
def Obj.tallyPageMap : Obj := ⟨0x4000, 0x05, .domain, .ro, .none, 128, .any⟩
/-- `PAGE_INDEX` (R316). -/
def Obj.pageIndex : Obj := ⟨0x4000, 0x06, .u8, .rw, .immediate, 0, .range 0 63⟩
/-- `PAGE_OWNERS` (R316). -/
def Obj.pageOwners : Obj := ⟨0x4000, 0x07, .u64, .ro, .none, 0, .any⟩
/-- `PAGES_FREE` (R316). -/
def Obj.pagesFree : Obj := ⟨0x4000, 0x08, .u8, .ro, .none, 64, .any⟩
/-- `PAGES_WORN` (R316). -/
def Obj.pagesWorn : Obj := ⟨0x4000, 0x09, .u8, .ro, .none, 0, .any⟩
/-- `FREE_RUN` (R316). -/
def Obj.freeRun : Obj := ⟨0x4000, 0x0A, .u16, .ro, .none, 64, .any⟩
/-- `STAGE_LOAD` (R317). -/
def Obj.stageLoad : Obj := ⟨0x4001, 0x01, .domain, .rwl, .immediate, 0, .any⟩
/-- `STAGE_READ` (R317). -/
def Obj.stageRead : Obj := ⟨0x4001, 0x02, .domain, .ro, .none, 192, .any⟩
/-- `SWAP_REQ` (R317). -/
def Obj.swapReq : Obj := ⟨0x4001, 0x03, .domain, .rwl, .immediate, 16, .any⟩
/-- `SWAP_CMD` (R317). -/
def Obj.swapCmd : Obj := ⟨0x4001, 0x04, .u8, .cmd, .immediate, 0, .any⟩
/-- `SWAP_STATE` (R317). -/
def Obj.swapState : Obj := ⟨0x4001, 0x05, .u8, .ro, .none, 0, .any⟩
/-- `STAGE_WORN` (R317). -/
def Obj.stageWorn : Obj := ⟨0x4001, 0x06, .u8, .ro, .none, 0, .any⟩
/-- `SWAP_CNT` (R317). -/
def Obj.swapCnt : Obj := ⟨0x4001, 0x07, .u32, .ro, .none, 0, .any⟩
/-- `SWAP_TICK` (R317). -/
def Obj.swapTick : Obj := ⟨0x4001, 0x08, .u64, .ro, .none, 0, .any⟩
/-- `TALLY_CE_PASSES` (R318). -/
def Obj.tallyCePasses : Obj := ⟨0x4002, 0x01, .u8, .rw, .tide, 2, .range 1 255⟩
/-- `SCRUB_PASS_CNT` (R318). -/
def Obj.scrubPassCnt : Obj := ⟨0x4002, 0x02, .u32, .ro, .none, 0, .any⟩
/-- `TALLY_CE_CNT` (R318). -/
def Obj.tallyCeCnt : Obj := ⟨0x4002, 0x03, .u32, .ro, .none, 0, .any⟩
/-- `TALLY_UE_CNT` (R318). -/
def Obj.tallyUeCnt : Obj := ⟨0x4002, 0x04, .u32, .ro, .none, 0, .any⟩
/-- `LAST_TALLY_ERR` (R318). -/
def Obj.lastTallyErr : Obj := ⟨0x4002, 0x05, .u32, .ro, .none, 0, .any⟩
/-- `FIFO_STATUS`, unit u (R346). -/
def Obj.fifoStatus (u : Nat) : Obj := ⟨0x5400 + u, 0x01, .u64, .ro, .none, 0, .any⟩
/-- `NOTICE_EN`, unit u (R346). -/
def Obj.noticeEn (u : Nat) : Obj := ⟨0x5400 + u, 0x02, .u8, .rw, .immediate, 0, .mask 0x7⟩
/-- `NOTICE_PEND`, unit u (R346). -/
def Obj.noticePend (u : Nat) : Obj := ⟨0x5400 + u, 0x03, .u8, .rw, .immediate, 0, .any⟩
/-- `DIAG_LEVEL`, unit u (R346). -/
def Obj.diagLevel (u : Nat) : Obj := ⟨0x5400 + u, 0x04, .u16, .rwl, .immediate, 0, .special⟩
/-- `DIAG_HIT_CNT`, unit u (R346). -/
def Obj.diagHitCnt (u : Nat) : Obj := ⟨0x5400 + u, 0x05, .u32, .ro, .none, 0, .any⟩
/-- `RX_FRAME_CNT`, unit u (R346). -/
def Obj.rxFrameCnt (u : Nat) : Obj := ⟨0x5400 + u, 0x06, .u32, .ro, .none, 0, .any⟩
/-- `TX_FRAME_CNT`, unit u (R346). -/
def Obj.txFrameCnt (u : Nat) : Obj := ⟨0x5400 + u, 0x07, .u32, .ro, .none, 0, .any⟩
/-- `FIFO_CE_CNT`, unit u (R346). -/
def Obj.fifoCeCnt (u : Nat) : Obj := ⟨0x5400 + u, 0x08, .u32, .ro, .none, 0, .any⟩
/-- `FIFO_UE_CNT`, unit u (R346). -/
def Obj.fifoUeCnt (u : Nat) : Obj := ⟨0x5400 + u, 0x09, .u32, .ro, .none, 0, .any⟩
/-- `TAG_ERR_CNT`, unit u (R346). -/
def Obj.tagErrCnt (u : Nat) : Obj := ⟨0x5400 + u, 0x0A, .u32, .ro, .none, 0, .any⟩
/-- `SCHED_TRUNC_CNT`, unit u (R346). -/
def Obj.schedTruncCnt (u : Nat) : Obj := ⟨0x5400 + u, 0x0B, .u32, .ro, .none, 0, .any⟩
/-- `FIFO_FLUSH`, unit u (R346). -/
def Obj.fifoFlush (u : Nat) : Obj := ⟨0x5400 + u, 0x0C, .u8, .cmd, .immediate, 0, .any⟩
/-- `FLUSH_LOST_CNT`, unit u (R346). -/
def Obj.flushLostCnt (u : Nat) : Obj := ⟨0x5400 + u, 0x0D, .u32, .ro, .none, 0, .any⟩
/-- `FIFO_CE_WARN` (R348). -/
def Obj.fifoCeWarn : Obj := ⟨0x5480, 0x01, .u16, .rw, .tide, 16, .range 1 65535⟩
/-- `NOTICE_SUMMARY` (R348). -/
def Obj.noticeSummary : Obj := ⟨0x5480, 0x02, .u64, .ro, .none, 0, .any⟩
/-- `CHK_STATUS`, unit u (R349). -/
def Obj.chkStatus (u : Nat) : Obj := ⟨0x5500 + u, 0x01, .u64, .ro, .none, 0, .any⟩
/-- `CHK_RESULT`, unit u (R349). -/
def Obj.chkResult (u : Nat) : Obj := ⟨0x5500 + u, 0x02, .u64, .ro, .none, 0, .any⟩
/-- `CHK_FEED_CNT`, unit u (R349). -/
def Obj.chkFeedCnt (u : Nat) : Obj := ⟨0x5500 + u, 0x03, .u32, .ro, .none, 0, .any⟩
/-- `CHK_WAIT_CNT`, unit u (R349). -/
def Obj.chkWaitCnt (u : Nat) : Obj := ⟨0x5500 + u, 0x04, .u32, .ro, .none, 0, .any⟩
/-- `CHK_POISON_CNT`, unit u (R349). -/
def Obj.chkPoisonCnt (u : Nat) : Obj := ⟨0x5500 + u, 0x05, .u32, .ro, .none, 0, .any⟩
/-- `CHK_PARITY_CNT`, unit u (R349). -/
def Obj.chkParityCnt (u : Nat) : Obj := ⟨0x5500 + u, 0x06, .u32, .ro, .none, 0, .any⟩
/-- `CAN_CTRL`, unit u (R376). -/
def Obj.canCtrl (u : Nat) : Obj := ⟨0x6000 + u, 0x01, .u32, .rwl, .commit, 49152, .special⟩
/-- `BIT_NOM`, unit u (R376). -/
def Obj.bitNom (u : Nat) : Obj := ⟨0x6000 + u, 0x02, .u32, .rwl, .commit, 32763840, .special⟩
/-- `BIT_DATA`, unit u (R376). -/
def Obj.bitData (u : Nat) : Obj := ⟨0x6000 + u, 0x03, .u32, .rwl, .commit, 17162176, .any⟩
/-- `BUF_DIR`, unit u (R376). -/
def Obj.bufDir (u : Nat) : Obj := ⟨0x6000 + u, 0x04, .u64, .rwl, .commit, 0, .any⟩
/-- `CAN_FILTERS`, unit u (R376). -/
def Obj.canFilters (u : Nat) : Obj := ⟨0x6000 + u, 0x05, .domain, .rwl, .commit, 512, .any⟩
/-- `CAN_COMMIT`, unit u (R376). -/
def Obj.canCommit (u : Nat) : Obj := ⟨0x6000 + u, 0x06, .u8, .cmd, .tide, 0, .any⟩
/-- `CAN_RESULT`, unit u (R376). -/
def Obj.canResult (u : Nat) : Obj := ⟨0x6000 + u, 0x07, .u32, .ro, .none, 0, .any⟩
/-- `CAN_CMD`, unit u (R376). -/
def Obj.canCmd (u : Nat) : Obj := ⟨0x6000 + u, 0x08, .u8, .cmd, .immediate, 0, .any⟩
/-- `CAN_IRQ_EN`, unit u (R376). -/
def Obj.canIrqEn (u : Nat) : Obj := ⟨0x6000 + u, 0x09, .u16, .rw, .immediate, 0, .mask 0x1FF⟩
/-- `CAN_STATE`, unit u (R377). -/
def Obj.canState (u : Nat) : Obj := ⟨0x6100 + u, 0x01, .u8, .ro, .none, 0, .any⟩
/-- `ERR_COUNTERS`, unit u (R377). -/
def Obj.errCounters (u : Nat) : Obj := ⟨0x6100 + u, 0x02, .u32, .ro, .none, 0, .any⟩
/-- `CAN_IRQ`, unit u (R377). -/
def Obj.canIrq (u : Nat) : Obj := ⟨0x6100 + u, 0x03, .u16, .rw, .immediate, 0, .any⟩
/-- `BUF_PEND`, unit u (R377). -/
def Obj.bufPend (u : Nat) : Obj := ⟨0x6100 + u, 0x04, .u64, .ro, .none, 0, .any⟩
/-- `BUF_FULL`, unit u (R377). -/
def Obj.bufFull (u : Nat) : Obj := ⟨0x6100 + u, 0x05, .u64, .ro, .none, 0, .any⟩
/-- `QUEUE_FILL`, unit u (R377). -/
def Obj.queueFill (u : Nat) : Obj := ⟨0x6100 + u, 0x06, .u32, .ro, .none, 0, .any⟩
/-- `TDC_MEAS`, unit u (R377). -/
def Obj.tdcMeas (u : Nat) : Obj := ⟨0x6100 + u, 0x07, .u8, .ro, .none, 0, .any⟩
/-- `LAST_ERR`, unit u (R377). -/
def Obj.lastErr (u : Nat) : Obj := ⟨0x6100 + u, 0x08, .u32, .ro, .none, 0, .any⟩
/-- `TX_OK_CNT`, unit u (R377). -/
def Obj.txOkCnt (u : Nat) : Obj := ⟨0x6100 + u, 0x09, .u32, .ro, .none, 0, .any⟩
/-- `RX_OK_CNT`, unit u (R377). -/
def Obj.rxOkCnt (u : Nat) : Obj := ⟨0x6100 + u, 0x0A, .u32, .ro, .none, 0, .any⟩
/-- `ERR_CNT`, unit u (R377). -/
def Obj.errCnt (u : Nat) : Obj := ⟨0x6100 + u, 0x0B, .u32, .ro, .none, 0, .any⟩
/-- `ARB_LOST_CNT`, unit u (R377). -/
def Obj.arbLostCnt (u : Nat) : Obj := ⟨0x6100 + u, 0x0C, .u32, .ro, .none, 0, .any⟩
/-- `BOFF_CNT`, unit u (R377). -/
def Obj.boffCnt (u : Nat) : Obj := ⟨0x6100 + u, 0x0D, .u32, .ro, .none, 0, .any⟩
/-- `RETRY_OUT_CNT`, unit u (R377). -/
def Obj.retryOutCnt (u : Nat) : Obj := ⟨0x6100 + u, 0x0E, .u32, .ro, .none, 0, .any⟩
/-- `LATE_ABORT_CNT`, unit u (R377). -/
def Obj.lateAbortCnt (u : Nat) : Obj := ⟨0x6100 + u, 0x0F, .u32, .ro, .none, 0, .any⟩
/-- `RX_OVERRUN_CNT`, unit u (R377). -/
def Obj.rxOverrunCnt (u : Nat) : Obj := ⟨0x6100 + u, 0x10, .u32, .ro, .none, 0, .any⟩
/-- `RXQ_LOST_CNT`, unit u (R377). -/
def Obj.rxqLostCnt (u : Nat) : Obj := ⟨0x6100 + u, 0x11, .u32, .ro, .none, 0, .any⟩
/-- `PILOT_OVERRUN_CNT`, unit u (R377). -/
def Obj.pilotOverrunCnt (u : Nat) : Obj := ⟨0x6100 + u, 0x12, .u32, .ro, .none, 0, .any⟩
/-- `GW_IN_CNT`, unit u (R377). -/
def Obj.gwInCnt (u : Nat) : Obj := ⟨0x6100 + u, 0x13, .u32, .ro, .none, 0, .any⟩
/-- `GW_OFFER_CNT`, unit u (R377). -/
def Obj.gwOfferCnt (u : Nat) : Obj := ⟨0x6100 + u, 0x14, .u32, .ro, .none, 0, .any⟩
/-- `GW_FLUSH_CNT`, unit u (R377). -/
def Obj.gwFlushCnt (u : Nat) : Obj := ⟨0x6100 + u, 0x15, .u32, .ro, .none, 0, .any⟩
/-- `BUF_UE_CNT`, unit u (R377). -/
def Obj.bufUeCnt (u : Nat) : Obj := ⟨0x6100 + u, 0x16, .u32, .ro, .none, 0, .any⟩
/-- `MASTER_A` (R408). -/
def Obj.masterA : Obj := ⟨0x6400, 0x01, .u8, .rwl, .tide, 0, .special⟩
/-- `MASTER_B` (R408). -/
def Obj.masterB : Obj := ⟨0x6400, 0x02, .u8, .rwl, .tide, 0, .special⟩
/-- `MASTER_SRC` (R408). -/
def Obj.masterSrc : Obj := ⟨0x6400, 0x03, .u8, .rwl, .tide, 17, .mask 0x11⟩
/-- `PPS_DELAY` (R408). -/
def Obj.ppsDelay : Obj := ⟨0x6400, 0x04, .i32, .rwl, .tide, 0, .srange (-1000000) (1000000)⟩
/-- `PPS_EDGE_SEL` (R408). -/
def Obj.ppsEdgeSel : Obj := ⟨0x6400, 0x05, .bool, .rwl, .tide, 0, .any⟩
/-- `TIME_SET` (R408). -/
def Obj.timeSet : Obj := ⟨0x6400, 0x06, .time80, .rwl, .immediate, 0, .any⟩
/-- `UTC_OFFSET` (R408). -/
def Obj.utcOffset : Obj := ⟨0x6400, 0x07, .i16, .rwl, .tide, 37, .any⟩
/-- `LEAP` (R408). -/
def Obj.leap : Obj := ⟨0x6400, 0x08, .u8, .rwl, .tide, 0, .mask 0x3⟩
/-- `KP_SHIFT` (R408). -/
def Obj.kpShift : Obj := ⟨0x6401, 0x01, .u8, .rw, .tide, 3, .range 1 8⟩
/-- `KI_SHIFT` (R408). -/
def Obj.kiShift : Obj := ⟨0x6401, 0x02, .u8, .rw, .tide, 7, .special⟩
/-- `LOCK_THRESH` (R408). -/
def Obj.lockThresh : Obj := ⟨0x6401, 0x03, .u16, .rw, .tide, 5000, .special⟩
/-- `UNLOCK_THRESH` (R408). -/
def Obj.unlockThresh : Obj := ⟨0x6401, 0x04, .u16, .rw, .tide, 20000, .special⟩
/-- `STEP_LIMIT` (R408). -/
def Obj.stepLimit : Obj := ⟨0x6401, 0x05, .u32, .rw, .tide, 1000, .any⟩
/-- `DOM_AGE_LIMIT` (R408). -/
def Obj.domAgeLimit : Obj := ⟨0x6401, 0x06, .u16, .rw, .tide, 128, .range 80 4096⟩
/-- `AUTO_SWITCH` (R408). -/
def Obj.autoSwitch : Obj := ⟨0x6401, 0x07, .bool, .rw, .tide, 1, .any⟩
/-- `SLEW_MAX` (R408). -/
def Obj.slewMax : Obj := ⟨0x6401, 0x08, .u16, .rw, .tide, 3000, .special⟩
/-- `DOMAIN_SWITCH` (R409). -/
def Obj.domainSwitch : Obj := ⟨0x6402, 0x01, .u64, .cmd, .immediate, 0, .any⟩
/-- `SWITCH_RESULT` (R409). -/
def Obj.switchResult : Obj := ⟨0x6402, 0x02, .u32, .ro, .none, 0, .any⟩
/-- `WORK_DOMAIN` (R409). -/
def Obj.workDomain : Obj := ⟨0x6402, 0x03, .u8, .ro, .none, 0, .any⟩
/-- `SLEW_REMAIN` (R409). -/
def Obj.slewRemain : Obj := ⟨0x6402, 0x04, .i64, .ro, .none, 0, .any⟩
/-- `WORK_TIME` (R409). -/
def Obj.workTime : Obj := ⟨0x6402, 0x05, .time96, .ro, .none, 0, .any⟩
/-- `STEER_PPB` (R409). -/
def Obj.steerPpb : Obj := ⟨0x6402, 0x06, .i32, .ro, .none, 0, .any⟩
/-- `SWITCH_CNT` (R409). -/
def Obj.switchCnt : Obj := ⟨0x6402, 0x07, .u32, .ro, .none, 0, .any⟩
/-- `AUTO_SWITCH_CNT` (R409). -/
def Obj.autoSwitchCnt : Obj := ⟨0x6402, 0x08, .u32, .ro, .none, 0, .any⟩
/-- `STEP_CNT` (R409). -/
def Obj.stepCnt : Obj := ⟨0x6402, 0x09, .u32, .ro, .none, 0, .any⟩
/-- `DOM_MISMATCH_CNT` (R409). -/
def Obj.domMismatchCnt : Obj := ⟨0x6402, 0x0A, .u32, .ro, .none, 0, .any⟩
/-- `STEER_LIMIT_CNT` (R409). -/
def Obj.steerLimitCnt : Obj := ⟨0x6402, 0x0B, .u32, .ro, .none, 0, .any⟩
/-- `DOM_STATE`, unit u (R410). -/
def Obj.domState (u : Nat) : Obj := ⟨0x6410 + u, 0x01, .u8, .ro, .none, 0, .any⟩
/-- `DOM_TIME`, unit u (R410). -/
def Obj.domTime (u : Nat) : Obj := ⟨0x6410 + u, 0x02, .time96, .ro, .none, 0, .any⟩
/-- `DOM_OFFSET`, unit u (R410). -/
def Obj.domOffset (u : Nat) : Obj := ⟨0x6410 + u, 0x03, .i64, .ro, .none, 0, .any⟩
/-- `DOM_ERR`, unit u (R410). -/
def Obj.domErr (u : Nat) : Obj := ⟨0x6410 + u, 0x04, .i32, .ro, .none, 0, .any⟩
/-- `DOM_UPSTREAM`, unit u (R410). -/
def Obj.domUpstream (u : Nat) : Obj := ⟨0x6410 + u, 0x05, .u8, .ro, .none, 255, .any⟩
/-- `DOM_HOPS`, unit u (R410). -/
def Obj.domHops (u : Nat) : Obj := ⟨0x6410 + u, 0x06, .u8, .ro, .none, 255, .any⟩
/-- `DOM_GM_TICK`, unit u (R410). -/
def Obj.domGmTick (u : Nat) : Obj := ⟨0x6410 + u, 0x07, .u64, .ro, .none, 0, .any⟩
/-- `DOM_QUALITY`, unit u (R410). -/
def Obj.domQuality (u : Nat) : Obj := ⟨0x6410 + u, 0x08, .u8, .ro, .none, 3, .any⟩
/-- `DOM_WORDS_BAD_CNT`, unit u (R410). -/
def Obj.domWordsBadCnt (u : Nat) : Obj := ⟨0x6410 + u, 0x09, .u32, .ro, .none, 0, .any⟩
/-- `LOCK_LOSS_CNT`, unit u (R410). -/
def Obj.lockLossCnt (u : Nat) : Obj := ⟨0x6410 + u, 0x0A, .u32, .ro, .none, 0, .any⟩
/-- `UPSTREAM_CHG_CNT`, unit u (R410). -/
def Obj.upstreamChgCnt (u : Nat) : Obj := ⟨0x6410 + u, 0x0B, .u32, .ro, .none, 0, .any⟩
/-- `LINK_RT`, unit u (R411). -/
def Obj.linkRt (u : Nat) : Obj := ⟨0x6420 + u, 0x01, .u32, .ro, .none, 0, .any⟩
/-- `LINK_DELAY_IN`, unit u (R411). -/
def Obj.linkDelayIn (u : Nat) : Obj := ⟨0x6420 + u, 0x02, .u32, .ro, .none, 0, .any⟩
/-- `RT_SAMPLES`, unit u (R411). -/
def Obj.rtSamples (u : Nat) : Obj := ⟨0x6420 + u, 0x03, .u32, .ro, .none, 0, .any⟩
/-- `TX_LAT`, unit u (R411). -/
def Obj.txLat (u : Nat) : Obj := ⟨0x6420 + u, 0x04, .u16, .ro, .none, 0, .any⟩
/-- `RX_LAT`, unit u (R411). -/
def Obj.rxLat (u : Nat) : Obj := ⟨0x6420 + u, 0x05, .u16, .ro, .none, 0, .any⟩
/-- `ECHO_INVALID_CNT`, unit u (R411). -/
def Obj.echoInvalidCnt (u : Nat) : Obj := ⟨0x6420 + u, 0x06, .u32, .ro, .none, 0, .any⟩
/-- `PPS_STATE` (R411). -/
def Obj.ppsState : Obj := ⟨0x6430, 0x01, .u8, .ro, .none, 0, .any⟩
/-- `PPS_LAST` (R411). -/
def Obj.ppsLast : Obj := ⟨0x6430, 0x02, .time96, .ro, .none, 0, .any⟩
/-- `PPS_MISS_CNT` (R411). -/
def Obj.ppsMissCnt : Obj := ⟨0x6430, 0x03, .u32, .ro, .none, 0, .any⟩
/-- `PPS_REJECT_CNT` (R411). -/
def Obj.ppsRejectCnt : Obj := ⟨0x6430, 0x04, .u32, .ro, .none, 0, .any⟩
/-- `FC_CTRL`, unit u (R412). -/
def Obj.fcCtrl (u : Nat) : Obj := ⟨0x6500 + u, 0x01, .u16, .rwl, .tide, 0, .special⟩
/-- `FC_REC_CNT`, unit u (R412). -/
def Obj.fcRecCnt (u : Nat) : Obj := ⟨0x6500 + u, 0x02, .u32, .ro, .none, 0, .any⟩
/-- `FC_LOST_CNT`, unit u (R412). -/
def Obj.fcLostCnt (u : Nat) : Obj := ⟨0x6500 + u, 0x03, .u32, .ro, .none, 0, .any⟩
/-- `COARSE_LOG_EN`, unit u (R412). -/
def Obj.coarseLogEn (u : Nat) : Obj := ⟨0x6540 + u, 0x01, .u64, .rwl, .tide, 0, .any⟩
/-- `COARSE_LOST_CNT`, unit u (R412). -/
def Obj.coarseLostCnt (u : Nat) : Obj := ⟨0x6540 + u, 0x02, .u32, .ro, .none, 0, .any⟩
/-- `PG_START_SEC`, unit u (R413). -/
def Obj.pgStartSec (u : Nat) : Obj := ⟨0x6600 + u, 0x01, .u64, .rw, .immediate, 0, .any⟩
/-- `PG_START_NS`, unit u (R413). -/
def Obj.pgStartNs (u : Nat) : Obj := ⟨0x6600 + u, 0x02, .u64, .rw, .immediate, 0, .any⟩
/-- `PG_PERIOD`, unit u (R413). -/
def Obj.pgPeriod (u : Nat) : Obj := ⟨0x6600 + u, 0x03, .u64, .rw, .immediate, 0, .any⟩
/-- `PG_WIDTH`, unit u (R413). -/
def Obj.pgWidth (u : Nat) : Obj := ⟨0x6600 + u, 0x04, .u64, .rw, .immediate, 0, .any⟩
/-- `PG_COUNT`, unit u (R413). -/
def Obj.pgCount (u : Nat) : Obj := ⟨0x6600 + u, 0x05, .u64, .rw, .immediate, 0, .any⟩
/-- `PG_CONTROL`, unit u (R413). -/
def Obj.pgControl (u : Nat) : Obj := ⟨0x6600 + u, 0x06, .u64, .rwl, .immediate, 511, .any⟩
/-- `PG_STATUS`, unit u (R413). -/
def Obj.pgStatus (u : Nat) : Obj := ⟨0x6600 + u, 0x07, .u64, .ro, .none, 0, .any⟩
/-- `PG_SKIP_CNT`, unit u (R413). -/
def Obj.pgSkipCnt (u : Nat) : Obj := ⟨0x6600 + u, 0x08, .u32, .ro, .none, 0, .any⟩
/-- `TWIN_POS` (R444). -/
def Obj.twinPos : Obj := ⟨0x7000, 0x01, .bool, .ro, .none, 0, .any⟩
/-- `GIVEUP_EN` (R444). -/
def Obj.giveupEn : Obj := ⟨0x7000, 0x02, .u8, .rwl, .tide, 63, .mask 0x3F⟩
/-- `HANDOVER` (R444). -/
def Obj.handover : Obj := ⟨0x7000, 0x03, .u8, .cmd, .immediate, 0, .any⟩
/-- `CLAIM_WAIT` (R444). -/
def Obj.claimWait : Obj := ⟨0x7000, 0x04, .u16, .rw, .tide, 2000, .range 1000 10000⟩
/-- `STATE_SAVE` (R444). -/
def Obj.stateSave : Obj := ⟨0x7000, 0x05, .u8, .cmd, .immediate, 0, .any⟩
/-- `FIFO_UE_LIMIT` (R444). -/
def Obj.fifoUeLimit : Obj := ⟨0x7000, 0x06, .u8, .rw, .tide, 4, .range 1 255⟩
/-- `OWN_LINE` (R445). -/
def Obj.ownLine : Obj := ⟨0x7001, 0x01, .bool, .ro, .none, 1, .any⟩
/-- `READY` (R445). -/
def Obj.ready : Obj := ⟨0x7001, 0x02, .bool, .ro, .none, 0, .any⟩
/-- `SELFTEST_PASS` (R445). -/
def Obj.selftestPass : Obj := ⟨0x7001, 0x03, .u8, .ro, .none, 0, .any⟩
/-- `SELFTEST_CYCLES` (R445). -/
def Obj.selftestCycles : Obj := ⟨0x7001, 0x04, .u32, .ro, .none, 0, .any⟩
/-- `SAVED_GEN` (R445). -/
def Obj.savedGen : Obj := ⟨0x7001, 0x05, .u32, .ro, .none, 0, .any⟩
/-- `SLOT_SEQ` (R445). -/
def Obj.slotSeq : Obj := ⟨0x7001, 0x06, .u32, .ro, .none, 0, .any⟩
/-- `SAVE_STATE` (R445). -/
def Obj.saveState : Obj := ⟨0x7001, 0x07, .u8, .ro, .none, 0, .any⟩
/-- `LAST_GIVEUP` (R445). -/
def Obj.lastGiveup : Obj := ⟨0x7001, 0x08, .u32, .ro, .none, 0, .any⟩
/-- `TWIN_HEALTH` (R446). -/
def Obj.twinHealth : Obj := ⟨0x7002, 0x01, .domain, .ro, .none, 32, .any⟩
/-- `TWIN_HEALTH_AGE` (R446). -/
def Obj.twinHealthAge : Obj := ⟨0x7002, 0x02, .u16, .ro, .none, 65535, .any⟩
/-- `TWIN_SAVED_GEN` (R446). -/
def Obj.twinSavedGen : Obj := ⟨0x7002, 0x03, .u32, .ro, .none, 0, .any⟩
/-- `HB_AGE` (R446). -/
def Obj.hbAge : Obj := ⟨0x7002, 0x04, .u16, .ro, .none, 65535, .any⟩
/-- `LAST_GAP_US` (R447). -/
def Obj.lastGapUs : Obj := ⟨0x7003, 0x01, .u32, .ro, .none, 0, .any⟩
/-- `PICKUP_PINS` (R447). -/
def Obj.pickupPins : Obj := ⟨0x7003, 0x02, .u16, .ro, .none, 0, .any⟩
/-- `TAKEOVER_CNT` (R447). -/
def Obj.takeoverCnt : Obj := ⟨0x7003, 0x03, .u32, .ro, .none, 0, .any⟩
/-- `RELEASE_CNT` (R447). -/
def Obj.releaseCnt : Obj := ⟨0x7003, 0x04, .u32, .ro, .none, 0, .any⟩
/-- `GIVEUP_CNT` (R447). -/
def Obj.giveupCnt : Obj := ⟨0x7003, 0x05, .u32, .ro, .none, 0, .any⟩
/-- `GIVEUP_BLOCKED_CNT` (R447). -/
def Obj.giveupBlockedCnt : Obj := ⟨0x7003, 0x06, .u32, .ro, .none, 0, .any⟩
/-- `NO_CLAIM_CNT` (R447). -/
def Obj.noClaimCnt : Obj := ⟨0x7003, 0x07, .u32, .ro, .none, 0, .any⟩
/-- `PICKUP_UNSTABLE_CNT` (R447). -/
def Obj.pickupUnstableCnt : Obj := ⟨0x7003, 0x08, .u32, .ro, .none, 0, .any⟩
/-- `NOT_WORKING_CNT` (R447). -/
def Obj.notWorkingCnt : Obj := ⟨0x7003, 0x09, .u32, .ro, .none, 0, .any⟩
/-- `HB_MISS_CNT` (R447). -/
def Obj.hbMissCnt : Obj := ⟨0x7003, 0x0A, .u32, .ro, .none, 0, .any⟩
/-- `COPY_OK_CNT` (R447). -/
def Obj.copyOkCnt : Obj := ⟨0x7003, 0x0B, .u32, .ro, .none, 0, .any⟩
/-- `COPY_ERR_CNT` (R447). -/
def Obj.copyErrCnt : Obj := ⟨0x7003, 0x0C, .u32, .ro, .none, 0, .any⟩
/-- `TWIN_FRAME_ERR_CNT` (R447). -/
def Obj.twinFrameErrCnt : Obj := ⟨0x7003, 0x0D, .u32, .ro, .none, 0, .any⟩
/-- `SELFTEST_FAIL_CNT` (R447). -/
def Obj.selftestFailCnt : Obj := ⟨0x7003, 0x0E, .u32, .ro, .none, 0, .any⟩
/-- `RESET_CMD` (R470). -/
def Obj.resetCmd : Obj := ⟨0x7400, 0x01, .u32, .cmd, .immediate, 0, .any⟩
/-- `BLOCK_RESET` (R470). -/
def Obj.blockReset : Obj := ⟨0x7400, 0x02, .u32, .cmd, .immediate, 0, .any⟩
/-- `BLOCK_RESET_STATE` (R470). -/
def Obj.blockResetState : Obj := ⟨0x7400, 0x03, .u32, .ro, .none, 0, .any⟩
/-- `QUIESCE_TICKS` (R470). -/
def Obj.quiesceTicks : Obj := ⟨0x7400, 0x04, .u8, .rw, .tide, 2, .range 1 16⟩
/-- `WDT_PERIOD` (R470). -/
def Obj.wdtPeriod : Obj := ⟨0x7400, 0x05, .u16, .rw, .immediate, 1000, .range 10 60000⟩
/-- `WDT_KICK` (R470). -/
def Obj.wdtKick : Obj := ⟨0x7400, 0x06, .u8, .wo, .immediate, 0, .any⟩
/-- `OPTIONS` (R470). -/
def Obj.options : Obj := ⟨0x7400, 0x07, .u64, .ro, .none, 4299173888, .any⟩
/-- `STRAPS` (R470). -/
def Obj.straps : Obj := ⟨0x7400, 0x08, .u8, .ro, .none, 0, .any⟩
/-- `RESET_CAUSE` (R471). -/
def Obj.resetCause : Obj := ⟨0x7401, 0x01, .u32, .ro, .none, 32769, .any⟩
/-- `RESET_HISTORY` (R471). -/
def Obj.resetHistory : Obj := ⟨0x7401, 0x02, .domain, .ro, .none, 64, .any⟩
/-- `RELEASE_US` (R471). -/
def Obj.releaseUs : Obj := ⟨0x7401, 0x03, .u32, .ro, .none, 0, .any⟩
/-- `POR_CNT` (R471). -/
def Obj.porCnt : Obj := ⟨0x7401, 0x04, .u32, .ro, .none, 1, .any⟩
/-- `GW_RESET_CNT` (R471). -/
def Obj.gwResetCnt : Obj := ⟨0x7401, 0x05, .u32, .ro, .none, 0, .any⟩
/-- `RESETN_CNT` (R471). -/
def Obj.resetnCnt : Obj := ⟨0x7401, 0x06, .u32, .ro, .none, 0, .any⟩
/-- `WDT_RESET_CNT` (R471). -/
def Obj.wdtResetCnt : Obj := ⟨0x7401, 0x07, .u32, .ro, .none, 0, .any⟩
/-- `RING_RESET_CNT` (R471). -/
def Obj.ringResetCnt : Obj := ⟨0x7401, 0x08, .u32, .ro, .none, 0, .any⟩
/-- `TWIN_RESET_CNT` (R471). -/
def Obj.twinResetCnt : Obj := ⟨0x7401, 0x09, .u32, .ro, .none, 0, .any⟩
/-- `SW_RESET_CNT` (R471). -/
def Obj.swResetCnt : Obj := ⟨0x7401, 0x0A, .u32, .ro, .none, 0, .any⟩
/-- `CRIT_RESET_CNT` (R471). -/
def Obj.critResetCnt : Obj := ⟨0x7401, 0x0B, .u32, .ro, .none, 0, .any⟩
/-- `FORCED_RESET_CNT` (R471). -/
def Obj.forcedResetCnt : Obj := ⟨0x7401, 0x0C, .u32, .ro, .none, 0, .any⟩
/-- `CLOCK_DEFER_CNT` (R471). -/
def Obj.clockDeferCnt : Obj := ⟨0x7401, 0x0D, .u32, .ro, .none, 0, .any⟩
/-- `CLOCK_FAIL_CNT` (R471). -/
def Obj.clockFailCnt : Obj := ⟨0x7401, 0x0E, .u32, .ro, .none, 0, .any⟩
/-- `OPT_RESTART_CNT` (R471). -/
def Obj.optRestartCnt : Obj := ⟨0x7401, 0x0F, .u32, .ro, .none, 0, .any⟩
/-- `VIO_DROP_CNT` (R471). -/
def Obj.vioDropCnt : Obj := ⟨0x7401, 0x10, .u32, .ro, .none, 0, .any⟩
/-- `FAULT_SUMMARY` (R489). -/
def Obj.faultSummary : Obj := ⟨0x7500, 0x01, .u32, .ro, .none, 0, .any⟩
/-- `FAULT_LIST` (R489). -/
def Obj.faultList : Obj := ⟨0x7500, 0x02, .domain, .ro, .none, 0, .any⟩
/-- `FAULT_CLEAR` (R489). -/
def Obj.faultClear : Obj := ⟨0x7500, 0x03, .u32, .cmd, .immediate, 0, .any⟩
/-- `FAULT_IRQ_EN` (R489). -/
def Obj.faultIrqEn : Obj := ⟨0x7500, 0x04, .u8, .rw, .immediate, 7, .mask 0x7⟩
/-- `FAULT_BELL_EN` (R489). -/
def Obj.faultBellEn : Obj := ⟨0x7500, 0x05, .u8, .rw, .immediate, 6, .mask 0x7⟩
/-- `FAULT_SEQ` (R489). -/
def Obj.faultSeq : Obj := ⟨0x7500, 0x06, .u16, .ro, .none, 0, .any⟩
/-- `FAULT_LOST_CNT` (R489). -/
def Obj.faultLostCnt : Obj := ⟨0x7500, 0x07, .u32, .ro, .none, 0, .any⟩
/-- `FAULT_EVENT_CNT` (R489). -/
def Obj.faultEventCnt : Obj := ⟨0x7500, 0x08, .u32, .ro, .none, 0, .any⟩
/-- `QUARANTINE_CAUSE` (R489). -/
def Obj.quarantineCause : Obj := ⟨0x7500, 0x09, .u64, .ro, .none, 0, .any⟩
/-- `FAULT_SRC_CNT` of source 0x01 (R490). -/
def Obj.faultSrcCnt : Obj := ⟨0x7520, 0x01, .u32, .ro, .none, 0, .any⟩
/-- `FAULT_INJECT` (R491). -/
def Obj.faultInject : Obj := ⟨0xF100, 0x01, .u64, .cmd, .immediate, 0, .any⟩
/-- `INJECT_RESULT` (R491). -/
def Obj.injectResult : Obj := ⟨0xF100, 0x02, .u8, .ro, .none, 0, .any⟩
/-- `INJECT_CNT` (R491). -/
def Obj.injectCnt : Obj := ⟨0xF100, 0x03, .u32, .ro, .none, 0, .any⟩
/-- `GW_UV` (R507). -/
def Obj.gwUv : Obj := ⟨0x7800, 0x01, .u16, .rwl, .immediate, 19200, .range 16000 24000⟩
/-- `GW_UV_HYST` (R507). -/
def Obj.gwUvHyst : Obj := ⟨0x7800, 0x02, .u16, .rwl, .immediate, 1400, .range 200 3000⟩
/-- `GW_OV` (R507). -/
def Obj.gwOv : Obj := ⟨0x7800, 0x03, .u16, .rwl, .immediate, 31500, .range 26000 34000⟩
/-- `GW_OV_HYST` (R507). -/
def Obj.gwOvHyst : Obj := ⟨0x7800, 0x04, .u16, .rwl, .immediate, 800, .range 200 2000⟩
/-- `GW_INSERT_DELAY` (R507). -/
def Obj.gwInsertDelay : Obj := ⟨0x7800, 0x05, .u16, .rwl, .immediate, 200, .range 10 2000⟩
/-- `GW_RESTART_DELAY` (R507). -/
def Obj.gwRestartDelay : Obj := ⟨0x7800, 0x06, .u16, .rwl, .immediate, 50, .range 10 2000⟩
/-- `GW_VCL` (R507). -/
def Obj.gwVcl : Obj := ⟨0x7800, 0x07, .u8, .rwl, .immediate, 25, .range 10 50⟩
/-- `GW_FAULT_TIME` (R507). -/
def Obj.gwFaultTime : Obj := ⟨0x7800, 0x08, .u16, .rwl, .immediate, 4000, .range 100 20000⟩
/-- `GW_RAMP_MAX` (R507). -/
def Obj.gwRampMax : Obj := ⟨0x7800, 0x09, .u16, .rwl, .immediate, 100, .range 10 1000⟩
/-- `GW_RSNS` (R507). -/
def Obj.gwRsns : Obj := ⟨0x7800, 0x0A, .u32, .rwl, .immediate, 10000, .range 1000 100000⟩
/-- `GW_RTH1` (R507). -/
def Obj.gwRth1 : Obj := ⟨0x7800, 0x0B, .u32, .rwl, .immediate, 500, .any⟩
/-- `GW_TAU1` (R507). -/
def Obj.gwTau1 : Obj := ⟨0x7800, 0x0C, .u32, .rwl, .immediate, 5000, .any⟩
/-- `GW_RTH2` (R507). -/
def Obj.gwRth2 : Obj := ⟨0x7800, 0x0D, .u32, .rwl, .immediate, 40000, .any⟩
/-- `GW_TAU2` (R507). -/
def Obj.gwTau2 : Obj := ⟨0x7800, 0x0E, .u32, .rwl, .immediate, 400000, .any⟩
/-- `GW_T_BASE` (R507). -/
def Obj.gwTBase : Obj := ⟨0x7800, 0x0F, .i16, .rwl, .immediate, 70, .any⟩
/-- `GW_T_TRIP` (R507). -/
def Obj.gwTTrip : Obj := ⟨0x7800, 0x10, .i16, .rwl, .immediate, 150, .srange (-32768) (175)⟩
/-- `GW_T_RESTART` (R507). -/
def Obj.gwTRestart : Obj := ⟨0x7800, 0x11, .i16, .rwl, .immediate, 100, .any⟩
/-- `GW_COOLDOWN` (R507). -/
def Obj.gwCooldown : Obj := ⟨0x7800, 0x12, .u16, .rwl, .immediate, 1500, .range 100 10000⟩
/-- `GW_VIN_RATIO` (R507). -/
def Obj.gwVinRatio : Obj := ⟨0x7800, 0x13, .u16, .rwl, .immediate, 3200, .range 1000 4000⟩
/-- `GW_STATE` (R508). -/
def Obj.gwState : Obj := ⟨0x7801, 0x01, .u8, .ro, .none, 0, .any⟩
/-- `GW_STATUS` (R508). -/
def Obj.gwStatus : Obj := ⟨0x7801, 0x02, .u16, .ro, .none, 0, .any⟩
/-- `GW_VIN_MEAS` (R508). -/
def Obj.gwVinMeas : Obj := ⟨0x7801, 0x03, .u16, .ro, .none, 0, .any⟩
/-- `GW_VOUT_MEAS` (R508). -/
def Obj.gwVoutMeas : Obj := ⟨0x7801, 0x04, .u16, .ro, .none, 0, .any⟩
/-- `GW_I_MEAS` (R508). -/
def Obj.gwIMeas : Obj := ⟨0x7801, 0x05, .u16, .ro, .none, 0, .any⟩
/-- `GW_T_EST` (R508). -/
def Obj.gwTEst : Obj := ⟨0x7801, 0x06, .i16, .ro, .none, 0, .any⟩
/-- `GW_T_DIODE` (R508). -/
def Obj.gwTDiode : Obj := ⟨0x7801, 0x07, .i16, .ro, .none, 32768, .any⟩
/-- `GW_FT_MEAS` (R508). -/
def Obj.gwFtMeas : Obj := ⟨0x7801, 0x08, .u16, .ro, .none, 0, .any⟩
/-- `GW_LAST_EVENT` (R508). -/
def Obj.gwLastEvent : Obj := ⟨0x7801, 0x09, .u32, .ro, .none, 0, .any⟩
/-- `GW_TRIP_CNT` (R508). -/
def Obj.gwTripCnt : Obj := ⟨0x7801, 0x0A, .u32, .ro, .none, 0, .any⟩
/-- `GW_DROP_CNT` (R508). -/
def Obj.gwDropCnt : Obj := ⟨0x7801, 0x0B, .u32, .ro, .none, 0, .any⟩
/-- `GW_PEAK_T` (R508). -/
def Obj.gwPeakT : Obj := ⟨0x7801, 0x0C, .i16, .ro, .none, 0, .any⟩
/-- `VENDOR_ID` (R536). -/
def Obj.vendorId : Obj := ⟨0x1000, 0x01, .u32, .ro, .none, 3765, .any⟩
/-- `DEVICE_ID` (R536). -/
def Obj.deviceId : Obj := ⟨0x1000, 0x02, .u16, .ro, .none, 114, .any⟩
/-- `SILICON_REV` (R536). -/
def Obj.siliconRev : Obj := ⟨0x1000, 0x03, .u8, .ro, .none, 0, .any⟩
/-- `SERIAL_NUMBER` (R536). -/
def Obj.serialNumber : Obj := ⟨0x1000, 0x04, .u64, .ro, .none, 0, .any⟩
/-- `FW_GEN` (R536). -/
def Obj.fwGen : Obj := ⟨0x1000, 0x05, .u16, .ro, .none, 0, .any⟩
/-- `FW_VERSION` (R536). -/
def Obj.fwVersion : Obj := ⟨0x1000, 0x06, .str, .ro, .none, 0, .any⟩
/-- `DICT_FORMAT` (R536). -/
def Obj.dictFormat : Obj := ⟨0x1000, 0x07, .u16, .ro, .none, 1, .any⟩
/-- `NODE_NUMBER` (R536). -/
def Obj.nodeNumber : Obj := ⟨0x1001, 0x01, .u8, .ro, .none, 0, .any⟩
/-- `PAIR_NODE` (R536). -/
def Obj.pairNode : Obj := ⟨0x1001, 0x02, .u8, .rwb, .commit, 0, .special⟩
/-- `MODE` (R536). -/
def Obj.mode : Obj := ⟨0x1001, 0x03, .u8, .ro, .none, 1, .any⟩
/-- `MODE_PREV` (R536). -/
def Obj.modePrev : Obj := ⟨0x1001, 0x04, .u8, .ro, .none, 0, .any⟩
/-- `MODE_TICK` (R536). -/
def Obj.modeTick : Obj := ⟨0x1001, 0x05, .u64, .ro, .none, 0, .any⟩
/-- `MODE_CHANGE_CNT` (R536). -/
def Obj.modeChangeCnt : Obj := ⟨0x1001, 0x06, .u32, .ro, .none, 0, .any⟩
/-- `SLIPWAY_KEY` (R536). -/
def Obj.slipwayKey : Obj := ⟨0x1050, 0x01, .u64, .wo, .immediate, 0, .any⟩
/-- `OWNER_LOCK` (R537). -/
def Obj.ownerLock : Obj := ⟨0x1010, 0x01, .u64, .cmd, .immediate, 0, .any⟩
/-- `LOCK_STATE` (R537). -/
def Obj.lockState : Obj := ⟨0x1010, 0x02, .u32, .ro, .none, 0, .any⟩
/-- `LOCK_HOLDER_IP` (R537). -/
def Obj.lockHolderIp : Obj := ⟨0x1010, 0x03, .u32, .ro, .none, 0, .any⟩
/-- `OWNER_KEY` (R537). -/
def Obj.ownerKey : Obj := ⟨0x1010, 0x04, .u32, .rwl, .immediate, 0, .any⟩
/-- `LOCK_TIMEOUT` (R537). -/
def Obj.lockTimeout : Obj := ⟨0x1010, 0x05, .u16, .rwl, .immediate, 120, .range 10 3600⟩
/-- `LOCK_REFUSED_CNT` (R537). -/
def Obj.lockRefusedCnt : Obj := ⟨0x1010, 0x06, .u32, .ro, .none, 0, .any⟩
/-- `GP_IP_ADDR` (R538). -/
def Obj.gpIpAddr : Obj := ⟨0x1020, 0x01, .u32, .rwb, .immediate, 0, .any⟩
/-- `GP_NETMASK` (R538). -/
def Obj.gpNetmask : Obj := ⟨0x1020, 0x02, .u32, .rwb, .immediate, 4294901760, .any⟩
/-- `GP_HOST_ADDR` (R538). -/
def Obj.gpHostAddr : Obj := ⟨0x1020, 0x03, .u32, .rwl, .tide, 0, .any⟩
/-- `GP_MAC` (R538). -/
def Obj.gpMac : Obj := ⟨0x1020, 0x04, .u64, .ro, .none, 0, .any⟩
/-- `GP_IP_IN_USE` (R538). -/
def Obj.gpIpInUse : Obj := ⟨0x1020, 0x05, .u32, .ro, .none, 0, .any⟩
/-- `GP_LINK` (R538). -/
def Obj.gpLink : Obj := ⟨0x1020, 0x06, .u8, .ro, .none, 0, .any⟩
/-- `GP_RX_CNT` (R538). -/
def Obj.gpRxCnt : Obj := ⟨0x1020, 0x07, .u32, .ro, .none, 0, .any⟩
/-- `GP_TX_CNT` (R538). -/
def Obj.gpTxCnt : Obj := ⟨0x1020, 0x08, .u32, .ro, .none, 0, .any⟩
/-- `GP_DROP_CNT` (R538). -/
def Obj.gpDropCnt : Obj := ⟨0x1020, 0x09, .u32, .ro, .none, 0, .any⟩
/-- `GP_ROLE_REFUSED_CNT` (R538). -/
def Obj.gpRoleRefusedCnt : Obj := ⟨0x1020, 0x0A, .u32, .ro, .none, 0, .any⟩
/-- `SEG_TIMEOUT` (R539). -/
def Obj.segTimeout : Obj := ⟨0x1030, 0x01, .u16, .rw, .tide, 100, .range 10 10000⟩
/-- `SEG_OPEN` (R539). -/
def Obj.segOpen : Obj := ⟨0x1030, 0x02, .u8, .ro, .none, 0, .any⟩
/-- `SEG_BUF_FREE` (R539). -/
def Obj.segBufFree : Obj := ⟨0x1030, 0x03, .u32, .ro, .none, 65536, .any⟩
/-- `SEG_TIMEOUT_CNT` (R539). -/
def Obj.segTimeoutCnt : Obj := ⟨0x1030, 0x04, .u32, .ro, .none, 0, .any⟩
/-- `DICT_REQ_CNT` (R539). -/
def Obj.dictReqCnt : Obj := ⟨0x1030, 0x05, .u32, .ro, .none, 0, .any⟩
/-- `DICT_REFUSED_CNT` (R539). -/
def Obj.dictRefusedCnt : Obj := ⟨0x1030, 0x06, .u32, .ro, .none, 0, .any⟩
/-- `DICT_LAST_ERR` (R539). -/
def Obj.dictLastErr : Obj := ⟨0x1030, 0x07, .u64, .ro, .none, 0, .any⟩
/-- `SAVED_SOURCE` (R539). -/
def Obj.savedSource : Obj := ⟨0x1040, 0x01, .u8, .ro, .none, 0, .any⟩
/-- `SAVED_TICK` (R539). -/
def Obj.savedTick : Obj := ⟨0x1040, 0x02, .u64, .ro, .none, 0, .any⟩
/-- `SAVED_LEN` (R539). -/
def Obj.savedLen : Obj := ⟨0x1040, 0x03, .u32, .ro, .none, 0, .any⟩
/-- `UPD_CMD` (R554). -/
def Obj.updCmd : Obj := ⟨0x7900, 0x01, .u8, .cmd, .immediate, 0, .any⟩
/-- `UPD_CHUNK` (R554). -/
def Obj.updChunk : Obj := ⟨0x7900, 0x02, .domain, .wo, .immediate, 0, .any⟩
/-- `UPD_RESULT` (R554). -/
def Obj.updResult : Obj := ⟨0x7900, 0x03, .u32, .ro, .none, 0, .any⟩
/-- `UPD_STATE` (R554). -/
def Obj.updState : Obj := ⟨0x7900, 0x04, .u8, .ro, .none, 0, .any⟩
/-- `UPD_RECEIVED` (R554). -/
def Obj.updReceived : Obj := ⟨0x7900, 0x05, .u32, .ro, .none, 0, .any⟩
/-- `UPD_TOTAL` (R554). -/
def Obj.updTotal : Obj := ⟨0x7900, 0x06, .u32, .ro, .none, 0, .any⟩
/-- `UPD_END_CAUSE` (R554). -/
def Obj.updEndCause : Obj := ⟨0x7900, 0x07, .u8, .ro, .none, 0, .any⟩
/-- `UPD_TRIAL_LEFT` (R554). -/
def Obj.updTrialLeft : Obj := ⟨0x7900, 0x08, .u16, .ro, .none, 0, .any⟩
/-- `UPD_GUARDS` (R554). -/
def Obj.updGuards : Obj := ⟨0x7900, 0x09, .u8, .ro, .none, 0, .any⟩
/-- `SLOT_ACTIVE` (R554). -/
def Obj.slotActive : Obj := ⟨0x7901, 0x01, .u8, .ro, .none, 0, .any⟩
/-- `SLOT_INFO` (R554). -/
def Obj.slotInfo : Obj := ⟨0x7901, 0x02, .domain, .ro, .none, 0, .any⟩
/-- `BOOT_REC_SEQ` (R554). -/
def Obj.bootRecSeq : Obj := ⟨0x7901, 0x03, .u32, .ro, .none, 0, .any⟩
/-- `UPD_ACTIVATE_CNT` (R554). -/
def Obj.updActivateCnt : Obj := ⟨0x7901, 0x04, .u32, .ro, .none, 0, .any⟩
/-- `UPD_REVERT_CNT` (R554). -/
def Obj.updRevertCnt : Obj := ⟨0x7901, 0x05, .u32, .ro, .none, 0, .any⟩
/-- `UPD_GUARD_END_CNT` (R554). -/
def Obj.updGuardEndCnt : Obj := ⟨0x7901, 0x06, .u32, .ro, .none, 0, .any⟩
/-- `RELAY_FRAME_CNT` (R554). -/
def Obj.relayFrameCnt : Obj := ⟨0x7901, 0x07, .u32, .ro, .none, 0, .any⟩
/-- `RELAY_ERR_CNT` (R554). -/
def Obj.relayErrCnt : Obj := ⟨0x7901, 0x08, .u32, .ro, .none, 0, .any⟩
/-- `VIO_LEVEL` (R583). -/
def Obj.vioLevel : Obj := ⟨0x5000, 0x01, .u8, .ro, .none, 0, .any⟩
/-- `DIE_TEMP` (R583). -/
def Obj.dieTemp : Obj := ⟨0x5000, 0x02, .i16, .ro, .none, 0, .any⟩
/-- `DIE_TEMP_MAX` (R583). -/
def Obj.dieTempMax : Obj := ⟨0x5000, 0x03, .i16, .ro, .none, 32768, .any⟩
/-- `PAD_CFG`, unit u (R583). -/
def Obj.padCfg (u : Nat) : Obj := ⟨0x5100 + u, 0x01, .u8, .rwl, .tide, 9, .mask 0x1F⟩

/-- Rows of the object table, part 0. -/
def objRows0 : List ObjRow := [
  ⟨Obj.tidePlanStage, 1, 0, 1⟩,
  ⟨Obj.tidePlanCommit, 1, 0, 1⟩,
  ⟨Obj.tidePlanResult, 1, 0, 1⟩,
  ⟨Obj.tideGenActive, 1, 0, 1⟩,
  ⟨Obj.tideGenArmed, 1, 0, 1⟩,
  ⟨Obj.tideActTick, 1, 0, 1⟩,
  ⟨Obj.tidePlanActive, 1, 0, 1⟩,
  ⟨Obj.tickNumber, 1, 0, 1⟩,
  ⟨Obj.tickCode, 1, 0, 1⟩,
  ⟨Obj.ringTransitMeas, 1, 0, 1⟩,
  ⟨Obj.tideWriteQueue, 1, 0, 1⟩,
  ⟨Obj.staleTideCnt, 1, 0, 1⟩,
  ⟨Obj.schedAbsorbedCnt, 1, 0, 1⟩,
  ⟨Obj.schedMissingCnt, 1, 0, 1⟩,
  ⟨Obj.schedLastMissing, 1, 0, 1⟩,
  ⟨Obj.schedPoisonedCnt, 1, 0, 1⟩,
  ⟨Obj.asyncDeferCnt, 1, 0, 1⟩,
  ⟨Obj.genMismatchCnt, 1, 0, 1⟩,
  ⟨Obj.schedUnknownCnt, 1, 0, 1⟩,
  ⟨Obj.schedDropCnt, 1, 0, 1⟩,
  ⟨Obj.rxState 0, 3, 256, 1⟩,
  ⟨Obj.txState 0, 3, 256, 1⟩,
  ⟨Obj.dirStatus 0, 3, 256, 1⟩,
  ⟨Obj.rxSet 0, 3, 256, 1⟩,
  ⟨Obj.txSet 0, 3, 256, 1⟩,
  ⟨Obj.admin 0, 3, 256, 1⟩,
  ⟨Obj.presetInit 0, 3, 256, 1⟩,
  ⟨Obj.spareEbb 0, 3, 256, 1⟩,
  ⟨Obj.bringupTo 0, 3, 256, 1⟩,
  ⟨Obj.laneErrLimit 0, 3, 256, 1⟩]

/-- Rows of the object table, part 1. -/
def objRows1 : List ObjRow := [
  ⟨Obj.returnHold 0, 3, 256, 1⟩,
  ⟨Obj.loopMode 0, 3, 256, 1⟩,
  ⟨Obj.farLoopAccept 0, 3, 256, 1⟩,
  ⟨Obj.prbsCtrl 0, 3, 256, 1⟩,
  ⟨Obj.retrain 0, 3, 256, 1⟩,
  ⟨Obj.harbourResult 0, 3, 256, 1⟩,
  ⟨Obj.farHarbour 0, 3, 256, 1⟩,
  ⟨Obj.downCnt 0, 3, 256, 1⟩,
  ⟨Obj.retrainCnt 0, 3, 256, 1⟩,
  ⟨Obj.spareSwitchCnt 0, 3, 256, 1⟩,
  ⟨Obj.controlErrCnt 0, 3, 256, 1⟩,
  ⟨Obj.bringupUs 0, 3, 256, 1⟩,
  ⟨Obj.elasticAdjCnt 0, 3, 256, 1⟩,
  ⟨Obj.laneState 0 0, 2, 256, 5⟩, ⟨Obj.laneState 2 0, 1, 0, 1⟩,
  ⟨Obj.failCause 0 0, 2, 256, 5⟩, ⟨Obj.failCause 2 0, 1, 0, 1⟩,
  ⟨Obj.syncErrCnt 0 0, 2, 256, 5⟩, ⟨Obj.syncErrCnt 2 0, 1, 0, 1⟩,
  ⟨Obj.txTaps 0 0, 2, 256, 5⟩, ⟨Obj.txTaps 2 0, 1, 0, 1⟩,
  ⟨Obj.rxPolarity 0 0, 2, 256, 5⟩, ⟨Obj.rxPolarity 2 0, 1, 0, 1⟩,
  ⟨Obj.prbsErr 0 0, 2, 256, 5⟩, ⟨Obj.prbsErr 2 0, 1, 0, 1⟩,
  ⟨Obj.laneRetrain 0 0, 2, 256, 5⟩, ⟨Obj.laneRetrain 2 0, 1, 0, 1⟩,
  ⟨Obj.clkState 0, 3, 256, 1⟩,
  ⟨Obj.clkLossCnt 0, 3, 256, 1⟩,
  ⟨Obj.ringMap, 1, 0, 1⟩,
  ⟨Obj.ringNodes, 1, 0, 1⟩,
  ⟨Obj.ringClosed, 1, 0, 1⟩,
  ⟨Obj.downDirs, 1, 0, 1⟩,
  ⟨Obj.spanNoticeCnt, 1, 0, 1⟩,
  ⟨Obj.unreachableCnt, 1, 0, 1⟩,
  ⟨Obj.surveySeq, 1, 0, 1⟩,
  ⟨Obj.calEnable 0, 3, 256, 1⟩]

/-- Rows of the object table, part 2. -/
def objRows2 : List ObjRow := [
  ⟨Obj.calInterval 0, 3, 256, 1⟩,
  ⟨Obj.calIntervalLow 0, 3, 256, 1⟩,
  ⟨Obj.calGainMin 0, 3, 256, 1⟩,
  ⟨Obj.eyeWarnH 0, 3, 256, 1⟩,
  ⟨Obj.eyeWarnV 0, 3, 256, 1⟩,
  ⟨Obj.eyeFailH 0, 3, 256, 1⟩,
  ⟨Obj.eyeFailV 0, 3, 256, 1⟩,
  ⟨Obj.calKeepCnt 0, 3, 256, 1⟩,
  ⟨Obj.calRevertCnt 0, 3, 256, 1⟩,
  ⟨Obj.calAbandonCnt 0, 3, 256, 1⟩,
  ⟨Obj.pstepSum 0, 3, 256, 1⟩,
  ⟨Obj.farPstepSum 0, 3, 256, 1⟩,
  ⟨Obj.asymFixed 0, 2, 512, 1⟩, ⟨Obj.asymFixedWest, 1, 0, 1⟩,
  ⟨Obj.qMean 0, 3, 256, 1⟩,
  ⟨Obj.qFarMean 0, 3, 256, 1⟩,
  ⟨Obj.asymSpan 0, 3, 256, 1⟩,
  ⟨Obj.asymEst 0, 3, 256, 1⟩,
  ⟨Obj.asymApplied 0, 3, 256, 1⟩,
  ⟨Obj.asymSamples 0, 3, 256, 1⟩,
  ⟨Obj.asymState 0, 3, 256, 1⟩,
  ⟨Obj.eyeH 0 0, 2, 256, 5⟩, ⟨Obj.eyeH 2 0, 1, 0, 1⟩,
  ⟨Obj.eyeV 0 0, 2, 256, 5⟩, ⟨Obj.eyeV 2 0, 1, 0, 1⟩,
  ⟨Obj.eyeMap 0 0, 2, 256, 5⟩, ⟨Obj.eyeMap 2 0, 1, 0, 1⟩,
  ⟨Obj.samplerPos 0 0, 2, 256, 5⟩, ⟨Obj.samplerPos 2 0, 1, 0, 1⟩,
  ⟨Obj.ctleCode 0 0, 2, 256, 5⟩, ⟨Obj.ctleCode 2 0, 1, 0, 1⟩,
  ⟨Obj.dfeTaps 0 0, 2, 256, 5⟩, ⟨Obj.dfeTaps 2 0, 1, 0, 1⟩,
  ⟨Obj.trialState 0 0, 2, 256, 5⟩, ⟨Obj.trialState 2 0, 1, 0, 1⟩,
  ⟨Obj.trialNext 0 0, 2, 256, 5⟩, ⟨Obj.trialNext 2 0, 1, 0, 1⟩,
  ⟨Obj.mapCnt 0 0, 2, 256, 5⟩, ⟨Obj.mapCnt 2 0, 1, 0, 1⟩,
  ⟨Obj.lowMarginCnt 0 0, 2, 256, 5⟩, ⟨Obj.lowMarginCnt 2 0, 1, 0, 1⟩]

/-- Rows of the object table, part 3. -/
def objRows3 : List ObjRow := [
  ⟨Obj.pstepCnt 0 0, 2, 256, 5⟩, ⟨Obj.pstepCnt 2 0, 1, 0, 1⟩,
  ⟨Obj.asymRingM, 1, 0, 1⟩,
  ⟨Obj.asymRingRt, 1, 0, 1⟩,
  ⟨Obj.asymRingF, 1, 0, 1⟩,
  ⟨Obj.asymResid, 1, 0, 1⟩,
  ⟨Obj.asymResidLimit, 1, 0, 1⟩,
  ⟨Obj.asymSlew, 1, 0, 1⟩,
  ⟨Obj.asymFreeze, 1, 0, 1⟩,
  ⟨Obj.asymWindow, 1, 0, 1⟩,
  ⟨Obj.asymFrozenCnt, 1, 0, 1⟩,
  ⟨Obj.lingerTicks, 1, 0, 1⟩,
  ⟨Obj.stallTicks, 1, 0, 1⟩,
  ⟨Obj.outShareMax, 1, 0, 1⟩,
  ⟨Obj.rowCeLimit, 1, 0, 1⟩,
  ⟨Obj.holdFree, 1, 0, 1⟩,
  ⟨Obj.sharedUsed, 1, 0, 1⟩,
  ⟨Obj.sharedPeak, 1, 0, 1⟩,
  ⟨Obj.baysRetired, 1, 0, 1⟩,
  ⟨Obj.baysRetiring, 1, 0, 1⟩,
  ⟨Obj.spareRowsLeft, 1, 0, 1⟩,
  ⟨Obj.rowsSparedCnt, 1, 0, 1⟩,
  ⟨Obj.holdCeCnt, 1, 0, 1⟩,
  ⟨Obj.holdUeCnt, 1, 0, 1⟩,
  ⟨Obj.lastWornRow, 1, 0, 1⟩,
  ⟨Obj.headerDiscardCnt, 1, 0, 1⟩,
  ⟨Obj.destDisabledCnt, 1, 0, 1⟩,
  ⟨Obj.staleManifestCnt, 1, 0, 1⟩,
  ⟨Obj.lingerDiscardCnt, 1, 0, 1⟩,
  ⟨Obj.orphanWordCnt, 1, 0, 1⟩,
  ⟨Obj.lengthErrCnt, 1, 0, 1⟩]

/-- Rows of the object table, part 4. -/
def objRows4 : List ObjRow := [
  ⟨Obj.truncatedCnt, 1, 0, 1⟩,
  ⟨Obj.ttlExpiredCnt, 1, 0, 1⟩,
  ⟨Obj.discardLast, 1, 0, 1⟩,
  ⟨Obj.dportEnable, 1, 0, 1⟩,
  ⟨Obj.class11Cnt, 1, 0, 1⟩,
  ⟨Obj.payloadCrcCnt, 1, 0, 1⟩,
  ⟨Obj.partUsed 0, 1, 0, 8⟩,
  ⟨Obj.partLimit 0, 1, 0, 8⟩,
  ⟨Obj.credit 0, 1, 0, 8⟩,
  ⟨Obj.farLimit 0, 1, 0, 8⟩,
  ⟨Obj.outShared 0, 1, 0, 8⟩,
  ⟨Obj.outState 0, 1, 0, 8⟩,
  ⟨Obj.lingerFrames 0, 1, 0, 8⟩,
  ⟨Obj.lingerCnt 0, 1, 0, 8⟩,
  ⟨Obj.lingerDiscCnt 0, 1, 0, 8⟩,
  ⟨Obj.stallCnt 0, 1, 0, 8⟩,
  ⟨Obj.framesInCnt 0, 1, 0, 8⟩,
  ⟨Obj.framesOutCnt 0, 1, 0, 8⟩,
  ⟨Obj.reseqPeak 0, 1, 0, 8⟩,
  ⟨Obj.auditPassCnt, 1, 0, 1⟩,
  ⟨Obj.auditPos, 1, 0, 1⟩,
  ⟨Obj.leakCnt, 1, 0, 1⟩,
  ⟨Obj.lastLeak, 1, 0, 1⟩,
  ⟨Obj.auditMismatchCnt, 1, 0, 1⟩,
  ⟨Obj.auditLastSum, 1, 0, 1⟩,
  ⟨Obj.prefetchEn, 1, 0, 1⟩,
  ⟨Obj.prefetchDepth, 1, 0, 1⟩,
  ⟨Obj.prefetchHold, 1, 0, 1⟩,
  ⟨Obj.readTimeout, 1, 0, 1⟩,
  ⟨Obj.targetWait, 1, 0, 1⟩]

/-- Rows of the object table, part 5. -/
def objRows5 : List ObjRow := [
  ⟨Obj.tagsFree, 1, 0, 1⟩,
  ⟨Obj.inboundUsed, 1, 0, 1⟩,
  ⟨Obj.msgRoute, 1, 0, 1⟩,
  ⟨Obj.postedOutCnt, 1, 0, 1⟩,
  ⟨Obj.postedInCnt, 1, 0, 1⟩,
  ⟨Obj.reqOutCnt, 1, 0, 1⟩,
  ⟨Obj.reqInCnt, 1, 0, 1⟩,
  ⟨Obj.refusedInCnt, 1, 0, 1⟩,
  ⟨Obj.refusedOutCnt, 1, 0, 1⟩,
  ⟨Obj.orderRefusedCnt, 1, 0, 1⟩,
  ⟨Obj.timeoutCnt, 1, 0, 1⟩,
  ⟨Obj.lateResponseCnt, 1, 0, 1⟩,
  ⟨Obj.refusalLostCnt, 1, 0, 1⟩,
  ⟨Obj.prefetchHitCnt, 1, 0, 1⟩,
  ⟨Obj.prefetchDiscardCnt, 1, 0, 1⟩,
  ⟨Obj.rollbackCnt, 1, 0, 1⟩,
  ⟨Obj.sideEffectDiscardCnt, 1, 0, 1⟩,
  ⟨Obj.lastRefusal, 1, 0, 1⟩,
  ⟨Obj.lastSideEffectAddr, 1, 0, 1⟩,
  ⟨Obj.manifestStage, 1, 0, 1⟩,
  ⟨Obj.manifestDisable, 1, 0, 1⟩,
  ⟨Obj.manifestCommit, 1, 0, 1⟩,
  ⟨Obj.manifestResult, 1, 0, 1⟩,
  ⟨Obj.manifestGen, 1, 0, 1⟩,
  ⟨Obj.manReadIndex, 1, 0, 1⟩,
  ⟨Obj.manReadEntry, 1, 0, 1⟩,
  ⟨Obj.manEntriesUsed, 1, 0, 1⟩,
  ⟨Obj.manLookupCnt, 1, 0, 1⟩,
  ⟨Obj.manMissCnt, 1, 0, 1⟩,
  ⟨Obj.manSizeDropCnt, 1, 0, 1⟩]

/-- Rows of the object table, part 6. -/
def objRows6 : List ObjRow := [
  ⟨Obj.manLastMiss, 1, 0, 1⟩,
  ⟨Obj.craneState 0, 1, 0, 64⟩,
  ⟨Obj.craneCmd 0, 1, 0, 64⟩,
  ⟨Obj.craneCtrl 0, 1, 0, 64⟩,
  ⟨Obj.clkDiv 0, 1, 0, 64⟩,
  ⟨Obj.tallyBase 0, 1, 0, 64⟩,
  ⟨Obj.tallyLen 0, 1, 0, 64⟩,
  ⟨Obj.entry 0, 1, 0, 64⟩,
  ⟨Obj.wrap 0, 1, 0, 64⟩,
  ⟨Obj.pinOut 0, 1, 0, 64⟩,
  ⟨Obj.pinIn 0, 1, 0, 64⟩,
  ⟨Obj.pinSide 0, 1, 0, 64⟩,
  ⟨Obj.pinWait 0, 1, 0, 64⟩,
  ⟨Obj.pinInit 0, 1, 0, 64⟩,
  ⟨Obj.pc 0, 1, 0, 64⟩,
  ⟨Obj.regX 0, 1, 0, 64⟩,
  ⟨Obj.regY 0, 1, 0, 64⟩,
  ⟨Obj.regLc 0, 1, 0, 64⟩,
  ⟨Obj.regSir 0, 1, 0, 64⟩,
  ⟨Obj.regSor 0, 1, 0, 64⟩,
  ⟨Obj.regScop 0, 1, 0, 64⟩,
  ⟨Obj.shiftState 0, 1, 0, 64⟩,
  ⟨Obj.shiftPart 0, 1, 0, 64⟩,
  ⟨Obj.haltInfo 0, 1, 0, 64⟩,
  ⟨Obj.faultCause 0, 1, 0, 64⟩,
  ⟨Obj.staleCnt 0, 1, 0, 64⟩,
  ⟨Obj.pushDropCnt 0, 1, 0, 64⟩,
  ⟨Obj.poisonPullCnt 0, 1, 0, 64⟩,
  ⟨Obj.frameErrCnt 0, 1, 0, 64⟩,
  ⟨Obj.shiftDiscardCnt 0, 1, 0, 64⟩]

/-- Rows of the object table, part 7. -/
def objRows7 : List ObjRow := [
  ⟨Obj.lateHaltCnt 0, 1, 0, 64⟩,
  ⟨Obj.noticeCnt 0, 1, 0, 64⟩,
  ⟨Obj.quayCommit 0, 1, 0, 4⟩,
  ⟨Obj.quayResult 0, 1, 0, 4⟩,
  ⟨Obj.quayFlags 0, 1, 0, 4⟩,
  ⟨Obj.quayIrq 0, 1, 0, 4⟩,
  ⟨Obj.quayIrqEn 0, 1, 0, 4⟩,
  ⟨Obj.quayToff 0, 1, 0, 4⟩,
  ⟨Obj.gangStart, 1, 0, 1⟩,
  ⟨Obj.gangHalt, 1, 0, 1⟩,
  ⟨Obj.clockRestart, 1, 0, 1⟩,
  ⟨Obj.gangRefused, 1, 0, 1⟩,
  ⟨Obj.tallyLoad, 1, 0, 1⟩,
  ⟨Obj.tallyReadAddr, 1, 0, 1⟩,
  ⟨Obj.tallyReadData, 1, 0, 1⟩,
  ⟨Obj.tallyResult, 1, 0, 1⟩,
  ⟨Obj.tallyPageMap, 1, 0, 1⟩,
  ⟨Obj.pageIndex, 1, 0, 1⟩,
  ⟨Obj.pageOwners, 1, 0, 1⟩,
  ⟨Obj.pagesFree, 1, 0, 1⟩,
  ⟨Obj.pagesWorn, 1, 0, 1⟩,
  ⟨Obj.freeRun, 1, 0, 1⟩,
  ⟨Obj.stageLoad, 1, 0, 1⟩,
  ⟨Obj.stageRead, 1, 0, 1⟩,
  ⟨Obj.swapReq, 1, 0, 1⟩,
  ⟨Obj.swapCmd, 1, 0, 1⟩,
  ⟨Obj.swapState, 1, 0, 1⟩,
  ⟨Obj.stageWorn, 1, 0, 1⟩,
  ⟨Obj.swapCnt, 1, 0, 1⟩,
  ⟨Obj.swapTick, 1, 0, 1⟩]

/-- Rows of the object table, part 8. -/
def objRows8 : List ObjRow := [
  ⟨Obj.tallyCePasses, 1, 0, 1⟩,
  ⟨Obj.scrubPassCnt, 1, 0, 1⟩,
  ⟨Obj.tallyCeCnt, 1, 0, 1⟩,
  ⟨Obj.tallyUeCnt, 1, 0, 1⟩,
  ⟨Obj.lastTallyErr, 1, 0, 1⟩,
  ⟨Obj.fifoStatus 0, 1, 0, 64⟩,
  ⟨Obj.noticeEn 0, 1, 0, 64⟩,
  ⟨Obj.noticePend 0, 1, 0, 64⟩,
  ⟨Obj.diagLevel 0, 1, 0, 64⟩,
  ⟨Obj.diagHitCnt 0, 1, 0, 64⟩,
  ⟨Obj.rxFrameCnt 0, 1, 0, 64⟩,
  ⟨Obj.txFrameCnt 0, 1, 0, 64⟩,
  ⟨Obj.fifoCeCnt 0, 1, 0, 64⟩,
  ⟨Obj.fifoUeCnt 0, 1, 0, 64⟩,
  ⟨Obj.tagErrCnt 0, 1, 0, 64⟩,
  ⟨Obj.schedTruncCnt 0, 1, 0, 64⟩,
  ⟨Obj.fifoFlush 0, 1, 0, 64⟩,
  ⟨Obj.flushLostCnt 0, 1, 0, 64⟩,
  ⟨Obj.fifoCeWarn, 1, 0, 1⟩,
  ⟨Obj.noticeSummary, 1, 0, 1⟩,
  ⟨Obj.chkStatus 0, 1, 0, 4⟩,
  ⟨Obj.chkResult 0, 1, 0, 4⟩,
  ⟨Obj.chkFeedCnt 0, 1, 0, 4⟩,
  ⟨Obj.chkWaitCnt 0, 1, 0, 4⟩,
  ⟨Obj.chkPoisonCnt 0, 1, 0, 4⟩,
  ⟨Obj.chkParityCnt 0, 1, 0, 4⟩,
  ⟨Obj.canCtrl 0, 1, 0, 8⟩,
  ⟨Obj.bitNom 0, 1, 0, 8⟩,
  ⟨Obj.bitData 0, 1, 0, 8⟩,
  ⟨Obj.bufDir 0, 1, 0, 8⟩]

/-- Rows of the object table, part 9. -/
def objRows9 : List ObjRow := [
  ⟨Obj.canFilters 0, 1, 0, 8⟩,
  ⟨Obj.canCommit 0, 1, 0, 8⟩,
  ⟨Obj.canResult 0, 1, 0, 8⟩,
  ⟨Obj.canCmd 0, 1, 0, 8⟩,
  ⟨Obj.canIrqEn 0, 1, 0, 8⟩,
  ⟨Obj.canState 0, 1, 0, 8⟩,
  ⟨Obj.errCounters 0, 1, 0, 8⟩,
  ⟨Obj.canIrq 0, 1, 0, 8⟩,
  ⟨Obj.bufPend 0, 1, 0, 8⟩,
  ⟨Obj.bufFull 0, 1, 0, 8⟩,
  ⟨Obj.queueFill 0, 1, 0, 8⟩,
  ⟨Obj.tdcMeas 0, 1, 0, 8⟩,
  ⟨Obj.lastErr 0, 1, 0, 8⟩,
  ⟨Obj.txOkCnt 0, 1, 0, 8⟩,
  ⟨Obj.rxOkCnt 0, 1, 0, 8⟩,
  ⟨Obj.errCnt 0, 1, 0, 8⟩,
  ⟨Obj.arbLostCnt 0, 1, 0, 8⟩,
  ⟨Obj.boffCnt 0, 1, 0, 8⟩,
  ⟨Obj.retryOutCnt 0, 1, 0, 8⟩,
  ⟨Obj.lateAbortCnt 0, 1, 0, 8⟩,
  ⟨Obj.rxOverrunCnt 0, 1, 0, 8⟩,
  ⟨Obj.rxqLostCnt 0, 1, 0, 8⟩,
  ⟨Obj.pilotOverrunCnt 0, 1, 0, 8⟩,
  ⟨Obj.gwInCnt 0, 1, 0, 8⟩,
  ⟨Obj.gwOfferCnt 0, 1, 0, 8⟩,
  ⟨Obj.gwFlushCnt 0, 1, 0, 8⟩,
  ⟨Obj.bufUeCnt 0, 1, 0, 8⟩,
  ⟨Obj.masterA, 1, 0, 1⟩,
  ⟨Obj.masterB, 1, 0, 1⟩,
  ⟨Obj.masterSrc, 1, 0, 1⟩]

/-- Rows of the object table, part 10. -/
def objRows10 : List ObjRow := [
  ⟨Obj.ppsDelay, 1, 0, 1⟩,
  ⟨Obj.ppsEdgeSel, 1, 0, 1⟩,
  ⟨Obj.timeSet, 1, 0, 1⟩,
  ⟨Obj.utcOffset, 1, 0, 1⟩,
  ⟨Obj.leap, 1, 0, 1⟩,
  ⟨Obj.kpShift, 1, 0, 1⟩,
  ⟨Obj.kiShift, 1, 0, 1⟩,
  ⟨Obj.lockThresh, 1, 0, 1⟩,
  ⟨Obj.unlockThresh, 1, 0, 1⟩,
  ⟨Obj.stepLimit, 1, 0, 1⟩,
  ⟨Obj.domAgeLimit, 1, 0, 1⟩,
  ⟨Obj.autoSwitch, 1, 0, 1⟩,
  ⟨Obj.slewMax, 1, 0, 1⟩,
  ⟨Obj.domainSwitch, 1, 0, 1⟩,
  ⟨Obj.switchResult, 1, 0, 1⟩,
  ⟨Obj.workDomain, 1, 0, 1⟩,
  ⟨Obj.slewRemain, 1, 0, 1⟩,
  ⟨Obj.workTime, 1, 0, 1⟩,
  ⟨Obj.steerPpb, 1, 0, 1⟩,
  ⟨Obj.switchCnt, 1, 0, 1⟩,
  ⟨Obj.autoSwitchCnt, 1, 0, 1⟩,
  ⟨Obj.stepCnt, 1, 0, 1⟩,
  ⟨Obj.domMismatchCnt, 1, 0, 1⟩,
  ⟨Obj.steerLimitCnt, 1, 0, 1⟩,
  ⟨Obj.domState 0, 1, 0, 2⟩,
  ⟨Obj.domTime 0, 1, 0, 2⟩,
  ⟨Obj.domOffset 0, 1, 0, 2⟩,
  ⟨Obj.domErr 0, 1, 0, 2⟩,
  ⟨Obj.domUpstream 0, 1, 0, 2⟩,
  ⟨Obj.domHops 0, 1, 0, 2⟩]

/-- Rows of the object table, part 11. -/
def objRows11 : List ObjRow := [
  ⟨Obj.domGmTick 0, 1, 0, 2⟩,
  ⟨Obj.domQuality 0, 1, 0, 2⟩,
  ⟨Obj.domWordsBadCnt 0, 1, 0, 2⟩,
  ⟨Obj.lockLossCnt 0, 1, 0, 2⟩,
  ⟨Obj.upstreamChgCnt 0, 1, 0, 2⟩,
  ⟨Obj.linkRt 0, 1, 0, 2⟩,
  ⟨Obj.linkDelayIn 0, 1, 0, 2⟩,
  ⟨Obj.rtSamples 0, 1, 0, 2⟩,
  ⟨Obj.txLat 0, 1, 0, 2⟩,
  ⟨Obj.rxLat 0, 1, 0, 2⟩,
  ⟨Obj.echoInvalidCnt 0, 1, 0, 2⟩,
  ⟨Obj.ppsState, 1, 0, 1⟩,
  ⟨Obj.ppsLast, 1, 0, 1⟩,
  ⟨Obj.ppsMissCnt, 1, 0, 1⟩,
  ⟨Obj.ppsRejectCnt, 1, 0, 1⟩,
  ⟨Obj.fcCtrl 0, 1, 0, 32⟩,
  ⟨Obj.fcRecCnt 0, 1, 0, 32⟩,
  ⟨Obj.fcLostCnt 0, 1, 0, 32⟩,
  ⟨Obj.coarseLogEn 0, 1, 0, 4⟩,
  ⟨Obj.coarseLostCnt 0, 1, 0, 4⟩,
  ⟨Obj.pgStartSec 0, 1, 0, 16⟩,
  ⟨Obj.pgStartNs 0, 1, 0, 16⟩,
  ⟨Obj.pgPeriod 0, 1, 0, 16⟩,
  ⟨Obj.pgWidth 0, 1, 0, 16⟩,
  ⟨Obj.pgCount 0, 1, 0, 16⟩,
  ⟨Obj.pgControl 0, 1, 0, 16⟩,
  ⟨Obj.pgStatus 0, 1, 0, 16⟩,
  ⟨Obj.pgSkipCnt 0, 1, 0, 16⟩,
  ⟨Obj.twinPos, 1, 0, 1⟩,
  ⟨Obj.giveupEn, 1, 0, 1⟩]

/-- Rows of the object table, part 12. -/
def objRows12 : List ObjRow := [
  ⟨Obj.handover, 1, 0, 1⟩,
  ⟨Obj.claimWait, 1, 0, 1⟩,
  ⟨Obj.stateSave, 1, 0, 1⟩,
  ⟨Obj.fifoUeLimit, 1, 0, 1⟩,
  ⟨Obj.ownLine, 1, 0, 1⟩,
  ⟨Obj.ready, 1, 0, 1⟩,
  ⟨Obj.selftestPass, 1, 0, 1⟩,
  ⟨Obj.selftestCycles, 1, 0, 1⟩,
  ⟨Obj.savedGen, 1, 0, 1⟩,
  ⟨Obj.slotSeq, 1, 0, 1⟩,
  ⟨Obj.saveState, 1, 0, 1⟩,
  ⟨Obj.lastGiveup, 1, 0, 1⟩,
  ⟨Obj.twinHealth, 1, 0, 1⟩,
  ⟨Obj.twinHealthAge, 1, 0, 1⟩,
  ⟨Obj.twinSavedGen, 1, 0, 1⟩,
  ⟨Obj.hbAge, 1, 0, 1⟩,
  ⟨Obj.lastGapUs, 1, 0, 1⟩,
  ⟨Obj.pickupPins, 1, 0, 1⟩,
  ⟨Obj.takeoverCnt, 1, 0, 1⟩,
  ⟨Obj.releaseCnt, 1, 0, 1⟩,
  ⟨Obj.giveupCnt, 1, 0, 1⟩,
  ⟨Obj.giveupBlockedCnt, 1, 0, 1⟩,
  ⟨Obj.noClaimCnt, 1, 0, 1⟩,
  ⟨Obj.pickupUnstableCnt, 1, 0, 1⟩,
  ⟨Obj.notWorkingCnt, 1, 0, 1⟩,
  ⟨Obj.hbMissCnt, 1, 0, 1⟩,
  ⟨Obj.copyOkCnt, 1, 0, 1⟩,
  ⟨Obj.copyErrCnt, 1, 0, 1⟩,
  ⟨Obj.twinFrameErrCnt, 1, 0, 1⟩,
  ⟨Obj.selftestFailCnt, 1, 0, 1⟩]

/-- Rows of the object table, part 13. -/
def objRows13 : List ObjRow := [
  ⟨Obj.resetCmd, 1, 0, 1⟩,
  ⟨Obj.blockReset, 1, 0, 1⟩,
  ⟨Obj.blockResetState, 1, 0, 1⟩,
  ⟨Obj.quiesceTicks, 1, 0, 1⟩,
  ⟨Obj.wdtPeriod, 1, 0, 1⟩,
  ⟨Obj.wdtKick, 1, 0, 1⟩,
  ⟨Obj.options, 1, 0, 1⟩,
  ⟨Obj.straps, 1, 0, 1⟩,
  ⟨Obj.resetCause, 1, 0, 1⟩,
  ⟨Obj.resetHistory, 1, 0, 1⟩,
  ⟨Obj.releaseUs, 1, 0, 1⟩,
  ⟨Obj.porCnt, 1, 0, 1⟩,
  ⟨Obj.gwResetCnt, 1, 0, 1⟩,
  ⟨Obj.resetnCnt, 1, 0, 1⟩,
  ⟨Obj.wdtResetCnt, 1, 0, 1⟩,
  ⟨Obj.ringResetCnt, 1, 0, 1⟩,
  ⟨Obj.twinResetCnt, 1, 0, 1⟩,
  ⟨Obj.swResetCnt, 1, 0, 1⟩,
  ⟨Obj.critResetCnt, 1, 0, 1⟩,
  ⟨Obj.forcedResetCnt, 1, 0, 1⟩,
  ⟨Obj.clockDeferCnt, 1, 0, 1⟩,
  ⟨Obj.clockFailCnt, 1, 0, 1⟩,
  ⟨Obj.optRestartCnt, 1, 0, 1⟩,
  ⟨Obj.vioDropCnt, 1, 0, 1⟩,
  ⟨Obj.faultSummary, 1, 0, 1⟩,
  ⟨Obj.faultList, 1, 0, 1⟩,
  ⟨Obj.faultClear, 1, 0, 1⟩,
  ⟨Obj.faultIrqEn, 1, 0, 1⟩,
  ⟨Obj.faultBellEn, 1, 0, 1⟩,
  ⟨Obj.faultSeq, 1, 0, 1⟩]

/-- Rows of the object table, part 14. -/
def objRows14 : List ObjRow := [
  ⟨Obj.faultLostCnt, 1, 0, 1⟩,
  ⟨Obj.faultEventCnt, 1, 0, 1⟩,
  ⟨Obj.quarantineCause, 1, 0, 1⟩,
  ⟨Obj.faultSrcCnt, 1, 0, 1⟩,
  ⟨Obj.faultInject, 1, 0, 1⟩,
  ⟨Obj.injectResult, 1, 0, 1⟩,
  ⟨Obj.injectCnt, 1, 0, 1⟩,
  ⟨Obj.gwUv, 1, 0, 1⟩,
  ⟨Obj.gwUvHyst, 1, 0, 1⟩,
  ⟨Obj.gwOv, 1, 0, 1⟩,
  ⟨Obj.gwOvHyst, 1, 0, 1⟩,
  ⟨Obj.gwInsertDelay, 1, 0, 1⟩,
  ⟨Obj.gwRestartDelay, 1, 0, 1⟩,
  ⟨Obj.gwVcl, 1, 0, 1⟩,
  ⟨Obj.gwFaultTime, 1, 0, 1⟩,
  ⟨Obj.gwRampMax, 1, 0, 1⟩,
  ⟨Obj.gwRsns, 1, 0, 1⟩,
  ⟨Obj.gwRth1, 1, 0, 1⟩,
  ⟨Obj.gwTau1, 1, 0, 1⟩,
  ⟨Obj.gwRth2, 1, 0, 1⟩,
  ⟨Obj.gwTau2, 1, 0, 1⟩,
  ⟨Obj.gwTBase, 1, 0, 1⟩,
  ⟨Obj.gwTTrip, 1, 0, 1⟩,
  ⟨Obj.gwTRestart, 1, 0, 1⟩,
  ⟨Obj.gwCooldown, 1, 0, 1⟩,
  ⟨Obj.gwVinRatio, 1, 0, 1⟩,
  ⟨Obj.gwState, 1, 0, 1⟩,
  ⟨Obj.gwStatus, 1, 0, 1⟩,
  ⟨Obj.gwVinMeas, 1, 0, 1⟩,
  ⟨Obj.gwVoutMeas, 1, 0, 1⟩]

/-- Rows of the object table, part 15. -/
def objRows15 : List ObjRow := [
  ⟨Obj.gwIMeas, 1, 0, 1⟩,
  ⟨Obj.gwTEst, 1, 0, 1⟩,
  ⟨Obj.gwTDiode, 1, 0, 1⟩,
  ⟨Obj.gwFtMeas, 1, 0, 1⟩,
  ⟨Obj.gwLastEvent, 1, 0, 1⟩,
  ⟨Obj.gwTripCnt, 1, 0, 1⟩,
  ⟨Obj.gwDropCnt, 1, 0, 1⟩,
  ⟨Obj.gwPeakT, 1, 0, 1⟩,
  ⟨Obj.vendorId, 1, 0, 1⟩,
  ⟨Obj.deviceId, 1, 0, 1⟩,
  ⟨Obj.siliconRev, 1, 0, 1⟩,
  ⟨Obj.serialNumber, 1, 0, 1⟩,
  ⟨Obj.fwGen, 1, 0, 1⟩,
  ⟨Obj.fwVersion, 1, 0, 1⟩,
  ⟨Obj.dictFormat, 1, 0, 1⟩,
  ⟨Obj.nodeNumber, 1, 0, 1⟩,
  ⟨Obj.pairNode, 1, 0, 1⟩,
  ⟨Obj.mode, 1, 0, 1⟩,
  ⟨Obj.modePrev, 1, 0, 1⟩,
  ⟨Obj.modeTick, 1, 0, 1⟩,
  ⟨Obj.modeChangeCnt, 1, 0, 1⟩,
  ⟨Obj.slipwayKey, 1, 0, 1⟩,
  ⟨Obj.ownerLock, 1, 0, 1⟩,
  ⟨Obj.lockState, 1, 0, 1⟩,
  ⟨Obj.lockHolderIp, 1, 0, 1⟩,
  ⟨Obj.ownerKey, 1, 0, 1⟩,
  ⟨Obj.lockTimeout, 1, 0, 1⟩,
  ⟨Obj.lockRefusedCnt, 1, 0, 1⟩,
  ⟨Obj.gpIpAddr, 1, 0, 1⟩,
  ⟨Obj.gpNetmask, 1, 0, 1⟩]

/-- Rows of the object table, part 16. -/
def objRows16 : List ObjRow := [
  ⟨Obj.gpHostAddr, 1, 0, 1⟩,
  ⟨Obj.gpMac, 1, 0, 1⟩,
  ⟨Obj.gpIpInUse, 1, 0, 1⟩,
  ⟨Obj.gpLink, 1, 0, 1⟩,
  ⟨Obj.gpRxCnt, 1, 0, 1⟩,
  ⟨Obj.gpTxCnt, 1, 0, 1⟩,
  ⟨Obj.gpDropCnt, 1, 0, 1⟩,
  ⟨Obj.gpRoleRefusedCnt, 1, 0, 1⟩,
  ⟨Obj.segTimeout, 1, 0, 1⟩,
  ⟨Obj.segOpen, 1, 0, 1⟩,
  ⟨Obj.segBufFree, 1, 0, 1⟩,
  ⟨Obj.segTimeoutCnt, 1, 0, 1⟩,
  ⟨Obj.dictReqCnt, 1, 0, 1⟩,
  ⟨Obj.dictRefusedCnt, 1, 0, 1⟩,
  ⟨Obj.dictLastErr, 1, 0, 1⟩,
  ⟨Obj.savedSource, 1, 0, 1⟩,
  ⟨Obj.savedTick, 1, 0, 1⟩,
  ⟨Obj.savedLen, 1, 0, 1⟩,
  ⟨Obj.updCmd, 1, 0, 1⟩,
  ⟨Obj.updChunk, 1, 0, 1⟩,
  ⟨Obj.updResult, 1, 0, 1⟩,
  ⟨Obj.updState, 1, 0, 1⟩,
  ⟨Obj.updReceived, 1, 0, 1⟩,
  ⟨Obj.updTotal, 1, 0, 1⟩,
  ⟨Obj.updEndCause, 1, 0, 1⟩,
  ⟨Obj.updTrialLeft, 1, 0, 1⟩,
  ⟨Obj.updGuards, 1, 0, 1⟩,
  ⟨Obj.slotActive, 1, 0, 1⟩,
  ⟨Obj.slotInfo, 1, 0, 1⟩,
  ⟨Obj.bootRecSeq, 1, 0, 1⟩]

/-- Rows of the object table, part 17. -/
def objRows17 : List ObjRow := [
  ⟨Obj.updActivateCnt, 1, 0, 1⟩,
  ⟨Obj.updRevertCnt, 1, 0, 1⟩,
  ⟨Obj.updGuardEndCnt, 1, 0, 1⟩,
  ⟨Obj.relayFrameCnt, 1, 0, 1⟩,
  ⟨Obj.relayErrCnt, 1, 0, 1⟩,
  ⟨Obj.vioLevel, 1, 0, 1⟩,
  ⟨Obj.dieTemp, 1, 0, 1⟩,
  ⟨Obj.dieTempMax, 1, 0, 1⟩,
  ⟨Obj.padCfg 0, 1, 0, 256⟩]

/-- Every object of the dictionary but the fault source counters, which are at 0x7520 (R490). -/
def objTable : List ObjRow :=
  objRows0 ++ objRows1 ++ objRows2 ++ objRows3 ++ objRows4 ++ objRows5 ++ objRows6 ++ objRows7 ++ objRows8 ++ objRows9 ++ objRows10 ++ objRows11 ++ objRows12 ++ objRows13 ++ objRows14 ++ objRows15 ++ objRows16 ++ objRows17

/-- Does a row hold index idx and subindex sub? -/
def ObjRow.holds (r : ObjRow) (idx sub : Nat) : Bool :=
  r.obj.sub == sub && r.obj.idx ≤ idx &&
    (if r.n1 = 1 then decide (idx - r.obj.idx < r.n2)
     else decide ((idx - r.obj.idx) / r.stride < r.n1) && decide ((idx - r.obj.idx) % r.stride < r.n2))

/-- The source codes of R476. -/
def faultCodes : List Nat :=
  [0x01, 0x02, 0x03, 0x04, 0x05, 0x06, 0x07, 0x08, 0x09, 0x0A, 0x10, 0x11, 0x12, 0x13, 0x14, 0x15, 0x16, 0x18,
   0x20, 0x21, 0x22, 0x23, 0x24, 0x25, 0x26, 0x27, 0x28, 0x29, 0x2A, 0x30, 0x31, 0x32, 0x33, 0x34, 0x35, 0x36,
   0x37, 0x38, 0x39, 0x3A, 0x3B, 0x3C, 0x3E, 0x3F]

/-- The counter of source c: 0x7520:c (R490). -/
def Obj.srcCnt (c : Nat) : Obj := ⟨0x7520, c, .u32, .ro, .none, 0, .any⟩

/-- The object at an index and subindex, if one is present (R509). -/
def objAt (idx sub : Nat) : Option Obj :=
  if idx = 0x7520 then (if faultCodes.contains sub then some (Obj.srcCnt sub) else none)
  else
    match objTable.find? (fun r => r.holds idx sub) with
    | some r => some { r.obj with idx := idx }
    | none => none

/-- The highest subindex present at an index, 0 for an index that is not present: subindex 00 (R510). -/
def highestSub (idx : Nat) : Nat :=
  if idx = 0x7520 then 0x3F
  else objTable.foldl (fun m r => if r.holds idx r.obj.sub then Nat.max m r.obj.sub else m) 0

end Sys2Proof.Machine
end

