-- ==== Sys2Proof/Machine/State.lean ====
section
/-! DEFINITION. The state of the node: everything the spec gives the machine, as plain data, and the state right after power-on.
Scalar objects of the dictionary (settings, counters and last-event objects) are in the object store `objs`; what is
absent from the store has its default of `Sys2Proof.Machine.objTable`. Every other structure holds the state of one block. -/

namespace Sys2Proof.Machine

/-- The eight modes (R31). -/
inductive Mode where
  | approach | berthing | anchored | working | reduced | dryDock | quarantine | slipway
  deriving DecidableEq, Repr

/-- Mode, ownership and the Slipway strap (01, 12). -/
structure NodeState where
  /-- The mode (R31). -/
  mode : Mode
  /-- Mode of origin of Dry dock, or the present mode outside it (R38). -/
  origin : Mode
  /-- `TWIN_ROLE` as sampled: true for position B (R459). -/
  posB : Bool
  /-- Odd number of the pair in use, 0 while unnumbered (R432). -/
  pair : Nat
  /-- This chip drives `TWIN_OWN_N` low (R30, R32). -/
  claim : Bool
  /-- The twin, or the board, holds `TWIN_OWN_N` low. -/
  twinLow : Bool
  /-- The node owns the field pins (R254, R433). -/
  owns : Bool
  /-- `SLIPWAY_N` was low at power-on (R459). -/
  slipLow : Bool
  /-- Less than 1 s has passed since dictionary service began (R34). -/
  keyWindow : Bool
  /-- Berthing is complete and Anchored is entered at the next boundary (R32). -/
  toAnchored : Bool
  /-- Berthing is complete in position B and the 100 ms run (R32). -/
  waitB : Bool
  /-- An update session was opened: Dry dock is entered at the next boundary (R543). -/
  toDryDock : Bool
  /-- The session ended: Dry dock is left at the next boundary (R544). -/
  leaveDryDock : Bool
  /-- Outputs are to be applied, and cranes and generators started, at the first boundary in Working (R32, R436). -/
  resume : Bool
  /-- A saved state has been loaded or committed since the reset (R35). -/
  loaded : Bool
  /-- The owning chip comes back from a reset with `TWIN_OWN_N` kept (R40). -/
  keptOwn : Bool
  deriving DecidableEq, Repr

/-- A domain of R455. -/
inductive DomSt where
  | inReset | released | held
  deriving DecidableEq, Repr

/-- A block of R462 under `BLOCK_RESET`. -/
inductive BlockSt where
  | idle
  | quiescing
  | inReset
  | held
  deriving DecidableEq, Repr

/-- What follows a critical-state error (R453): nothing, waiting for the keepers' release, the 1 ms running. -/
inductive CritSt where
  | none | waitKeepers | running
  deriving DecidableEq, Repr

/-- A bank supply `VIO_Qq` (R468, R562). -/
structure Vio where
  /-- 0 not valid, 1 1.8 V, 2 3.3 V, as `VIO_LEVEL` codes. -/
  level : Nat
  /-- The pads of the bank are isolated. -/
  isolated : Bool
  /-- The bank's outputs are to be applied at the next boundary. -/
  apply : Bool
  deriving DecidableEq, Repr

/-- An event put off to the release of D4 (R476): source, instance, detail. -/
structure LateEvent where
  src : Nat
  inst : Nat
  detail : Nat
  deriving DecidableEq, Repr

/-- The reset controller and the supplies (13, 18). -/
structure ResetState where
  /-- A reset is asserted (R456). -/
  asserted : Bool
  /-- `RESET_N` is low, as its filter takes it (R450). -/
  pinLow : Bool
  /-- The reset in progress is cold (R454). -/
  cold : Bool
  /-- Source code of the first reset in progress (R454). -/
  source : Nat
  /-- D0 to D7 (R455). -/
  doms : List DomSt
  /-- Option loading is in progress (R461). -/
  loading : Bool
  /-- Option loading has ended since the reset (R456). -/
  optEnded : Bool
  /-- Option word bits [63:0] in effect, in D0 (R460). -/
  opts : Nat
  /-- `BOOT_SEL[1:0]` as sampled (R459). -/
  bootSel : Nat
  /-- The levels on `TWIN_ROLE` and `BOOT_SEL[1:0]`, to be sampled at the release of D2. -/
  strapRole : Bool
  strapBoot : Nat
  /-- `RESET_HISTORY`, newest first (R471). -/
  history : List Nat
  /-- A commanded reset accepted and not yet asserted: its source code (R452). -/
  cmd : Option Nat
  /-- R453. -/
  crit : CritSt
  /-- The watchdog counts (R451). -/
  wdt : Bool
  /-- Events put off to the release of D4 (R457, R476). -/
  late : List LateEvent
  /-- The 22 blocks of R462. -/
  blocks : List BlockSt
  /-- A block has been reset since the last `BLOCK_RESET` (R464); its abort came late; a block was held. -/
  blkDone : Bool
  blkLate : Bool
  blkClock : Bool
  /-- Boundary count at which the blocks named last were asked to go idle (R463). -/
  blkAsked : Nat
  /-- The four bank supplies. -/
  vio : List Vio
  /-- All supply monitors good (R563). -/
  supplies : Bool
  /-- The reference is `REFCLK_P` (true) or the crystal (false), once chosen (R564). -/
  refClk : Option Bool
  /-- `VAON` is valid (R562). -/
  vaon : Bool
  /-- The supplies of D1 to D7 went away: their return is a reset of source 0x02 (R448, R563). -/
  reinsert : Bool
  /-- The resets in progress include one of source 0x02: the release of D4 records the Gangway's last event (R506). -/
  gwBack : Bool
  deriving DecidableEq, Repr

/-- The register that the test access port selects (R581). -/
inductive TapReg where
  | idcode | boundary | bypass
  deriving DecidableEq, Repr

/-- The instruction in the test access port (R581): a listed one, or BYPASS for every other code. -/
inductive TapIns where
  | idcode | sample | extest | clamp | highz | bypass
  deriving DecidableEq, Repr

/-- The test access port (R581, R582). -/
structure TapState where
  ins : TapIns
  reg : TapReg
  /-- Balls are driven from the boundary register (EXTEST, CLAMP) or are high impedance (HIGHZ). -/
  drives : Bool
  highZ : Bool
  deriving DecidableEq, Repr

/-- Field pins (R251 to R255, R433, 18). Numbers hold one bit for each of the 256 pins. -/
structure PinState where
  /-- Levels on the field lines as the outside drives them, board pulls included. -/
  line : Nat
  /-- Levels in the output registers. -/
  level : Nat
  /-- Pins that this chip drives. -/
  drive : Nat
  /-- Pins that keepers hold, at `keepLevel`. -/
  keep : Nat
  keepLevel : Nat
  /-- Quays whose input buffers are on, one bit each. -/
  inBuf : Nat
  /-- Quays whose clocks run, one bit each. -/
  clocks : Nat
  /-- Quays whose clocks have been good since they were started, as of the last boundary (R423). -/
  clkGood : Nat
  /-- The output image (R69) and the pins it was written to by pick-up. -/
  outImg : Nat
  /-- The output image as it stood at the boundary that began the tick: what scheduled entries send (R59). -/
  outSent : Nat
  /-- The input image and the tick in which it was sampled (R68, R205). -/
  inImg : Nat
  imgTick : Nat
  /-- Quays in a quay reset, whose input image bits stay (R465); quays to resume at the next boundary. -/
  quayRst : Nat
  quayResume : Nat
  /-- Levels on the eight `CANn_RX` balls. -/
  canRx : Nat
  /-- Pins whose own input buffer is off though those of the quay are on: kept pins that their keepers let go (R40). -/
  bufOff : Nat
  deriving DecidableEq, Repr

/-- Classes of R472. -/
inductive FClass where
  | corrected | contained | fatal
  deriving DecidableEq, Repr

/-- An open fault record (R473) in its place of the store. -/
structure FaultRec where
  place : Nat
  seq : Nat
  tick : Nat
  src : Nat
  cls : FClass
  injected : Bool
  sticky : Bool
  updated : Bool
  reps : Nat
  inst : Nat
  detail : Nat
  deriving DecidableEq, Repr

/-- The fault collector (14). -/
structure FaultState where
  /-- Open records, in the order in which they were made. -/
  recs : List FaultRec
  /-- SEQ of the newest record, 0 for none since the release of D4 (R482). -/
  seq : Nat
  overflow : Bool
  /-- The fault interrupt of the core was raised (R479). -/
  irq : Bool
  /-- `QUARANTINE_CAUSE`, in D0 (R489). -/
  cause : Nat
  /-- Copy of `FAULT_LIST` that later segments are read from (R518). -/
  copy : List Byte
  /-- Every transmitter is idle after a D4 fatal fault (R483 step 3). -/
  lanesIdle : Bool
  deriving DecidableEq, Repr

/-- An entry of the tide plan (R63). -/
structure PlanEntry where
  dstOffset : Nat
  srcOffset : Nat
  srcSpace : Nat
  periodLog2 : Nat
  phase : Nat
  len : Nat
  dport : Nat
  dnode : Nat
  snode : Nat
  startSlot : Nat
  deriving DecidableEq, Repr

/-- A tide plan (R62), with the bytes it was read from. -/
structure Plan where
  raw : List Byte
  crc : Nat
  transit : Nat
  count : Nat
  sEnd : Nat
  actTick : Nat
  gen : Nat
  nodes : Nat
  code : Nat
  format : Nat
  entries : List PlanEntry
  deriving DecidableEq, Repr

/-- A copy that failed only its trailer CRC (R56). -/
structure Candidate where
  entry : Nat
  frame : Frame
  deriving DecidableEq, Repr

/-- The tide tick, the plan and scheduled traffic (02). -/
structure TideState where
  /-- Number of the tick in progress, 48 bits (R42). -/
  tick : Nat
  /-- Boundaries since the release of D4: what counts ages in ticks, for the number of the tick jumps when the numbering or the period changes
  (R49, R65). -/
  beat : Nat
  /-- Period in effect, coded as `TICK_CODE`. -/
  code : Nat
  /-- Boundaries are placed by tick markers or the working domain, not by the local tick (R49). -/
  placed : Bool
  /-- Time since power-on in units of 25 us, counted at the boundaries (log entry 8). -/
  clock : Nat
  active : Option Plan
  armed : Option Plan
  /-- The plan under check (R64). -/
  checking : Option (List Byte)
  /-- Entries of which a valid copy came in the tick in progress, those dropped for want of room included (R54, R60). -/
  delivered : List Nat
  candidates : List Candidate
  /-- Entries marked stale: the last copy due did not come, or a chip that was not Working refused it (R28, R57). -/
  stale : List Nat
  /-- Plan generation received in the ring-state slot of ports 0 and 1 in this tick (R66). -/
  gens : List (Option Nat)
  /-- Boundaries in a row at which the generation differed, and whether sending has stopped (R66). -/
  misses : Nat
  stopped : Bool
  /-- The receive area: the buffer being filled and the one being read (R61). -/
  fill : List (Nat × PWord)
  area : List (Nat × PWord)
  /-- Doorbell maps received on ports 0 and 1 in this tick, and those sent on them in this tick (R51). -/
  bellIn : List Nat
  bellOut : List Nat
  /-- Copies of scheduled frames that wait for room in the local input, with their outputs, in order (R182). -/
  waits : List (Nat × Frame)
  /-- Tide-applied writes waiting, in order of acceptance: object key and value (R70). -/
  queue : List (Nat × List Byte)
  /-- Boundaries left until a configuration switch resumes (R550). -/
  pause : Nat
  deriving DecidableEq, Repr

/-- States of a crane (R282). -/
inductive CraneSt where
  | idle | running | stalled | halted | faulted
  deriving DecidableEq, Repr

/-- Where a crane stands within its instruction: before it, in a WAIT, in a shift, in a blocking PUSH, PULL or
STAMP, in a SYNC, in a CHK that waits for its unit, or in a delay with strobes left (R257). -/
inductive Phase where
  | ready | waiting | shifting | pushWait | pullWait | stampWait | sync | chkWait
  | delay (left : Nat)
  deriving DecidableEq, Repr

/-- The registers and the state of one crane (R250, R282). -/
structure Crane where
  st : CraneSt
  phase : Phase
  pc : Nat
  sir : W64
  sc : Nat
  sor : W64
  op : Nat
  pstat : Nat
  x : BitVec 32
  y : BitVec 32
  lc : BitVec 16
  shiftDone : Nat
  shiftPart : W64
  frameErr : Bool
  /-- Own user-read and user-write flags (R272). -/
  usrRd : Bool
  usrWr : Bool
  /-- Side pin number that has been the clock pin since the first clocked shift (R263). -/
  clkPin : Option Nat
  /-- Start and stop bit samples of a SHIN with FRAME (R264). -/
  frStart : Bool
  frStop : Bool
  /-- Lead strobes of the shift that have passed (R267). -/
  leads : Nat
  /-- The program has changed since the crane halted (R289). -/
  changed : Bool
  /-- A HALT waits for a SHOUT past its point of no return (R267). -/
  lateHalt : Bool
  /-- A cross-quay start, and a cross-quay clock restart, is pending (R283, R284). -/
  pendStart : Bool
  pendClk : Bool
  /-- The divider restarts with the next instruction: strobes count from there (R248). -/
  divRestarts : Nat
  /-- `tide.beat` when the crane began to wait in a SYNC (R276). -/
  syncBeat : Nat
  deriving DecidableEq, Repr

/-- A crane never started since reset. -/
def Crane.zero : Crane :=
  ⟨.idle, .ready, 0, 0, 0, 0, 0, 0, 0, 0, 0, 0, 0, false, false, false, none, false, false, 0, false, false, false, false, 0, 0⟩

/-- A cargo FIFO (R319 to R336). -/
structure Fifo where
  /-- Words held pending by speculative pops, oldest first (R231). -/
  pend : List Cargo
  /-- Words offered and not popped, oldest first. -/
  words : List Cargo
  /-- The frame at the write side is open (R322). -/
  opened : Bool
  /-- Bytes of the packing word being built, and whether its frame has offered a word (R329). -/
  built : List Byte
  begun : Bool
  /-- Storage place of the oldest word, and the data bits inverted in each place (R487). -/
  base : Nat
  inv : List (Nat × Nat)
  /-- Corrected errors in the pass, and whether the record of R334 was raised. -/
  ce : Nat
  warned : Bool
  deriving DecidableEq, Repr

/-- An empty FIFO. -/
def Fifo.empty : Fifo := ⟨[], [], false, [], false, 0, [], 0, false⟩

/-- An access that waits for a busy check unit (R340): a feed of a number of bytes by a source, or a write of RESULT
or CONTROL. -/
structure ChkFeed where
  bytes : Nat
  data : W64
  p : Bool
  /-- The crane whose CHK feeds it (R277). -/
  crane : Option Nat
  deriving DecidableEq, Repr

/-- A check unit (R337 to R345). -/
structure ChkUnit where
  poly : Nat
  /-- The shift register. -/
  reg : Nat
  fed : Nat
  poison : Bool
  parity : Bool
  waiting : List ChkFeed
  deriving DecidableEq, Repr

/-- The tide swap (R304 to R307). -/
inductive SwapSt where
  | idle
  | armed
  | copying (late : Bool)
  deriving DecidableEq, Repr

/-- The Tally, its staging window, the swap and the scrubber (08). Staging offset o has key 1024 + o in the maps of
errors. -/
structure TallyState where
  words : List (Nat × Nat)
  stage : List (Nat × Nat)
  /-- Stored data bits inverted, by word. -/
  inv : List (Nat × Nat)
  /-- Consecutive passes in which the scrubber corrected a word (R313). -/
  cePass : List (Nat × Nat)
  /-- Worn Tally pages and staging pages, one bit each. -/
  worn : Nat
  stageWorn : Nat
  swap : SwapSt
  /-- The descriptor that the arm read (R303). -/
  desc : Nat
  /-- Next word of the scrubber, 0 to 1,087. -/
  scrub : Nat
  deriving DecidableEq, Repr

/-- Quays (07). -/
structure QuayState where
  /-- Quay flags and pending interrupt lines of the four quays (R274). -/
  flags : List Nat
  irq : List Nat
  /-- Cranes that have raised a notice to the firmware, one bit each (R274). -/
  notices : Nat
  /-- Values of the accepted quay commits that wait for the boundary, by object key (R294). -/
  commits : List (Nat × List Byte)
  deriving DecidableEq, Repr

/-- What a heartbeat carries (R416). -/
structure Heartbeat where
  node : Nat
  mode : Nat
  savedGen : Nat
  applied : Nat
  drive : Nat
  deriving DecidableEq, Repr

/-- Line pick-up (R434, R435). -/
inductive PickSt where
  | none
  /-- Step 3 done: quay clocks started and input buffers on. -/
  | started
  /-- Samples taken so far. -/
  | sampling (n : Nat)
  /-- Step 5 done: the mapped pins are driven. -/
  | driven
  /-- Step 6 done: waiting for the boundary of step 8. -/
  | claimed
  deriving DecidableEq, Repr

/-- The twin logic and saved state in progress (12). -/
structure TwinState where
  /-- Last heartbeat seen and the ticks since it (`HB_AGE`). -/
  hb : Option Heartbeat
  hbAge : Nat
  hbNow : Bool
  /-- Heartbeats seen since Anchored was entered (R418). -/
  hbSince : Bool
  /-- Payload of the last health report and the ticks since it. -/
  health : Option (List W64)
  healthAge : Nat
  /-- Self-test: items failed in the cycle in progress, items failed in the last complete cycle, a cycle completed
  since Anchored was entered (R420, R421). -/
  stFail : Nat
  stLast : Nat
  stDone : Bool
  /-- Lowest H and V of a carrying lane in the cycle in progress, and in the last complete one (R418). -/
  eyeHMin : Nat
  eyeVMin : Nat
  eyeHLast : Nat
  eyeVLast : Nat
  /-- Criteria of R423 that hold, those counted as blocked, and the ticks of criterion 6. -/
  crit : Nat
  blocked : Nat
  fifoUe : Nat
  refBad : Nat
  /-- Released by give-up or hand-over, `CLAIM_WAIT` running (R440); by hand-over; an abort came late. -/
  claimWait : Bool
  handed : Bool
  lateAbort : Bool
  /-- A hand-over is accepted and an abort of it is the next command (R425, log entry 46). -/
  handPend : Bool
  /-- Pick-up: step, map, levels of the last sample, pins taken, levels taken (R435). -/
  pick : PickSt
  map : Nat
  sample : Nat
  taken : Nat
  levels : Nat
  /-- Last boundary at which this chip applied outputs (APPLIED_TICK). -/
  applied : Nat
  /-- Saved state: a commit waits for its boundary; the slot being written (R428). -/
  saveDue : Bool
  writing : Option (List Byte)
  /-- Copy to the twin: bytes being sent, tries made again, the 1 s before the next runs (R430, R431). -/
  sending : Option (List Byte)
  tries : Nat
  retryWait : Bool
  /-- Copy from the twin: contents of the segments received, its SAVED_GEN, a segment is missing; the verified slot that is loaded at the
  next boundary (R431). -/
  rxSegs : List (List Byte)
  rxGen : Nat
  rxBad : Bool
  toLoad : Option (List Byte)
  /-- A takeover waits for its step 8: the outgoing chip's last APPLIED_TICK, if it is known (R437). -/
  gapFrom : Option (Option Nat)
  /-- Frames sent to the twin since the last boundary (R415). -/
  sent : List Frame
  deriving DecidableEq, Repr

/-- The flash (R540): saved-state slots, image slots and boot record copies, as bytes. -/
structure FlashState where
  saved0 : List Byte
  saved1 : List Byte
  image0 : List Byte
  image1 : List Byte
  boot0 : List Byte
  boot1 : List Byte
  deriving DecidableEq, Repr

/-- The update session (17). -/
structure UpdState where
  /-- A session is open, and the last one ended under R544 with no reset since. -/
  isOpen : Bool
  resumable : Bool
  /-- The inactive slot is being erased. -/
  erasing : Bool
  /-- `UPD_STATE` (R554). -/
  state : Nat
  /-- Slot running and TRIAL of the record in effect. -/
  slot : Nat
  trial : Bool
  recSeq : Nat
  /-- The image under trial or activation is a configuration image. -/
  config : Bool
  /-- An abort came after the point of no return (R551). -/
  late : Bool
  verifying : Bool
  /-- A guard failed and the session ends when the work in progress completes (R544). -/
  guardEnd : Bool
  /-- The management pause of ACTIVATE (R549). -/
  pause : Bool
  /-- 25 us units at which the trial began. -/
  trialAt : Nat
  /-- The saved state that a configuration image replaced (R552). -/
  oldState : List Byte
  /-- The sections of a configuration image wait for the slot write in progress; they are written and wait for their boundary (R550). -/
  cfgDue : Bool
  cfgReady : Bool
  /-- Requester and RSEQ of the relay command whose REPLY is due when it completes (R547). -/
  relay : Option (Nat × Nat)
  /-- `MNV_N` high, `BATT_ON` high. -/
  mnv : Bool
  batt : Bool
  deriving DecidableEq, Repr

/-- A transfer context (R515): a download with the bytes received, or an upload with the copy. -/
structure Ctx where
  req : Req
  idx : Nat
  sub : Nat
  download : Bool
  total : Nat
  data : List Byte
  lastOff : Nat
  deriving DecidableEq, Repr

/-- What the last access of the dictionary answered: code of R532 (0 for OK), LAST, and the bytes returned. -/
structure Answer where
  code : Nat
  last : Bool
  data : List Byte
  deriving DecidableEq, Repr

/-- The dictionary service, the owner lock and Gangplank (16). -/
structure DictState where
  /-- The holder while the lock is open (R528). -/
  holder : Option Req
  /-- Time of the holder's last RWL write or open, and of the wrong keys of the last 60 s, in 25 us units (R529). -/
  lockAt : Nat
  wrong : List Nat
  lockout : Bool
  ctxs : List Ctx
  /-- Copy of `RESET_HISTORY` that later segments are read from (R518). -/
  histCopy : List Byte
  answer : Answer
  /-- Gangplank: link, replies sent since the last boundary, ARP answers sent, datagrams that wait
  for the end of an ACTIVATE pause. -/
  link : Bool
  speed : Nat
  replies : List (List Byte)
  arps : Nat
  waiting : List Datagram
  deriving DecidableEq, Repr

/-- States of the Gangway (R495). -/
inductive GwSt where
  | disabled | qualify | ramp | settle | good | latched
  deriving DecidableEq, Repr

/-- The Gangway (15), in D0. -/
structure GwState where
  st : GwSt
  /-- `GW_EN`, as its filter takes it. -/
  en : Bool
  /-- A thermal diode was fitted at power-on (R499). -/
  diode : Bool
  /-- Last diode reading, 0.1 degree, if one has arrived. -/
  reading : Option Int
  /-- Model terms dt1 and dt2 in units of 1e-9 K (log entry 9). -/
  dt1 : Int
  dt2 : Int
  /-- The delay of R496 has passed in the start window. -/
  delayDone : Bool
  /-- A cooldown runs; `GW_EN` has been low since the trip (R500). -/
  cooling : Bool
  enLow : Bool
  /-- Fault timer in us, and samples without limit towards its next fall (R498). -/
  timer : Nat
  calm : Nat
  /-- The current limit acted on the last sample. -/
  limiting : Bool
  /-- Counted samples of SETTLE (R501); consecutive samples below and above the run window (R503). -/
  clean : Nat
  under : Nat
  above : Nat
  /-- Last sample: V_IN and V_OUT in mV, I in mA. -/
  vin : Nat
  vout : Nat
  cur : Nat
  deriving DecidableEq, Repr

/-- A word position of a port's stream (R78): a cargo word, or a control block of a TYPE and a CONTENT. -/
inductive Sym where
  | word (c : Cargo)
  | ctrl (type : Nat) (content : W64)
  deriving DecidableEq, Repr

/-- Blocks of one TYPE and CONTENT sent on one lane, outside the striped stream: EBB, MARK and TRAIN (R80, R100, R101). -/
structure LaneSend where
  lane : Nat
  type : Nat
  content : W64
  times : Nat
  deriving DecidableEq, Repr

/-- A tap request as MARK blocks of one lane show it: lane addressed, REQ_SEQ, copies in a row (R96). -/
structure MarkReq where
  lane : Nat
  seq : Nat
  copies : Nat
  deriving DecidableEq, Repr

/-- What a ring port or the mooring link keeps beside its objects (03, 05): the states, sets and counters of its lanes are
objects. -/
structure Port where
  /-- Lane set that a LANEMAP request asks for until TICK shows it, 0 for none (R107). -/
  reqSet : Nat
  /-- Lane set that the transmitter announces from a coming boundary, 0 for none, and whether it waits one boundary more. -/
  nextSet : Nat
  nextLater : Bool
  /-- Lanes of the set that have failed: words on them are poisoned (R106). -/
  failing : Nat
  /-- RX_READY has been set; MARK blocks in a row that showed the far end's (R88). -/
  rxReady : Bool
  farReady : Nat
  /-- A far HARBOUR block has been accepted; the receive and transmit directions go Active at the next boundary (R88). -/
  hSeen : Bool
  rxGo : Bool
  txGo : Bool
  /-- The receive direction has been Active since the reset (R117). -/
  rxWas : Bool
  /-- Tap requests of the far end as the MARK blocks of each receive lane show them (R96). -/
  reqs : List MarkReq
  /-- Ticks in a row without a TICK in a far-end loop; this port returns the far end's blocks; it asked for a far-end loop (R103). -/
  returning : Bool
  asked : Bool
  /-- Credits (R178 to R181): bays charged to the far partition, its LIMIT and FREED, a fresh credit word has come, the last
  EPOCH used (4 for none); bays freed here, the own EPOCH, and FREED as last sent. -/
  sent : Nat
  farLimit : Nat
  farFreed : Nat
  fresh : Bool
  lastEpoch : Nat
  freed : Nat
  epoch : Nat
  freedSent : Nat
  /-- Boundaries in a row at which the output held a frame and lacked credit, its stall and the credit that ends it; boundaries of linger left
  (R183). -/
  starved : Nat
  stalled : Bool
  need : Nat
  linger : Nat
  /-- A SPAN notice names this node in FAR on this port (R113). -/
  farStop : Bool
  /-- LANEMAP, SPAN, EBB and LOOP blocks sent since the last boundary (TYPE, CONTENT). -/
  blocks : List (Nat × W64)
  /-- Sync errors of each lane in the tick in progress (R105). -/
  errs : List Nat
  /-- Transmit lanes in Ebb, one bit each (R99, R101), and `tide.clock` when they entered it. -/
  txEbb : Nat
  txEbbAt : Nat
  /-- Transmit lanes that a change of set has left behind as failed (R107). -/
  txOut : Nat
  /-- The receive direction has block lock and waits for the other direction (R90). -/
  blockLocked : Bool
  /-- Training: the frame count of the MARK blocks sent, the far end's last FRAME_CNT and the training frames in a row without a new request of
  it (R95, R96). -/
  frameCnt : Nat
  farCnt : Nat
  quiet : Nat
  /-- Training frames received in a row with no own request outstanding (R88). -/
  calm : Nat
  /-- TICK received: the last TICK_NUMBER; boundaries in a row at which each lane lacked its TICK; the receive stamp less the own boundary, corrected
  under R135, of this tick and of the last one (R105, R386, R389). -/
  farTick : Option Nat
  tickMiss : List Nat
  stamp : Option Int
  lastStamp : Option Int
  /-- Words of the frame in progress that stand for bad blocks, by place in the frame (R79). -/
  repl : List (Nat × Cargo)
  /-- Tide header of the tick: the CONTENT of the TICK by lane, the words of R50 after it, the CONTENT of the idle words that fill it (R50, R108). -/
  ticks : List (Nat × W64)
  header : List Sym
  idle : W64
  /-- Blocks sent lane by lane since the last boundary. -/
  laneSent : List LaneSend
  /-- Scrambler states of the transmit and receive lanes, as of the last block that the model sends or takes on each (R83, log entry 100). -/
  txScr : List Nat
  rxScr : List Nat
  /-- Words by which the elastic buffer lay off its centre at the last boundary, and the idle words repeated, or deleted when negative, to centre
  it (R87). -/
  fill : Int
  adjusted : Int
  /-- Blocks that a loop has brought back on the receive path since the last boundary, or that the port returns to the far end (R102, R103). -/
  looped : List Sym
  /-- Words received with BYTES 9 to 15: the tag errors of the port, which no object shows (R8). -/
  tagErr : Nat
  deriving DecidableEq, Repr

/-- A port after a reset. -/
def Port.zero : Port :=
  ⟨0, 0, false, 0, false, 0, false, false, false, false, [], false, false,
   0, 0, 0, false, 4, 0, 0, 0, 0, false, 0, 0, false, [], [0, 0, 0, 0, 0], 0, 0, 0, false,
   0, 0, 0, 0, none, [0, 0, 0, 0, 0], none, none, [], [], [], 0, [], [0, 0, 0, 0, 0], [0, 0, 0, 0, 0], 0, 0, [], 0⟩

/-- A node of the ring map: its last survey word and the beat at which it came (R118). -/
structure MapNode where
  word : W64
  tick : Nat
  deriving DecidableEq, Repr

/-- A span direction of the ring map that a SPAN notice has named (R113). -/
structure SpanDir where
  origin : Nat
  far : Nat
  up : Bool
  tick : Nat
  /-- The direction came back and `RETURN_HOLD` has not passed yet (R117). -/
  hold : Bool
  deriving DecidableEq, Repr

/-- The ring map and what travels between frames (03). -/
structure RingState where
  ports : List Port
  /-- Latest survey word per node. -/
  map : List MapNode
  spans : List SpanDir
  /-- (ORIGIN, SEQ) of the SPAN notices relayed in this tick. -/
  relayed : List (Nat × Nat)
  /-- (SNODE, SEQ) of the survey notices, asymmetry surveys and doubled broadcasts taken lately, newest first. -/
  dups : List (Nat × Nat)
  /-- Payload word of the last own survey but SURVEY_SEQ, and the tick it left. -/
  lastSurvey : W64
  surveyTick : Nat
  /-- Frames of the three classes 01, 10 and 11 originated: their SEQ counters (R14). -/
  seqs : List Nat
  /-- SEQ of the last own SPAN notice (R112). -/
  spanSeq : Nat
  /-- The last frame that left each output (R173). -/
  onWire : List (Option (List Cargo))
  deriving DecidableEq, Repr

/-- Where the manifest sends a message (R242): DNODE, DPORT, unit, and the generation of the lookup. -/
structure MsgDest where
  dnode : Nat
  dport : Nat
  unit : Nat
  gen : Nat
  deriving DecidableEq, Repr

/-- A frame in the Hold (05). -/
structure Job where
  /-- Order of arrival. -/
  ser : Nat
  words : List Cargo
  input : Nat
  output : Nat
  bays : List Nat
  /-- It arrived on one ring port for the other, whose lane set is no larger: its output sends it cut-through (R174). -/
  cut : Bool
  /-- This node originated the frame; it was counted as deferred (R47). -/
  own : Bool
  deferred : Bool
  /-- Destination that the manifest resolved to at ingress, and the generation then (R242); transfer of the local core that it belongs to (R228). -/
  mdest : Option MsgDest
  xfer : Option Nat
  deriving DecidableEq, Repr

/-- Where a frame that enters the Hold comes from: this node originated it, the manifest resolved it, a transfer of the local core it belongs to. -/
structure Origin where
  own : Bool
  mdest : Option MsgDest
  xfer : Option Nat
  deriving DecidableEq, Repr

/-- A frame that arrived, and a frame of this node that is neither a message nor part of a transfer. -/
def Origin.ring : Origin := ⟨false, none, none⟩
def Origin.node : Origin := ⟨true, none, none⟩

/-- The tag of a bay (R162). The last two fields are none of the tag's: the bay period in which the bay entered the middle stage (R171), and that
its resequencer has released it (R172). -/
structure BayTag where
  owner : Nat
  serial : Nat
  bsn : Nat
  input : Nat
  output : Nat
  sched : Bool
  bcast : Bool
  first : Bool
  last : Bool
  words : Nat
  since : Nat
  released : Bool
  deriving DecidableEq, Repr

/-- The tag of a bay on the free list. -/
def BayTag.zero : BayTag := ⟨0, 0, 0, 0, 0, false, false, false, false, 0, 0, false⟩

/-- A list that owns bays (R162, R189): the serial at its head, the next serial at its tail, and its count of bays. -/
structure BayList where
  head : Nat
  tail : Nat
  count : Nat
  deriving DecidableEq, Repr

/-- A list that no bay has entered yet. -/
def BayList.zero : BayList := ⟨0, 0, 0⟩

/-- The Hold (05). -/
structure HoldState where
  /-- The free list, next first, as runs of consecutive bays: first bay and length. -/
  free : List (Nat × Nat)
  /-- Frames in order of arrival. -/
  jobs : List Job
  nextSer : Nat
  /-- Bay periods since the release of D4 (R159). -/
  period : Nat
  /-- Tags of the bays that are not on the free list (R162). -/
  tags : List (Nat × BayTag)
  /-- The queues of the inputs, the lists of the middle queues and the resequencers, by OWNER (R160, R162). -/
  lists : List (Nat × BayList)
  /-- Next BSN at the input, and next BSN that the output expects, by input × 16 + output × 2 + class group (R163, R172). -/
  bsns : List (Nat × Nat)
  expects : List (Nat × Nat)
  /-- Numbers whose bays were discarded before their release, as the same key × 256 + BSN: the output does not wait for them. -/
  gone : List Nat
  /-- Last output that each input served for classes 01 to 11 (R170), and last input served by each output (R173). -/
  rrIn : List Nat
  rr : List Nat
  /-- Corrected errors by row in the pass; rows not allocated from; retiring and retired bays (R192, R193). -/
  rowCe : List (Nat × Nat)
  wornRows : List Nat
  retiring : List Nat
  retired : List Nat
  /-- Stored data bits inverted: words by bay × 8 + word, tags by bay, free-list entries by place (R487). -/
  inv : List (Nat × Nat)
  tagInv : List (Nat × Nat)
  freeInv : List (Nat × Nat)
  /-- Free-list entry read next. -/
  freePos : Nat
  deriving DecidableEq, Repr

/-- What a tag of the bridge is used for (R222). -/
inductive TagUse where
  | none
  /-- A request or an acknowledged posted write waits for its response. -/
  | waiting
  /-- Freed by timeout: not reissued yet (R224). -/
  | held
  deriving DecidableEq, Repr

/-- A tag of the bridge: the frame it stands for, the local source and its Gangplank XID, and the tick of its leaving or of its expiry. -/
structure Tag where
  use : TagUse
  node : Nat
  dport : Nat
  seq : Nat
  cls : Nat
  posted : Bool
  src : Req
  xid : Nat
  /-- A message of the manifest, whose source takes no report. -/
  msg : Bool
  tick : Nat
  deriving DecidableEq, Repr

/-- A free tag. -/
def Tag.zero : Tag := ⟨.none, 0, 0, 0, 0, false, .core, 0, false, 0⟩

/-- What the bridge reported to the local core last: the transfer by its number, 0 for none, status of R209, DETAIL, late-abort flag, data words. -/
structure Report where
  xfer : Nat
  status : Nat
  detail : Nat
  late : Bool
  data : List PWord
  deriving DecidableEq, Repr

/-- A frame that a local source, or the target side, has for another node: switch input, class, FLAGS bit 10, destination, payload, the source
with its Gangplank XID or its transfer's number, and the destination that the manifest resolved to. -/
structure LocalReq where
  input : Nat
  cls : Nat
  ack : Bool
  dnode : Nat
  dport : Nat
  pay : List PWord
  src : Req
  xid : Nat
  mdest : Option MsgDest
  /-- A frame of the relay: FLAGS bit 12 (R547). -/
  relay : Bool
  /-- A response that holds a place of the inbound request store (R225). -/
  place : Bool
  deriving DecidableEq, Repr

/-- A transfer of the local core (R228): its number, which its frames carry as XID, its frames that have begun to leave, posted without an
acknowledgement, and an abort that came. -/
structure Xfer where
  id : Nat
  sent : Nat
  plain : Bool
  aborted : Bool
  deriving DecidableEq, Repr

/-- A window as an access finds it (R204): kind, space, first offset, offset after the last, width in bytes and the unit it belongs to. -/
structure Win where
  kind : Nat
  space : Nat
  base : Nat
  stop : Nat
  width : Nat
  unit : Nat
  deriving DecidableEq, Repr

/-- A prefetch stream (R229): requester node, window, offsets and words held, the tick of the last READ. -/
structure Stream where
  node : Nat
  win : Win
  words : List (Nat × Cargo)
  tick : Nat
  deriving DecidableEq, Repr

/-- A posted write frame whose window lacks room (R213): the frame as read, its serial while it stays in the Hold (a frame that holds a tag is
in the inbound store instead, R225), its local port, and the tick at which it began to wait. -/
structure PostWait where
  frame : Frame
  ser : Option Nat
  out : Nat
  tick : Nat
  deriving DecidableEq, Repr

/-- The bridge (06). -/
structure BridgeState where
  tags : List Tag
  /-- Frames of local sources that wait for a free tag or for room, oldest first. -/
  reqWait : List LocalReq
  /-- Responses that wait for room (R225), and refusals in the refusal store (R226). -/
  respWait : List LocalReq
  refusals : List LocalReq
  /-- Source node, side and trailer tick of the last request frame accepted (R216). -/
  order : List (Nat × Nat × Nat)
  postWait : List PostWait
  /-- Streams, the one used last first. -/
  streams : List Stream
  /-- Requester, window and next offset of the last READ served, from which a prefetch may go on (R229). -/
  ahead : Option (Nat × Win × Nat)
  /-- Time window latch: the second word and the tick (R221). -/
  latch : Option (W64 × Nat)
  report : Report
  /-- The number of the core's next transfer, the last posted write that the core was told is accepted (R212), and its transfers, newest first
  (R228). -/
  nextXfer : Nat
  accepted : Nat
  xfers : List Xfer
  /-- Bytes written to the core's data SRAM since the reset, by address (R204 kind 16). -/
  sram : List (Nat × Option Byte)
  /-- The bytes not written since are zero: an activation cleared them (R549). -/
  sramZero : Bool
  /-- Stored data bits inverted in the core's instruction SRAM, by address, and in its data SRAM, by 2^18 + address (R487). -/
  sramInv : List (Nat × Nat)
  deriving DecidableEq, Repr

/-- The manifest (06). -/
structure ManState where
  /-- Entries that are not empty, by index. -/
  entries : List (Nat × Nat)
  disable : List Nat
  /-- The commit under check: the staged records, and the disable list when one is staged (R239, R240). -/
  checking : Option (List Byte × Option (List Byte))
  deriving DecidableEq, Repr

/-- A message buffer of a CAN controller (R357, R358). -/
structure CanBuf where
  status : Nat
  words : List W64
  retry : Nat
  attempts : Nat
  late : Bool
  filter : Nat
  stamp : W64
  /-- Poisoned words, one bit each (R9). -/
  pois : Nat
  deriving DecidableEq, Repr

/-- An empty buffer. -/
def CanBuf.zero : CanBuf := ⟨0, [0, 0, 0, 0, 0, 0, 0, 0, 0], 0, 0, false, 0, 0, 0⟩

/-- States of a controller (R377) but for those that its mode and ownership give. -/
inductive CanSt where
  | off | joining | on | busOff | recovering
  deriving DecidableEq, Repr

/-- What a controller is sending: a buffer, or the head of the gateway queue (64 is the pilot buffer, 65 the queue), its message head and the bytes of
its data field (R237). -/
structure CanTx where
  src : Nat
  /-- An abort arrived: within the arbitration field, or after it (R369). -/
  abort : Bool
  head : W64
  data : List Byte
  deriving DecidableEq, Repr

/-- A CAN controller (10). -/
structure Can where
  st : CanSt
  /-- Transmit and receive error counters (R371). -/
  txErr : Nat
  rxErr : Nat
  bufs : List (Nat × CanBuf)
  /-- Attempts of the gateway queue's head; it is to be dropped once sent (R369). -/
  gwAttempts : Nat
  gwFlush : Nat
  tx : Option CanTx
  /-- `CAN_CTRL`, `BIT_NOM` and `BIT_DATA` in use, and committed ones waiting for the end of the frame in progress (R375). -/
  ctrl : Nat
  nom : Nat
  dat : Nat
  applyDue : Bool
  /-- Stored data bits inverted by buffer × 16 + word (R487). -/
  inv : List (Nat × Nat)
  deriving DecidableEq, Repr

/-- A controller after a reset. -/
def Can.zero : Can := ⟨.off, 0, 0, [], 0, 0, none, 0, 0, 0, false, []⟩

/-- The CAN block. -/
structure CanState where
  ctls : List (Nat × Can)
  /-- Values of accepted commits that wait for the boundary, by object key (R374). -/
  commits : List (Nat × List Byte)
  deriving DecidableEq, Repr

/-- What the calibration keeps of one lane beside its objects (04). -/
structure LaneCal where
  /-- The axis scan of the map in progress is done; one is done since the lane's last change (R125, R138). -/
  axis : Bool
  scanned : Bool
  /-- Scans in a row below the fail thresholds, and a warning record raised and not yet cured (R127). -/
  bad : Nat
  warned : Bool
  /-- Recentring due at the next move point, in steps (R130). -/
  move : Int
  /-- Own request to the far transmit lane: number, and action bits [47:38] of R95 (R131). -/
  reqSeq : Nat
  req : Nat
  /-- The last own request that the far end has answered (R95). -/
  answered : Nat
  /-- A request of the far end for the own transmit lane, not yet handled; the last one handled and its answer (R96). -/
  farReq : Option (Nat × Nat)
  ackSeq : Nat
  ackStatus : Nat
  /-- Granted taps that apply at the next boundary, as `TX_TAPS` (R97). -/
  pendTaps : Option Nat
  /-- Coefficients of the far transmit lane as last shown, as `TX_TAPS`, and new ones apply at the coming TICK (R130). -/
  farTaps : Nat
  announced : Bool
  /-- Bring-up of a lane on its own (R110): a direction state code of Pilot to Block lock, 0 with none. -/
  retrain : Nat
  /-- `tide.clock` when the receive lane entered Ebb (R101). -/
  ebbAt : Nat
  /-- Counts of the last axis scan: 33 phase offsets at voltage 0, 61 voltage offsets at phase 0 (R124 to R126). -/
  phase : List Nat
  volt : List Nat
  /-- The last scan of the lane lay below the warning thresholds (R127). -/
  low : Bool
  deriving DecidableEq, Repr

/-- A lane after a reset. -/
def LaneCal.zero : LaneCal := ⟨false, false, 0, false, 0, 0, 0, 0, none, 0, 0, none, 0x001D0300, false, 0, 0, [], [], false⟩

/-- Where a trial stands (R140): requested, scanning, kept until the move point, to be reverted, revert requested, scanning after the
revert. -/
inductive TrialSt where
  | requested | scanning | kept | toRevert | reverting | rescan
  deriving DecidableEq, Repr

/-- A trial (R138 to R144). -/
structure Trial where
  lane : Nat
  action : Nat
  st : TrialSt
  qBase : Nat
  /-- Slack waters in which the present request was sent; far coefficients when it was first sent (R142). -/
  sent : Nat
  taps0 : Nat
  /-- The scan of the change was below a fail threshold (R144). -/
  closed : Bool
  deriving DecidableEq, Repr

/-- The calibration of one port. -/
structure CalPort where
  lanes : List LaneCal
  trial : Option Trial
  /-- Tick at which the last trial ended, and the lane whose turn is next (R138). -/
  ended : Nat
  turn : Nat
  /-- PSTEP words waiting to be sent (R131), the word positions of the last transmit slack water from position 0 on, and the PSTEP words of the
  last received one (R137). -/
  psteps : List W64
  slack : List Sym
  pstepsIn : List W64
  /-- Header named in CAL: SNODE and SEQ of the first class 00 frame that left in the tick (R145). -/
  ref : Option (Nat × Nat)
  /-- Class 00 headers received in the tick: SNODE, SEQ, and the receive stamp less the own boundary, corrected under R135 (R145). -/
  heads : List (Nat × Nat × Int)
  /-- Sum of the valid samples of the window, in 2^-16 ns, and their number; the number of the last whole window and whether its mean is
  valid; the same of the far end (R146, R147). -/
  sum : Int
  count : Nat
  win : Nat
  valid : Bool
  farWin : Nat
  farValid : Bool
  deriving DecidableEq, Repr

/-- The calibration of a port after a reset. -/
def CalPort.zero : CalPort := ⟨List.replicate 5 LaneCal.zero, none, 0, 0, [], [], [], none, [], 0, 0, 0, false, 0, false⟩

/-- An asymmetry survey (R148). -/
structure AsymSurvey where
  node : Nat
  m : Int
  rt : Nat
  f : Int
  eastNb : Nat
  win : Nat
  valid : Bool
  deriving DecidableEq, Repr

/-- The calibration (04). -/
structure CalState where
  ports : List CalPort
  /-- Latest survey of each node, the own one included. -/
  surveys : List AsymSurvey
  /-- The value in use of each span, by the node at its west end (R150). -/
  alphas : List (Nat × Int)
  /-- The ring was open, or a direction down, at some point of the window in progress, and of the window before (R151). -/
  broken : Bool
  brokenWas : Bool
  deriving DecidableEq, Repr

/-- Time words of one domain as a port received them in the tick in progress (R384), with the receive stamp of that tick's TICK less the own
boundary, in 2^-16 ns. -/
structure TimeWords where
  hops : Nat
  quality : Nat
  time : Int
  utc : Nat
  gmTick : Nat
  master : Nat
  leap : Nat
  locked : Bool
  workDom : Nat
  usable : Bool
  tRx : Int
  deriving DecidableEq, Repr

/-- A time domain at this node, beside its objects (R391, R392): times are in 2^-16 ns. -/
structure Domain where
  /-- O_d. -/
  off : Int
  /-- I of R391 in 2^-32 ns, and the last c. -/
  integ : Int
  corr : Int
  /-- Boundaries in a row within `LOCK_THRESH`, beyond `UNLOCK_THRESH`, and without usable words; ticks in Holdover. -/
  near : Nat
  far : Nat
  dry : Nat
  held : Nat
  /-- What the upstream sends on: UTC_OFFSET, LEAP and MASTER (R385). -/
  utc : Nat
  leap : Nat
  master : Nat
  /-- At its master: the phase error of a `PPS_IN` edge that the loop has not taken yet, and `TIME_SET` while it waits for the boundary or the next
  edge (R382, R383). -/
  pps : Option Int
  setTo : Option Int
  deriving DecidableEq, Repr

/-- A domain after a reset. -/
def Domain.zero : Domain := ⟨0, 0, 0, 0, 0, 0, 0, 0, 0, 0, none, none⟩

/-- An armed switch of the working domain (R394), with Δ of R395 once it is fixed. -/
structure Switch where
  actTick : Nat
  step : Bool
  target : Nat
  delta : Option Int
  deriving DecidableEq, Repr

/-- A pulse generator (R402 to R406) beside its registers, which are objects: START, PERIOD, WIDTH and COUNT in effect. -/
structure Gen where
  st : Nat
  code : Nat
  start : Int
  period : Nat
  width : Nat
  count : Nat
  /-- Number of the next pulse; the pulse is active; pulses emitted; a STOP waits for its end. -/
  k : Nat
  active : Bool
  emitted : Nat
  stopping : Bool
  /-- TARGET held since an accepted ARM (R404), with its idle level. -/
  holds : Option Nat
  invert : Bool
  deriving DecidableEq, Repr

/-- A generator after a reset. -/
def Gen.zero : Gen := ⟨0, 0, 0, 0, 0, 0, 0, false, 0, false, none, false⟩

/-- The time unit (11): times in 2^-16 ns since the PTP epoch. -/
structure TimeState where
  /-- W at the last boundary; S of R393. -/
  w : Int
  slew : Int
  /-- The boundary of the tick was moved by a slew or a step, or the domain changed at it; by a step alone (R398). -/
  moved : Bool
  stepped : Bool
  /-- The boundary of the tick was moved by a step, or the domain changed at it; and the same of the tick before (R386). -/
  jumped : Bool
  wasJumped : Bool
  doms : List Domain
  /-- Words received in the tick in progress, by port × 2 + domain. -/
  words : List (Option TimeWords)
  armed : Option Switch
  /-- Boundaries in a row at which both neighbours' working domain differed; a switch follows (R397). -/
  differ : Nat
  /-- Echo: sums of the first 16 samples of each port; the walk to send next and the last transit (R387, R388). -/
  rtSum : List Int
  walk : Option (Nat × Nat × Nat)
  transit : Nat × Nat × Nat
  /-- `PPS_IN`: W of the last accepted edge (R383). -/
  pps : Option Int
  /-- Last rising and falling time of each pin, field pins 0 to 255 and `CANn_RX` 256 to 263, in ns (R399). -/
  rise : List (Nat × Nat)
  fall : List (Nat × Nat)
  /-- Last edge of each fine-capture unit, in 125 ps (R401). -/
  fineLast : List (Nat × Nat)
  gens : List Gen
  /-- `TCLK_OUT`: its level while it is driven (R406). -/
  tclk : Bool
  deriving DecidableEq, Repr

/-- Why the machine stops with a fault. No meaning answers one: every step of the spec has an effect, or happens only in
states that the guards of its meaning name. -/
inductive Fault where
  /-- A command that is not well formed; raised by no meaning (safe: such a command is no step of the spec). -/
  | illFormed
  deriving DecidableEq, Repr

/-- Why a command has no meaning. -/
inductive Refusal where
  /-- The named command is not modelled yet (safe). -/
  | notModelled (mnemonic : String)
  deriving DecidableEq, Repr

/-- The state of the node. -/
structure State where
  /-- Scalar objects whose value differs from the default, by key. -/
  objs : List (Nat × Nat)
  /-- STR and DOMAIN objects that were written, by key. -/
  blobs : List (Nat × List Byte)
  /-- Staged on-commit objects, by key (R21). -/
  staged : List (Nat × List Byte)
  node : NodeState
  rst : ResetState
  tap : TapState
  pins : PinState
  faults : FaultState
  tide : TideState
  cranes : List (Nat × Crane)
  fifos : List (Nat × Fifo)
  /-- User words: crane × 8 + word (R272). -/
  users : List (Nat × W64)
  chk : List ChkUnit
  tally : TallyState
  quay : QuayState
  twin : TwinState
  flash : FlashState
  upd : UpdState
  dict : DictState
  gw : GwState
  ring : RingState
  hold : HoldState
  bridge : BridgeState
  man : ManState
  can : CanState
  cal : CalState
  time : TimeState
  /-- Free values drawn so far: the model's own field (log entry 3). -/
  freeCount : Nat
  /-- Commands waiting, first in, first out. -/
  pending : List Instr
  deriving DecidableEq, Repr

/-- Check units after a reset (R345). -/
def chkReset : List ChkUnit :=
  [⟨3, 0xFFFFFFFF, 0, false, false, []⟩, ⟨1, 0xFFFF, 0, false, false, []⟩,
   ⟨2, 0xFFFFFFFF, 0, false, false, []⟩, ⟨4, 0, 0, false, false, []⟩]

/-- The tick and the scheduled traffic after a reset: the local tick of 50 us (R49). -/
def tideReset : TideState :=
  ⟨0, 0, 1, false, 0, none, none, none, [], [], [], [none, none], 0, false, [], [], [0, 0], [0, 0], [], [], 0⟩

/-- The Tally after a reset (R296). -/
def tallyReset : TallyState := ⟨[], [], [], [], 0, 0, .idle, 0, 0⟩

/-- The quays after a reset. -/
def quayReset : QuayState := ⟨[0, 0, 0, 0], [0, 0, 0, 0], 0, []⟩

/-- The twin logic after a reset. -/
def twinReset : TwinState :=
  ⟨none, 0xFFFF, false, false, none, 0xFFFF, 0, 0, false, 255, 255, 0, 0, 0, 0, 0, 0, false, false, false, false,
   .none, 0, 0, 0, 0, 0, false, none, none, 0, false, [], 0, false, none, none, []⟩

/-- The update session after a reset (R544). -/
def updReset : UpdState :=
  ⟨false, false, false, 0, 0, false, 0, false, false, false, false, false, 0, [], false, false, none, false, false⟩

/-- The dictionary service after a reset (R515, R529). -/
def dictReset : DictState :=
  ⟨none, 0, [], false, [], [], ⟨0, false, []⟩, false, 0, [], 0, []⟩

/-- The fault collector after a reset (R482). -/
def faultReset : FaultState := ⟨[], 0, false, false, 0, [], false⟩

/-- The Gangway at power-on: DISABLED, the model hot at 150 degrees, the cooldown running (R494, R499, R500). -/
def gwPowerOn (diode : Bool) : GwState :=
  ⟨.disabled, false, diode, none, 0, 80000000000, false, true, false, 0, 0, false, 0, 0, 0, 0, 0, 0⟩


/-- Ports and ring map after a reset. -/
def ringReset : RingState :=
  ⟨[Port.zero, Port.zero, Port.zero], [], [], [], [], 0, 0, [0, 0, 0], 0, [none, none, none, none, none, none, none, none]⟩

/-- The Hold after a reset: every bay on the free list, every row in use (R195, R197). -/
def holdReset : HoldState :=
  ⟨[(0, 2048)], [], 0, 0, [], [], [], [], [], [0, 0, 0, 0, 0, 0, 0, 0], [0, 0, 0, 0, 0, 0, 0, 0], [], [], [], [], [], [], [], 0⟩

/-- The bridge after a reset. -/
def bridgeReset : BridgeState :=
  ⟨List.replicate 16 Tag.zero, [], [], [], [], [], [], none, none, ⟨0, 0, 0, false, []⟩, 1, 0, [], [], false, []⟩

/-- The manifest after a reset: empty. -/
def manReset : ManState := ⟨[], [], none⟩

/-- The CAN block after a reset: every controller off, its buffers empty. -/
def canReset : CanState := ⟨[], []⟩

/-- The calibration after a reset. -/
def calReset : CalState := ⟨List.replicate 3 CalPort.zero, [], [], false, false⟩

/-- The time unit after a reset. -/
def timeReset : TimeState :=
  ⟨0, 0, false, false, false, false, [Domain.zero, Domain.zero], [none, none, none, none], none, 0, [0, 0], none, (0, 0, 0), none, [], [], [],
   List.replicate 16 Gen.zero, false⟩
/-- The machine right after power-on: in Approach with reset asserted, D0 alone released, every object at its default
(R32, R448, R471). Straps read position A, boot code 0 and no Slipway until a power-on command brings others (log entry 5). -/
def State.reset : State where
  objs := []
  blobs := []
  staged := []
  node := ⟨.approach, .approach, false, 0, false, false, false, false, false, false, false, false, false, false, false, false⟩
  rst := ⟨true, false, true, 1, [.released, .inReset, .inReset, .inReset, .inReset, .inReset, .inReset, .inReset],
    false, false, 0x0000000100403000, 0, false, 0, [0, 0, 0, 0, 0, 0, 0, 0], none, .none, false, [],
    List.replicate 22 .idle, false, false, false, 0,
    List.replicate 4 ⟨0, true, false⟩, false, none, true, false, false⟩
  tap := ⟨.idcode, .idcode, false, false⟩
  pins := ⟨0, 0, 0, 0, 0, 0, 0, 0, 0, 0, 0, 0, 0, 0, 0, 0⟩
  faults := faultReset
  tide := tideReset
  cranes := []
  fifos := []
  users := []
  chk := chkReset
  tally := tallyReset
  quay := quayReset
  twin := twinReset
  flash := ⟨[], [], [], [], [], []⟩
  upd := updReset
  dict := dictReset
  gw := gwPowerOn false
  ring := ringReset
  hold := holdReset
  bridge := bridgeReset
  man := manReset
  can := canReset
  cal := calReset
  time := timeReset
  freeCount := 0
  pending := []

end Sys2Proof.Machine
end

