-- ==== Sys2Proof/Machine/Ops.lean ====
section
/-! DEFINITION. The named operations over the state: objects, cranes, FIFOs, modes, free values. Every later file reads and writes the stores through them. -/

namespace Sys2Proof.Machine

/-- Bytes of a value of a type (R511); 0 for STR and DOMAIN, whose length varies. -/
def OType.size : OType → Nat
  | .bool | .u8 => 1
  | .u16 | .i16 => 2
  | .u32 | .i32 => 4
  | .u64 | .i64 => 8
  | .time80 => 10
  | .time96 => 12
  | .str | .domain => 0

/-- Code of a type (R511). -/
def OType.code : OType → Nat
  | .bool => 0x01 | .u8 => 0x02 | .u16 => 0x03 | .u32 => 0x04 | .u64 => 0x05
  | .i16 => 0x07 | .i32 => 0x08 | .i64 => 0x09
  | .time80 => 0x0B | .time96 => 0x0C | .str => 0x0D | .domain => 0x0E

/-- The value of a scalar object in the store. -/
def State.get (s : State) (o : Obj) : Nat := mapGet o.dflt s.objs o.key

/-- A scalar object written; a value wider than its type loses its high bits (counters wrap to zero). -/
def State.put (s : State) (o : Obj) (v : Nat) : State :=
  { s with objs := mapSet o.dflt s.objs o.key (v % 2 ^ (8 * o.ty.size)) }

/-- A counter advanced by n. -/
def State.addTo (s : State) (o : Obj) (n : Nat) : State := s.put o (s.get o + n)

/-- A counter advanced by 1. -/
def State.bump (s : State) (o : Obj) : State := s.addTo o 1

/-- The value of a signed object. -/
def State.getI (s : State) (o : Obj) : Int := toSigned (8 * o.ty.size) (s.get o)

/-- A signed object written, modulo its width. -/
def State.putI (s : State) (o : Obj) (i : Int) : State := s.put o (ofSigned (8 * o.ty.size) i)

/-- The default of a STR or DOMAIN object. -/
def Obj.blobDflt (o : Obj) : List Byte :=
  List.replicate o.dflt (if o.idx = 0x3002 then 0xFF else 0)

/-- The bytes of a STR or DOMAIN object in the store. -/
def State.blob (s : State) (o : Obj) : List Byte := mapGet o.blobDflt s.blobs o.key

/-- A STR or DOMAIN object written. -/
def State.putBlob (s : State) (o : Obj) (v : List Byte) : State :=
  { s with blobs := mapSet o.blobDflt s.blobs o.key v }

/-- Number of a mode (R31). -/
def Mode.num : Mode → Nat
  | .approach => 1 | .berthing => 2 | .anchored => 3 | .working => 4
  | .reduced => 5 | .dryDock => 6 | .quarantine => 7 | .slipway => 8

/-- The node is the Working chip of its pair: in Working or Reduced draught, or in Dry dock entered from one. -/
def State.working (s : State) : Bool :=
  match s.node.mode with
  | .working | .reduced => true
  | .dryDock => s.node.origin == .working || s.node.origin == .reduced
  | _ => false

/-- The node is in Anchored, or in Dry dock entered from Anchored. -/
def State.anchored (s : State) : Bool :=
  match s.node.mode with
  | .anchored => true
  | .dryDock => s.node.origin == .anchored
  | _ => false

/-- The chip accepts pair-addressed frames and serves spaces 0x01, 0x10 to 0x13, 0x20 and 0x40: it is the Working chip of its pair, or owns the
field pins in Slipway (R27, R201). -/
def State.workingChip (s : State) : Bool := s.working || (s.node.mode == .slipway && s.node.owns)

/-- Spaces 0x01, 0x10 to 0x13, 0x20 and 0x40 are served (R201). -/
def State.servesPair (s : State) : Bool := s.workingChip && s.node.owns

/-- Domain d is released (R455). -/
def State.released (s : State) (d : Nat) : Bool := s.rst.doms.getD d .inReset == .released

/-- The level of `TWIN_OWN_N`: high when neither chip drives it (R30). -/
def State.ownLine (s : State) : Bool := !s.node.claim && !s.node.twinLow

/-- The node number in use: PAIR_NODE + POS, 0 while unnumbered (R432). -/
def State.nodeNumber (s : State) : Nat := if s.node.pair = 0 then 0 else s.node.pair + b2n s.node.posB

/-- The twin's number, 0 while unnumbered. -/
def State.twinNumber (s : State) : Nat := if s.node.pair = 0 then 0 else s.node.pair + 1 - b2n s.node.posB

/-- The ring port that faces the twin: East of position A, West of position B (01). -/
def State.twinSide (s : State) : Nat := if s.node.posB then 1 else 0

/-- A mode entered, with the transition recorded in `MODE_PREV`, `MODE_TICK` and
`MODE_CHANGE_CNT` (R536). -/
def setMode (m : Mode) (s : State) : State :=
  if s.node.mode = m then s
  else
    let prev := s.node.mode
    let s := { s with node := { s.node with mode := m, origin := if m = Mode.dryDock then prev else m } }
    let s := s.put Obj.modePrev prev.num
    let s := s.put Obj.modeTick s.tide.tick
    s.bump Obj.modeChangeCnt

/-- Crane g. -/
def State.crane (s : State) (g : Nat) : Crane := mapGet Crane.zero s.cranes g

/-- Crane g written. -/
def State.setCrane (s : State) (g : Nat) (c : Crane) : State :=
  { s with cranes := mapSet Crane.zero s.cranes g c }

/-- FIFO f: 0 to 63 crane receive, 64 to 127 crane transmit, 128 to 135 CAN receive, 136 to 143 CAN gateway,
144 to 147 coarse logs, 148 to 179 fine-capture stores. -/
def State.fifo (s : State) (f : Nat) : Fifo := mapGet Fifo.empty s.fifos f

/-- FIFO f written. -/
def State.setFifo (s : State) (f : Nat) (x : Fifo) : State :=
  { s with fifos := mapSet Fifo.empty s.fifos f x }

/-- User word w of crane g (R272). -/
def State.userWord (s : State) (g w : Nat) : W64 := mapGet 0 s.users (g * 8 + w)

/-- User word w of crane g written. -/
def State.setUserWord (s : State) (g w : Nat) (v : W64) : State :=
  { s with users := mapSet 0 s.users (g * 8 + w) v }

/-- The next free value, and the state with one more drawn (log entry 3). -/
def State.draw (s : State) : W64 × State :=
  (Config.freeValue s.freeCount, { s with freeCount := s.freeCount + 1 })

/-- The tick period in units of 25 us (R43). -/
def State.period25 (s : State) : Nat := 2 ^ s.tide.code

/-- Slots per lane in a tick: N of R43. -/
def slotsOf (code : Nat) : Nat := 5000 * 2 ^ code

/-- Staged on-commit value of an object, if one is staged (R21). -/
def State.stagedOf (s : State) (o : Obj) : Option (List Byte) :=
  (s.staged.find? (fun e => e.1 == o.key)).map (·.2)

/-- An on-commit write staged: the last one of an object counts. -/
def State.stage (s : State) (o : Obj) (v : List Byte) : State :=
  { s with staged := s.staged.filter (fun e => e.1 != o.key) ++ [(o.key, v)] }

/-- Staged value of an object taken out of the staged writes. -/
def State.unstage (s : State) (o : Obj) : State :=
  { s with staged := s.staged.filter (fun e => e.1 != o.key) }

/-- A scalar object as its commit would leave it: staged, or else in effect. -/
def State.getStaged (s : State) (o : Obj) : Nat :=
  match s.stagedOf o with
  | some v => ofBytes v
  | none => s.get o

/-- Status bytes of R525. -/
def stIdle : Nat := 0
def stDone : Nat := 1
def stBusy : Nat := 2
def stAborted : Nat := 3
def stRefused : Nat := 4
def stNotReady : Nat := 5
def stNoClaim : Nat := 6
def stClock : Nat := 7
def stNoRecord : Nat := 8
def stChanged : Nat := 9
def stFatal : Nat := 0xA
def stSticky : Nat := 0xB
/-- The late-abort flag beside a status (R525). -/
def stLate : Nat := 0x80

/-- Error codes of R532; 0 stands for OK. -/
def ecOk : Nat := 0
def ecNoObject : Nat := 1
def ecSize : Nat := 2
def ecReadOnly : Nat := 3
def ecWriteOnly : Nat := 4
def ecValue : Nat := 5
def ecMode : Nat := 6
def ecLocked : Nat := 7
def ecStateBusy : Nat := 8
def ecTideFull : Nat := 9
def ecCheck : Nat := 0xA
def ecSegment : Nat := 0xB
def ecNoContext : Nat := 0xC
def ecBuffer : Nat := 0xD
def ecRole : Nat := 0xE
def ecInternal : Nat := 0xF

/-- The domain of the block of an object (R455, R524). -/
def objDomain (idx : Nat) : Nat :=
  if idx < 0x2000 then 5
  else if idx < 0x2300 ∨ (0x2400 ≤ idx ∧ idx < 0x2700) then 3
  else if idx < 0x4000 then 4
  else if idx < 0x5000 ∨ (0x5100 ≤ idx ∧ idx < 0x5500) then 6
  else if idx < 0x6000 then 4
  else if idx < 0x6400 ∨ (0x6430 ≤ idx ∧ idx < 0x7000) then 7
  else if 0x7900 ≤ idx ∧ idx < 0x7A00 then 5
  else 4

/-- A ring address (R201). -/
def ringAddr (node space off : Nat) : W64 := w64 (node % 256 * 2 ^ 56 + space % 256 * 2 ^ 48 + off % 2 ^ 48)

/-- The bridge changed. -/
def modBridge (f : BridgeState → BridgeState) (s : State) : State := { s with bridge := f s.bridge }

/-- Words held pending go back to the head (R231); a rollback gives no notice (R331). -/
def fifoRollback (f : Nat) (s : State) : State :=
  let x := s.fifo f
  s.setFifo f { x with words := x.pend ++ x.words, pend := [] }

end Sys2Proof.Machine
end

