-- ==== Sys2Proof/Machine/CanBase.lean ====
section
/-! DEFINITION. CAN controllers: access to their state, and what starts and stops them with space 0x20 (R355, R356). -/

namespace Sys2Proof.Machine

/-- Controller k, and its change. -/
def State.ctl (s : State) (k : Nat) : Can := mapGet Can.zero s.can.ctls k
def modCtl (k : Nat) (f : Can → Can) (s : State) : State :=
  { s with can := { s.can with ctls := mapSet Can.zero s.can.ctls k (f (s.ctl k)) } }

/-- Buffer b of controller k (64 is the pilot buffer), and its change. -/
def State.canBuf (s : State) (k b : Nat) : CanBuf := mapGet CanBuf.zero (s.ctl k).bufs b
def modBuf (k b : Nat) (f : CanBuf → CanBuf) (s : State) : State :=
  modCtl k (fun c => { c with bufs := mapSet CanBuf.zero c.bufs b (f (mapGet CanBuf.zero c.bufs b)) }) s

/-- The receive queue and the gateway queue of controller k (R365, R366). -/
def rxQueue (k : Nat) : Nat := 128 + k
def gwQueue (k : Nat) : Nat := 136 + k

/-- Fields of `CAN_CTRL` (R376). -/
def ccEnable (v : Nat) : Bool := bit v 0
def ccFd (v : Nat) : Bool := bit v 1
def ccMode (v : Nat) : Nat := fld v 2 2
def ccAuto (v : Nat) : Bool := bit v 4
def ccRetry (v : Nat) : Nat := fld v 5 4
def ccEwl (v : Nat) : Nat := fld v 9 8
def ccPilotFilter (v : Nat) : Nat := fld v 17 5
def ccPilotEn (v : Nat) : Bool := bit v 22
def ccPilotTx (v : Nat) : Bool := bit v 23

/-- Every `CANn_TX` goes recessive, in the middle of a frame too: the node takes no part in bus traffic (R355). -/
def canStopAll (s : State) : State :=
  (List.range 8).foldl (fun s k => modCtl k (fun c => { c with st := .off, tx := none, applyDue := false }) s) s

/-- Controller k starts from its committed configuration: buffers and queues empty, error counters zero (R356). -/
def canStart (k : Nat) (s : State) : State :=
  let ctrl := s.get (Obj.canCtrl k)
  let s := modCtl k (fun _ => { Can.zero with
    st := if ccEnable ctrl then .joining else .off, ctrl := ctrl, nom := s.get (Obj.bitNom k), dat := s.get (Obj.bitData k) }) s
  (s.setFifo (rxQueue k) Fifo.empty).setFifo (gwQueue k) Fifo.empty

/-- The node starts to serve space 0x20 (R356). -/
def canStartAll (s : State) : State := (List.range 8).foldl (fun s k => canStart k s) s

end Sys2Proof.Machine
end

