-- ==== Sys2Proof/Machine/Pins.lean ====
section
/-! DEFINITION. Field pins: levels, directions, keepers, the images and the pin groups of cranes (R251 to R254, R433). -/

namespace Sys2Proof.Machine

/-- The pads of the bank of quay q are isolated (R466, R468, R563). -/
def State.isolated (s : State) (q : Nat) : Bool := (s.rst.vio.getD q ⟨0, true, false⟩).isolated

/-- The input buffer of pin i is on: its pads are not isolated, and the quay's buffers and its own are on (R40, R433, R434, R468). -/
def State.hears (s : State) (i : Nat) : Bool := !s.isolated (i / 64) && bit s.pins.inBuf (i / 64) && !bit s.pins.bufOff i

/-- The level that field pin i shows the node: what this chip or its keeper drives on the line, or else what the outside drives; with its
input buffer off, an open one (log entry 94). -/
def State.pinLevel (s : State) (i : Nat) : Bool :=
  if !s.hears i then Config.deafPin i s.tide.tick
  else if bit s.pins.drive i then bit s.pins.level i
  else if bit s.pins.keep i then bit s.pins.keepLevel i
  else bit s.pins.line i

/-- Levels of n pins from pin base, as a number with the base in bit 0. -/
def State.pinLevels (s : State) (base n : Nat) : Nat :=
  maskOf ((List.range n).filter (fun i => s.pinLevel (base + i)))

/-- An output register and its direction written. -/
def setPin (i : Nat) (level drive : Bool) (s : State) : State :=
  { s with pins := { s.pins with level := setBit s.pins.level i level, drive := setBit s.pins.drive i drive } }

/-- An output level written. -/
def setLevel (i : Nat) (level : Bool) (s : State) : State :=
  { s with pins := { s.pins with level := setBit s.pins.level i level } }

/-- A direction written. -/
def setDrive (i : Nat) (drive : Bool) (s : State) : State :=
  { s with pins := { s.pins with drive := setBit s.pins.drive i drive } }

/-- Base pin of a group object and its width (R292): pins of the quay. -/
def grpBase (v : Nat) : Nat := fld v 8 6
def grpWidth (v : Nat) : Nat := fld v 0 4
def sideCount (v : Nat) : Nat := fld v 0 3

/-- Global number of pin n of the quay of crane g (R15). -/
def quayPin (g n : Nat) : Nat := g / 16 * 64 + n

/-- The output pins of crane g under its committed objects: those of its OUT and side groups (R252). -/
def State.outPins (s : State) (g : Nat) : List Nat :=
  let o := s.get (Obj.pinOut g)
  let d := s.get (Obj.pinSide g)
  ((List.range (grpWidth o)).map (fun i => quayPin g (grpBase o + i))) ++
  ((List.range (sideCount d)).map (fun i => quayPin g (grpBase d + i)))

/-- The crane that owns an output pin, if one does (R252). -/
def State.pinCrane (s : State) (i : Nat) : Option Nat :=
  ((List.range 16).map (fun c => i / 64 * 16 + c)).find? (fun g => (s.outPins g).contains i)

/-- The pins that the node stops driving are held by their keepers at that edge's level and direction (R433). -/
def keepersHold (s : State) : State :=
  { s with pins := { s.pins with
      keep := s.pins.keep ||| s.pins.drive,
      keepLevel := clearBits s.pins.keepLevel s.pins.drive ||| (s.pins.level &&& s.pins.drive),
      drive := 0 } }

/-- The keepers release every pin to high impedance with input buffers off (R433). -/
def keepersRelease (s : State) : State :=
  { s with pins := { s.pins with keep := 0, inBuf := 0 } }

/-- The input buffers of every field pin on and the quay clocks started (R32, R34, R434 step 3). -/
def buffersOn (s : State) : State := { s with pins := { s.pins with inBuf := 15, clocks := 15, bufOff := 0 } }

/-- Every pin at high impedance, input buffers off, keepers released: the state of a cold reset (R449, R466). -/
def padsOff (s : State) : State :=
  { s with pins := { s.pins with drive := 0, keep := 0, inBuf := 0, clocks := 0 } }

end Sys2Proof.Machine
end

