-- ==== Sys2Proof/Machine/TimeBase.lean ====
section
/-! DEFINITION. Times and captures as other blocks read them (R275, R378, R379, R392, R399). -/

namespace Sys2Proof.Machine

/-- Units of 2^-16 ns in a nanosecond and in a second. -/
def nsUnits : Nat := 65536
def secUnits : Nat := 1000000000 * 65536

/-- Tick period in ns and in units (R43). -/
def periodNs (code : Nat) : Nat := 25000 * 2 ^ code
def periodUnits (code : Nat) : Nat := periodNs code * nsUnits

/-- A time in units as seconds, nanoseconds and FRAC (R378); times before the epoch read 0. -/
def timeSec (t : Int) : Nat := t.toNat / secUnits % 2 ^ 48
def timeNs (t : Int) : Nat := t.toNat / nsUnits % 1000000000
def timeFrac (t : Int) : Nat := t.toNat % nsUnits

/-- A time as TIME96 and as TIME80 (R378). -/
def time96 (t : Int) : Nat := timeSec t * 2 ^ 48 + timeNs t * 2 ^ 16 + timeFrac t
def time80 (t : Int) : Nat := timeSec t * 2 ^ 32 + timeNs t

/-- The time that seconds, nanoseconds and FRAC give. -/
def timeOf (sec ns frac : Nat) : Int := (sec * secUnits + ns * nsUnits + frac : Nat)

/-- The time unit changed. -/
def modTime (f : TimeState → TimeState) (s : State) : State := { s with time := f s.time }

/-- Domain d, and its change. -/
def State.domain (s : State) (d : Nat) : Domain := s.time.doms.getD d Domain.zero
def modDomain (d : Nat) (f : Domain → Domain) (s : State) : State := modTime (fun t => { t with doms := modifyAt t.doms d f }) s

/-- The working domain (R379). -/
def State.workDom (s : State) : Nat := s.get Obj.workDomain

/-- Domain d is Locked or Master (R392). -/
def State.domGood (s : State) (d : Nat) : Bool := s.get (Obj.domState d) == 2 || s.get (Obj.domState d) == 5

/-- The node is locked to the working domain (R392). -/
def State.timeLocked (s : State) : Bool := s.domGood s.workDom

/-- The node is the master of domain d: the chip of the named pair that owns the field pins (R382). -/
def State.masters (s : State) (d : Nat) : Bool :=
  let m := s.get (if d = 0 then Obj.masterA else Obj.masterB)
  let own := s.nodeNumber
  m != 0 && own != 0 && m == (if own % 2 = 0 then own - 1 else own) && s.node.owns

/-- Boundary moved by a slew or a step of the working domain, or the domain changed, in this tick (R145, R398). -/
def State.boundaryMoved (s : State) : Bool := s.time.moved

/-- Last rising or falling time of a pin, in ns. -/
def State.capture (s : State) (rising : Bool) (pin : Nat) : Option Nat :=
  ((if rising then s.time.rise else s.time.fall).find? (fun e => e.1 == pin)).map (·.2)

/-- The later of two captures. -/
def laterOf (a b : Option Nat) : Option Nat :=
  match a, b with
  | some x, some y => some (Nat.max x y)
  | some x, none => some x
  | none, y => y

/-- DATA of a STAMP of a pin and EDGE code (R275): without an edge the nanoseconds are 0xFFFFFFFF, and the seconds are a free value
(log entry 3). -/
def State.stampData (s : State) (pin edge : Nat) : W64 :=
  let c := match edge with
    | 1 => s.capture true pin
    | 2 => s.capture false pin
    | _ => laterOf (s.capture true pin) (s.capture false pin)
  match c with
  | some t => w64 (t / 1000000000 % 2 ^ 32 * 2 ^ 32 + t % 1000000000)
  | none => w64 ((Config.freeValue s.freeCount).toNat % 2 ^ 32 * 2 ^ 32 + 0xFFFFFFFF)

/-- The coarse captures of the field pins cleared (R399). -/
def clearCaptures (s : State) : State :=
  modTime (fun t => { t with rise := t.rise.filter (fun e => decide (256 ≤ e.1)), fall := t.fall.filter (fun e => decide (256 ≤ e.1)) }) s

end Sys2Proof.Machine
end

