-- ==== Sys2Proof/Machine/PulseBase.lean ====
section
/-! DEFINITION. Pulse generators: their state, the pins they hold, and what stops them (R402 to R405). -/

namespace Sys2Proof.Machine

/-- Generator n, and its change. -/
def State.gen (s : State) (n : Nat) : Gen := s.time.gens.getD n Gen.zero
def setGen (n : Nat) (g : Gen) (s : State) : State := modTime (fun t => { t with gens := t.gens.set n g }) s

/-- A pulse generator holds a field pin (R404). -/
def State.genHolds (s : State) (pin : Nat) : Bool := s.time.gens.any (fun g => g.holds == some pin)

/-- STATUS of R402. -/
def Gen.status (g : Gen) : Nat := g.emitted % 2 ^ 32 * 2 ^ 32 + g.code * 2 ^ 4 + g.st

/-- The level of a generator's target (R403): active while a pulse lasts. -/
def Gen.level (g : Gen) : Bool := g.active != g.invert

/-- A generator's target driven to its level: a field pin, or `TCLK_OUT` (R403, R406). -/
def genDrive (n : Nat) (s : State) : State :=
  let g := s.gen n
  match g.holds with
  | some t =>
    if t < 256 then (if s.node.owns then setPin t g.level true s else s)
    else if t = 256 then modTime (fun x => { x with tclk := g.level }) s
    else s
  | none => s

/-- A generator stops: the pulse in progress ends (R405). -/
def genStop (n : Nat) (s : State) : State :=
  let g := s.gen n
  if g.st = 1 ∨ g.st = 2 then genDrive n (setGen n { g with st := 4, active := false, stopping := false } s) else s

/-- Every pulse generator stops (R405). -/
def pulsesStop (s : State) : State := (List.range 16).foldl (fun s n => genStop n s) s

end Sys2Proof.Machine
end

