-- ==== Sys2Proof/Machine/Ownership.lean ====
section
/-! DEFINITION. What happens when the node stops owning the field pins (R254, R424, R433), shared by give-up, hand-over, Quarantine and resets. -/

namespace Sys2Proof.Machine

/-- `HALT_INFO` of a crane stopped where it stands (R287): 2 in a shift, 1 in a wait that had not taken effect,
0 between two instructions. -/
def Phase.haltInfo : Phase → Nat
  | .shifting => 2
  | .ready | .delay _ => 0
  | .waiting | .pushWait | .pullWait | .stampWait | .sync | .chkWait => 1

/-- A crane runs: it is Running or Stalled (R282). -/
def Crane.active (c : Crane) : Bool := c.st == .running || c.st == .stalled

/-- A crane stopped where it is, all registers kept; a pending cross-quay start or restart drops out (R285, R287). -/
def haltCrane (g : Nat) (s : State) : State :=
  let c := s.crane g
  if c.active then
    (s.setCrane g { c with st := .halted, changed := false, lateHalt := false, pendStart := false, pendClk := false }).put
      (Obj.haltInfo g) c.phase.haltInfo
  else s.setCrane g { c with pendStart := false, pendClk := false }

/-- Every crane halts (R254). -/
def haltAllCranes (s : State) : State := (List.range 64).foldl (fun s g => haltCrane g s) s

/-- The node stops owning the field pins: every crane halts, the keepers hold every output, `CANn_TX` goes recessive and
the generators stop; the quay clocks stop (R254, R355, R405, R414, R433). -/
def loseOwnership (s : State) : State :=
  if s.node.owns then
    let s := keepersHold (pulsesStop (haltAllCranes s))
    let s := canStopAll s
    { s with node := { s.node with owns := false, resume := false }, pins := { s.pins with clocks := 0 } }
  else s

/-- A line pick-up in progress ends: the clocks it started stop, and with hold the keepers take the pins it drives, which go high impedance
otherwise (R41, R433, R466). -/
def stopPickup (hold : Bool) (s : State) : State :=
  if s.twin.pick = .none then s
  else
    let s := if hold then keepersHold s else { s with pins := { s.pins with drive := clearBits s.pins.drive s.twin.map } }
    { s with pins := { s.pins with clocks := 0 }, twin := { s.twin with pick := .none, map := 0, gapFrom := none } }

/-- The node stops owning the pins and releases `TWIN_OWN_N`: steps 1 and 2 of R424. -/
def releaseOwnership (s : State) : State :=
  let s := stopPickup true (loseOwnership s)
  { s with node := { s.node with claim := false } }

end Sys2Proof.Machine
end

