-- ==== Sys2Proof/Machine/Faults.lean ====
section
/-! DEFINITION. The fault collector (14): records, classes, counters, Quarantine, reading and clearing. -/

namespace Sys2Proof.Machine

/-- The class of a source (R476). -/
def srcClass (src : Nat) : FClass :=
  if src = 0x16 ∨ src = 0x3C then .fatal
  else if [0x01, 0x06, 0x07, 0x09, 0x0A, 0x10, 0x11, 0x18, 0x21, 0x24, 0x28, 0x30, 0x32, 0x33, 0x34, 0x36, 0x3A, 0x3B].contains src
  then .corrected
  else .contained

/-- Code of a class (R472). -/
def FClass.code : FClass → Nat
  | .corrected => 1 | .contained => 2 | .fatal => 3

/-- The 128 bits of a record (R473). -/
def FaultRec.bits (r : FaultRec) : Nat :=
  r.seq * 2 ^ 112 + r.tick * 2 ^ 64 + r.src * 2 ^ 56 + r.cls.code * 2 ^ 54 + b2n r.injected * 2 ^ 53 +
  b2n r.sticky * 2 ^ 52 + b2n r.updated * 2 ^ 51 + r.reps * 2 ^ 40 + r.inst * 2 ^ 32 + r.detail

/-- The SEQ after n: advanced by 1 mod 2^16, 0 skipped (R473). -/
def nextSeq (n : Nat) : Nat := n % 0xFFFF + 1

/-- The lowest free place among n places from base. -/
def freePlace (recs : List FaultRec) (base n : Nat) : Option Nat :=
  ((List.range n).map (base + ·)).find? (fun p => recs.all (fun r => r.place != p))

/-- The fault interrupt of the core is raised when the class is enabled (R479). -/
def faultIrq (c : FClass) (s : State) : State :=
  if bit (s.get Obj.faultIrqEn) (c.code - 1) then { s with faults := { s.faults with irq := true } } else s

/-- A record lost or replaced (R475). -/
def faultLost (s : State) : State :=
  let s := s.bump Obj.faultLostCnt
  { s with faults := { s.faults with overflow := true } }

/-- A new record stored in a place (R473). -/
def storeRecord (place src inst detail : Nat) (injected : Bool) (s : State) : State :=
  let q := nextSeq s.faults.seq
  let r : FaultRec := ⟨place, q, s.tide.tick, src, srcClass src, injected, src == 0x38, true, 0, inst % 256, detail % 2 ^ 32⟩
  faultIrq (srcClass src) { s with faults := { s.faults with recs := s.faults.recs ++ [r], seq := q } }

/-- A new record: stored, replacing another, or lost (R475). -/
def newRecord (src inst detail : Nat) (injected : Bool) (s : State) : State :=
  match freePlace s.faults.recs 0 60 with
  | some p => storeRecord p src inst detail injected s
  | none =>
    match srcClass src with
    | .corrected => faultLost s
    | .contained =>
      match s.faults.recs.find? (fun r => r.cls == .corrected) with
      | some v =>
        let s := faultLost { s with faults := { s.faults with recs := s.faults.recs.filter (fun r => r.place != v.place) } }
        storeRecord v.place src inst detail injected s
      | none => faultLost s
    | .fatal =>
      match freePlace s.faults.recs 60 4 with
      | some p => storeRecord p src inst detail injected s
      | none => faultLost s

/-- The record that an event makes, or the REPEAT it advances (R474, R475). -/
def recordEvent (src inst detail : Nat) (injected : Bool) (s : State) : State :=
  if s.faults.recs.any (fun r => r.src == src && r.inst == inst % 256) then
    faultIrq (srcClass src) { s with faults := { s.faults with recs := s.faults.recs.map (fun r =>
      if r.src == src && r.inst == inst % 256 then { r with reps := capAt 255 (r.reps + 1), updated := true } else r) } }
  else newRecord src inst detail injected s

/-- The owner lock closes (R529). -/
def lockClose (s : State) : State := { s with dict := { s.dict with holder := none } }

/-- An event counted and recorded (R474 to R477). -/
def eventNoted (injected : Bool) (src inst detail : Nat) (s : State) : State :=
  recordEvent src inst detail injected ((s.bump (Obj.srcCnt src)).bump Obj.faultEventCnt)

/-- The FIFO behind a pop window: crane receive FIFOs, CAN receive queues, capture stores (R204 kinds 5, 10 and 14). -/
def winFifo (w : Win) : Nat := w.unit

/-- A window whose reads pop (R204). -/
def isPop (kind : Nat) : Bool := kind == 5 || kind == 10 || kind == 14

/-- A discarded word of a window whose reads have another side effect (R232). -/
def sideEffectLost (node : Nat) (w : Win) (off : Nat) (s : State) : State :=
  let a := ringAddr node w.space off
  eventNoted false 0x18 0 (a.toNat % 2 ^ 32) ((s.bump Obj.sideEffectDiscardCnt).put Obj.lastSideEffectAddr a.toNat)

/-- The words of a stream discarded (R230 to R232). -/
def dropStream (st : Stream) (s : State) : State :=
  let s := modBridge (fun b => { b with streams := b.streams.filter (fun x => !(x.node == st.node && x.win == st.win)) }) s
  let s := s.addTo Obj.prefetchDiscardCnt st.words.length
  if st.words.isEmpty then s
  else if isPop st.win.kind then fifoRollback (winFifo st.win) (s.bump Obj.rollbackCnt)
  else if st.win.kind = 7 then st.words.foldl (fun s w => sideEffectLost s.nodeNumber st.win w.1 s) s
  else s

/-- Every stream that a test picks discarded. -/
def dropStreams (p : Stream → Bool) (s : State) : State := (s.bridge.streams.filter p).foldl (fun s st => dropStream st s) s

/-- A stream holds words that FIFO f keeps pending (R231). -/
def onFifo (f : Nat) (st : Stream) : Bool := isPop st.win.kind && winFifo st.win == f

/-- Another consumer is about to pop FIFO f: streams on it are discarded first (R231). -/
def claimFifo (f : Nat) (s : State) : State := dropStreams (onFifo f) s

/-- Entry into Quarantine on a fatal event (R483). In Quarantine nothing else changes (R485). No window is served there: the streams end (R230). -/
def quarantine (src inst : Nat) (s : State) : State :=
  if s.node.mode = .quarantine ∨ s.node.mode = .approach then s
  else
    let s := { s with faults := { s.faults with cause := src * 2 ^ 56 + inst % 256 * 2 ^ 48 + s.tide.tick } }
    let s := setMode .quarantine (releaseOwnership s)
    let s := { s with node := { s.node with toAnchored := false, waitB := false, toDryDock := false, leaveDryDock := false,
                                            keptOwn := false } }
    let s := lockClose { s with rst := { s.rst with wdt := false, crit := if src = 0x3C then .waitKeepers else s.rst.crit } }
    let s := dropStreams (fun _ => true) s
    if src = 0x16 ∨ (src = 0x3C ∧ 1 ≤ inst ∧ inst ≤ 4) then { s with faults := { s.faults with lanesIdle := true } } else s

/-- An event that reaches the fault collector (R474 to R477): counted, recorded, and acted on when fatal. While D4 is in
reset it is neither recorded nor counted (R476). -/
def raiseAs (injected : Bool) (src inst detail : Nat) (s : State) : State :=
  if s.released 4 then
    let s := eventNoted injected src inst detail s
    if srcClass src = .fatal then quarantine src inst s else s
  else s

/-- An event of a detector. -/
def raise (src inst detail : Nat) (s : State) : State := raiseAs false src inst detail s

/-- `FAULT_SUMMARY` (R489). -/
def State.faultSummary (s : State) : Nat :=
  let n := fun c => (s.faults.recs.filter (fun r => r.cls == c)).length
  b2n s.faults.overflow * 2 ^ 31 + n .fatal * 2 ^ 16 + n .contained * 2 ^ 8 + n .corrected

/-- `ERR_N` is low while a record is open, and until every domain in reach is released or held (R466, R478). -/
def State.errN (s : State) : Bool :=
  s.faults.recs.isEmpty && !s.rst.asserted && s.rst.doms.all (fun d => d != .inReset)

/-- The node's own doorbell bit (R51, R479). -/
def State.bell (s : State) : Bool :=
  s.faults.recs.any (fun r => bit (s.get Obj.faultBellEn) (r.cls.code - 1))

/-- The open records in ascending SEQ, as `FAULT_LIST` returns them (R480). -/
def State.faultList (s : State) : List Byte := s.faults.recs.flatMap (fun r => bytesOf 16 r.bits)

/-- The latch of `FAULT_LIST`: the records are copied and UPDATED is cleared in each (R480, R518). -/
def latchFaults (s : State) : State :=
  let l := s.faultList
  { s with faults := { s.faults with copy := l, recs := s.faults.recs.map (fun r => { r with updated := false }) } }

/-- The status of `FAULT_CLEAR` written. -/
def clearStatus (st : Nat) (s : State) : State := s.put Obj.faultClear st

/-- OP 0x01: the record with a SEQ cleared when its REPEAT is as written (R481). -/
def clearOne (seq reps : Nat) (s : State) : State :=
  match s.faults.recs.find? (fun r => r.seq == seq) with
  | none => clearStatus stNoRecord s
  | some r =>
    if r.cls = .fatal then clearStatus stFatal s
    else if r.sticky then clearStatus stSticky s
    else if r.reps ≠ reps then clearStatus stChanged s
    else clearStatus stDone { s with faults := { s.faults with recs := s.faults.recs.filter (fun x => x.seq != seq) } }

/-- OP 0x02 and 0x03: records of the classes picked cleared when they are not fatal, not sticky and not updated since they
were read; OVERFLOW cleared (R481). -/
def clearMany (pick : FClass → Bool) (s : State) : State :=
  clearStatus stDone { s with faults := { s.faults with
    overflow := false,
    recs := s.faults.recs.filter (fun r => !pick r.cls || r.cls == .fatal || r.sticky || r.updated) } }

/-- A write to `FAULT_CLEAR` (R481): the code of R532 and the state. -/
def faultClear (v : Nat) (s : State) : State × Nat :=
  match fld v 0 8 with
  | 1 => (clearOne (fld v 16 16) (fld v 8 8) s, ecOk)
  | 2 => (clearMany (· == .corrected) s, ecOk)
  | 3 => (clearMany (fun _ => true) s, ecOk)
  | _ => (s, ecValue)

/-- A parity error in a place of the record store: the place is emptied, then source 0x3F is recorded (R476). -/
def recordParity (place : Nat) (s : State) : State :=
  raise 0x3F place 0 { s with faults := { s.faults with recs := s.faults.recs.filter (fun r => r.place != place) } }

/-- The effect of `RECORD_STORE_PARITY` (R476): nothing while D4 is in reset. -/
def execRecordStoreParity (place : Fin 64) (s : State) : Host.Outcome State Fault Refusal :=
  .next (if s.released 4 then recordParity place s else s)

end Sys2Proof.Machine
end

