-- ==== Sys2Proof/Machine/Criteria.lean ====
section
/-! DEFINITION. The give-up criteria of R423: which hold, and the hold-ups they meet; and the failing items of the self-test (R420, R421). -/

namespace Sys2Proof.Machine

/-- A self-test item of R420 fails in the cycle in progress, on a chip in Anchored: counted and recorded once per cycle
(R421). -/
def selfTestFail (item : Nat) (s : State) : State :=
  if s.anchored ∧ !bit s.twin.stFail item then
    raise 0x30 item 0 { s.bump Obj.selftestFailCnt with twin := { s.twin with stFail := setBit s.twin.stFail item true } }
  else s

/-- The twin's last health report shows ready and is under 32 ticks old (R40, R419, R424). -/
def State.twinReady (s : State) : Bool :=
  match s.twin.health with
  | some (w :: _) => w.toNat.testBit 43 && wfld w 0 32 == s.get Obj.savedGen && decide (s.twin.healthAge < 32)
  | _ => false

/-- A criterion of R423 holds. While it is enabled and the twin is not ready, the owner counts the hold-up once (R424). -/
def holdCriterion (c : Nat) (s : State) : State :=
  let s := { s with twin := { s.twin with crit := setBit s.twin.crit (c - 1) true } }
  if s.node.owns ∧ bit (s.get Obj.giveupEn) (c - 1) ∧ !s.twinReady ∧ !bit s.twin.blocked (c - 1) then
    { s.bump Obj.giveupBlockedCnt with twin := { s.twin with blocked := setBit s.twin.blocked (c - 1) true } }
  else s

/-- A criterion no longer holds. -/
def dropCriterion (c : Nat) (s : State) : State :=
  { s with twin := { s.twin with crit := setBit s.twin.crit (c - 1) false, blocked := setBit s.twin.blocked (c - 1) false } }

end Sys2Proof.Machine
end

