-- ==== Sys2Proof/Machine/Frames.lean ====
section
/-! DEFINITION. Ring frames: headers, trailers, their checks, and frames as cargo words (R10 to R14). -/

namespace Sys2Proof.Machine

/-- Fields of a header word (R11). -/
def hDnode (h : W64) : Nat := wfld h 56 8
def hSnode (h : W64) : Nat := wfld h 48 8
def hDport (h : W64) : Nat := wfld h 40 8
def hClass (h : W64) : Nat := wfld h 38 2
def hSeq (h : W64) : Nat := wfld h 26 12
def hLen (h : W64) : Nat := wfld h 20 6
def hTtl (h : W64) : Nat := wfld h 14 6
def hDup (h : W64) : Bool := bit h.toNat 13
def hRelay (h : W64) : Bool := bit h.toNat 12
def hPoison (h : W64) : Bool := bit h.toNat 11
def hAck (h : W64) : Bool := bit h.toNat 10

/-- HCRC of a header word (R12): over bits [63:8], bits [15:8] first. -/
def hcrc (h : Nat) : Nat := crc8 (bytesOf 7 (h / 256))

/-- A header word without its HCRC given its HCRC. -/
def sealHdr (h : Nat) : W64 := w64 (h / 256 * 256 + hcrc h)

/-- The header word of a frame that a node originates (R11); flags is the value of bits [13:10]. -/
def mkHdr (dnode snode dport cls seq len ttl flags : Nat) : W64 :=
  sealHdr (dnode % 256 * 2 ^ 56 + snode % 256 * 2 ^ 48 + dport % 256 * 2 ^ 40 + cls % 4 * 2 ^ 38 + seq % 4096 * 2 ^ 26 +
    len % 64 * 2 ^ 20 + ttl % 64 * 2 ^ 14 + flags % 16 * 2 ^ 10)

/-- The header with another TTL (R167). -/
def setTtl (h : W64) (ttl : Nat) : W64 :=
  sealHdr (h.toNat / 2 ^ 20 * 2 ^ 20 + ttl % 64 * 2 ^ 14 + h.toNat % 2 ^ 14)

/-- The header check of R164, but for the KIND of the word. -/
def hdrOk (h : W64) : Bool :=
  wfld h 0 8 == hcrc h.toNat && hDnode h != 0 && decide (hLen h ≤ 32)

/-- PCRC of payload words (R13). -/
def pcrc (pay : List PWord) : Nat :=
  if pay.isEmpty then 0 else crc32c (bytesOfWords (pay.map (·.data)))

/-- The trailer word of a frame started in a tick (R13). -/
def mkTrl (tick : Nat) (pay : List PWord) : W64 := w64 (tick % 2 ^ 16 * 2 ^ 32 + pcrc pay)

/-- TICK_LOW of a trailer. -/
def tTick (t : W64) : Nat := wfld t 32 16

/-- The trailer of a frame passes its CRC (R13). -/
def Frame.crcOk (f : Frame) : Bool := wfld f.trl 0 32 == pcrc f.pay

/-- A frame as cargo words (R10). -/
def Frame.words (f : Frame) : List Cargo :=
  ⟨true, .first, 8, false, f.hdr⟩ :: (f.pay.map (fun w => (⟨true, .middle, 8, w.p, w.data⟩ : Cargo)) ++ [⟨true, .last, 8, false, f.trl⟩])

/-- The payload words of cargo words. -/
def payOf (ws : List Cargo) : List PWord := ws.map (fun w => ⟨w.data, w.p⟩)

/-- The frame that cargo words hold when they are LEN + 2 words whose header and trailer are not poisoned. -/
def frameOf (ws : List Cargo) : Option Frame :=
  match ws with
  | [] => none
  | h :: t =>
    match t.getLast? with
    | none => none
    | some l =>
      if ws.length = hLen h.data + 2 ∧ !h.p ∧ !l.p then some ⟨h.data, payOf t.dropLast, l.data⟩ else none

/-- Payload word i of a frame. -/
def Frame.word (f : Frame) (i : Nat) : W64 := (f.pay.getD i ⟨0, false⟩).data

/-- A payload word without poison. -/
def pw (w : W64) : PWord := ⟨w, false⟩

/-- Bays of a frame of LEN payload words (R161). -/
def bayCount (len : Nat) : Nat := (len + 9) / 8

end Sys2Proof.Machine
end

