-- ==== Sys2Proof/Machine/Line.lean ====
section
/-! DEFINITION. The 72b/74b line code and the scrambler (R78 to R83). -/

namespace Sys2Proof.Machine

/-- Code of a KIND (R6). -/
def kindBits : Kind → Nat
  | .middle => 0 | .first => 1 | .last => 2 | .only => 3

/-- KIND of a code. -/
def kindOfBits (n : Nat) : Kind := if n = 1 then .first else if n = 2 then .last else if n = 3 then .only else .middle

/-- The 72 bits of a cargo word (R6). -/
def Cargo.bits (w : Cargo) : Nat :=
  b2n w.v * 2 ^ 71 + kindBits w.kind * 2 ^ 69 + w.bytes.toNat * 2 ^ 65 + b2n w.p * 2 ^ 64 + w.data.toNat

/-- The cargo word that 72 bits hold. -/
def cargoOfBits (n : Nat) : Cargo := ⟨n.testBit 71, kindOfBits (fld n 69 2), BitVec.ofNat 4 (fld n 65 4), n.testBit 64, w64 n⟩

/-- Control block types (R80). -/
def tyIdle : Nat := 0x1E
def tyTick : Nat := 0x2D
def tyMark : Nat := 0x33
def tyTapreq : Nat := 0x4B
def tyHarbour : Nat := 0x55
def tyEbb : Nat := 0x66
def tySpan : Nat := 0x78
def tyLanemap : Nat := 0x87
def tyLoop : Nat := 0x99
def tyCal : Nat := 0xAA
def tyPstep : Nat := 0xB4
def tyTrain : Nat := 0xCC

/-- A TYPE of the table of R80; every other one is unknown. -/
def listedType (t : Nat) : Bool :=
  [tyIdle, tyTick, tyMark, tyTapreq, tyHarbour, tyEbb, tySpan, tyLanemap, tyLoop, tyCal, tyPstep, tyTrain].contains t

/-- A block of a TYPE is sent in clear, and loads the scrambler (R83). -/
def inClear (t : Nat) : Bool := t == tyTick || t == tyMark

/-- A 74-bit block: its sync header and its 72 payload bits (R78). -/
structure Line where
  hdr : Nat
  body : Nat
  deriving DecidableEq, Repr

/-- The bits of a block in the order in which they are sent: H[0], H[1], then the payload from bit 0 up (R78). -/
def Line.serial (b : Line) : List Bool :=
  b.hdr.testBit 0 :: b.hdr.testBit 1 :: (List.range 72).map (fun i => b.body.testBit i)

/-- A word position as a block, before scrambling (R78). -/
def Sym.line : Sym → Line
  | .word c => ⟨1, Cargo.bits c⟩
  | .ctrl t w => ⟨2, t % 256 * 2 ^ 64 + w.toNat⟩

/-- What a receiver reads in a block, descrambled (R78, R79). -/
inductive LineRead where
  | sym (y : Sym)
  /-- A data block with V = 0 counts as IDLE. -/
  | idle
  /-- An invalid header or an unknown TYPE: a sync error, and the word that stands for the block. -/
  | bad (c : Cargo)
  deriving DecidableEq, Repr

/-- The word that stands for a bad block (R79). -/
def badWord (body : Nat) : Cargo := ⟨true, .middle, 8, true, w64 body⟩

/-- A block read (R78, R79). -/
def readLine (b : Line) : LineRead :=
  if b.hdr = 1 then (let c := cargoOfBits b.body; if c.v then .sym (.word c) else .idle)
  else if b.hdr = 2 ∧ listedType (fld b.body 64 8) then .sym (.ctrl (fld b.body 64 8) (w64 b.body))
  else .bad (badWord b.body)

/-- A block with the P and N wires of its lane swapped: every bit inverted (R76). -/
def Line.swapped (b : Line) : Line := ⟨3 - b.hdr % 4, (2 ^ 72 - 1) - b.body % 2 ^ 72⟩

/-- The seed of a lane (R83). -/
def seedOf (lane : Nat) : Nat := 0x2AAAAAAA ^^^ ((lane + 1) * 0x01010101)

/-- The bit that the scrambler forms, and its next state (R83). -/
def scrBit (x : Nat) : Bool := x.testBit 30 != x.testBit 27
def scrNext (x : Nat) : Nat := (2 * x + b2n (scrBit x)) % 2 ^ 31

/-- n payload bits scrambled from bit 0 up, with the state after them (R83). The same run descrambles. -/
def scrRun : Nat → Nat → Nat → Nat × Nat
  | 0, x, _ => (0, x)
  | n + 1, x, v =>
    let r := scrRun n (scrNext x) (v / 2)
    (2 * r.1 + b2n (v.testBit 0 != scrBit x), r.2)

/-- A block as a lane sends it from a scrambler state, and the state after it: TICK and MARK go in clear and load the seed (R83). -/
def Line.sent (lane x : Nat) (b : Line) : Line × Nat :=
  if b.hdr = 2 ∧ inClear (fld b.body 64 8) then (b, seedOf lane)
  else
    let r := scrRun 72 x b.body
    (⟨b.hdr, r.1⟩, r.2)

/-- A scrambled block as its receiver descrambles it, and the state after it (R83). -/
def Line.taken (x : Nat) (b : Line) : Line × Nat :=
  let r := scrRun 72 x b.body
  (⟨b.hdr, r.1⟩, r.2)

/-- Blocks sent one after another on a lane. -/
def sentLines (lane : Nat) : Nat → List Line → List Line × Nat
  | x, [] => ([], x)
  | x, b :: t =>
    let r := b.sent lane x
    let q := sentLines lane r.2 t
    (r.1 :: q.1, q.2)

/-- Bits in which a TRAIN block differs from the scrambler sequence of its lane (R104): all of TYPE and CONTENT count. -/
def trainErrors (x body : Nat) : Nat × Nat :=
  let r := scrRun 72 x body
  (popCount 72 (r.1 ^^^ (tyTrain * 2 ^ 64)), r.2)

/-- The errors of TRAIN blocks one after another, with the state after them. -/
def trainsErrors : Nat → List Nat → Nat × Nat
  | x, [] => (0, x)
  | x, b :: t =>
    let r := trainErrors x b
    let q := trainsErrors r.2 t
    (r.1 + q.1, q.2)

/-- The CONTENT of a TICK block (R82). -/
def tickContent (set lane tick : Nat) : W64 :=
  let v := set % 32 * 2 ^ 51 + lane % 8 * 2 ^ 48 + tick % 2 ^ 48
  w64 (v + crc8 (bytesOf 7 v) * 2 ^ 56)

/-- Lanes in a set. -/
def laneNum (set : Nat) : Nat := popCount 5 set

end Sys2Proof.Machine
end

