-- ==== Sys2Proof/Machine/RingBase.lean ====
section
/-! DEFINITION. Ring ports and the ring map as the other blocks see them: states of directions, neighbours, hops, usable paths
(R30, R114, R118). -/

namespace Sys2Proof.Machine

/-- Port p. -/
def State.port (s : State) (p : Nat) : Port := s.ring.ports.getD p Port.zero

/-- Firmware generation of the image that runs (R92, R418, R427). -/
def State.fwGen (s : State) : Nat := (Config.fwGen s.upd.slot).toNat

/-- The ring state changed. -/
def modRing (f : RingState → RingState) (s : State) : State := { s with ring := f s.ring }

/-- Port p changed. -/
def modPort (p : Nat) (f : Port → Port) (s : State) : State := modRing (fun r => { r with ports := modifyAt r.ports p f }) s

/-- Direction state codes of R120. -/
def dOff : Nat := 0
def dDetect : Nat := 1
def dPilot : Nat := 2
def dBit : Nat := 3
def dBlock : Nat := 4
def dHarbour : Nat := 5
def dActive : Nat := 6
def dEbb : Nat := 7
def dLoop : Nat := 8

/-- The receive and the transmit direction of port p. -/
def State.rx (s : State) (p : Nat) : Nat := s.get (Obj.rxState p)
def State.tx (s : State) (p : Nat) : Nat := s.get (Obj.txState p)

/-- A direction state written. -/
def setRx (p d : Nat) (s : State) : State := s.put (Obj.rxState p) d
def setTx (p d : Nat) (s : State) : State := s.put (Obj.txState p) d

/-- Bit i of `DIR_STATUS` written (R120). -/
def setDir (p i : Nat) (b : Bool) (s : State) : State := s.put (Obj.dirStatus p) (setBit (s.get (Obj.dirStatus p)) i b)

/-- Bit i of `DIR_STATUS`. -/
def State.dir (s : State) (p i : Nat) : Bool := bit (s.get (Obj.dirStatus p)) i

/-- Data lanes of a port: one on the mooring link (R75). -/
def laneCount (p : Nat) : Nat := if p = 2 then 1 else 5

/-- The receive balls of port p are ignored: a near-end loop (R102). -/
def State.nearLoop (s : State) (p : Nat) : Bool := s.get (Obj.loopMode p) == 1 || s.get (Obj.loopMode p) == 2

/-- Lanes that a direction needs (R88, R119). -/
def lanesNeeded (p : Nat) : Nat := if p = 2 then 1 else 3

/-- Output p may send frames (R183): its transmit direction is Active, in service and not named down. -/
def State.txUp (s : State) (p : Nat) : Bool :=
  s.tx p == dActive && s.get (Obj.admin p) == 0 && !(s.port p).farStop && !s.dir p 1

/-- Node number of the far end of port p, from its last accepted HARBOUR block; 0 with none (R92). -/
def State.farNode (s : State) (p : Nat) : Nat := fld (s.get (Obj.farHarbour p)) 44 8

/-- The last survey word of a node. -/
def State.surveyOf (s : State) (n : Nat) : Option W64 :=
  (s.ring.map.find? (fun e => wfld e.word 56 8 == n)).map (·.word)

/-- EAST_NB (side 0) or WEST_NB (side 1) of a node of the ring map; of the own node, from Harbour. -/
def State.neighbour (s : State) (side n : Nat) : Nat :=
  if n = s.nodeNumber then s.farNode side
  else match s.surveyOf n with
    | some w => if side = 0 then wfld w 48 8 else wfld w 40 8
    | none => 0

/-- The nodes passed on a side, from a node up to a target, at most fuel hops (R30); none when the target is not met. -/
def State.walk (s : State) (side target : Nat) : Nat → Nat → Option (List Nat)
  | 0, _ => none
  | fuel + 1, n =>
    let m := s.neighbour side n
    if m = 0 then none
    else if m = target then some [m]
    else (s.walk side target fuel m).map (m :: ·)

/-- The way to a target on a side. -/
def State.way (s : State) (side target : Nat) : Option (List Nat) := s.walk side target 254 s.nodeNumber

/-- What a node last showed of a bit of the state of its port on a side (R118), with the beat: 3 receive up, 2 transmit up. The own node shows
its own directions. -/
def State.shownUp (s : State) (n side i : Nat) : Option (Bool × Nat) :=
  if n = s.nodeNumber then some ((if i = 3 then s.rx side else s.tx side) == dActive, s.tide.beat)
  else (s.ring.map.find? (fun e => wfld e.word 56 8 == n)).map (fun e => (bit e.word.toNat (36 - 4 * side + i), e.tick))

/-- The SPAN notice that stands for a direction (R113). -/
def State.noticeOf (s : State) (far origin : Nat) : Option SpanDir := s.ring.spans.find? (fun d => d.origin == origin && d.far == far)

/-- A notice and a survey of one direction: what came last counts; a direction of which nothing is known counts as up (log entry 101). -/
def laterSays (d : Option SpanDir) (v : Option (Bool × Nat)) : Bool :=
  match d, v with
  | some d, some (up, t) => if d.tick ≤ t then up else d.up
  | some d, none => d.up
  | none, some (up, _) => up
  | none, none => true

/-- The span direction that frames going to a side take from node `far` into node `origin` is up in the ring map: by the last notice, the
receiver's survey and the transmitter's survey (R113, R118). -/
def State.dirUp (s : State) (side far origin : Nat) : Bool :=
  let d := s.noticeOf far origin
  laterSays d (s.shownUp origin (1 - side) 3) && laterSays d (s.shownUp far side 2)

/-- A span direction of the ring map may carry asynchronous frames: it is up, and the hold of its return has passed (R114, R117). -/
def State.spanUsable (s : State) (side far origin : Nat) : Bool :=
  s.dirUp side far origin &&
  (match s.noticeOf far origin with
   | some d => !d.hold
   | none => true)

/-- Every span direction of a way is usable. -/
def State.wayUsable (s : State) (side : Nat) : Nat → List Nat → Bool
  | _, [] => true
  | a, b :: t => s.spanUsable side a b && s.wayUsable side b t

/-- Hops to a target on a side, when its path is usable (R114). -/
def State.hops (s : State) (side target : Nat) : Option Nat :=
  match s.way side target with
  | some l => if s.txUp side ∧ s.wayUsable side s.nodeNumber l then some l.length else none
  | none => none

/-- The ring port by which an asynchronous frame to a node leaves: fewer hops, East on a tie, the only usable path, or none
(R30, R114). -/
def State.pathTo (s : State) (target : Nat) : Option Nat :=
  match s.hops 0 target, s.hops 1 target with
  | some e, some w => if w < e then some 1 else some 0
  | some _, none => some 0
  | none, some _ => some 1
  | none, none => none

/-- Pairs in the ring map, the own one included (R167). -/
def State.pairCount (s : State) : Nat :=
  let odd := fun n : Nat => if n % 2 = 0 then n - 1 else n
  let l := (s.nodeNumber :: s.ring.map.map (fun e => wfld e.word 56 8)).map odd
  (l.foldl (fun (a : List Nat) n => if a.contains n then a else n :: a) []).length

/-- Nodes of the ring map, the own one included (R118). -/
def State.mapNodes (s : State) : List Nat :=
  let l := s.ring.map.map (fun e => wfld e.word 56 8)
  if l.contains s.nodeNumber then l else s.nodeNumber :: l

/-- `RING_NODES`: nodes held in the ring map (R118, R122). -/
def State.ringNodes (s : State) : Nat := s.ring.map.length

/-- `RING_CLOSED`: the neighbour links form one cycle through every node (R118). -/
def State.ringClosed (s : State) : Bool :=
  match s.way 0 s.nodeNumber with
  | some l => decide (l.length = s.mapNodes.length) && s.nodeNumber != 0
  | none => false

/-- Span directions down in the ring map, each by its receiver and the port it comes in on: those of the nodes held, and those that only a
notice names (R112, R118, R122). -/
def State.downList (s : State) : List (Nat × Nat) :=
  let nodes := s.ring.map.map (fun e => wfld e.word 56 8)
  nodes.flatMap (fun n => ([0, 1].filter (fun p => !s.dirUp (1 - p) (s.neighbour p n) n)).map (fun p => (n, p))) ++
  (s.ring.spans.filter (fun d => !d.up && !nodes.contains d.origin)).map (fun d => (d.origin, 2))

/-- `DOWN_DIRS` (R122), and whether there is one. -/
def State.downDirs (s : State) : Nat := s.downList.length
def State.anyDown (s : State) : Bool := s.downDirs != 0

/-- TTL of a frame that this node originates (R167). -/
def State.ttl (s : State) : Nat := Nat.min 63 (s.pairCount - 1)

/-- The odd number of the pair of a node number. -/
def pairOf (n : Nat) : Nat := if n % 2 = 0 then n - 1 else n

/-- A node number belongs to this node's pair. -/
def State.inPair (s : State) (n : Nat) : Bool := s.nodeNumber != 0 && (n == s.nodeNumber || n == s.twinNumber)

/-- The output towards the twin: the twin-side ring port, or the mooring link when its transmit direction is down (R166). -/
def State.towardsTwin (s : State) : Nat := if s.txUp s.twinSide then s.twinSide else 2

/-- A DPORT is chip-addressed (R29), or pair-addressed (R27). -/
def chipPort (d : Nat) : Bool := d == 0x00 || d == 0x30 || d == 0x7F
def pairPort (d : Nat) : Bool := d == 0x01 || (decide (0x10 ≤ d) && decide (d ≤ 0x13)) || d == 0x20 || d == 0x40

/-- The local port of a space: a quay port, or port 7 (R166). -/
def localPort (d : Nat) : Nat := if 0x10 ≤ d ∧ d ≤ 0x13 then 3 + (d - 0x10) else 7

/-- The output that a frame of this node takes to a destination (R30, R114, R166); none when no path is usable. A pair-addressed frame for the own pair
stays here on the Working chip, and otherwise takes the path to the twin (R27, log entry 26). -/
def State.outFor (s : State) (dnode dport : Nat) : Option Nat :=
  if dnode = 255 then (if s.txUp 0 then some 0 else if s.txUp 1 then some 1 else none)
  else if dnode = s.nodeNumber ∧ chipPort dport then some 7
  else if s.inPair dnode ∧ pairPort dport then (if s.workingChip then some (localPort dport) else s.pathTo s.twinNumber)
  else s.pathTo dnode

/-- The next SEQ of a class 1 to 3 (R14), and the state that keeps it. -/
def nextSeqOf (cls : Nat) (s : State) : Nat × State :=
  let n := (s.ring.seqs.getD (cls - 1) 0 + 1) % 4096
  (n, modRing (fun r => { r with seqs := r.seqs.set (cls - 1) n }) s)

/-- What a loop brings back on port p: the blocks that a near-end loop turns round, or that the port returns to the far end (R102, R103). -/
def turnBack (p : Nat) (ys : List Sym) (s : State) : State := modPort p (fun q => { q with looped := q.looped ++ ys }) s

/-- A received stream on a port that returns the far end's blocks goes out again, word by word (R103). -/
def returned (p : Nat) (ys : List Sym) (s : State) : State := if (s.port p).returning then turnBack p ys s else s

/-- A control block sent on a port since the last boundary; a near-end loop brings it back (R102). -/
def sendBlock (p type : Nat) (content : W64) (s : State) : State :=
  let s := if s.nearLoop p then turnBack p [.ctrl type content] s else s
  modPort p (fun q => { q with blocks := q.blocks ++ [(type, content)] }) s

/-- CONTENT with its CHECK in [63:56] (R81), and whether a CONTENT passes it. -/
def sealBlock (v : Nat) : W64 := w64 (v % 2 ^ 56 + crc8 (bytesOf 7 v) * 2 ^ 56)
def blockOk (w : W64) : Bool := wfld w 56 8 == crc8 (bytesOf 7 w.toNat)

/-- A control block whose CHECK fails: ignored and counted (R81). -/
def badBlock (p : Nat) (s : State) : State := s.bump (Obj.controlErrCnt p)

end Sys2Proof.Machine
end

