-- ==== Sys2Proof/Machine/CalBase.lean ====
section
/-! DEFINITION. Calibration of the lanes as the ports see it: transmit taps, eye maps, moves and the end of a trial (R94 to R98, R125 to R153). -/

namespace Sys2Proof.Machine

/-- The calibration of port p, and its change. -/
def State.calPort (s : State) (p : Nat) : CalPort := s.cal.ports.getD p CalPort.zero
def modCal (p : Nat) (f : CalPort → CalPort) (s : State) : State :=
  { s with cal := { s.cal with ports := modifyAt s.cal.ports p f } }

/-- The calibration of lane l of port p, and its change. -/
def State.laneCal (s : State) (p l : Nat) : LaneCal := (s.calPort p).lanes.getD l LaneCal.zero
def modLane (p l : Nat) (f : LaneCal → LaneCal) (s : State) : State := modCal p (fun c => { c with lanes := modifyAt c.lanes l f }) s

/-- Coefficients that a `TX_TAPS` value holds. -/
def tapPre (t : Nat) : Nat := fld t 0 3
def tapPost (t : Nat) : Nat := fld t 8 6
def tapMain (t : Nat) : Nat := fld t 16 6
def tapsOf (pre main post : Nat) : Nat := main * 2 ^ 16 + post * 2 ^ 8 + pre

/-- The presets of R94. -/
def presetTaps (n : Nat) : Nat :=
  match n with
  | 0 => tapsOf 0 32 0
  | 1 => tapsOf 0 29 3
  | 2 => tapsOf 0 26 6
  | 3 => tapsOf 0 23 9
  | 4 => tapsOf 2 30 0
  | 5 => tapsOf 2 26 4
  | 6 => tapsOf 2 22 8
  | _ => tapsOf 4 22 6

/-- What an action code adds to a coefficient (R95); the reserved code holds it. -/
def actDelta (a : Nat) : Int := if a = 1 then 1 else if a = 2 then -1 else 0

/-- The action bits [47:38] of R95, as a number: PRESET, PRE_ACT, MAIN_ACT, POST_ACT. -/
def reqBits (w : W64) : Nat := wfld w 38 10

/-- A request handled (R96): the coefficients that result and ACK_STATUS. A request that breaks both a limit and the sum rule is answered 0b10:
the order of the two is the model's choice (log entry 102). -/
def handleReq (taps req : Nat) : Nat × Nat :=
  let base := if bit req 9 then presetTaps (fld req 6 3) else taps
  let pre : Int := (tapPre base : Int) + actDelta (fld req 4 2)
  let main : Int := (tapMain base : Int) + actDelta (fld req 2 2)
  let post : Int := (tapPost base : Int) + actDelta (fld req 0 2)
  if pre < 0 ∨ 6 < pre ∨ main < 16 ∨ 32 < main ∨ post < 0 ∨ 12 < post then (taps, 2)
  else if 32 < pre + main + post then (taps, 3)
  else (tapsOf pre.toNat main.toNat post.toNat, 1)

/-- The monitor of a lane begins a new map (R125). -/
def newMap (p l : Nat) (s : State) : State := modLane p l (fun c => { c with axis := false }) (s.bump (Obj.mapCnt p l))

/-- A change of the lane: its map begins anew, and no axis scan has been completed since (R125, R138). -/
def laneChanged (p l : Nat) (s : State) : State := modLane p l (fun c => { c with scanned := false }) (newMap p l s)

/-- The lowest lane of a set. -/
def lowLane (set : Nat) : Nat := (bitsOf 5 set).headD 0

/-- The stamp lane of port p (R135). -/
def State.stampLane (s : State) (p : Nat) : Nat := lowLane (s.get (Obj.rxSet p))

/-- `PSTEP_SUM` steps of 1.056 ps in 2^-16 ns: what the stamps of port p are reduced by (R135). -/
def State.stepUnits (s : State) (p : Nat) : Int := s.getI (Obj.pstepSum p) * 1056 * 65536 / 1000000

/-- A PSTEP word waits for the next transmit slack water; its step counts from the received TICK of a tick (R131, R134). -/
def queuePstep (p lane cause : Nat) (step : Int) (stamp : Bool) (tick : Nat) (s : State) : State :=
  let w := sealBlock (lane * 2 ^ 53 + b2n stamp * 2 ^ 52 + cause * 2 ^ 48 + ofSigned 16 step * 2 ^ 32 + tick % 2 ^ 32)
  modCal p (fun c => { c with psteps := c.psteps ++ [w] }) (if stamp then s.putI (Obj.pstepSum p) (s.getI (Obj.pstepSum p) + step) else s)

/-- A move of a lane's data sampler at the move point (R132, R134, R135). -/
def moveSampler (p l cause : Nat) (step : Int) (s : State) : State :=
  let s := (s.putI (Obj.samplerPos p l) (s.getI (Obj.samplerPos p l) + step)).bump (Obj.pstepCnt p l)
  newMap p l (queuePstep p l cause step (l == s.stampLane p) (s.tide.tick + 1) s)

/-- The trial of a direction ends (R138). -/
def endTrial (p : Nat) (s : State) : State :=
  match (s.calPort p).trial with
  | none => s
  | some t => modCal p (fun c => { c with trial := none, ended := s.tide.beat }) (s.put (Obj.trialState p t.lane) 0)

/-- A trial ends under R142 or R153. -/
def abandonTrial (p : Nat) (s : State) : State :=
  if (s.calPort p).trial.isSome then (endTrial p s).bump (Obj.calAbandonCnt p) else s

/-- The trial lane leaves the set (R153). -/
def abandonLane (p l : Nat) (s : State) : State :=
  match (s.calPort p).trial with
  | some t => if t.lane = l then abandonTrial p s else s
  | none => s

/-- The stamp lane changes with the set that the TICK of a tick carries: the step counts from that TICK (R136). -/
def stampLaneStep (p oldSet newSet tick : Nat) (s : State) : State :=
  let a := lowLane oldSet
  let b := lowLane newSet
  if a = b then s else queuePstep p b 2 (s.getI (Obj.samplerPos p b) - s.getI (Obj.samplerPos p a)) true tick s

/-- F of the span of port p: the node at its west end publishes it (R148, R155). -/
def State.spanKey (s : State) (p : Nat) : Nat := if p = 0 then s.nodeNumber else s.farNode 1

/-- α of a span, by its west node. -/
def State.alpha (s : State) (n : Nat) : Int := ((s.cal.alphas.find? (fun e => e.1 == n)).map (·.2)).getD 0

/-- α of a span written, and `ASYM_APPLIED` of the own ports with it (R150); half of an odd α is rounded down, which is the model's choice (log
entry 32). -/
def setAlpha (n : Nat) (a : Int) (s : State) : State :=
  let s := { s with cal := { s.cal with alphas := (s.cal.alphas.filter (fun e => e.1 != n)) ++ [(n, a)] } }
  let s := if n = s.nodeNumber then s.putI (Obj.asymApplied 0) (-(a.fdiv 2)) else s
  if n = s.farNode 1 then s.putI (Obj.asymApplied 1) (a.fdiv 2) else s

/-- A request of the far end to transmit lane l: the coefficients that the lane is about to take, if a grant waits, and otherwise those it has. -/
def State.tapsDue (s : State) (p l : Nat) : Nat := (s.laneCal p l).pendTaps.getD (s.get (Obj.txTaps p l))

/-- A request of the far end handled: the answer stands, and granted taps wait for their moment (R96, R97). -/
def answerReq (p l seq req : Nat) (s : State) : State :=
  let r := handleReq (s.tapsDue p l) req
  modLane p l (fun c => { c with farReq := none, ackSeq := seq, ackStatus := r.2, pendTaps := if r.2 = 1 then some r.1 else c.pendTaps }) s

/-- Granted taps of port p apply (R68 step 7, R96, R97). -/
def tapsApply (p : Nat) (s : State) : State :=
  (List.range (laneCount p)).foldl (fun s l =>
    match (s.laneCal p l).pendTaps with
    | some t => modLane p l (fun c => { c with pendTaps := none }) (s.put (Obj.txTaps p l) t)
    | none => s) s

/-- An own request to the far transmit lane l is outstanding: not answered yet (R88). -/
def State.reqOpen (s : State) (p l : Nat) : Bool := (s.laneCal p l).reqSeq != (s.laneCal p l).answered

/-- A new request to the far transmit lane l (R131, R140). -/
def newRequest (p l bits : Nat) (s : State) : State := modLane p l (fun c => { c with reqSeq := (c.reqSeq + 1) % 16, req := bits }) s

/-- A request that adaptation in Pilot chooses: a free value, without the reserved action codes (R88, R95, log entry 103). -/
def freeRequest (p l : Nat) (s : State) : State :=
  let d := s.draw
  let v := d.1.toNat
  let act := fun i => if fld v i 2 = 3 then 0 else fld v i 2 * 2 ^ i
  if bit v 10 then newRequest p l ((if bit v 9 then fld v 6 4 * 2 ^ 6 else 0) + act 4 + act 2 + act 0) d.2 else d.2

/-- The CONTENT of a MARK or a TAPREQ of lane l (R95): the request to the far transmit lane l and the answer about the own one, with the
coefficients that the lane sends with; FRAME_CNT is 0 in a TAPREQ. In training each MARK speaks of its own lane (log entry 103). -/
def State.reqWord (s : State) (p l frame : Nat) : W64 :=
  let c := s.laneCal p l
  let t := s.get (Obj.txTaps p l)
  sealBlock (c.reqSeq * 2 ^ 52 + l * 2 ^ 49 + b2n (s.port p).rxReady * 2 ^ 48 + c.req * 2 ^ 38 + c.ackSeq * 2 ^ 34 +
    c.ackStatus * 2 ^ 32 + l * 2 ^ 29 + tapMain t * 2 ^ 23 + tapPost t * 2 ^ 17 + tapPre t * 2 ^ 14 + l * 2 ^ 6 + frame % 64)

/-- The part of a MARK or a TAPREQ that answers (R95): the coefficients of ACK_LANE, and the request that the answer names is no longer open. -/
def noteAnswer (p : Nat) (m : W64) (s : State) : State :=
  modLane p (wfld m 29 3) (fun c => { c with
    farTaps := tapsOf (wfld m 14 3) (wfld m 23 6) (wfld m 17 6)
    answered := if wfld m 34 4 = c.reqSeq ∧ wfld m 32 2 ≠ 0 then c.reqSeq else c.answered }) s

/-- F of the span of port p as the own objects hold it. -/
def State.fixedOf (s : State) (p : Nat) : Int := s.getI (Obj.asymFixed p)

end Sys2Proof.Machine
end

