-- ==== Sys2Proof/Machine/HoldBase.lean ====
section
/-! DEFINITION. The Hold: bays, the free list, charges, frames that wait, worn rows, discards, and outputs that go down (R158 to R195). -/

namespace Sys2Proof.Machine

/-- The Hold changed. -/
def modHold (f : HoldState → HoldState) (s : State) : State := { s with hold := f s.hold }

/-- The header of a frame in the Hold. -/
def Job.hdr (j : Job) : W64 := match j.words with | w :: _ => w.data | [] => 0

/-- The frame is of class 00. -/
def Job.sched (j : Job) : Bool := hClass j.hdr == 0

/-- The tag of a bay (R162). -/
def State.bayTag (s : State) (b : Nat) : BayTag := mapGet BayTag.zero s.hold.tags b

/-- The 48 bits of a tag (R162). -/
def BayTag.bits (t : BayTag) : Nat :=
  t.owner * 2 ^ 40 + t.serial * 2 ^ 24 + t.bsn * 2 ^ 16 + t.input * 2 ^ 13 + t.output * 2 ^ 10 + b2n t.sched * 2 ^ 9 + b2n t.bcast * 2 ^ 8 +
    b2n t.first * 2 ^ 7 + b2n t.last * 2 ^ 6 + t.words * 2 ^ 2

/-- OWNER of an input's queue, of a middle queue's list and of a resequencer (R162). -/
def ownQueue (i o : Nat) : Nat := 0x40 + 8 * i + o
def ownMiddle (j o : Nat) : Nat := 0x80 + 8 * j + o
def ownReseq (i o : Nat) : Nat := 0xC0 + 8 * i + o

/-- A bay waits before stage 1, between the stages, or has reached its output (R162). -/
def BayTag.waiting (t : BayTag) : Bool := decide (0x40 ≤ t.owner) && decide (t.owner < 0x80)
def BayTag.middle (t : BayTag) : Bool := decide (0x80 ≤ t.owner) && decide (t.owner < 0xC0)
def BayTag.arrived (t : BayTag) : Bool := decide (0xC0 ≤ t.owner)

/-- Bays with a tag that passes a test. -/
def State.countTags (s : State) (p : BayTag → Bool) : Nat := (s.hold.tags.filter (fun e => p e.2)).length

/-- Bays charged to the partition of input i (R176). -/
def State.partUsedOf (s : State) (i : Nat) : Nat := s.countTags (fun t => BayTag.waiting t && t.input == i)

/-- Bays charged to the shared pool, and those of them for output o (R176, R177). -/
def State.sharedNow (s : State) : Nat := s.countTags (fun t => BayTag.middle t || BayTag.arrived t)
def State.outSharedNow (s : State) (o : Nat) : Nat := s.countTags (fun t => (BayTag.middle t || BayTag.arrived t) && t.output == o)

/-- Size of a partition (R176). -/
def partSize (i : Nat) : Nat := if i ≤ 1 then 384 else 64

/-- Size of the shared pool (R176, R194). -/
def State.sharedSize (s : State) : Nat := 896 - s.hold.retired.length

/-- Bays on the free list. -/
def State.freeBays (s : State) : Nat := s.hold.free.foldl (fun n r => n + r.2) 0

/-- Room that a local input has for a frame of a class (R176, R182). -/
def State.ownRoom (s : State) (input cls : Nat) : Nat := (if cls = 0 then 64 else 48) - s.partUsedOf input

/-- n bays from the head of the free list, and the rest of it. -/
def takeBays : List (Nat × Nat) → Nat → List Nat × List (Nat × Nat)
  | [], _ => ([], [])
  | (b, l) :: t, n =>
    if n < l then ((List.range n).map (b + ·), (b + n, l - n) :: t)
    else
      let r := takeBays t (n - l)
      ((List.range l).map (b + ·) ++ r.1, r.2)

/-- A bay put last on the free list. -/
def appendBay (b : Nat) : List (Nat × Nat) → List (Nat × Nat)
  | [] => [(b, 1)]
  | [(a, l)] => if a + l = b then [(a, l + 1)] else [(a, l), (b, 1)]
  | r :: t => r :: appendBay b t

/-- A bay taken out of the free list, wherever it stands. -/
def dropBay (b : Nat) : List (Nat × Nat) → List (Nat × Nat)
  | [] => []
  | (a, l) :: t =>
    if a ≤ b ∧ b < a + l then
      (if a < b then [(a, b - a)] else []) ++ (if b + 1 < a + l then [(b + 1, a + l - b - 1)] else []) ++ t
    else (a, l) :: dropBay b t

/-- A bay is on the free list. -/
def State.bayFree (s : State) (b : Nat) : Bool := s.hold.free.any (fun r => decide (r.1 ≤ b) && decide (b < r.1 + r.2))

/-- A free-list entry read: two inverted bits are a critical-state error (R191, R487). -/
def readFreeEntry (s : State) : State :=
  let n := popCount 11 (mapGet 0 s.hold.freeInv s.hold.freePos)
  let s := modHold (fun h => { h with freePos := (h.freePos + 1) % 2048 }) s
  if 2 ≤ n then raise 0x3C 2 0 s else s

/-- A free-list entry read n times. -/
def readFreeEntries : Nat → State → State
  | 0, s => s
  | n + 1, s => readFreeEntries n (readFreeEntry s)

/-- A bay tag read and rewritten: two inverted bits are a critical-state error (R191, R487). -/
def readTag (b : Nat) (s : State) : State :=
  let n := popCount 48 (mapGet 0 s.hold.tagInv b)
  let s := modHold (fun h => { h with tagInv := mapSet 0 h.tagInv b 0 }) s
  if 2 ≤ n then raise 0x3C 3 b s else s

/-- A bay leaves its list: the count falls, and the head moves on to the oldest bay left (R162, R189). -/
def leaveList (b : Nat) (h : HoldState) : HoldState :=
  let w := (mapGet BayTag.zero h.tags b).owner
  if w < 0x40 then h
  else
    let l := mapGet BayList.zero h.lists w
    let ages := (h.tags.filter (fun e => e.1 != b && e.2.owner == w)).map (fun e => (e.2.serial + 2 ^ 16 - l.head) % 2 ^ 16)
    let step := ages.foldl Nat.min ((l.tail + 2 ^ 16 - l.head) % 2 ^ 16)
    { h with lists := mapSet BayList.zero h.lists w ⟨(l.head + step) % 2 ^ 16, l.tail, l.count - 1⟩ }

/-- A bay taken from its list into the list of another owner, with a tag that takes the next serial there (R162). -/
def moveBay (b w : Nat) (t : BayTag) (h : HoldState) : HoldState :=
  let h := leaveList b h
  let l := mapGet BayList.zero h.lists w
  { h with
    tags := mapSet BayTag.zero h.tags b { t with owner := w, serial := l.tail }
    lists := mapSet BayList.zero h.lists w ⟨l.head, (l.tail + 1) % 2 ^ 16, l.count + 1⟩ }

/-- A bay out of every list, with an owner that keeps none: 0 free, 1 retiring, 2 retired (R162). -/
def dropTag (b w : Nat) (h : HoldState) : HoldState :=
  let h := leaveList b h
  { h with tags := mapSet BayTag.zero h.tags b { BayTag.zero with owner := w } }

/-- A bay returned to the free list: the entry it takes is written afresh. -/
def listBay (b : Nat) (s : State) : State :=
  modHold (fun h => { dropTag b 0 h with free := appendBay b h.free,
                                         freeInv := mapSet 0 h.freeInv ((h.freePos + s.freeBays) % 2048) 0 }) s

/-- Row of a bay (R192). -/
def rowOf (b : Nat) : Nat := b / 2

/-- Inverted bits of the two bays of a row forgotten: another row stands in for it. -/
def freshRow (row : Nat) (s : State) : State :=
  modHold (fun h => { h with inv := h.inv.filter (fun e => e.1 / 16 != row), rowCe := mapSet 0 h.rowCe row 0 }) s

/-- A worn row whose two bays are retiring: mapped to a spare, or retired for want of one (R193, R194). -/
def settleRow (row : Nat) (s : State) : State :=
  if s.hold.retiring.contains (2 * row) ∧ s.hold.retiring.contains (2 * row + 1) then
    let s := modHold (fun h => { h with retiring := h.retiring.filter (fun b => rowOf b != row) }) s
    if 0 < s.get Obj.spareRowsLeft then
      let s := freshRow row (s.put Obj.spareRowsLeft (s.get Obj.spareRowsLeft - 1))
      let s := modHold (fun h => { h with wornRows := h.wornRows.filter (· != row) }) s
      raise 0x11 0 row ((listBay (2 * row + 1) (listBay (2 * row) s)).bump Obj.rowsSparedCnt)
    else
      let s := modHold (fun h => { dropTag (2 * row + 1) 2 (dropTag (2 * row) 2 h) with retired := h.retired ++ [2 * row, 2 * row + 1] }) s
      let n := s.hold.retired.length
      let s := raise 0x13 0 n s
      let s := if 64 < n then holdCriterion 1 s else s
      if 512 < n then raise 0x16 0 n s else s
  else s

/-- A row found worn: its bays are no longer allocated (R193). On an Anchored chip item 1 of the self-test fails (R420). -/
def wearRow (row : Nat) (s : State) : State :=
  if s.hold.wornRows.contains row then s
  else
    let s := selfTestFail 1 (s.put Obj.lastWornRow row)
    let idle := [2 * row, 2 * row + 1].filter s.bayFree
    settleRow row (modHold (fun h => { idle.foldl (fun h b => dropTag b 1 h) h with
      wornRows := row :: h.wornRows, free := idle.foldl (fun f b => dropBay b f) h.free, retiring := h.retiring ++ idle }) s)

/-- A bay freed: back on the free list, or retiring when its row is worn (R193). -/
def freeBay (b : Nat) (s : State) : State :=
  let s := readTag b s
  if s.hold.wornRows.contains (rowOf b) then
    settleRow (rowOf b) (modHold (fun h => { dropTag b 1 h with retiring := h.retiring ++ [b] }) s)
  else listBay b s

/-- Bays freed in the partition of input i, for its credit word (R178). -/
def addFreed (i n : Nat) (s : State) : State :=
  if i ≤ 2 then modPort i (fun q => { q with freed := (q.freed + n) % 2 ^ 16 }) s else s

/-- Key of a bay sequence number: input, output and class group (R163). -/
def bsnKey (input output : Nat) (sched : Bool) : Nat := input * 16 + output * 2 + (if sched then 0 else 1)

/-- Key of the sequence that a bay's number belongs to. -/
def BayTag.key (t : BayTag) : Nat := bsnKey t.input t.output t.sched

/-- The bay with the number that an output expects next is marked released. -/
def markReleased (key e : Nat) (l : List (Nat × BayTag)) : List (Nat × BayTag) :=
  l.map (fun x => if BayTag.arrived x.2 ∧ !x.2.released ∧ BayTag.key x.2 = key ∧ x.2.bsn = e then (x.1, { x.2 with released := true }) else x)

/-- An output releases bays in the order of their numbers, as far as they have arrived (R172); at most n. A number whose bay was discarded is passed
over (log entry 28). -/
def releaseBays (key : Nat) : Nat → HoldState → HoldState
  | 0, h => h
  | n + 1, h =>
    let e := mapGet 0 h.expects key
    let h1 := { h with expects := mapSet 0 h.expects key ((e + 1) % 256) }
    if h.gone.contains (key * 256 + e) then releaseBays key n { h1 with gone := h.gone.filter (· != key * 256 + e) }
    else if h.tags.any (fun x => BayTag.arrived x.2 && !x.2.released && BayTag.key x.2 == key && x.2.bsn == e) then
      releaseBays key n { h1 with tags := markReleased key e h.tags }
    else h

/-- A bay of a frame that leaves the Hold is freed: a bay that its output has not released is waited for no longer. -/
def takeBay (b : Nat) (s : State) : State :=
  let t := s.bayTag b
  let s := if BayTag.waiting t then addFreed t.input 1 s else s
  let s := freeBay b s
  if t.released then s
  else modHold (fun h => releaseBays (BayTag.key t) 256 { h with gone := (BayTag.key t * 256 + t.bsn) :: h.gone }) s

/-- A frame leaves the Hold: its bays are freed, those that had not passed stage 1 in its input's partition. -/
def removeJob (j : Job) (s : State) : State :=
  j.bays.foldl (fun s b => takeBay b s) (modHold (fun h => { h with jobs := h.jobs.filter (fun k => k.ser != j.ser) }) s)

/-- A discard counted (R187). -/
def countDiscard (cause input : Nat) (s : State) : State :=
  let s := match cause with
    | 1 => s.bump Obj.staleTideCnt
    | 2 => s.bump Obj.headerDiscardCnt
    | 3 => s.bump Obj.destDisabledCnt
    | 4 => s.bump Obj.staleManifestCnt
    | _ => s.bump Obj.lingerDiscardCnt
  s.put Obj.discardLast (s.tide.tick % 2 ^ 16 * 2 ^ 16 + input * 2 ^ 8 + cause)

/-- A frame in the Hold discarded (R187). -/
def discardJob (cause : Nat) (j : Job) (s : State) : State :=
  let s := countDiscard cause j.input (removeJob j s)
  if cause = 5 then s.bump (Obj.lingerDiscCnt j.output) else s

/-- A later manifest generation disables the destination that a message resolved to (R242). -/
def State.manifestStale (s : State) (j : Job) : Bool :=
  match j.mdest with
  | some d => decide (d.gen < s.get Obj.manifestGen) && s.man.disable.contains (d.dnode * 2 ^ 24 + d.dport * 2 ^ 16 + d.unit * 2 ^ 12)
  | none => false

/-- Two frames share an input, an output and a class group (R163). -/
def Job.sameLine (a b : Job) : Bool := a.input == b.input && a.output == b.output && a.sched == b.sched

/-- Bays of a frame that wait before stage 1. -/
def State.bayWaits (s : State) (b : Nat) : Bool := BayTag.waiting (s.bayTag b)

/-- A frame sent cut-through has entered stage 1 and has its room reserved (R174). -/
def State.begun (s : State) (j : Job) : Bool := j.cut && j.bays.any (fun b => !s.bayWaits b)

/-- Shared bays reserved for bays still to come of the frames sent cut-through to outputs that a test picks (R174). -/
def State.reserved (s : State) (p : Nat → Bool) : Nat :=
  s.hold.jobs.foldl (fun n j => if p j.output && s.begun j then n + (j.bays.filter s.bayWaits).length else n) 0

/-- The shared pool can take n more bays for an output (R177). -/
def State.poolTakes (s : State) (sched : Bool) (o n : Nat) : Bool :=
  let used := s.sharedNow + s.reserved (fun _ => true)
  if sched then decide (used + n ≤ s.sharedSize)
  else decide (used + n + 64 ≤ s.sharedSize) && decide (s.outSharedNow o + s.reserved (· == o) + n ≤ s.get Obj.outShareMax)

/-- A bay of a frame may pass stage 1 (R170, R172, R174, R177): the first bay of a frame sent cut-through reserves room for all of them. -/
def State.mayPass (s : State) (j : Job) (b : Nat) : Bool :=
  let t := s.bayTag b
  decide ((t.bsn + 256 - mapGet 0 s.hold.expects (BayTag.key t)) % 256 < 16) &&
    (s.begun j || s.poolTakes j.sched j.output (if j.cut then j.bays.length else 1))

/-- The next bay of an input for an output and a class group, with its frame: bays enter in the order of arrival (R163, R170). -/
def State.nextBay (s : State) (i o : Nat) (sched : Bool) : Option (Job × Nat) :=
  s.hold.jobs.findSome? (fun j =>
    if j.input = i ∧ j.output = o ∧ j.sched = sched then (j.bays.find? s.bayWaits).map (fun b => (j, b)) else none)

/-- The oldest frame of a list of frames with their bays. -/
def oldest : List (Job × Nat) → Option (Job × Nat)
  | [] => none
  | x :: t =>
    match oldest t with
    | some y => if y.1.ser < x.1.ser then some y else some x
    | none => some x

/-- The bay that input i passes in a bay period (R170): one of a frame that its output sends already, the oldest of class 00, then the other classes
with the outputs in turn. -/
def State.stageOnePick (s : State) (i : Nat) : Option (Job × Nat) :=
  let may := fun (x : Job × Nat) => s.mayPass x.1 x.2
  let async := (List.range 8).filterMap (fun k => s.nextBay i ((s.hold.rrIn.getD i 0 + 1 + k) % 8) false)
  let sched := (List.range 8).filterMap (fun o => s.nextBay i o true)
  ((oldest ((sched ++ async).filter (fun x => s.begun x.1 && may x))).or (oldest (sched.filter may))).or (async.find? may)

/-- Input i passes a bay to middle queue (i + t) mod 8 (R159, R170, R176). A message whose destination is disabled by now is discarded when it would
enter stage 1 (R242). -/
def stageOne (i : Nat) (s : State) : State :=
  match s.stageOnePick i with
  | none => s
  | some (j, b) =>
    if j.bays.all s.bayWaits ∧ s.manifestStale j then discardJob 4 j s
    else
      let s := readTag b s
      let s := modHold (fun h => { moveBay b (ownMiddle ((i + h.period) % 8) j.output)
          { mapGet BayTag.zero h.tags b with since := h.period } h with
        rrIn := if j.sched then h.rrIn else h.rrIn.set i j.output }) s
      let s := addFreed i 1 s
      if s.get Obj.sharedPeak < s.sharedNow then s.put Obj.sharedPeak s.sharedNow else s

/-- The bay with the least figure among those of a list. -/
def leastBy (f : Nat × BayTag → Nat) : List (Nat × BayTag) → Option (Nat × BayTag)
  | [] => none
  | x :: t =>
    match leastBy f t with
    | some y => if f y < f x then some y else some x
    | none => some x

/-- The bay that output o takes from the middle stage in a bay period (R159, R171): the next one of a frame sent cut-through, the head of the list
that the pattern connects, then the one that has waited longest. Equal waits go to the lower middle queue, which is the model's choice (log entry
28). -/
def State.stageTwoPick (s : State) (o : Nat) : Option (Nat × BayTag) :=
  let here := s.hold.tags.filter (fun e => BayTag.middle e.2 && e.2.output == o)
  let sent := fun (e : Nat × BayTag) =>
    s.hold.jobs.any (fun j => j.cut && j.bays.contains e.1 && j.bays.any (fun b => BayTag.arrived (s.bayTag b)))
  let w := ownMiddle ((o + 8 - s.hold.period % 8) % 8) o
  let head := (mapGet BayList.zero s.hold.lists w).head
  ((leastBy (fun e => (e.2.bsn + 256 - mapGet 0 s.hold.expects (BayTag.key e.2)) % 256) (here.filter sent)).or
    (leastBy (fun e => (e.2.serial + 2 ^ 16 - head) % 2 ^ 16) (here.filter (fun e => e.2.owner == w)))).or
    (leastBy (fun e => e.2.since * 8 + (e.2.owner - 0x80) / 8) here)

/-- Bays held in a resequencer's window: arrived, and not released yet (R172). -/
def State.windowHeld (s : State) (key : Nat) : Nat :=
  s.countTags (fun t => BayTag.arrived t && !t.released && BayTag.key t == key)

/-- Output o takes a bay into its resequencer for the input, which releases what has come in order (R171, R172, R199). -/
def stageTwo (o : Nat) (s : State) : State :=
  match s.stageTwoPick o with
  | none => s
  | some (b, t) =>
    let s := modHold (fun h => moveBay b (ownReseq t.input o) t h) s
    let n := s.windowHeld (BayTag.key t)
    let s := if s.get (Obj.reseqPeak o) < n then s.put (Obj.reseqPeak o) n else s
    modHold (releaseBays (BayTag.key t) 256) s

/-- One bay period (R159): each output takes a bay, then each input passes one. -/
def bayPeriod (s : State) : State :=
  let s := (List.range 8).foldl (fun s o => stageTwo o s) s
  let s := (List.range 8).foldl (fun s i => stageOne i s) s
  modHold (fun h => { h with period := h.period + 1 }) s

/-- Some bay is on its way to its output. -/
def State.crossing (s : State) : Bool := s.hold.tags.any (fun e => BayTag.waiting e.2 || BayTag.middle e.2)

/-- Bay periods run until no bay moves any more, at most n of them. -/
def bayPeriods : Nat → State → State
  | 0, s => s
  | n + 1, s =>
    if s.crossing then
      let t := bayPeriod s
      if t.hold.tags = s.hold.tags then t else bayPeriods n t
    else s

/-- Every bay that may cross the switch crosses it: the time between two commands is longer than that takes (log entry 28). -/
def promote (s : State) : State := bayPeriods (2 * s.hold.tags.length + 1) s

/-- The lanes of the receive direction of an input are at least as many as those of an output (R174). -/
def State.lanesCover (s : State) (i o : Nat) : Bool :=
  decide (laneNum (s.get (Obj.txSet o)) ≤ laneNum (s.get (Obj.rxSet i)))

/-- The tag of bay k of n of a frame with a header and words, before it enters its input's queue (R162, R163). -/
def newTag (input output : Nat) (h : W64) (len bsn k n : Nat) : BayTag :=
  ⟨0, 0, (bsn + k) % 256, input, output, hClass h == 0, hDnode h == 255, k == 0, k + 1 == n, Nat.min 8 (len - 8 * k), 0, false⟩

/-- A frame written into bays of an input for an output: the words take fresh check bits (R160, R161, R163, R174). -/
def storeFrame (input output : Nat) (g : Origin) (ws : List Cargo) (s : State) : State :=
  let n := (ws.length + 7) / 8
  let r := takeBays s.hold.free n
  let s := readFreeEntries r.1.length s
  let cut := decide (input < 2) && output + input == 1 && s.lanesCover input output
  let j : Job := ⟨s.hold.nextSer, ws, input, output, r.1, cut, g.own, false, g.mdest, g.xfer⟩
  let key := bsnKey input output j.sched
  let bsn := mapGet 0 s.hold.bsns key
  modHold (fun h =>
    let h1 := { h with
      free := r.2, jobs := h.jobs ++ [j], nextSer := h.nextSer + 1, bsns := mapSet 0 h.bsns key ((bsn + n) % 256),
      inv := h.inv.filter (fun e => !r.1.contains (e.1 / 8)), tagInv := h.tagInv.filter (fun e => !r.1.contains e.1) }
    (List.range r.1.length).foldl (fun h k =>
      moveBay (r.1.getD k 0) (ownQueue input output) (newTag input output j.hdr ws.length bsn k n) h) h1) s

/-- A frame that reaches its output: held, or discarded when the linger of the output has expired (R184, R185). -/
def placeFrame (input output : Nat) (g : Origin) (ws : List Cargo) (s : State) : State :=
  let ser := s.hold.nextSer
  let s := promote (storeFrame input output g ws s)
  if output ≤ 2 ∧ s.get (Obj.outState output) = 2 then
    match s.hold.jobs.find? (fun j => j.ser == ser) with
    | some j => promote (discardJob 5 j s)
    | none => s
  else s

/-- A frame of a local source accepted at its input and placed (R160, `FRAMES_IN_CNT`). -/
def enqueue (input output : Nat) (g : Origin) (ws : List Cargo) (s : State) : State :=
  placeFrame input output g ws (s.bump (Obj.framesInCnt input))

/-- A word with an uncorrected error as it leaves: poisoned, still a word, and with no BYTES that a node never produces (R7, R8, R192). -/
def spoiled (c : Cargo) : Cargo := { c with v := true, p := true, bytes := if 8 < c.bytes.toNat then 8 else c.bytes }

/-- A word of the Hold read through SEC-DED (R192, R193): word w of bay b. -/
def readHoldWord (b w : Nat) (c : Cargo) (s : State) : Cargo × State :=
  let i := mapGet 0 s.hold.inv (b * 8 + w)
  let n := popCount 72 i
  if n = 0 then (c, s)
  else if n = 1 then
    let s := s.bump Obj.holdCeCnt
    let k := mapGet 0 s.hold.rowCe (rowOf b) + 1
    let s := modHold (fun h => { h with rowCe := mapSet 0 h.rowCe (rowOf b) k }) s
    (c, if s.get Obj.rowCeLimit ≤ k then wearRow (rowOf b) s else s)
  else
    let s := raise 0x12 0 (w * 2 ^ 11 + b) (s.bump Obj.holdUeCnt)
    (spoiled (cargoOfBits (Cargo.bits c ^^^ i)), wearRow (rowOf b) s)

/-- The words of a frame read from its bays. -/
def readWords (bays : List Nat) : Nat → List Cargo → State → List Cargo × State
  | _, [], s => ([], s)
  | k, c :: t, s =>
    let r := readHoldWord (bays.getD (k / 8) 0) (k % 8) c s
    let r2 := readWords bays (k + 1) t r.2
    (r.1 :: r2.1, r2.2)

/-- A frame may start at its output (R173, R174): every bay of it has been released, or the first one of a frame sent cut-through. -/
def State.startable (s : State) (j : Job) : Bool :=
  let up := fun b => (s.bayTag b).released
  j.bays.all up || (j.cut && (j.bays.take 1).all up)

/-- The frames of an output that may leave next: the first of each input and class group (R173). -/
def State.heads (s : State) (o : Nat) : List Job :=
  s.hold.jobs.filter (fun j => j.output == o && s.startable j && !s.hold.jobs.any (fun k => decide (k.ser < j.ser) && k.sameLine j))

/-- Frames in the order in which an output considers them: class 00 first at a ring output, then the inputs in turn (R173). -/
def State.turns (s : State) (o : Nat) : List Job :=
  let r := s.hold.rr.getD o 0
  let order := (List.range 8).map (fun i => (r + 1 + i) % 8)
  let l := s.heads o
  let byInput := fun (js : List Job) => order.flatMap (fun i => js.filter (fun j => j.input == i))
  if o ≤ 1 then byInput (l.filter (·.sched)) ++ byInput (l.filter (fun j => !j.sched)) else byInput l

/-- A frame that its output has read leaves the Hold. -/
def leaveHold (j : Job) (s : State) : State :=
  promote ((removeJob j (modHold (fun h => { h with rr := h.rr.set j.output j.input }) s)).bump (Obj.framesOutCnt j.output))

/-- A frame taken from the Hold by its output: its words as read, and the state without it. -/
def takeJob (j : Job) (s : State) : List Cargo × State :=
  let r := readWords j.bays 0 j.words s
  (r.1, leaveHold j r.2)

/-- Expiry of the linger of output p: every frame for it is discarded (R185). -/
def lingerExpire (p : Nat) (s : State) : State :=
  if s.get (Obj.outState p) = 1 then
    let s := s.put (Obj.outState p) 2
    promote ((s.hold.jobs.filter (fun j => j.output == p)).foldl (fun s j => discardJob 5 j s) s)
  else s

/-- Output p goes down: its frames are held for the linger time (R183, R184). -/
def outputDown (p : Nat) (s : State) : State :=
  if s.get (Obj.outState p) = 0 then
    let s := (s.put (Obj.outState p) 1).bump (Obj.lingerCnt p)
    let s := modPort p (fun q => { q with linger := s.get Obj.lingerTicks }) s
    if s.get Obj.lingerTicks = 0 then lingerExpire p s else s
  else s

/-- Output p returns when its transmit direction is Active with a fresh EPOCH and no stall lasts (R183). -/
def outputReturn (p : Nat) (s : State) : State :=
  if s.get (Obj.outState p) ≠ 0 ∧ s.txUp p ∧ (s.port p).fresh ∧ !(s.port p).stalled then s.put (Obj.outState p) 0 else s

/-- CREDIT of R179. -/
def State.creditOf (s : State) (p : Nat) : Nat :=
  (s.port p).farLimit - ((s.port p).sent + 2 ^ 16 - (s.port p).farFreed) % 2 ^ 16

/-- Bays that a frame costs at a ring or mooring output: B of its LEN, twice that for DNODE 255 (R181), and credit that must stand before it
starts. -/
def Job.cost (j : Job) : Nat := bayCount (hLen j.hdr) * (if hDnode j.hdr = 255 then 2 else 1)
def State.needs (s : State) (p : Nat) (j : Job) : Nat :=
  j.cost + (if j.sched ∨ p = 2 then 0 else (s.port p).farLimit - 320)

/-- The credit check of R181. -/
def State.creditFor (s : State) (p : Nat) (j : Job) : Bool := (s.port p).fresh && decide (s.needs p j ≤ s.creditOf p)

end Sys2Proof.Machine
end

