-- ==== Sys2Proof/Machine/PortBase.lean ====
section
/-! DEFINITION. Ring ports and the mooring link: states of their directions, lane sets, span notices, and what starts and stops them (03). -/

namespace Sys2Proof.Machine

/-- A ring receive direction is Active, or its bring-up timeout has passed since the release of D3 (R91, R458). -/
def State.ringReady (s : State) : Bool :=
  s.rx 0 == dActive || s.rx 1 == dActive || s.dir 0 6 || s.dir 1 6

/-- The lane set of the lanes that pass bring-up (R89): lanes 0 to 3 when all five pass. -/
def chooseSet (lanes : Nat) : Nat := if lanes = 31 then 15 else lanes

/-- The lanes of port p, as a list. -/
def lanesOf (p : Nat) : List Nat := List.range (laneCount p)

/-- The lane states of port p written: carrying in the set, an idle spare beside it, failed and absent lanes as they are (R121). -/
def markLanes (p set : Nat) (s : State) : State :=
  (lanesOf p).foldl (fun s l =>
    let st := s.get (Obj.laneState p l)
    if bit set l then s.put (Obj.laneState p l) 2
    else if st = 1 ∨ st = 2 then s.put (Obj.laneState p l) 3 else s) s

/-- A failed lane: its state and its cause (R105); on an Anchored chip item 0 of the self-test fails (R420). -/
def failLane (p l cause : Nat) (s : State) : State :=
  selfTestFail 0 (abandonLane p l ((s.put (Obj.laneState p l) 5).put (Obj.failCause p l) cause))

/-- A span direction in the ring map (R113): one that comes back is on hold (R117), one that goes down breaks the window of R151. -/
def applySpan (origin far : Nat) (up : Bool) (s : State) : State :=
  let s := if up then s else { s with cal := { s.cal with broken := true } }
  modRing (fun r => { r with
    spans := r.spans.filter (fun d => !(d.origin == origin && d.far == far)) ++ [⟨origin, far, up, s.tide.beat, up⟩] }) s

/-- A SPAN notice out of both ring ports about the receive direction of port p (R111, R112, R117); an unnumbered node sends none. -/
def sendSpan (p : Nat) (up : Bool) (s : State) : State :=
  if s.nodeNumber = 0 ∨ p = 2 then s
  else
    let q := (s.ring.spanSeq + 1) % 16
    let s := modRing (fun r => { r with spanSeq := q }) s
    let lanes := if up then laneNum (s.get (Obj.rxSet p)) else 0
    let w := sealBlock (s.nodeNumber * 2 ^ 48 + s.farNode p * 2 ^ 40 + b2n up * 2 ^ 39 + lanes * 2 ^ 36 + q * 2 ^ 32)
    applySpan s.nodeNumber (s.farNode p) up (sendBlock 1 tySpan w (sendBlock 0 tySpan w s))

/-- A receive direction leaves Active or its bring-up, for another state: what it had reached is forgotten. -/
def rxLeave (p d : Nat) (s : State) : State :=
  let s := modPort p (fun q => { q with rxGo := false, rxReady := false, hSeen := false, blockLocked := false, reqSet := 0, failing := 0,
                                        tickMiss := [0, 0, 0, 0, 0], stamp := none, lastStamp := none, repl := [], calm := 0 }) s
  setDir p 2 false (setDir p 4 false (setRx p d (s.put (Obj.rxSet p) 0)))

/-- A transmit direction leaves Active or its bring-up: an output that was up goes down with it (R183), and a trial of the other direction ends,
its change left standing (R153). -/
def txLeave (p d : Nat) (s : State) : State :=
  let was := s.tx p = dActive
  let s := modPort p (fun q => { q with txGo := false, nextSet := 0, nextLater := false, fresh := false, farReady := 0, quiet := 0, header := [],
                                        ticks := [], txEbb := 0, txOut := 0 }) s
  let s := setDir p 3 false (setDir p 5 false (setTx p d (s.put (Obj.txSet p) 0)))
  if was then outputDown p (abandonTrial p s) else s

/-- Both directions of port p begin at Detect, when D3 is released (R88, R466). -/
def portDetect (p : Nat) (s : State) : State := txLeave p dDetect (rxLeave p dDetect s)

/-- Detect begins on every port at the release of D3. -/
def portsStart (s : State) : State := portDetect 2 (portDetect 1 (portDetect 0 s))

/-- Both span directions of port p restart at Detect (R120, R462). -/
def portRestart (p : Nat) (s : State) : State := portDetect p s

/-- A receive direction is declared down (R111, R119): detail 1 clock lane lost, 2 fewer than three lanes, 3 elastic overflow. -/
def rxDown (p detail : Nat) (s : State) : State :=
  let was := s.rx p = dActive
  let s := abandonTrial p (rxLeave p dDetect s)
  if was then
    let s := (setDir p 0 true s).bump (Obj.downCnt p)
    let s := sendSpan p false s
    raise (if p = 2 then 4 else 3) p detail s
  else s

/-- A transmit direction has gone down, as a SPAN notice says: no frames, and its bring-up restarts at Detect (R113, R117). -/
def txDown (p : Nat) (s : State) : State :=
  let s := modPort p (fun q => { q with farStop := true }) s
  if s.tx p = dActive then setDir p 1 true (txLeave p dDetect s) else s

/-- Operation of a direction on three lanes raises a contained record at both ends (R108). -/
def threeLanes (p set : Nat) (s : State) : State := if p ≠ 2 ∧ laneNum set = 3 then raise 0x02 p set s else s

/-- The receive direction of port p enters Active, us microseconds after it entered Detect (R88, R117, R120, R135, R150, R179). -/
def rxActivate (p us : Nat) (s : State) : State :=
  let again := (s.port p).rxWas
  let set := s.get (Obj.rxSet p)
  let s := s.put (Obj.bringupUs p) us
  let s := setDir p 0 false (setDir p 6 false (setRx p dActive s))
  let s := setDir p 2 (p ≠ 2 ∧ laneNum set = 3) (setDir p 4 (bit set 4) s)
  let s := modPort p (fun q => { q with rxGo := false, rxWas := true, epoch := (q.epoch + 1) % 4,
                                        freed := (2 ^ 16 - s.partUsedOf p % 2 ^ 16) % 2 ^ 16 }) (markLanes p set s)
  let s := threeLanes p set ((s.put (Obj.pstepSum p) 0))
  let s := if p = 2 then s else setAlpha (s.spanKey p) (s.fixedOf p) s
  if again then sendSpan p true s else s

/-- The transmit direction of port p enters Active (R88, R179, R183). -/
def txActivate (p : Nat) (s : State) : State :=
  let set := s.get (Obj.txSet p)
  let s := setDir p 1 false (setDir p 7 false (setTx p dActive s))
  let s := setDir p 3 (p ≠ 2 ∧ laneNum set = 3) (setDir p 5 (bit set 4) s)
  threeLanes p set (modPort p (fun q => { q with txGo := false, farStop := false, sent := 0, fresh := false, stalled := false }) s)

/-- At a boundary, the directions that have met the Harbour exit condition enter Active (R88). -/
def portActivate (p us : Nat) (s : State) : State :=
  let s := if (s.port p).rxGo ∧ s.rx p = dHarbour then rxActivate p us s else s
  if (s.port p).txGo ∧ s.tx p = dHarbour then txActivate p s else s

/-- A direction counts as down for R36: declared down, or not Active within the bring-up timeout. -/
def State.dirDown (s : State) (p : Nat) : Bool := s.dir p 0 || s.dir p 1 || s.dir p 6 || s.dir p 7

/-- A direction of port p runs on three lanes (R108). -/
def State.dirThree (s : State) (p : Nat) : Bool := s.dir p 2 || s.dir p 3

/-- A degrading condition of R32 holds. -/
def State.degraded (s : State) : Bool :=
  s.dirDown 0 || s.dirDown 1 || s.dirThree 0 || s.dirThree 1 || decide (64 < s.hold.retired.length)

/-- Every transmitter is idle in a Quarantine whose fault lies in the lanes or the switch; frames arrive on an Active receive direction only
(R168, R483). -/
def State.rxOpen (s : State) (p : Nat) : Bool := s.released 4 && s.rx p == dActive && !s.faults.lanesIdle

/-- The receive balls of port p are listened to: not in a near-end loop, nor before D3 is released (R88, R102). -/
def State.listens (s : State) (p : Nat) : Bool := s.released 3 && !s.nearLoop p

/-- A sync error of a lane (R79, R105): counted, and added to those of the tick. -/
def syncCount (p l : Nat) (s : State) : State :=
  modPort p (fun q => { q with errs := modifyAt q.errs l (· + 1) }) (s.bump (Obj.syncErrCnt p l))

end Sys2Proof.Machine
end

