-- ==== Sys2Proof/Machine/Modes.lean ====
section
/-! DEFINITION. Mode transitions shared by several commands (R31, R32, R40), and what the twin is known to be. -/

namespace Sys2Proof.Machine

/-- The chip has seen its twin's heartbeat: it holds one received within the last 4 ticks (R417). -/
def State.hbSeen (s : State) : Bool := s.twin.hb.isSome && decide (s.twin.hbAge < 4)

/-- Anchored entered: the field side cold, the first self-test cycle beginning (R31, R418, R421). -/
def enterAnchored (s : State) : State :=
  let s := setMode .anchored s
  dropStreams (fun st => st.win.space != 0x30) { s with
    node := { s.node with owns := false, claim := false, toAnchored := false, waitB := false, keptOwn := false },
    twin := { s.twin with stFail := 0, stDone := false, hbSince := false, eyeHMin := 255, eyeVMin := 255 } }

/-- Working entered: `TWIN_OWN_N` claimed at once, the pins owned, input buffers and quay clocks on; outputs, cranes and
generators follow at the first boundary (R32, R253). The receive area starts poisoned (R61) and every controller that is
enabled starts (R356). -/
def enterWorking (s : State) : State :=
  let s := buffersOn (canStartAll (clearCaptures (setMode .working s)))
  { s with
    node := { s.node with owns := true, claim := true, resume := true, toAnchored := false, waitB := false, keptOwn := false,
                          leaveDryDock := false },
    bridge := { s.bridge with order := [] }
    tide := { s.tide with fill := [], area := [], delivered := [], candidates := [] } }

/-- Slipway entered on the test key: the pins are owned only when `TWIN_OWN_N` is high at that moment (R33, R34). -/
def enterSlipway (s : State) : State :=
  let high := s.ownLine
  let s := setMode .slipway s
  let s := { s with node := { s.node with keyWindow := false, toAnchored := false, waitB := false, owns := high, claim := high,
                                          resume := high } }
  if high then canStartAll (clearCaptures (buffersOn s)) else s

end Sys2Proof.Machine
end

