-- ==== Sys2Proof/Machine/Check.lean ====
section
/-! DEFINITION. Check units: feeds, result, control, parity (R337 to R345). -/

namespace Sys2Proof.Machine

/-- A unit that does not exist. -/
def ChkUnit.none : ChkUnit := ⟨0, 0, 0, false, false, []⟩

/-- Check unit u. -/
def State.unit (s : State) (u : Nat) : ChkUnit := s.chk.getD u ChkUnit.none

/-- Check unit u written. -/
def State.setUnit (s : State) (u : Nat) (x : ChkUnit) : State := { s with chk := s.chk.set u x }

/-- The parameters of a unit's polynomial; a reserved code never stands in a unit. -/
def ChkUnit.par (x : ChkUnit) : CrcPar := (crcPar x.poly).getD ⟨8, 0x1D, 0xFF, false, 0xFF⟩

/-- RESULT (R342). -/
def ChkUnit.result (x : ChkUnit) : Nat := crcOut x.par x.reg

/-- CONTROL (R343). -/
def ChkUnit.control (x : ChkUnit) : Nat := x.fed * 2 ^ 32 + b2n x.parity * 2 ^ 9 + b2n x.poison * 2 ^ 8 + x.poly

/-- A unit initialised with a polynomial (R343). -/
def ChkUnit.init (poly : Nat) (x : ChkUnit) : ChkUnit :=
  let y := { x with poly := poly }
  { y with reg := y.par.init, fed := 0, poison := false, parity := false }

/-- RESULT written: the running CRC set so that RESULT reads the value; PARITY cleared (R342). -/
def ChkUnit.setResult (v : Nat) (x : ChkUnit) : ChkUnit :=
  { x with reg := (v % 2 ^ x.par.width) ^^^ x.par.xorOut, parity := false }

/-- A feed of n bytes, byte 0 first (R339, R341). -/
def ChkUnit.feed (f : ChkFeed) (x : ChkUnit) : ChkUnit :=
  { x with reg := crcFeed x.par x.reg (bytesOf f.bytes f.data.toNat), fed := (x.fed + f.bytes) % 2 ^ 32, poison := x.poison || f.p }

/-- A feed taken by unit u, with its counters. -/
def chkFeed (u : Nat) (f : ChkFeed) (s : State) : State :=
  let s := (s.setUnit u ((s.unit u).feed f)).bump (Obj.chkFeedCnt u)
  if f.p then s.bump (Obj.chkPoisonCnt u) else s

/-- A waiting feed still stands: one of a crane only while that crane waits in its CHK (R277, R287). -/
def State.feedWaits (s : State) (f : ChkFeed) : Bool :=
  match f.crane with
  | none => true
  | some g => ((s.crane g).st == .stalled) && (s.crane g).phase == .chkWait

/-- The accesses that wait for unit u, in the order in which they arrived (R277, R340). -/
def State.chkQueue (s : State) (u : Nat) : List ChkFeed := (s.unit u).waiting.filter s.feedWaits

/-- An access waits for unit u behind those that wait already, and is counted (R277, R340). -/
def chkWaitFor (u : Nat) (f : ChkFeed) (s : State) : State :=
  let rest := (s.chkQueue u).filter (fun x => f.crane.isNone || x.crane != f.crane)
  (s.setUnit u { s.unit u with waiting := rest ++ [f] }).bump (Obj.chkWaitCnt u)

/-- A feed arrives at unit u: taken at once, or waiting while the unit serves another or others wait (R277, R340). -/
def chkArrive (u : Nat) (busy : Bool) (f : ChkFeed) (s : State) : State :=
  if busy || !(s.chkQueue u).isEmpty then chkWaitFor u f s else chkFeed u f s

/-- A write to CONTROL (R343): none for a reserved POLY code, which is refused with ACCESS. -/
def chkControlWrite (u v : Nat) (s : State) : Option State :=
  let poly := fld v 0 3
  let x := s.unit u
  if 4 < poly then none
  else if bit v 4 ∨ poly ≠ x.poly then some (s.setUnit u (x.init poly))
  else some s

/-- The effect of `CHECK_FEED` (R339, R340): a source whose access meets a busy unit waits, and the wait is counted. -/
def execCheckFeed (u width : Fin 4) (data : W64) (poisoned busy : Bool) (s : State) : Host.Outcome State Fault Refusal :=
  .next (chkArrive u.val busy ⟨2 ^ width.val, data, poisoned, none⟩ s)

/-- The effect of `CHECK_RESULT_WRITE` (R342). -/
def execCheckResultWrite (u : Fin 4) (v : W64) (s : State) : Host.Outcome State Fault Refusal :=
  .next (s.setUnit u.val ((s.unit u.val).setResult v.toNat))

/-- The effect of `CHECK_UNIT_INIT` (R343): CONTROL written with INIT and the polynomial in effect. -/
def execCheckUnitInit (u : Fin 4) (s : State) : Host.Outcome State Fault Refusal :=
  .next (s.setUnit u.val ((s.unit u.val).init (s.unit u.val).poly))

/-- The effect of `CHECK_POLY_CHANGE` (R343): a write that leaves POLY unchanged has no effect. -/
def execCheckPolyChange (u : Fin 4) (poly : Fin 5) (s : State) : Host.Outcome State Fault Refusal :=
  .next (if poly.val = (s.unit u.val).poly then s else s.setUnit u.val ((s.unit u.val).init poly.val))

/-- The running CRC of a unit with a bit wrong: which bit is open, a free value (log entry 3). PARITY is set (R344). -/
def ChkUnit.spoil (v : W64) (x : ChkUnit) : ChkUnit := { x with reg := x.reg ^^^ 2 ^ (v.toNat % x.par.width), parity := true }

/-- The effect of `CHECK_PARITY_ERROR` (R344). -/
def execCheckParityError (u : Fin 4) (s : State) : Host.Outcome State Fault Refusal :=
  .next (
    let d := s.draw
    raise 0x26 u.val 0 ((d.2.setUnit u.val ((s.unit u.val).spoil d.1)).bump (Obj.chkParityCnt u.val)))

end Sys2Proof.Machine
end

