-- ==== Sys2Proof/Machine/BridgeBase.lean ====
section
/-! DEFINITION. Bridge frames as every block sends them: command words, responses, refusals, and what leaves the Hold (R206 to R228). -/

namespace Sys2Proof.Machine

/-- Status codes of R209. -/
def bsOk : Nat := 0
def bsSpace : Nat := 1
def bsOffset : Nat := 2
def bsAccess : Nat := 3
def bsWidth : Nat := 4
def bsSize : Nat := 5
def bsMode : Nat := 6
def bsNotWorking : Nat := 7
def bsUnreachable : Nat := 8
def bsOrder : Nat := 9
def bsBusy : Nat := 0xA
def bsDict : Nat := 0xB
def bsTimeout : Nat := 0xC
def bsAborted : Nat := 0xD
def bsNoAck : Nat := 0xE
def bsBadOp : Nat := 0xF

/-- The command word of R207. -/
def cmdWord (op size count tag status detail rseq rcls : Nat) : W64 :=
  w64 (op % 16 * 2 ^ 60 + size % 16 * 2 ^ 56 + count % 256 * 2 ^ 48 + tag % 256 * 2 ^ 40 + status % 256 * 2 ^ 32 + detail % 256 * 2 ^ 24 +
    rseq % 4096 * 2 ^ 12 + rcls % 4 * 2 ^ 10)

/-- Fields of a command word (R207). -/
def cOp (w : W64) : Nat := wfld w 60 4
def cSize (w : W64) : Nat := wfld w 56 4
def cCount (w : W64) : Nat := wfld w 48 8
def cTag (w : W64) : Nat := wfld w 40 8
def cStatus (w : W64) : Nat := wfld w 32 8
def cDetail (w : W64) : Nat := wfld w 24 8
def cRseq (w : W64) : Nat := wfld w 12 12
def cRcls (w : W64) : Nat := wfld w 10 2

/-- A request operation of R216: READ, WRITE and the dictionary transfers. -/
def isReqOp (op : Nat) : Bool := op == 1 || op == 2 || (decide (8 ≤ op) && decide (op ≤ 11))

/-- A response (R208). -/
def isRespOp (op : Nat) : Bool := op == 3 || op == 4

/-- An operation that a READ_RESPONSE answers (R208, R513). -/
def isReadOp (op : Nat) : Bool := op == 1 || op == 8 || op == 11

/-- Fields of a ring address (R201). -/
def aNode (w : W64) : Nat := wfld w 56 8
def aSpace (w : W64) : Nat := wfld w 48 8
def aOff (w : W64) : Nat := wfld w 0 48

/-- An asynchronous broadcast goes out both ways while a span direction of the ring map is down (R115). -/
def State.bothWays (s : State) (r : LocalReq) : Bool := r.dnode == 255 && s.anyDown

/-- Outputs that a frame of the local block takes (R30, R114, R115). -/
def State.outsFor (s : State) (r : LocalReq) : List Nat :=
  if s.bothWays r then [0, 1].filter s.txUp else (s.outFor r.dnode r.dport).toList

/-- Bays that a frame of the local block takes in its partition. -/
def State.baysFor (s : State) (r : LocalReq) : Nat := bayCount r.pay.length * (s.outsFor r).length

/-- The local input has room for a frame (R182). -/
def State.roomFor (s : State) (r : LocalReq) : Bool := decide (s.baysFor r ≤ s.ownRoom r.input r.cls)

/-- Where a frame of the local block comes from: the core numbers its transfers from 1 (R228). -/
def LocalReq.origin (r : LocalReq) : Origin :=
  ⟨true, r.mdest, if r.src = .core ∧ r.mdest = none ∧ r.xid ≠ 0 then some r.xid else none⟩

/-- A frame of the local block sent: SEQ, and the state (R14, R115, R167). -/
def sendLocal (r : LocalReq) (s : State) : Nat × State :=
  let fl := setBit (setBit (setBit (b2n r.ack) 3 (s.bothWays r)) 2 r.relay) 1 (r.pay.any (·.p))
  let q := nextSeqOf r.cls s
  let f : Frame := ⟨mkHdr r.dnode s.nodeNumber r.dport r.cls q.1 r.pay.length s.ttl fl, r.pay, mkTrl s.tide.tick r.pay⟩
  (q.1, (s.outsFor r).foldl (fun s o => enqueue r.input o (LocalReq.origin r) (Frame.words f) s) q.2)

/-- A response handed over: sent, waiting for room (R225), or dropped when no path to the requester is usable. An unnumbered requester cannot
be addressed (R11). -/
def sendResponse (r : LocalReq) (s : State) : State :=
  if r.dnode = 0 then s
  else if (s.outsFor r).isEmpty then s.bump Obj.unreachableCnt
  else if s.roomFor r ∧ s.bridge.respWait.isEmpty then (sendLocal r s).2
  else modBridge (fun b => { b with respWait := b.respWait ++ [r] }) s

/-- The response to a frame: its header, TAG, and the data words (R207, R208). The answer to a posted write carries TAG 0. Whether it holds a place
of the inbound request store. -/
def answerOf (place : Bool) (h : W64) (tag op size count status detail : Nat) (data : List PWord) : LocalReq :=
  ⟨7, 2, false, hSnode h, 0, pw (cmdWord op size count tag status detail (hSeq h) (hClass h)) :: data, .core, 0, none, false, place⟩

/-- TAG of a request frame. -/
def tagOf (h : W64) (pay : List PWord) : Nat := if hClass h = 2 then cTag (pay.getD 0 ⟨0, false⟩).data else 0

/-- A request that holds a tag answered by its target (R225, `REQ_IN_CNT`). -/
def answer (h : W64) (pay : List PWord) (op size count status detail : Nat) (data : List PWord) (s : State) : State :=
  sendResponse (answerOf true h (tagOf h pay) op size count status detail data) (s.bump Obj.reqInCnt)

/-- A request that holds a tag refused: by its target, which counts it as served, or on its way by port 7, which has no place for it in its store
(R166, R225). -/
def answerNo (target : Bool) (h : W64) (pay : List PWord) (op status detail : Nat) (data : List PWord) (s : State) : State :=
  if target then answer h pay op 0 0 status detail data s
  else sendResponse (answerOf false h (tagOf h pay) op 0 0 status detail data) s

/-- The refusal of a posted write without FLAGS bit 10, through the refusal store (R226). -/
def storeRefusal (status detail : Nat) (h : W64) (a : W64) (s : State) : State :=
  let r := answerOf false h 0 4 0 0 status detail [pw a]
  if r.dnode = 0 then s
  else if (s.outsFor r).isEmpty then s.bump Obj.unreachableCnt
  else if s.roomFor r ∧ s.bridge.refusals.isEmpty then (sendLocal r s).2
  else if s.bridge.refusals.length < 64 then modBridge (fun b => { b with refusals := b.refusals ++ [r] }) s
  else (s.bump Obj.refusalLostCnt).put Obj.lastRefusal
    (status * 2 ^ 56 + hSnode h * 2 ^ 48 + aSpace a * 2 ^ 40 + aOff a % 2 ^ 40)

/-- A frame refused to its source with a status of R209 (R28, R166, R167, R211). A broadcast, a response, a frame of the relay and a survey
are not refused; a poisoned command or address word names nobody to answer (R9). The target refuses it, or port 7 a frame on its way. -/
def refuseAs (target : Bool) (status detail : Nat) (h : W64) (pay : List PWord) (s : State) : State :=
  match hClass h, pay with
  | 1, a :: _ =>
    if hDnode h = 255 ∨ a.p then s
    else
      let s := s.bump Obj.refusedInCnt
      if hAck h then answerNo target h pay 4 status detail [pw a.data] s else storeRefusal status detail h a.data s
  | 2, c :: t =>
    if hRelay h ∨ 0xFB ≤ hDport h ∨ hDnode h = 255 ∨ c.p ∨ isRespOp (cOp c.data) then s
    else
      let s := s.bump Obj.refusedInCnt
      if isReadOp (cOp c.data) then answerNo target h pay 3 status detail [] s
      else answerNo target h pay 4 status detail ((t.take 1).map (fun w => pw w.data)) s
  | _, _ => s

/-- A frame refused by its target (R209, R211). -/
def refuseFrame (status detail : Nat) (h : W64) (pay : List PWord) (s : State) : State := refuseAs true status detail h pay s

/-- The tick in which a frame starts to leave, in its trailer (R13); a class 00 frame keeps the tick in which its entry is due. -/
def stampTrailer (tick : Nat) (ws : List Cargo) : List Cargo :=
  match ws.getLast? with
  | some t => ws.dropLast ++ [{ t with data := w64 (t.data.toNat / 2 ^ 48 * 2 ^ 48 + tick % 2 ^ 16 * 2 ^ 32 + t.data.toNat % 2 ^ 32) }]
  | none => ws

/-- A tag waits for the answer to the frame with a header. -/
def Tag.stands (t : Tag) (h : W64) : Bool := t.use == .waiting && t.seq == hSeq h && t.cls == hClass h

/-- What the bridge tells the local core of a transfer (R222, R228): an abort that came late shows in it. -/
def tellCore (n status detail : Nat) (data : List PWord) (s : State) : State :=
  modBridge (fun b => { b with report := ⟨n, status, detail, b.xfers.any (fun x => x.id == n && x.aborted), data⟩ }) s

/-- Frames of transfer n that have not begun to leave: those in the Hold, and those that wait to enter it (R228). -/
def State.unsentOf (s : State) (n : Nat) : Nat :=
  (s.hold.jobs.filter (fun j => j.xfer == some n)).length +
    (s.bridge.reqWait.filter (fun r => (LocalReq.origin r).xfer == some n)).length

/-- A frame of transfer n has begun to leave: a posted write without an acknowledgement is done with its last one (R228). -/
def xferLeft (n : Nat) (s : State) : State :=
  let s := modBridge (fun b => { b with xfers := b.xfers.map (fun x => if x.id = n then { x with sent := x.sent + 1 } else x) }) s
  if s.unsentOf n = 0 ∧ s.bridge.xfers.any (fun x => x.id == n && x.plain) then tellCore n bsOk 0 [] s else s

/-- A frame of this node has begun to leave: posted writes and tagged frames counted, the tag's tick, and the local transfer it belongs to
(R223, R228). -/
def noteLeft (j : Job) (s : State) : State :=
  if !j.own then s
  else
    let h := j.hdr
    let s := if hClass h = 1 then s.bump Obj.postedOutCnt else s
    let s := if s.bridge.tags.any (·.stands h) then
        modBridge (fun b => { b with tags := b.tags.map (fun t => if t.stands h then { t with tick := s.tide.beat } else t) }) (s.bump Obj.reqOutCnt)
      else s
    match j.xfer with
    | some n => xferLeft n s
    | none => s

/-- A frame taken from the Hold by its output as it goes out: its words with the trailer's tick, and the state. -/
def departJob (j : Job) (s : State) : List Cargo × State :=
  let r := takeJob j s
  (if j.own ∧ !j.sched then stampTrailer s.tide.tick r.1 else r.1, noteLeft j r.2)

/-- The next frame for a local port that a test picks (R173): it is taken from the Hold whole. -/
def State.localNext (s : State) (out : Nat) (p : Job → Bool) : Option Job := (s.turns out).find? p

/-- A frame at a local port, as its port reads it: nothing when its trailer CRC fails now (R13, R175). -/
def localFrame (j : Job) (s : State) : Option Frame × State :=
  let r := departJob j s
  match frameOf r.1 with
  | some f => if Frame.crcOk f then (some f, r.2) else (none, r.2.bump Obj.payloadCrcCnt)
  | none => (none, r.2.bump Obj.payloadCrcCnt)

/-- A response or refusal that waits for room in the local input goes out when room has come (R225, R226). -/
def responsesGo (s : State) : State :=
  match s.bridge.respWait, s.bridge.refusals with
  | r :: t, _ => if s.roomFor r then (sendLocal r (modBridge (fun b => { b with respWait := t }) s)).2 else s
  | [], r :: t => if s.roomFor r then (sendLocal r (modBridge (fun b => { b with refusals := t }) s)).2 else s
  | [], [] => s

/-- The lowest free tag (R222). -/
def State.freeTag (s : State) : Option Nat := (List.range 16).find? (fun i => (s.bridge.tags.getD i Tag.zero).use == .none)

/-- A frame of a local source needs a tag: every class 10 request, and a posted write that asks for an acknowledgement (R222). -/
def LocalReq.tagged (r : LocalReq) : Bool := r.cls == 2 || r.ack

/-- A request frame with its tag in the command word (R207). -/
def withTag (t : Nat) (r : LocalReq) : LocalReq :=
  if r.cls = 2 then
    match r.pay with
    | c :: l => { r with pay := { c with data := w64 (c.data.toNat / 2 ^ 48 * 2 ^ 48 + t * 2 ^ 40 + c.data.toNat % 2 ^ 40) } :: l }
    | [] => r
  else r

/-- A frame of a local source sent with its tag, when it needs one; nothing while no tag or no room is free (R182, R222). -/
def trySend (r : LocalReq) (s : State) : Option State :=
  if !s.roomFor r then none
  else if !LocalReq.tagged r then some (sendLocal r s).2
  else
    match s.freeTag with
    | none => none
    | some t =>
      let q := sendLocal (withTag t r) s
      some (modBridge (fun b => { b with
        tags := b.tags.set t ⟨.waiting, r.dnode, r.dport, q.1, r.cls, r.cls == 1, r.src, r.xid, r.mdest.isSome, s.tide.beat⟩ }) q.2)

/-- A frame of a local source sent, or waiting behind those that wait already (R182, R222). -/
def sendOrWait (r : LocalReq) (s : State) : State :=
  match if s.bridge.reqWait.isEmpty then trySend r s else none with
  | some t => t
  | none => modBridge (fun b => { b with reqWait := b.reqWait ++ [r] }) s

/-- The effect of `RESPONSE_ROOM_WAIT_END` (R225). -/
def execResponseRoomWaitEnd (s : State) : Host.Outcome State Fault Refusal := .next (responsesGo s)

end Sys2Proof.Machine
end

