-- ==== Sys2Proof/Machine/Fifo.lean ====
section
/-! DEFINITION. Cargo FIFOs: tags, packing, notices, pops, errors (09), and the FIFOs of a crane (R279, R280). -/

namespace Sys2Proof.Machine

/-- Cranes 0 and 8 of each quay are bulk cranes (R280). -/
def isBulk (g : Nat) : Bool := g % 8 == 0

/-- `CRANE_CTRL` TX16 and RX16 (R279). -/
def State.tx16 (s : State) (g : Nat) : Bool := bit (s.get (Obj.craneCtrl g)) 1
def State.rx16 (s : State) (g : Nat) : Bool := bit (s.get (Obj.craneCtrl g)) 2

/-- Depth of FIFO f in words (R279, R280; the queues of R376 and the stores of R400 and R401). -/
def State.depth (s : State) (f : Nat) : Nat :=
  if f < 64 then (if isBulk f then 64 else if s.tx16 f then 0 else if s.rx16 f then 16 else 8)
  else if f < 128 then (if isBulk (f - 64) then 8 else if s.rx16 (f - 64) then 0 else if s.tx16 (f - 64) then 16 else 8)
  else if f < 144 then 128
  else if f < 148 then 64
  else 16

/-- Words that a FIFO holds, pending ones included. -/
def Fifo.held (x : Fifo) : Nat := x.pend.length + x.words.length

/-- Places free in a FIFO: words held pending take room (R268). -/
def State.room (s : State) (f : Nat) : Nat := s.depth f - (s.fifo f).held

/-- INSTANCE of a FIFO in fault records, and DETAIL bit 0: transmit (R476). -/
def fifoInst (f : Nat) : Nat :=
  if f < 128 then f % 64 else if f < 144 then 0x40 + f % 8 else if f < 148 then 0x50 + (f - 144) else 0x60 + (f - 148)
def fifoTx (f : Nat) : Nat := if (64 ≤ f ∧ f < 128) ∨ (136 ≤ f ∧ f < 144) then 1 else 0

/-- A counter of a crane's FIFO objects advanced; the other FIFOs have none (R346). -/
def fifoCount (o : Nat → Obj) (f n : Nat) (s : State) : State := if f < 128 then s.addTo (o (f % 64)) n else s

/-- Storage place of the n-th word held, from the oldest. -/
def State.fifoPlace (s : State) (f n : Nat) : Nat :=
  if s.depth f = 0 then 0 else ((s.fifo f).base + n) % s.depth f

/-- The packet notice of a complete frame: counted and made pending (R331). -/
def packetNotice (f : Nat) (s : State) : State :=
  if f < 64 then
    let s := s.bump (Obj.rxFrameCnt f)
    s.put (Obj.noticePend f) (setBit (s.get (Obj.noticePend f)) 0 true)
  else if f < 128 then
    let s := s.bump (Obj.txFrameCnt (f - 64))
    s.put (Obj.noticePend (f - 64)) (setBit (s.get (Obj.noticePend (f - 64))) 1 true)
  else s

/-- The diagnostic notice: the fill of the chosen FIFO has just risen to the threshold (R332). -/
def diagNotice (f : Nat) (s : State) : State :=
  if f < 128 then
    let d := s.get (Obj.diagLevel (f % 64))
    if bit d 15 ∧ bit d 14 = decide (64 ≤ f) ∧ (s.fifo f).words.length = fld d 0 7 then
      let s := s.bump (Obj.diagHitCnt (f % 64))
      s.put (Obj.noticePend (f % 64)) (setBit (s.get (Obj.noticePend (f % 64))) 2 true)
    else s
  else s

/-- One word stored at the tail; its place takes fresh check bits. A last or only word completes a frame. -/
def storeWord (f : Nat) (w : Cargo) (s : State) : State :=
  let x := s.fifo f
  let place := s.fifoPlace f x.held
  let s := s.setFifo f { x with words := x.words ++ [w], inv := mapSet 0 x.inv place 0 }
  let s := diagNotice f s
  if w.kind = .last ∨ w.kind = .only then packetNotice f s else s

/-- A word with BYTES 9 to 15 is poisoned and counted as a tag error (R8, R324). -/
def checkBytes (f : Nat) (w : Cargo) (s : State) : Cargo × State :=
  if 8 < w.bytes.toNat then ({ w with p := true }, fifoCount Obj.tagErrCnt f 1 s) else (w, s)

/-- A word that closes an open frame (R322). -/
def closingWord (p : Bool) : Cargo := ⟨true, .last, 0, p, 0⟩

/-- A closing word of R322 is needed before a word of this kind (R323). -/
def needsClosing (x : Fifo) (k : Kind) : Bool := x.opened && (k == .first || k == .only)

/-- Places that a written word takes (R323). -/
def State.wordPlaces (s : State) (f : Nat) (w : Cargo) : Nat := if needsClosing (s.fifo f) w.kind then 2 else 1

/-- Whether the frame at the write side is open after a word. -/
def setOpened (f : Nat) (b : Bool) (s : State) : State := s.setFifo f { s.fifo f with opened := b }

/-- A word written to a FIFO that has room for it, with the repairs of R322. -/
def fifoWrite (f : Nat) (w : Cargo) (s : State) : State :=
  if !w.v then s
  else
    let (w, s) := checkBytes f w s
    let o := (s.fifo f).opened
    match w.kind with
    | .first =>
      let s := if o then storeWord f (closingWord true) (fifoCount Obj.tagErrCnt f 1 s) else s
      setOpened f true (storeWord f w s)
    | .only =>
      let s := if o then storeWord f (closingWord true) (fifoCount Obj.tagErrCnt f 1 s) else s
      setOpened f false (storeWord f w s)
    | .middle =>
      if o then storeWord f w s
      else setOpened f true (storeWord f { w with kind := .first, p := true } (fifoCount Obj.tagErrCnt f 1 s))
    | .last =>
      if o then setOpened f false (storeWord f w s)
      else storeWord f { w with kind := .only, p := true } (fifoCount Obj.tagErrCnt f 1 s)

/-- Stored data bits found inverted in a place, of the 72 that R321 stores. -/
def State.fifoInv (s : State) (f place : Nat) : Nat := mapGet 0 (s.fifo f).inv place

/-- A corrected error counted, with the record of R334 when the pass has reached `FIFO_CE_WARN`. -/
def fifoCorrected (f : Nat) (s : State) : State :=
  let s := fifoCount Obj.fifoCeCnt f 1 s
  let x := s.fifo f
  let s := s.setFifo f { x with ce := x.ce + 1 }
  if s.get Obj.fifoCeWarn ≤ x.ce + 1 ∧ !x.warned then
    raise 0x24 (fifoInst f) 0 (s.setFifo f { s.fifo f with warned := true })
  else s

/-- An uncorrected error counted and recorded, and counted towards criterion 4 (R333, R423). -/
def fifoUncorrected (f : Nat) (s : State) : State :=
  let s := raise 0x23 (fifoInst f) (fifoTx f) (fifoCount Obj.fifoUeCnt f 1 s)
  let s := { s with twin := { s.twin with fifoUe := s.twin.fifoUe + 1 } }
  if s.get Obj.fifoUeLimit ≤ s.twin.fifoUe then holdCriterion 4 s else s

/-- A word as it is delivered through SEC-DED (R333). -/
def deliverWord (f place : Nat) (w : Cargo) (s : State) : Cargo × State :=
  let i := s.fifoInv f place
  match popCount 72 i with
  | 0 => (w, s)
  | 1 => (w, fifoCorrected f s)
  | _ => ({ w with p := true, data := w.data ^^^ w64 i }, fifoUncorrected f s)

/-- A word pop: the head word whatever its KIND, or an empty word (R325, R326). -/
def fifoPop (f : Nat) (s : State) : Cargo × State :=
  let x := s.fifo f
  match x.words with
  | [] => (Cargo.empty, s)
  | w :: t =>
    let (w, s) := deliverWord f (s.fifoPlace f x.pend.length) w s
    let y := s.fifo f
    (w, s.setFifo f { y with words := t, base := s.fifoPlace f 1 })

/-- A speculative pop: the head word is delivered and held pending (R231). -/
def fifoSpecPop (f : Nat) (s : State) : Cargo × State :=
  let x := s.fifo f
  match x.words with
  | [] => (Cargo.empty, s)
  | w :: t =>
    let (d, s) := deliverWord f (s.fifoPlace f x.pend.length) w s
    let y := s.fifo f
    (d, s.setFifo f { y with words := t, pend := y.pend ++ [w] })

/-- The n oldest pending words leave for good. -/
def fifoCommit (f n : Nat) (s : State) : State :=
  let x := s.fifo f
  s.setFifo f { x with pend := x.pend.drop n, base := s.fifoPlace f (Nat.min n x.pend.length) }

/-- A word ends a frame. -/
def endsFrame (w : Cargo) : Bool := w.kind == .last || w.kind == .only

/-- Number of words up to and including the first that ends a frame, if one does. -/
def frameLen : List Cargo → Option Nat
  | [] => none
  | w :: t => if endsFrame w then some 1 else (frameLen t).map (· + 1)

/-- n word pops, in order. -/
def fifoPopN (f : Nat) : Nat → State → List Cargo × State
  | 0, s => ([], s)
  | n + 1, s =>
    let (w, s) := fifoPop f s
    let (l, s) := fifoPopN f n s
    (w :: l, s)

/-- A broken head dropped up to its last word (R328). -/
def dropBroken (f : Nat) (s : State) : State :=
  match (s.fifo f).words with
  | [] => s
  | w :: _ =>
    if w.kind = .middle ∨ w.kind = .last then
      match frameLen (s.fifo f).words with
      | some n =>
        let s := fifoCount Obj.tagErrCnt f n s
        let x := s.fifo f
        s.setFifo f { x with words := x.words.drop n, base := s.fifoPlace f n }
      | none => s
    else s

/-- A frame pop: a complete head frame whole, or nothing (R326, R328). -/
def fifoFramePop (f : Nat) (s : State) : List Cargo × State :=
  let s := dropBroken f s
  match (s.fifo f).words with
  | [] => ([], s)
  | w :: _ =>
    if w.kind = .middle ∨ w.kind = .last then ([], s)
    else
      match frameLen (s.fifo f).words with
      | some n => fifoPopN f n s
      | none => ([], s)

/-- Complete frames in a FIFO. -/
def Fifo.frames (x : Fifo) : Nat := (x.words.filter endsFrame).length

/-- Words that an emptied FIFO loses; a word being built counts as one when it holds any byte (R335, R336). -/
def Fifo.lost (x : Fifo) : Nat := x.held + (if x.built.isEmpty then 0 else 1)

/-- A FIFO emptied, its open frame cleared, the words counted (R335, R336). -/
def fifoEmpty (f : Nat) (s : State) : State :=
  let n := (s.fifo f).lost
  let x := s.fifo f
  fifoCount Obj.flushLostCnt f n (s.setFifo f { Fifo.empty with ce := x.ce, warned := x.warned })

/-- A FIFO emptied by command: a speculative stream on it is discarded first (R336). -/
def flushFifo (f : Nat) (s : State) : State := fifoEmpty f (claimFifo f s)

/-- The words that FIFO f held pending are lost to the streams that hold them: the streams go with them, and nothing is left to roll back
(R335). -/
def losePending (f : Nat) (s : State) : State :=
  modBridge (fun b => { b with streams := b.streams.filter (fun st => !onFifo f st) }) s

/-- FIFO f as a block reset leaves it (R462): empty, with no stream on it. -/
def clearFifo (f : Nat) (s : State) : State := losePending f (s.setFifo f Fifo.empty)

/-- The interrupt of crane g's FIFOs to the core: a pending notice that is enabled (R331, R332, R346). -/
def State.noticeLine (s : State) (g : Nat) : Bool := s.get (Obj.noticePend g) &&& s.get (Obj.noticeEn g) != 0

/-- `FIFO_STATUS` of crane g (R347). -/
def State.fifoStatus (s : State) (g : Nat) : Nat :=
  let r := s.fifo g
  let t := s.fifo (64 + g)
  r.frames * 2 ^ 56 + r.words.length * 2 ^ 48 + r.pend.length * 2 ^ 40 + b2n (r.opened || !r.built.isEmpty) * 2 ^ 35 +
  b2n t.opened * 2 ^ 33 + t.frames * 2 ^ 24 + t.words.length * 2 ^ 16 + s.depth g * 2 ^ 8 + s.depth (64 + g)

/-- A word that a packing FIFO offers from the bytes of the word being built (R329). -/
def packWord (begun : Bool) (last : Bool) (bs : List Byte) : Cargo :=
  let k : Kind := match begun, last with
    | false, false => .first | false, true => .only | true, false => .middle | true, true => .last
  ⟨true, k, BitVec.ofNat 4 bs.length, false, w64 (ofBytes bs)⟩

/-- What a packing FIFO has built: the words offered so far by the piece, the bytes of the word being built, and whether the
frame has offered a word. -/
structure Pack where
  out : List Cargo
  built : List Byte
  begun : Bool
  deriving DecidableEq, Repr

/-- The open frame of a packing FIFO closed by a piece of KIND 0b01 or 0b11, or by a STAMP (R329). -/
def packClose (x : Fifo) : List Cargo :=
  if !x.opened then []
  else if x.built.isEmpty then [closingWord false]
  else [packWord x.begun true x.built]

/-- The bytes of a piece placed one after another; ends says that the frame ends with the piece (R329). -/
def packBytes (ends : Bool) : List Byte → Pack → Pack
  | [], p => p
  | b :: t, p =>
    let bs := p.built ++ [b]
    if bs.length = 8 then
      packBytes ends t ⟨p.out ++ [packWord p.begun (ends && t.isEmpty) bs], [], true⟩
    else packBytes ends t { p with built := bs }

/-- The words that a piece of a KIND offers, and what is left being built: KIND 0b00 continues, 0b01 starts a frame, 0b10 ends
one, 0b11 makes a frame of its own (R280, R329). -/
def packPiece (x : Fifo) (k : Kind) (bs : List Byte) : List Cargo × List Byte × Bool × Bool :=
  let fresh := k == .first || k == .only
  let ends := k == .last || k == .only
  let closing := if fresh then packClose x else []
  let start : Pack := if fresh ∨ !x.opened then ⟨[], [], false⟩ else ⟨[], x.built, x.begun⟩
  let p := packBytes ends bs start
  if ends then
    let tail := if p.built.isEmpty then [] else [packWord p.begun true p.built]
    (closing ++ p.out ++ tail, [], false, false)
  else (closing ++ p.out, p.built, p.begun, true)

/-- Words written to a FIFO as they are. -/
def storeWords (f : Nat) (ws : List Cargo) (s : State) : State := ws.foldl (fun s w => storeWord f w s) s

/-- A piece written to the packing FIFO of bulk crane g, when a place is free for a whole word, and for every word that it offers (R280, R330). -/
def writePiece (g : Nat) (k : Kind) (bs : List Byte) (s : State) : Option State :=
  let (ws, built, begun, opened) := packPiece (s.fifo g) k bs
  if s.room g < Nat.max 1 ws.length then none
  else
    let s := storeWords g ws s
    some (s.setFifo g { s.fifo g with built := built, begun := begun, opened := opened })

/-- The effect of `FIFO_PARITY_ERROR` (R335). -/
def execFifoParityError (f : Fin 180) (s : State) : Host.Outcome State Fault Refusal :=
  .next (raise 0x25 (fifoInst f.val) ((s.fifo f.val).lost % 256) (losePending f.val (fifoEmpty f.val s)))

end Sys2Proof.Machine
end

