-- ==== Sys2Proof/Machine/ManifestBase.lean ====
section
/-! DEFINITION. Prefetch streams that hold words of FIFOs, and the manifest: messages of cranes and CAN controllers, their lookup, mapping and
sending (R230 to R238). -/

namespace Sys2Proof.Machine

/-- Word i of a window is written: streams that hold it are discarded (R230). -/
def touchWord (kind unit i : Nat) (s : State) : State :=
  dropStreams (fun st => st.win.kind == kind && st.win.unit == unit && st.words.any (fun x => (x.1 - st.win.base) / 8 == i)) s

/-- Fields of a manifest entry (R234). -/
def mKind (e : Nat) : Nat := fld e 126 2
def mSrc (e : Nat) : Nat := fld e 120 6
def mId (e : Nat) : Nat := fld e 91 29
def mMask (e : Nat) : Nat := fld e 62 29
def mDnode (e : Nat) : Nat := fld e 54 8
def mDport (e : Nat) : Nat := fld e 46 8
def mUnit (e : Nat) : Nat := fld e 42 4
def mMode (e : Nat) : Nat := fld e 40 2
def mNew (e : Nat) : Nat := fld e 11 29
def mFmt (e : Nat) : Nat := fld e 9 2
def mExt (e : Nat) : Bool := bit e 8
def mAck (e : Nat) : Bool := bit e 7

/-- An entry applies to a key (R233). -/
def mHit (kind src id e : Nat) : Bool := mKind e == kind && mSrc e == src && (id ^^^ mId e) &&& mMask e == 0

/-- A message offered to the manifest (R233, R235): key, format, data words with their poison, and the number of data bytes. -/
structure Msg where
  kind : Nat
  src : Nat
  id : Nat
  fdf : Bool
  brs : Bool
  rtr : Bool
  esi : Bool
  len : Nat
  data : List PWord
  deriving DecidableEq, Repr

/-- The message head of R235. -/
def headWord (kind : Nat) (fdf brs rtr esi : Bool) (len src id : Nat) : W64 :=
  w64 (kind % 4 * 2 ^ 62 + b2n fdf * 2 ^ 61 + b2n brs * 2 ^ 60 + b2n rtr * 2 ^ 59 + b2n esi * 2 ^ 58 + len % 256 * 2 ^ 50 + src % 64 * 2 ^ 44 +
    id % 2 ^ 29)

/-- Fields of a message head. -/
def hdKind (w : W64) : Nat := wfld w 62 2
def hdFdf (w : W64) : Bool := bit w.toNat 61
def hdBrs (w : W64) : Bool := bit w.toNat 60
def hdRtr (w : W64) : Bool := bit w.toNat 59
def hdLen (w : W64) : Nat := wfld w 50 8
def hdId (w : W64) : Nat := wfld w 0 29

/-- The identifier that an entry maps an identifier to (R237). -/
def mapId (e id : Nat) : Nat :=
  match mMode e with
  | 0 => id
  | 1 => mNew e
  | _ => (mNew e &&& mMask e) ||| clearBits id (mMask e)

/-- FDF and BRS towards a CAN controller: a remote frame always goes in classic format (R237). -/
def mapFmt (e : Nat) (m : Msg) : Bool × Bool :=
  if m.rtr then (false, false)
  else match mFmt e with
    | 0 => (m.fdf, m.brs)
    | 1 => (false, false)
    | 2 => (true, false)
    | _ => (true, true)

/-- The posted write that carries a matched message from switch input q (R236, R237), but for the generation of its lookup; nothing when it may not
be sent. -/
def mapMsg (q e : Nat) (m : Msg) : Option LocalReq :=
  let toCan := mDport e = 0x20
  let id := mapId e m.id
  let fmt := if toCan then mapFmt e m else (m.fdf, m.brs)
  let kind := if toCan then (if mExt e then 2 else 1) else m.kind
  let id := if toCan ∧ !mExt e then id % 2 ^ 11 else id % 2 ^ 29
  if toCan ∧ (if fmt.1 then 64 else 8) < m.len then none
  else
    let off := if toCan then 0x4000 * mUnit e + 0x2100 else 0x100 * mUnit e + m.len % 8
    let head := headWord kind fmt.1 fmt.2 m.rtr m.esi m.len m.src id
    some ⟨q, 1, mAck e, mDnode e, mDport e, pw (ringAddr (mDnode e) (mDport e) off) :: pw head :: m.data, .core, 0,
      none, false, false⟩

/-- A frame of the manifest sent by its path, or refused for want of one (R114, R236). -/
def sendMsg (r : LocalReq) (s : State) : State := if (s.outsFor r).isEmpty then s.bump Obj.unreachableCnt else sendOrWait r s

/-- A message offered from switch input q: looked up, and sent or missed (R233, R236, R238). -/
def offerMsg (q : Nat) (m : Msg) (s : State) : State :=
  let s := s.bump Obj.manLookupCnt
  match s.man.entries.find? (fun e => mHit m.kind m.src m.id e.2) with
  | none => (s.bump Obj.manMissCnt).put Obj.manLastMiss (m.kind * 2 ^ 62 + m.src * 2 ^ 56 + m.id % 2 ^ 29)
  | some e =>
    if 240 < m.len then s.bump Obj.manSizeDropCnt
    else
      match mapMsg q e.2 m with
      | none => s.bump Obj.manSizeDropCnt
      | some r => sendMsg { r with mdest := some ⟨mDnode e.2, mDport e.2, mUnit e.2, s.get Obj.manifestGen⟩ } s

/-- The message that a crane's frame carries (R233, R235). -/
def craneMsg (g : Nat) (w : Cargo) (t : List Cargo) : Msg :=
  let len := match t.getLast? with
    | some l => 8 * (t.length - 1) + l.bytes.toNat
    | none => 0
  ⟨3, g, wfld w.data 0 16, false, false, false, false, len, payOf t |>.take (wordCount len)⟩

/-- One complete frame of crane g popped and offered; a frame whose first word is poisoned has no identifier to look up (R9). -/
def offerFrame (g : Nat) (s : State) : State :=
  let r := fifoFramePop g s
  match r.1 with
  | [] => r.2
  | w :: t => if w.p then r.2 else offerMsg (3 + g / 16) (craneMsg g w t) r.2

/-- The complete frames of crane g offered in turn. -/
def offerFrames (g : Nat) : Nat → State → State
  | 0, s => s
  | n + 1, s => offerFrames g n (offerFrame g s)

/-- Crane g gives up its complete frames to the manifest when its bit in `MSG_ROUTE` is set (R233). -/
def manifestOffer (g : Nat) (s : State) : State :=
  if bit (s.get Obj.msgRoute) g ∧ 0 < (s.fifo g).frames then
    let s := claimFifo g s
    offerFrames g (s.fifo g).frames s
  else s

end Sys2Proof.Machine
end

