-- ==== Sys2Proof/Machine/SaveBase.lean ====
section
/-! DEFINITION. A configuration commit of the saved state (R428), which many blocks start. -/

namespace Sys2Proof.Machine

/-- SAVED_GEN of the twin's last health report, 0 with none. -/
def State.twinSavedGen (s : State) : Nat :=
  match s.twin.health with
  | some (w :: _) => wfld w 0 32
  | _ => 0

/-- A configuration commit accepted on a chip that owns the field pins or is in Berthing: `SAVED_GEN` goes past both chips', and
the content is taken at the first boundary at which it has taken effect (R428). -/
def configCommit (s : State) : State :=
  if s.node.owns ∨ s.node.mode = .berthing then
    let s := s.put Obj.savedGen (Nat.max (s.get Obj.savedGen) s.twinSavedGen + 1)
    { s with twin := { s.twin with saveDue := true } }
  else s

end Sys2Proof.Machine
end

