-- ==== Sys2Proof/Machine/Tally.lean ====
section
/-! DEFINITION. The Tally: words, pages, loads, errors, worn pages, the scrubber and the tide swap (08). -/

namespace Sys2Proof.Machine

/-- Key of staging offset o in the maps of errors: 1024 + o. -/
def stageKey (o : Nat) : Nat := 1024 + o

/-- The Tally written. -/
def setTally (f : TallyState → TallyState) (s : State) : State := { s with tally := f s.tally }

/-- Word a of the Tally, as its check bits restore it (R296). -/
def State.tallyWord (s : State) (a : Nat) : Nat := mapGet 0 s.tally.words a

/-- Word o of the staging window. -/
def State.stageWord (s : State) (o : Nat) : Nat := mapGet 0 s.tally.stage o

/-- Stored data bits inverted in a word, by error key. -/
def State.tallyInv (s : State) (k : Nat) : Nat := mapGet 0 s.tally.inv k

/-- Crane g covers page p under its committed objects (R297). -/
def State.covers (s : State) (g p : Nat) : Bool :=
  let b := s.get (Obj.tallyBase g)
  let n := s.get (Obj.tallyLen g)
  decide (0 < n) && decide (b ≤ 16 * p + 15) && decide (16 * p < b + n)

/-- The cranes that cover a page, lowest first. -/
def State.coverers (s : State) (p : Nat) : List Nat := (List.range 64).filter (fun g => s.covers g p)

/-- Crane g is running or stalled (R282). -/
def State.craneActive (s : State) (g : Nat) : Bool :=
  let c := s.crane g
  c.st == .running || c.st == .stalled

/-- A page is busy (R297). -/
def State.pageBusy (s : State) (p : Nat) : Bool := (s.coverers p).any s.craneActive

/-- A page is free (R297). -/
def State.pageFree (s : State) (p : Nat) : Bool := (s.coverers p).isEmpty

/-- A record of R299: the first address and its words, when its length, its zero bytes and its range are right. -/
def tallyRecord (limit : Nat) (bs : List Byte) : Option (Nat × List Nat) :=
  let k := (bs.length - 4) / 3
  let a := num bs 0 2
  if bs.length = 4 + 3 * k ∧ 1 ≤ k ∧ k ≤ 64 ∧ num bs 2 2 = 0 ∧ a + k ≤ limit
  then some (a, (List.range k).map (fun i => num bs (4 + 3 * i) 3)) else none

/-- Fields of a swap descriptor (R303). -/
def swapMask (d : Nat) : Nat := fld d 64 64
def swapCrc (d : Nat) : Nat := fld d 48 16
def swapStage (d : Nat) : Nat := fld d 46 2
def swapPages (d : Nat) : Nat := fld d 44 2 + 1
def swapTarget (d : Nat) : Nat := fld d 38 6
def swapLen (d : Nat) : Nat := fld d 31 7
def swapEntry (d : Nat) : Nat := fld d 25 6
def swapWrap (d : Nat) : Nat := fld d 19 6

/-- A page is a target page of a descriptor. -/
def swapHits (d p : Nat) : Bool := decide (swapTarget d ≤ p) && decide (p < swapTarget d + swapPages d)

/-- A page is a target page of the swap armed or copying (R304). -/
def State.swapPending (s : State) (p : Nat) : Bool := s.tally.swap != .idle && swapHits s.tally.desc p

/-- `TALLY_RESULT` written: what is at fault and a code. -/
def tallyResult (what code : Nat) (s : State) : State := s.put Obj.tallyResult (what * 2 ^ 16 + code)

/-- A word of the Tally or of the staging window written with fresh check bits. -/
def setTallyWord (k v : Nat) (s : State) : State :=
  setTally (fun t => { t with
    words := if k < 1024 then mapSet 0 t.words k v else t.words,
    stage := if k < 1024 then t.stage else mapSet 0 t.stage (k - 1024) v,
    inv := mapSet 0 t.inv k 0,
    cePass := mapSet 0 t.cePass k 0 }) s

/-- Words written from a key upwards. -/
def setTallyWords (k : Nat) (ws : List Nat) (s : State) : State :=
  (List.zip (List.range ws.length) ws).foldl (fun s e => setTallyWord (k + e.1) e.2 s) s

/-- Crane g counts its program as changed (R289). -/
def markChanged (g : Nat) (s : State) : State := s.setCrane g { s.crane g with changed := true }

/-- A range object of a crane (R289). -/
def isRangeObj (o : Obj) : Bool := o.sub == 5 || o.sub == 6 || o.sub == 7 || o.sub == 8

/-- The program of crane g is replaced while it is halted (R289). -/
def replaceProgram (g : Nat) (s : State) : State := if (s.crane g).st = .halted then markChanged g s else s

/-- Pages that k words from address a lie in. -/
def inPages (a k p : Nat) : Bool := decide (a / 16 ≤ p) && decide (p ≤ (a + k - 1) / 16)

/-- A write to `TALLY_LOAD` (R299, R300). -/
def tallyLoad (bs : List Byte) (s : State) : State × Nat :=
  match tallyRecord 1024 bs with
  | none => (tallyResult 0xFFFF 0x20 s, ecCheck)
  | some (a, ws) =>
    let at_ := (List.range ws.length).map (a + ·)
    match at_.find? (fun w => s.swapPending (w / 16)) with
    | some w => (tallyResult w 0x22 s, ecCheck)
    | none =>
      match at_.find? (fun w => s.pageBusy (w / 16)) with
      | some w => (tallyResult w 0x21 s, ecCheck)
      | none =>
        let hit := fun g => (List.range 64).any (fun p => inPages a ws.length p && s.covers g p)
        let users := (List.range 64).filter hit
        let s := setTallyWords a ws s
        let s := users.foldl (fun s g => markChanged g s) s
        (s.putBlob Obj.tallyLoad bs, ecOk)

/-- A write to `STAGE_LOAD` (R302). -/
def stageLoad (bs : List Byte) (s : State) : State × Nat :=
  match tallyRecord 64 bs with
  | none => (tallyResult 0xFFFF 0x20 s, ecCheck)
  | some (a, ws) =>
    if s.tally.swap ≠ .idle then (tallyResult 0xFFFF 0x22 s, ecCheck)
    else ((setTallyWords (stageKey a) ws s).putBlob Obj.stageLoad bs, ecOk)

/-- INSTANCE of sources 0x21 and 0x22 for an error key, and its word (R476). -/
def wornInst (k : Nat) : Nat := if k < 1024 then k / 16 else 0x40 + (k - 1024) / 16
def wornWord (k : Nat) : Nat := if k < 1024 then k else k - 1024

/-- The page of an error key is worn. -/
def State.isWorn (s : State) (k : Nat) : Bool :=
  if k < 1024 then bit s.tally.worn (k / 16) else bit s.tally.stageWorn ((k - 1024) / 16)

/-- The page of a word becomes worn, with one record as it does (R313, R314). On an Anchored chip item 2 of the self-test fails (R420). -/
def wearPage (src k : Nat) (s : State) : State :=
  if s.isWorn k then s
  else
    let s := setTally (fun t =>
      if k < 1024 then { t with worn := setBit t.worn (k / 16) true }
      else { t with stageWorn := setBit t.stageWorn ((k - 1024) / 16) true }) s
    raise src (wornInst k) (wornWord k) (selfTestFail 2 s)

/-- `LAST_TALLY_ERR` written (R318). -/
def noteTallyErr (k : Nat) (uncorrected fetch : Bool) (s : State) : State :=
  s.put Obj.lastTallyErr (s.tide.tick % 2 ^ 16 * 2 ^ 16 + b2n uncorrected * 2 ^ 15 + b2n (decide (1024 ≤ k)) * 2 ^ 14 +
    b2n fetch * 2 ^ 13 + wornWord k)

/-- A corrected error: counted and written back (R301, R311, R312). -/
def tallyCorrected (k : Nat) (fetch : Bool) (s : State) : State :=
  let s := (noteTallyErr k false fetch s).bump Obj.tallyCeCnt
  setTally (fun t => { t with inv := mapSet 0 t.inv k 0 }) s

/-- An uncorrected error: counted, and its page worn (R301, R312, R313). -/
def tallyUncorrected (k : Nat) (fetch : Bool) (s : State) : State :=
  wearPage 0x22 k ((noteTallyErr k true fetch s).bump Obj.tallyUeCnt)

/-- Data bits of a stored word inverted. -/
def tallyUpset (k m : Nat) (s : State) : State :=
  setTally (fun t => { t with inv := mapSet 0 t.inv k (mapGet 0 t.inv k ^^^ m) }) s

/-- A word read through SEC-DED by a read of R301: its value, or 0xFF_FFFF. -/
def tallyReadWord (a : Nat) (s : State) : Nat × State :=
  match popCount 24 (s.tallyInv a) with
  | 0 => (s.tallyWord a, s)
  | 1 => (s.tallyWord a, tallyCorrected a false s)
  | _ => (0xFFFFFF, tallyUncorrected a false s)

/-- n words read from address a, stopping at word 1,023 (R301). -/
def tallyReadWords : Nat → Nat → State → List Byte × State
  | 0, _, s => ([], s)
  | n + 1, a, s =>
    if 1024 ≤ a then ([], s)
    else
      let (w, s) := tallyReadWord a s
      let (l, s) := tallyReadWords n (a + 1) s
      (bytesOf 3 w ++ l, s)

/-- A read of `TALLY_READ_DATA` (R301). -/
def tallyReadData (s : State) : List Byte × State := tallyReadWords 64 (s.get Obj.tallyReadAddr) s

/-- A staging word as `STAGE_READ` returns it: what a word with an uncorrected error reads as is open, a free value (log entry 48). -/
def stageReadWord (o : Nat) (s : State) : Nat × State :=
  if popCount 24 (s.tallyInv (stageKey o)) < 2 then (s.stageWord o, s)
  else
    let d := s.draw
    (d.1.toNat % 2 ^ 24, d.2)

/-- The staging words of a list of offsets, 3 bytes each. -/
def stageReadWords : List Nat → State → List Byte × State
  | [], s => ([], s)
  | o :: t, s =>
    let r := stageReadWord o s
    let q := stageReadWords t r.2
    (bytesOf 3 r.1 ++ q.1, q.2)

/-- A read of `STAGE_READ` (R317). -/
def stageReadData (s : State) : List Byte × State := stageReadWords (List.range 64) s

/-- One read of the scrubber (R311, R313). It pauses while a swap copies. An uncorrected error fails item 2 of an Anchored chip's self-test (R420). -/
def scrubRead (upset : Nat) (s : State) : State :=
  match s.tally.swap with
  | .copying _ => s
  | _ =>
    let k := s.tally.scrub
    let s := tallyUpset k upset s
    let n := popCount 24 (s.tallyInv k)
    let runs := mapGet 0 s.tally.cePass k + 1
    let s :=
      if n = 0 then setTally (fun t => { t with cePass := mapSet 0 t.cePass k 0 }) s
      else if n = 1 then
        let s := setTally (fun t => { t with cePass := mapSet 0 t.cePass k runs }) (tallyCorrected k false s)
        if s.get Obj.tallyCePasses ≤ runs then wearPage 0x21 k s else s
      else setTally (fun t => { t with cePass := mapSet 0 t.cePass k 0 }) (tallyUncorrected k false (selfTestFail 2 s))
    let s := if k = 1087 then s.bump Obj.scrubPassCnt else s
    setTally (fun t => { t with scrub := if k = 1087 then 0 else k + 1 }) s

/-- GANG of crane g. -/
def State.gangOf (s : State) (g : Nat) : Nat := fld (s.get (Obj.craneCtrl g)) 16 6

/-- The lowest crane that makes a descriptor fail T_MASK (R304): running or stalled, not in CRANE_MASK, covering a target page
or sharing a non-zero GANG with a crane of the mask. -/
def State.swapMaskFault (s : State) (d : Nat) : Option Nat :=
  let gangs := ((bitsOf 64 (swapMask d)).map s.gangOf).filter (· != 0)
  (List.range 64).find? (fun g => s.craneActive g && !bit (swapMask d) g &&
    ((List.range 64).any (fun p => swapHits d p && s.covers g p) || gangs.contains (s.gangOf g)))

/-- The CRC-16 of a sequence of bytes (R303, R337 code 1). -/
def crc16 (bs : List Byte) : Nat :=
  let p : CrcPar := ⟨16, 0x1021, 0xFFFF, false, 0⟩
  crcOut p (crcFeed p p.init bs)

/-- The bytes of staging words from offset o. -/
def State.stageBytes (s : State) (o n : Nat) : List Byte :=
  (List.range n).flatMap (fun i => bytesOf 3 (s.stageWord (o + i)))

/-- The code of R304 that an arm with a descriptor meets, and what is at fault; none when every rule passes. -/
def State.swapFault (s : State) (d : Nat) : Option (Nat × Nat) :=
  let o := 16 * swapStage d
  if fld d 0 19 ≠ 0 ∨ 16 * swapPages d < swapLen d ∨ swapLen d ≤ swapEntry d ∨ swapLen d ≤ swapWrap d ∨
      64 < swapTarget d + swapPages d ∨ 4 < swapStage d + swapPages d then some (0x25, 0xFFFF)
  else if crc16 (s.stageBytes o (swapLen d)) ≠ swapCrc d then some (0x26, 0xFFFF)
  else
    match (List.range (16 * swapPages d)).find? (fun i => 2 ≤ popCount 24 (s.tallyInv (stageKey (o + i)))) with
    | some i => some (0x26, o + i)
    | none =>
      match (List.range (swapPages d)).find? (fun i => bit s.tally.worn (swapTarget d + i)) with
      | some i => some (0x23, swapTarget d + i)
      | none =>
        match (List.range (swapPages d)).find? (fun i => bit s.tally.stageWorn (swapStage d + i)) with
        | some i => some (0x23, 0x40 + swapStage d + i)
        | none => (s.swapMaskFault d).map (fun g => (0x24, g))

/-- A write of 1 to `SWAP_CMD` (R304). -/
def swapArm (s : State) : State × Nat :=
  if s.tally.swap ≠ .idle then (tallyResult 0xFFFF 0x22 s, ecStateBusy)
  else
    let d := num (s.blob Obj.swapReq) 0 16
    match s.swapFault d with
    | some (code, what) => ((tallyResult what code s).put Obj.swapCmd stRefused, ecOk)
    | none => ((setTally (fun t => { t with swap := .armed, desc := d }) s).put Obj.swapCmd stBusy, ecOk)

/-- A write of 2 to `SWAP_CMD` (R307). -/
def swapCancel (s : State) : State × Nat :=
  match s.tally.swap with
  | .idle => (s, ecOk)
  | .armed => ((setTally (fun t => { t with swap := .idle }) s).put Obj.swapCmd stAborted, ecOk)
  | .copying _ => (setTally (fun t => { t with swap := .copying true }) s, ecOk)

/-- A running or stalled crane leaves its instruction and begins `ENTRY` of its new program, the shift in progress discarded
(R290). A halt that waited for a SHOUT past its point of no return takes effect there (R267). -/
def swapIn (g : Nat) (s : State) : State :=
  let c := s.crane g
  let s := if c.phase = .shifting then s.bump (Obj.shiftDiscardCnt g) else s
  let c := { c with phase := .ready, pc := s.get (Obj.entry g), shiftDone := 0, shiftPart := 0, leads := 0, clkPin := none }
  if c.lateHalt then
    let s := ((s.setCrane g { c with st := .halted, lateHalt := false, changed := false }).put (Obj.haltInfo g) 3).bump (Obj.lateHaltCnt g)
    if s.get (Obj.craneCmd g) = stBusy then s.put (Obj.craneCmd g) (stDone + stLate) else s
  else s.setCrane g { c with st := .running }

/-- Crane g takes the range of a descriptor (R305 step 2). -/
def swapRange (d g : Nat) (s : State) : State :=
  let s := s.put (Obj.tallyBase g) (16 * swapTarget d)
  let s := s.put (Obj.tallyLen g) (swapLen d)
  let s := s.put (Obj.entry g) (swapEntry d)
  s.put (Obj.wrap g) (swapWrap d)

/-- A staging word copied over a Tally word, inverted bits included (R305 step 1). -/
def swapWord (k a : Nat) (s : State) : State :=
  tallyUpset a (s.tallyInv k) (setTallyWord a (s.stageWord (k - 1024)) s)

/-- The armed swap takes place (R305). -/
def swapTake (d : Nat) (s : State) : State :=
  let s := (List.range (16 * swapPages d)).foldl (fun s i => swapWord (stageKey (16 * swapStage d + i)) (16 * swapTarget d + i) s) s
  let s := (List.range 64).foldl (fun s g =>
    if bit (swapMask d) g then
      let s := swapRange d g s
      if s.craneActive g then swapIn g s else markChanged g s
    else if (List.range 64).any (fun p => swapHits d p && s.covers g p) then markChanged g s
    else s) s
  let s := setTally (fun t => { t with swap := .copying false }) s
  (s.bump Obj.swapCnt).put Obj.swapTick s.tide.tick

/-- Step 4 of R68: the armed swap, when T_MASK still passes (R305). -/
def swapBoundary (s : State) : State :=
  if s.tally.swap = .armed then
    match s.swapMaskFault s.tally.desc with
    | some g =>
      (tallyResult g 0x24 (setTally (fun t => { t with swap := .idle }) s)).put Obj.swapCmd stRefused
    | none => swapTake s.tally.desc s
  else s

/-- The copy ends: `SWAP_CMD` reads DONE, and the swap is a configuration commit (R306, R307, R309). -/
def swapDone (s : State) : State :=
  match s.tally.swap with
  | .copying late =>
    let s := setTally (fun t => { t with swap := .idle }) s
    configCommit (s.put Obj.swapCmd (stDone + (if late then stLate else 0)))
  | _ => s

/-- The code of R310 that the new range of crane g meets, if any. -/
def State.rangePending (s : State) (g base len : Nat) : Bool :=
  s.tally.swap != .idle && !(base == s.get (Obj.tallyBase g) && len == s.get (Obj.tallyLen g)) &&
    (bit (swapMask s.tally.desc) g ||
      (List.range 64).any (fun p => swapHits s.tally.desc p && decide (0 < len) && inPages base len p))

/-- A new range of crane g covers a worn page that it did not cover before (R310). -/
def State.rangeWorn (s : State) (g base len : Nat) : Bool :=
  (List.range 64).any (fun p => decide (0 < len) && inPages base len p && bit s.tally.worn p && !s.covers g p)

/-- `SWAP_STATE` (R317). -/
def SwapSt.code : SwapSt → Nat
  | .idle => 0 | .armed => 1 | .copying _ => 2

/-- `TALLY_PAGE_MAP` (R316). -/
def State.pageMap (s : State) : List Byte :=
  (List.range 64).flatMap (fun p => bytesOf 2
    (b2n (bit s.tally.worn p) * 2 ^ 15 + b2n (s.swapPending p) * 2 ^ 14 + b2n (s.pageBusy p) * 2 ^ 13 + (s.coverers p).length))

/-- Length of the run of free pages that are not worn, from page p on. -/
def State.runFrom (s : State) (p : Nat) : Nat → Nat
  | 0 => 0
  | n + 1 => if p < 64 ∧ s.pageFree p ∧ !bit s.tally.worn p then 1 + s.runFrom (p + 1) n else 0

/-- `FREE_RUN` (R316): the first of the longest runs. -/
def State.freeRun (s : State) : Nat :=
  (List.range 64).foldl (fun m p =>
    let n := s.runFrom p 64
    if m % 256 < n then p * 256 + n else m) 0

/-- The effect of `SWAP_COPY_COMPLETE` (R306). -/
def execSwapCopyComplete (s : State) : Host.Outcome State Fault Refusal := .next (swapDone s)

/-- The effect of `SCRUB_READ` (R311). -/
def execScrubRead (upset : BitVec 24) (s : State) : Host.Outcome State Fault Refusal := .next (scrubRead upset.toNat s)

end Sys2Proof.Machine
end

