-- ==== Sys2Proof/Machine/Crane.lean ====
section
/-! DEFINITION. Crane engines: fetch, faults, side levels, shifts and every instruction of R258 (07). -/

namespace Sys2Proof.Machine

/-- Fields of an instruction word (R256). -/
def opc (w : Nat) : Nat := fld w 20 4
def sideDelay (w : Nat) : Nat := fld w 16 4
def operand (w : Nat) : Nat := fld w 0 16

/-- Fields of `CRANE_CTRL` (R292). -/
def State.sideBits (s : State) (g : Nat) : Nat := fld (s.get (Obj.craneCtrl g)) 3 2
def State.clkSide (s : State) (g : Nat) : Nat := fld (s.get (Obj.craneCtrl g)) 5 2
def State.chkEn (s : State) (g : Nat) : Bool := bit (s.get (Obj.craneCtrl g)) 7
def State.chkUnit (s : State) (g : Nat) : Nat := fld (s.get (Obj.craneCtrl g)) 8 2

/-- Pin groups of crane g (R251). -/
def State.outBase (s : State) (g : Nat) : Nat := grpBase (s.get (Obj.pinOut g))
def State.outWidth (s : State) (g : Nat) : Nat := grpWidth (s.get (Obj.pinOut g))
def State.inBase (s : State) (g : Nat) : Nat := grpBase (s.get (Obj.pinIn g))
def State.inWidth (s : State) (g : Nat) : Nat := grpWidth (s.get (Obj.pinIn g))
def State.sideBase (s : State) (g : Nat) : Nat := grpBase (s.get (Obj.pinSide g))
def State.sideNum (s : State) (g : Nat) : Nat := sideCount (s.get (Obj.pinSide g))

/-- The wait pin of crane g, if it has one. -/
def State.waitPin (s : State) (g : Nat) : Option Nat :=
  let v := s.get (Obj.pinWait g)
  if bit v 7 then some (quayPin g (fld v 0 6)) else none

/-- KIND of a code (R6), and its code. -/
def kindOf : Nat → Kind
  | 0 => .middle | 1 => .first | 2 => .last | _ => .only
def kindCode : Kind → Nat
  | .middle => 0 | .first => 1 | .last => 2 | .only => 3

/-- Crane g changed. -/
def modCrane (g : Nat) (f : Crane → Crane) (s : State) : State := s.setCrane g (f (s.crane g))

/-- The instruction word at PC, as its check bits restore it. -/
def State.insWord (s : State) (g : Nat) : Nat := s.tallyWord (s.get (Obj.tallyBase g) + (s.crane g).pc)

/-- A crane faults (R291): it stops before the instruction, writes the cause and raises a contained record; cause 9 is
criterion 2 of R423. -/
def craneFault (g cause : Nat) (s : State) : State :=
  let s := modCrane g (fun c => { c with st := .faulted, phase := .ready, lateHalt := false }) s
  let s := (s.put (Obj.faultCause g) cause).put (Obj.haltInfo g) 0
  let s := if cause = 9 then holdCriterion 2 s else s
  raise 0x20 g ((s.crane g).pc % 1024 * 2 ^ 16 + cause) s

/-- Criterion 2 holds no longer once no crane is left faulted with cause 9. -/
def settleCauseNine (s : State) : State :=
  if (List.range 64).any (fun g => (s.crane g).st == .faulted && s.get (Obj.faultCause g) == 9) then s
  else dropCriterion 2 s

/-- Levels of the side pins from the base side pin on, among the first n; the clock pin keeps its level (R263). -/
def setSides (g bits n : Nat) (s : State) : State :=
  (List.range (Nat.min n (s.sideNum g))).foldl (fun s i =>
    if (s.crane g).clkPin = some i then s else setLevel (quayPin g (s.sideBase g + i)) (bit bits i) s) s

/-- From the first clocked shift on, the pin that `CLK_SIDE` names is the clock pin (R263). -/
def claimClock (g w : Nat) (s : State) : State :=
  let side := s.clkSide g
  if (opc w = 1 ∨ opc w = 2) ∧ fld (operand w) 11 2 ≠ 0 then modCrane g (fun c => { c with clkPin := some side }) s else s

/-- The side levels of an instruction's SIDE/DELAY field (R257). -/
def applySides (g w : Nat) (s : State) : State :=
  let s := claimClock g w s
  if s.sideBits g = 0 then s else setSides g (sideDelay w / 4) (s.sideBits g) s

/-- The delay of an instruction (R257). -/
def State.delayOf (s : State) (g w : Nat) : Nat := if s.sideBits g = 0 then sideDelay w else sideDelay w % 4

/-- The OUT group's levels (R271). -/
def setOuts (g bits : Nat) (s : State) : State :=
  (List.range (s.outWidth g)).foldl (fun s i => setLevel (quayPin g (s.outBase g + i)) (bit bits i) s) s

/-- PC after an instruction (R273): a target, or the next word, or `WRAP` after the last one. -/
def State.nextPc (s : State) (g : Nat) (target : Option Nat) : Nat :=
  match target with
  | some t => t
  | none => if (s.crane g).pc + 1 < s.get (Obj.tallyLen g) then (s.crane g).pc + 1 else s.get (Obj.wrap g)

/-- An instruction ends: PC moves, and its delay begins (R257, R273). -/
def finishAt (g w : Nat) (target : Option Nat) (s : State) : State :=
  let d := s.delayOf g w
  let pc := s.nextPc g target
  modCrane g (fun c => { c with st := .running, pc := pc, phase := if d = 0 then .ready else .delay d }) s

/-- An instruction ends without a jump. -/
def finish (g w : Nat) (s : State) : State := finishAt g w none s

/-- A crane stalls in a phase (R282). -/
def stall (g : Nat) (p : Phase) (s : State) : State := modCrane g (fun c => { c with st := .stalled, phase := p }) s

/-- Operand bits that must be zero (R258). -/
def reservedBits : Nat → Nat
  | 0 => 0x003F | 1 => 0x03C0 | 2 => 0x01C0 | 3 => 0x07FF | 4 => 0x7FFF | 6 => 0x003F | 7 => 0x0C00 | 8 => 0xFC00
  | 9 => 0x03FF | 0xA => 0x1FC0 | 0xB => 0xFFFF | 0xC => 0x3FFF | _ => 0

/-- A shift instruction (R260 to R266). -/
structure Shift where
  out : Bool
  msb : Bool
  lanes : Nat
  clk : Nat
  frame : Bool
  duplex : Bool
  count : Nat
  deriving DecidableEq, Repr

/-- The shift that an instruction word of opcode 1 or 2 gives. -/
def shiftOf (w : Nat) : Shift :=
  let x := operand w
  ⟨opc w == 2, bit x 15, 2 ^ fld x 13 2, fld x 11 2, bit x 10, opc w == 2 && bit x 9, fld x 0 6 + 1⟩

/-- Symbols of a shift, and its bit periods: start and stop bits included (R264). -/
def Shift.symbols (h : Shift) : Nat := h.count / h.lanes
def Shift.periods (h : Shift) : Nat := h.symbols + (if h.frame then 2 else 0)

/-- Lowest bit of symbol i within the shifted data (R261, R262). -/
def Shift.place (h : Shift) (i : Nat) : Nat := (if h.msb then h.symbols - 1 - i else i) * h.lanes

/-- The lowest cause of R291 that a shift meets, if any. -/
def State.shiftCause (s : State) (g : Nat) (h : Shift) : Option Nat :=
  let c := s.crane g
  let width := if h.out then s.outWidth g else s.inWidth g
  if (!h.out || h.duplex) ∧ 64 < c.sc + h.count then some 4
  else if h.out ∧ 64 < c.op + h.count then some 5
  else if width = 0 ∨ h.count % h.lanes ≠ 0 ∨ width < h.lanes ∨
      (h.frame ∧ (h.lanes ≠ 1 ∨ h.clk ≠ 0 ∨ 62 < h.count ∨ h.duplex)) ∨
      (h.clk ≠ 0 ∧ s.sideNum g ≤ s.clkSide g) ∨ (h.duplex ∧ s.inWidth g < h.lanes) then some 6
  else none

/-- Crane g has no receive FIFO, or no transmit FIFO (R279). -/
def State.noRx (s : State) (g : Nat) : Bool := s.depth g == 0
def State.noTx (s : State) (g : Nat) : Bool := s.depth (64 + g) == 0

/-- The lowest cause of R291 that an instruction word meets on its first edge, but for a value above 64 moved to SC or OP. -/
def State.insCause (s : State) (g w : Nat) : Option Nat :=
  let x := operand w
  let len := s.get (Obj.tallyLen g)
  if 0xC < opc w then some 1
  else if x &&& reservedBits (opc w) ≠ 0 then some 2
  else
    match opc w with
    | 0 =>
      let src := fld x 13 3
      let ix := fld x 6 5
      if src = 7 ∨ (src = 2 ∧ 17 < ix) ∨ (src = 3 ∧ 7 < ix) then some 2
      else if (src = 0 ∨ src = 1) ∧ s.waitPin g = none then some 6
      else if src = 6 ∧ s.noTx g then some 8
      else none
    | 1 | 2 => s.shiftCause g (shiftOf w)
    | 3 => if s.noRx g ∨ (!isBulk g ∧ fld x 11 2 ≠ 0) then some 8 else none
    | 4 => if s.noTx g then some 8 else none
    | 6 => if [3, 4, 11, 12].contains (fld x 12 4) then some 2 else none
    | 7 =>
      let c := fld x 12 4
      if len ≤ fld x 0 10 then some 3
      else if (c = 6 ∨ c = 7) ∧ s.waitPin g = none then some 6
      else if ((c = 8 ∨ c = 9) ∧ s.noTx g) ∨ (c = 10 ∧ s.noRx g) then some 8
      else none
    | 8 => if len ≤ fld x 0 10 then some 3 else none
    | 9 => if fld x 14 2 = 2 ∧ 7 < fld x 10 4 then some 2 else none
    | 0xA => if fld x 13 2 = 0 then some 2 else if s.noRx g then some 8 else none
    | 0xC => if s.chkEn g then none else some 7
    | _ => none

/-- Crane g is about to begin an instruction. -/
def State.atInstr (s : State) (g : Nat) : Bool := (s.crane g).st == .running && (s.crane g).phase == .ready

/-- A fetch by crane g and the checks of its first edge (R291, R312): f acts on the word, side levels applied, when it is the one
the command names; a word the crane faults on makes it fault, and any other word leaves the state as it was. -/
def withInstr (g : Nat) (named : Nat → Bool) (f : Nat → State → State) (s : State) : State :=
  if !s.atInstr g then s
  else if s.get (Obj.tallyLen g) ≤ (s.crane g).pc then craneFault g 3 s
  else
    let a := s.get (Obj.tallyBase g) + (s.crane g).pc
    let w := s.tallyWord a
    match popCount 24 (s.tallyInv a) with
    | 0 =>
      match s.insCause g w with
      | some c => if named w ∨ c = 1 then craneFault g c s else s
      | none => if named w then f w (applySides g w s) else s
    | 1 =>
      let s1 := tallyCorrected a true s
      match s.insCause g w with
      | some c => if named w ∨ c = 1 then craneFault g c s1 else s
      | none => if named w then f w (applySides g w s1) else s
    | _ => craneFault g 9 (tallyUncorrected a true s)

/-- A word with an opcode. -/
def hasOpc (n : Nat) (w : Nat) : Bool := opc w == n

/-- A crane within an instruction in a phase: f acts on its word. -/
def inPhase (g : Nat) (p : Phase) (f : Nat → State → State) (s : State) : State :=
  if (s.crane g).active ∧ (s.crane g).phase = p then f (s.insWord g) s else s

/-- The divider restarts (R247): strobes count from there, and a bit period begun is sent or sampled afresh (R249, R284). -/
def restartDivider (g : Nat) (s : State) : State :=
  modCrane g (fun c => { c with divRestarts := c.divRestarts + 1, leads := if c.phase = .shifting then c.shiftDone else c.leads }) s

/-- The wait pin of crane g has had an edge to a level: it stands there, or its coarse capture shows one (R259, R399). -/
def State.hadEdge (s : State) (g : Nat) (rise : Bool) : Bool :=
  match s.waitPin g with
  | some p => s.pinLevel p == rise || (if rise then s.time.rise else s.time.fall).any (fun e => e.1 == p)
  | none => false

/-- The condition of a WAIT is seen (R259), but for SRC 4, which the boundary shows: `edge` is the level to which the synchronised level of the wait
pin has changed since the WAIT began. -/
def State.waitSeen (s : State) (g w : Nat) (edge : Option Bool) (toff : Nat) : Bool :=
  let x := operand w
  let ix := fld x 6 5
  let c := s.crane g
  match fld x 13 3 with
  | 0 => (match s.waitPin g with | some p => s.pinLevel p == bit x 12 | none => false)
  | 1 => edge == some (bit x 12) && s.hadEdge g (bit x 12)
  | 2 => if ix = 16 then c.usrRd else if ix = 17 then c.usrWr else bit (s.quay.flags.getD (g / 16) 0) ix
  | 3 => bit (s.quay.irq.getD (g / 16) 0) ix
  | 5 => decide (toff = c.x.toNat) && decide (c.x.toNat < 6250 * s.period25)
  | 6 => !(s.fifo (64 + g)).words.isEmpty
  | _ => false

/-- A WAIT wakes: the user flag it waited for clears, ALIGN restarts the divider (R259). -/
def wakeWait (g w : Nat) (s : State) : State :=
  let x := operand w
  let s := modCrane g (fun c =>
    if fld x 13 3 = 2 ∧ fld x 6 5 = 16 then { c with usrRd := false }
    else if fld x 13 3 = 2 ∧ fld x 6 5 = 17 then { c with usrWr := false }
    else c) s
  let s := finish g w s
  if bit x 11 then restartDivider g s else s

/-- The levels of a clock code: idle, lead, trail (R263). -/
def clkIdle (clk : Nat) : Bool := clk == 2
def clkLead (clk : Nat) : Bool := clk == 3
def clkTrail (clk : Nat) : Bool := clk != 3

/-- The clock pin of a clocked shift set. -/
def setClock (g clk : Nat) (level : Bool) (s : State) : State :=
  if clk = 0 then s else setLevel (quayPin g (s.sideBase g + s.clkSide g)) level s

/-- A shift begins (R260). -/
def beginShift (g : Nat) (s : State) : State :=
  modCrane g (fun c => { c with phase := .shifting, shiftDone := 0, shiftPart := 0, leads := 0, frStart := false, frStop := false }) s

/-- The value of SOR's symbol j under OP (R261). -/
def State.symbolOut (s : State) (g : Nat) (h : Shift) (j : Nat) : Nat :=
  wfld (s.crane g).sor ((s.crane g).op + h.place j) h.lanes

/-- The lead strobe of bit period j: SHOUT drives its symbol, or the start or stop bit of a frame (R260, R264). -/
def leadStrobe (g : Nat) (h : Shift) (j : Nat) (s : State) : State :=
  let v := if h.frame then (if j = 0 then 0 else if j + 1 = h.periods then 1 else s.symbolOut g h (j - 1)) else s.symbolOut g h j
  let s := if h.out then
      (List.range h.lanes).foldl (fun s i => setLevel (quayPin g (s.outBase g + i)) (bit v i) s) s
    else s
  modCrane g (fun c => { c with leads := j + 1 }) (setClock g h.clk (clkLead h.clk) s)

/-- The trail strobe of bit period j with the levels of the IN group (R260, R264, R265). -/
def trailStrobe (g : Nat) (h : Shift) (j levels : Nat) (s : State) : State :=
  let v := levels % 2 ^ h.lanes
  let takes := !h.out || h.duplex
  let s := setClock g h.clk (clkTrail h.clk) s
  modCrane g (fun c =>
    let c := { c with shiftDone := j + 1 }
    if !takes then c
    else if h.frame ∧ j = 0 then { c with frStart := v == 1 }
    else if h.frame ∧ j + 1 = h.periods then { c with frStop := v == 1 }
    else { c with shiftPart := c.shiftPart ||| w64 (v * 2 ^ h.place (if h.frame then j - 1 else j)) }) s

/-- One bit period: its lead strobe, unless that has passed, and its trail strobe. -/
def bitPeriod (g : Nat) (h : Shift) (samples : List Nat) (i : Nat) (s : State) : State :=
  let j := (s.crane g).shiftDone
  let s := if (s.crane g).leads = j then leadStrobe g h j s else s
  let now := s.pinLevels (quayPin g (s.inBase g)) (s.inWidth g)
  trailStrobe g h j (samples.getD i now) s

/-- FRAME_ERR after a SHIN with FRAME (R264). -/
def frameCheck (g : Nat) (s : State) : State :=
  let bad := (s.crane g).frStart || !(s.crane g).frStop
  let s := modCrane g (fun c => { c with frameErr := bad }) s
  if bad then s.bump (Obj.frameErrCnt g) else s

/-- A halt that waited for a SHOUT past its point of no return: code 3 (R267, R287). -/
def haltLate (g : Nat) (s : State) : State :=
  let s := modCrane g (fun c => { c with st := .halted, phase := .ready, lateHalt := false, changed := false }) s
  let s := (s.put (Obj.haltInfo g) 3).bump (Obj.lateHaltCnt g)
  if s.get (Obj.craneCmd g) = stBusy then s.put (Obj.craneCmd g) (stDone + stLate) else s

/-- A shift ends (R261, R262, R263, R264, R266). -/
def endShift (g w : Nat) (h : Shift) (s : State) : State :=
  let s := setClock g h.clk (clkIdle h.clk) s
  let s := modCrane g (fun c =>
    let c := if h.out then { c with op := c.op + h.count } else c
    let c := if !h.out ∨ h.duplex then
        { c with sir := c.sir ||| w64 (c.shiftPart.toNat * 2 ^ c.sc), sc := c.sc + h.count }
      else c
    { c with shiftDone := 0, shiftPart := 0, leads := 0 }) s
  let s := if h.frame ∧ !h.out then frameCheck g s else s
  if (s.crane g).lateHalt then haltLate g (finish g w s) else finish g w s

/-- The strobes of a shift that have passed (R266): a shift ends after its last trail strobe, a clocked one after the strobe that follows it. -/
def shiftStrobes (g w n : Nat) (lead : Bool) (samples : List Nat) (s : State) : State :=
  let h := shiftOf w
  let k := Nat.min n (h.periods - (s.crane g).shiftDone)
  let s := (List.range k).foldl (fun s i => bitPeriod g h samples i s) s
  if h.periods ≤ (s.crane g).shiftDone then (if h.clk = 0 ∨ lead then endShift g w h s else s)
  else if lead ∧ (s.crane g).leads = (s.crane g).shiftDone then leadStrobe g h (s.crane g).shiftDone s
  else s

/-- The user pushes of a complete frame reach the manifest (R281). -/
def afterPush (g : Nat) (s : State) : State := manifestOffer g s

/-- SIR after a PUSH: cleared, or on a bulk crane shifted right by the piece (R268, R280). -/
def consumeSir (g bits : Nat) (s : State) : State :=
  modCrane g (fun c => if isBulk g then { c with sir := c.sir >>> bits, sc := c.sc - bits } else { c with sir := 0, sc := 0 }) s

/-- Bits of the piece that a PUSH writes (R280). -/
def pieceBits (w : Nat) : Nat :=
  match fld (operand w) 11 2 with
  | 0 => 64 | 1 => 8 | 2 => 16 | _ => 32

/-- A PUSH with room for what it writes, or none (R268, R280). -/
def pushTry (g w : Nat) (s : State) : Option State :=
  let c := s.crane g
  let k := kindOf (fld (operand w) 13 2)
  if isBulk g then writePiece g k (bytesOf (pieceBits w / 8) c.sir.toNat) s
  else
    let n := if k = .first ∨ k = .middle then 8 else (c.sc + 7) / 8
    let word : Cargo := ⟨true, k, BitVec.ofNat 4 n, false, c.sir⟩
    if s.room g < s.wordPlaces g word then none else some (fifoWrite g word s)

/-- A PUSH begins: it writes, waits, or discards (R268). -/
def beginPush (g w : Nat) (s : State) : State :=
  match pushTry g w s with
  | some s => finish g w (afterPush g (consumeSir g (pieceBits w) s))
  | none =>
    if bit (operand w) 15 then stall g .pushWait s
    else finish g w (consumeSir g (pieceBits w) (s.bump (Obj.pushDropCnt g)))

/-- A blocked PUSH finds room. -/
def resumePush (g w : Nat) (s : State) : State :=
  match pushTry g w s with
  | some s' => finish g w (afterPush g (consumeSir g (pieceBits w) s'))
  | none => s

/-- Poisoned words removed from the head of the transmit FIFO, at most n, and the first word without poison, if one stands
there (R270). -/
def pullWord (g : Nat) : Nat → State → Option Cargo × State
  | 0, s => (none, s)
  | n + 1, s =>
    if (s.fifo (64 + g)).words.isEmpty then (none, s)
    else
      let (w, s) := fifoPop (64 + g) s
      if w.p then pullWord g n (s.bump (Obj.poisonPullCnt g)) else (some w, s)

/-- A pulled word in SOR (R269). -/
def takeWord (g : Nat) (v : Cargo) (s : State) : State :=
  modCrane g (fun c => { c with sor := v.data, op := 0, pstat := kindCode v.kind * 16 + v.bytes.toNat }) s

/-- A PULL begins (R269, R270). -/
def beginPull (g w : Nat) (s : State) : State :=
  let (v, s) := pullWord g (s.fifo (64 + g)).words.length s
  match v with
  | some v => finish g w (takeWord g v s)
  | none =>
    if bit (operand w) 15 then stall g .pullWait s
    else
      finish g w ((modCrane g (fun c => { c with op := 0, pstat := setBit c.pstat 6 true }) s).bump (Obj.staleCnt g))

/-- A blocked PULL takes a word that arrived, if it is not poisoned (R270). -/
def resumePull (g w : Nat) (s : State) : State :=
  let (v, s) := pullWord g (s.fifo (64 + g)).words.length s
  match v with
  | some v => finish g w (takeWord g v s)
  | none => s

/-- SET (R271). -/
def setTarget (g w : Nat) (s : State) : State :=
  let x := operand w
  let imm := fld x 0 13
  match fld x 13 3 with
  | 0 => setOuts g imm s
  | 1 =>
    let s := (List.range (s.outWidth g)).foldl (fun s i => setDrive (quayPin g (s.outBase g + i)) (bit imm i) s) s
    (List.range (s.sideNum g)).foldl (fun s i =>
      if (s.crane g).clkPin = some i then s else setDrive (quayPin g (s.sideBase g + i)) (bit imm (8 + i)) s) s
  | 2 => setSides g imm 4 s
  | 3 => modCrane g (fun c => { c with x := BitVec.ofNat 32 imm }) s
  | 4 => modCrane g (fun c => { c with y := BitVec.ofNat 32 imm }) s
  | 5 => modCrane g (fun c => { c with lc := BitVec.ofNat 16 imm }) s
  | 6 => modCrane g (fun c => { c with x := (c.x <<< 13) ||| BitVec.ofNat 32 imm }) s
  | _ => modCrane g (fun c => { c with y := (c.y <<< 13) ||| BitVec.ofNat 32 imm }) s

/-- The level in the output registers of the side pins. -/
def State.sideLevels (s : State) (g : Nat) : Nat :=
  maskOf ((List.range (s.sideNum g)).filter (fun i => bit s.pins.level (quayPin g (s.sideBase g + i))))

/-- What a MOV reads (R272). -/
def State.movRead (s : State) (g code toff : Nat) : BitVec 32 :=
  let c := s.crane g
  let user := s.userWord g (c.y.toNat % 8)
  match code with
  | 0 => c.x
  | 1 => c.y
  | 2 => c.lc.setWidth 32
  | 3 => c.sir.setWidth 32
  | 4 => (c.sir >>> 32).setWidth 32
  | 5 => c.sor.setWidth 32
  | 6 => (c.sor >>> 32).setWidth 32
  | 7 => BitVec.ofNat 32 (s.pinLevels (quayPin g (s.inBase g)) (s.inWidth g))
  | 8 => BitVec.ofNat 32 (s.sideLevels g)
  | 9 => BitVec.ofNat 32 c.sc
  | 10 => BitVec.ofNat 32 c.op
  | 11 => BitVec.ofNat 32 c.pstat
  | 12 => BitVec.ofNat 32 toff
  | 13 => user.setWidth 32
  | 14 => (user >>> 32).setWidth 32
  | _ => 0

/-- The reversal of 32 bits (R272). -/
def rev32 (v : BitVec 32) : BitVec 32 :=
  BitVec.ofNat 32 (maskOf ((List.range 32).filter (fun i => v.getLsbD (31 - i))))

/-- The value that a MOV writes (R272). -/
def State.movValue (s : State) (g w toff : Nat) : BitVec 32 :=
  let x := operand w
  let v := s.movRead g (fld x 8 4) toff
  match fld x 6 2 with
  | 0 => v
  | 1 => ~~~v
  | 2 => rev32 v
  | _ => s.movRead g (fld x 12 4) toff + v

/-- What a MOV writes (R272). -/
def movWrite (g code : Nat) (v : BitVec 32) (s : State) : State :=
  let u := (s.crane g).y.toNat % 8
  match code with
  | 0 => modCrane g (fun c => { c with x := v }) s
  | 1 => modCrane g (fun c => { c with y := v }) s
  | 2 => modCrane g (fun c => { c with lc := v.setWidth 16 }) s
  | 5 => modCrane g (fun c => { c with sor := v.setWidth 64, op := 0 }) s
  | 6 => modCrane g (fun c => { c with sor := w64 (c.sor.toNat % 2 ^ 32 + v.toNat * 2 ^ 32) }) s
  | 7 => setOuts g v.toNat s
  | 8 => setSides g v.toNat 4 s
  | 9 => modCrane g (fun c => { c with sc := v.toNat, sir := w64 (c.sir.toNat % 2 ^ v.toNat) }) s
  | 10 => modCrane g (fun c => { c with op := v.toNat }) s
  | 13 => (touchWord 7 g u s).setUserWord g u (w64 ((s.userWord g u).toNat / 2 ^ 32 * 2 ^ 32 + v.toNat))
  | 14 => (touchWord 7 g u s).setUserWord g u (w64 ((s.userWord g u).toNat % 2 ^ 32 + v.toNat * 2 ^ 32))
  | _ => s

/-- The condition of a JMP (R273). -/
def State.jmpHolds (s : State) (g cond : Nat) : Bool :=
  let c := s.crane g
  let pin := match s.waitPin g with | some p => s.pinLevel p | none => false
  match cond with
  | 0 => true
  | 1 => c.x == 0
  | 2 => c.x != 0
  | 3 => c.x == c.y
  | 4 => c.x != c.y
  | 5 => decide (c.x.toNat < c.y.toNat)
  | 6 => pin
  | 7 => !pin
  | 8 => (s.fifo (64 + g)).words.isEmpty
  | 9 => !(s.fifo (64 + g)).words.isEmpty
  | 10 => s.room g == 0
  | 11 => decide (c.op < 8 * (c.pstat % 16))
  | 12 => bit c.pstat 6
  | 13 => let k := fld c.pstat 4 2; k == 2 || k == 3
  | 14 => c.frameErr
  | _ => c.sc == 64

/-- Flag i of the quay of crane g set or cleared (R274). -/
def setFlag (g i : Nat) (b : Bool) (s : State) : State :=
  { s with quay := { s.quay with flags := modifyAt s.quay.flags (g / 16) (fun m => setBit m i b) } }

/-- Interrupt line i of the quay of crane g becomes pending (R274). -/
def setIrq (g i : Nat) (s : State) : State :=
  { s with quay := { s.quay with irq := modifyAt s.quay.irq (g / 16) (fun m => setBit m i true) } }

/-- The word that a STAMP pushes (R275). -/
def State.stampWord (s : State) (g w : Nat) : Cargo :=
  ⟨true, .only, 8, false, s.stampData (quayPin g (fld (operand w) 0 6)) (fld (operand w) 13 2)⟩

/-- A STAMP with room for every word it writes, or none (R275). -/
def stampTry (g w : Nat) (s : State) : Option State :=
  let v := s.stampWord g w
  if isBulk g then
    let x := s.fifo g
    let cl := packClose x
    if s.room g < cl.length + 1 then none
    else
      let s := s.setFifo g { x with opened := false, built := [], begun := false }
      some { storeWords g (cl ++ [v]) s with freeCount := s.freeCount + 1 }
  else if s.room g < s.wordPlaces g v then none else some { fifoWrite g v s with freeCount := s.freeCount + 1 }

/-- A STAMP begins (R275). -/
def beginStamp (g w : Nat) (s : State) : State :=
  match stampTry g w s with
  | some s => finish g w (afterPush g s)
  | none => if bit (operand w) 15 then stall g .stampWait s else finish g w (s.bump (Obj.pushDropCnt g))

/-- A blocked STAMP finds room. -/
def resumeStamp (g w : Nat) (s : State) : State :=
  match stampTry g w s with
  | some s' => finish g w (afterPush g s')
  | none => s

/-- The members of a gang (R276). -/
def State.gangMembers (s : State) (n : Nat) : List Nat := (List.range 64).filter (fun g => s.gangOf g == n)

/-- Crane g waits in a SYNC. -/
def State.inSync (s : State) (g : Nat) : Bool := (s.crane g).active && (s.crane g).phase == .sync

/-- SYNC (R276). -/
def beginSync (g w : Nat) (s : State) : State :=
  if s.gangOf g = 0 then finish g w s else modCrane g (fun c => { c with syncBeat := s.tide.beat }) (stall g .sync s)

/-- A gang may pass its barrier (R276): on one quay at once, across quays once a boundary has come since its last member arrived. -/
def State.syncOpen (s : State) (l : List Nat) : Bool :=
  l.all (fun g => g / 16 == l.headD 0 / 16) || l.all (fun g => decide ((s.crane g).syncBeat < s.tide.beat))

/-- Every member of a gang waits in a SYNC: they go on together (R276). -/
def syncRelease (n : Nat) (s : State) : State :=
  let l := s.gangMembers n
  if n = 0 ∨ l.isEmpty ∨ !l.all s.inSync ∨ !s.syncOpen l then s else l.foldl (fun s g => finish g (s.insWord g) s) s

/-- What a CHK feeds (R277). -/
def State.chkData (s : State) (g w : Nat) : ChkFeed := ⟨2 ^ fld (operand w) 14 2, (s.crane g).sir, false, some g⟩

/-- A CHK feeds its unit (R277). -/
def chkFeeds (g w : Nat) (s : State) : State := finish g w (chkFeed (s.chkUnit g) (s.chkData g w) s)

/-- The oldest access that waits for unit u is served; a crane whose CHK it is goes on (R277, R340). -/
def chkServe (u : Nat) (s : State) : State :=
  match s.chkQueue u with
  | [] => s
  | f :: t =>
    let s := s.setUnit u { s.unit u with waiting := t }
    match f.crane with
    | some g => chkFeeds g (s.insWord g) s
    | none => chkFeed u f s

/-- The effect of `CHECK_ACCESS_WAIT_END` (R340): the oldest waiting access is served. -/
def execCheckAccessWaitEnd (u : Fin 4) (s : State) : Host.Outcome State Fault Refusal := .next (chkServe u.val s)

/-- The effect of `CRANE_WAIT` (R259): the crane waits for its condition. -/
def execCraneWait (g : Fin 64) (s : State) : Host.Outcome State Fault Refusal :=
  .next (withInstr g.val (hasOpc 0) (fun _ s => stall g.val .waiting s) s)

/-- The effect of `WAIT_WAKE` (R259). -/
def execWaitWake (g : Fin 64) (edge : Option Bool) (toff : BitVec 32) (s : State) : Host.Outcome State Fault Refusal :=
  .next (inPhase g.val .waiting (fun w s => if s.waitSeen g.val w edge toff.toNat then wakeWait g.val w s else s) s)

/-- The effect of `CRANE_SHIN` (R262). -/
def execCraneShin (g : Fin 64) (s : State) : Host.Outcome State Fault Refusal :=
  .next (withInstr g.val (hasOpc 1) (fun _ s => beginShift g.val s) s)

/-- The effect of `CRANE_SHOUT` (R261). -/
def execCraneShout (g : Fin 64) (s : State) : Host.Outcome State Fault Refusal :=
  .next (withInstr g.val (hasOpc 2) (fun _ s => beginShift g.val s) s)

/-- The effect of `SHIFT_END` (R266): the bit periods that have passed, and whether the strobe after them has. -/
def execShiftEnd (g : Fin 64) (periods : BitVec 7) (lead : Bool) (samples : List (BitVec 8)) (s : State) :
    Host.Outcome State Fault Refusal :=
  .next (inPhase g.val .shifting (fun w s => shiftStrobes g.val w periods.toNat lead (samples.map BitVec.toNat) s) s)

/-- The effect of `CRANE_PUSH` (R268, R280). -/
def execCranePush (g : Fin 64) (s : State) : Host.Outcome State Fault Refusal :=
  .next (withInstr g.val (hasOpc 3) (beginPush g.val) s)

/-- The effect of `PUSH_ROOM_WAKE` (R268, R275): a blocking PUSH or STAMP finds room. -/
def execPushRoomWake (g : Fin 64) (s : State) : Host.Outcome State Fault Refusal :=
  .next (inPhase g.val .stampWait (resumeStamp g.val) (inPhase g.val .pushWait (resumePush g.val) s))

/-- The effect of `CRANE_PULL` (R269, R270). -/
def execCranePull (g : Fin 64) (s : State) : Host.Outcome State Fault Refusal :=
  .next (withInstr g.val (hasOpc 4) (beginPull g.val) s)

/-- The effect of `PULL_WORD_WAKE` (R270). -/
def execPullWordWake (g : Fin 64) (s : State) : Host.Outcome State Fault Refusal :=
  .next (inPhase g.val .pullWait (resumePull g.val) s)

/-- The effect of `CRANE_SET` (R271). -/
def execCraneSet (g : Fin 64) (s : State) : Host.Outcome State Fault Refusal :=
  .next (withInstr g.val (hasOpc 5) (fun w s => finish g.val w (setTarget g.val w s)) s)

/-- A MOV with its value formed: a value above 64 to SC or OP faults the crane, with nothing applied (R272, R291). -/
def movEffect (g w toff : Nat) (before s : State) : State :=
  let dst := fld (operand w) 12 4
  let v := s.movValue g w toff
  if (dst = 9 ∨ dst = 10) ∧ 64 < v.toNat then craneFault g 2 before else finish g w (movWrite g dst v s)

/-- The effect of `CRANE_MOV` (R272). -/
def execCraneMov (g : Fin 64) (toff : BitVec 32) (s : State) : Host.Outcome State Fault Refusal :=
  .next (withInstr g.val (hasOpc 6) (fun w t => movEffect g.val w toff.toNat s t) s)

/-- The effect of `CRANE_JMP` (R273). -/
def execCraneJmp (g : Fin 64) (s : State) : Host.Outcome State Fault Refusal :=
  .next (withInstr g.val (hasOpc 7) (fun w s =>
    finishAt g.val w (if s.jmpHolds g.val (fld (operand w) 12 4) then some (fld (operand w) 0 10) else none) s) s)

/-- LC decremented (R273). -/
def decLc (g : Nat) (s : State) : State := modCrane g (fun c => { c with lc := c.lc - 1 }) s

/-- The effect of `CRANE_LOOP` (R273). -/
def execCraneLoop (g : Fin 64) (s : State) : Host.Outcome State Fault Refusal :=
  .next (withInstr g.val (hasOpc 8) (fun w s =>
    let s := decLc g.val s
    finishAt g.val w (if (s.crane g.val).lc = 0 then none else some (fld (operand w) 0 10)) s) s)

/-- A SIG word with a function code. -/
def sigFn (n w : Nat) : Bool := opc w == 9 && fld (operand w) 14 2 == n

/-- INDEX of a SIG (R274). -/
def sigIndex (w : Nat) : Nat := fld (operand w) 10 4

/-- The effect of `SIG_FLAG_SET` (R274). -/
def execSigFlagSet (g : Fin 64) (s : State) : Host.Outcome State Fault Refusal :=
  .next (withInstr g.val (sigFn 0) (fun w s => finish g.val w (setFlag g.val (sigIndex w) true s)) s)

/-- The effect of `SIG_FLAG_CLEAR` (R274): a set of the same flag on the same quay edge wins. -/
def execSigFlagClear (g : Fin 64) (setToo : Bool) (s : State) : Host.Outcome State Fault Refusal :=
  .next (withInstr g.val (sigFn 1) (fun w s => finish g.val w (if setToo then s else setFlag g.val (sigIndex w) false s)) s)

/-- The effect of `SIG_IRQ` (R274). -/
def execSigIrq (g : Fin 64) (s : State) : Host.Outcome State Fault Refusal :=
  .next (withInstr g.val (sigFn 2) (fun w s => finish g.val w (setIrq g.val (sigIndex w) s)) s)

/-- A crane notice to the firmware, counted (R274). -/
def craneNotice (g : Nat) (s : State) : State :=
  { s.bump (Obj.noticeCnt g) with quay := { s.quay with notices := setBit s.quay.notices g true } }

/-- The effect of `SIG_NOTE` (R274). -/
def execSigNote (g : Fin 64) (s : State) : Host.Outcome State Fault Refusal :=
  .next (withInstr g.val (sigFn 3) (fun w s => finish g.val w (craneNotice g.val s)) s)

/-- The effect of `CRANE_STAMP` (R275). -/
def execCraneStamp (g : Fin 64) (s : State) : Host.Outcome State Fault Refusal :=
  .next (withInstr g.val (hasOpc 0xA) (beginStamp g.val) s)

/-- The effect of `CRANE_SYNC` (R276). -/
def execCraneSync (g : Fin 64) (s : State) : Host.Outcome State Fault Refusal :=
  .next (withInstr g.val (hasOpc 0xB) (beginSync g.val) s)

/-- The effect of `SYNC_RELEASE` (R276). -/
def execSyncRelease (gang : Fin 64) (s : State) : Host.Outcome State Fault Refusal := .next (syncRelease gang.val s)

/-- A CHK begins: it feeds its unit, or waits for it in the order of arrival (R277, R340). -/
def beginChk (g w : Nat) (busy : Bool) (s : State) : State :=
  let u := s.chkUnit g
  if busy || !(s.chkQueue u).isEmpty then chkWaitFor u (s.chkData g w) (stall g .chkWait s) else chkFeeds g w s

/-- The effect of `CRANE_CHK` (R277, R340): a busy unit makes the crane wait, and the wait is counted. -/
def execCraneChk (g : Fin 64) (busy : Bool) (s : State) : Host.Outcome State Fault Refusal :=
  .next (withInstr g.val (hasOpc 0xC) (fun w s => beginChk g.val w busy s) s)

/-- The effect of `CHK_UNIT_WAKE` (R277): the unit is free, and the CHK of the crane is the oldest access that waits for it. -/
def execChkUnitWake (g : Fin 64) (s : State) : Host.Outcome State Fault Refusal :=
  .next (
    let u := s.chkUnit g.val
    match s.chkQueue u with
    | f :: _ => if f.crane = some g.val then chkServe u s else s
    | [] => s)

/-- The effect of `INSTRUCTION_DELAY_END` (R257). -/
def execInstructionDelayEnd (g : Fin 64) (s : State) : Host.Outcome State Fault Refusal :=
  .next (
    let c := s.crane g.val
    match c.phase with
    | .delay _ => if c.active then s.setCrane g.val { c with phase := .ready } else s
    | _ => s)

/-- The effect of `TALLY_FETCH_ERROR` (R312): the word at PC is corrected and written back, or the crane faults with cause 9. -/
def execTallyFetchError (g : Fin 64) (upset : BitVec 24) (s : State) : Host.Outcome State Fault Refusal :=
  .next (if s.atInstr g.val ∧ (s.crane g.val).pc < s.get (Obj.tallyLen g.val) then
    let a := s.get (Obj.tallyBase g.val) + (s.crane g.val).pc
    let s := tallyUpset a upset.toNat s
    match popCount 24 (s.tallyInv a) with
    | 0 => s
    | 1 => tallyCorrected a true s
    | _ => craneFault g.val 9 (tallyUncorrected a true s)
  else s)

end Sys2Proof.Machine
end

