-- ==== Sys2Proof/Machine/Quay.lean ====
section
/-! DEFINITION. Starting, halting and restarting cranes, gang commands, quay flags and lines, the quay commit (07). -/

namespace Sys2Proof.Machine

/-- A crane starts (R282): PC at `ENTRY`, registers and user flags cleared, the divider restarted; its FIFOs stay, and a cross-quay start
that it is a member of stays pending (R285). -/
def startCrane (g : Nat) (s : State) : State :=
  let pc := s.get (Obj.entry g)
  settleCauseNine (modCrane g (fun c => { Crane.zero with st := .running, pc := pc, pendStart := c.pendStart, divRestarts := c.divRestarts + 1 }) s)

/-- A HALT of one crane (R267, R287): a SHOUT past its point of no return runs to its end first. -/
def haltOne (g : Nat) (s : State) : State :=
  let c := s.crane g
  let h := shiftOf (s.insWord g)
  if c.active ∧ c.phase = .shifting ∧ h.out ∧ h.periods ≤ c.leads then
    modCrane g (fun c => { c with lateHalt := true, pendStart := false, pendClk := false }) s
  else haltCrane g s

/-- HALT written to `CRANE_CMD` (R287). -/
def cmdHalt (g : Nat) (s : State) : State × Nat :=
  let s := haltOne g s
  (s.put (Obj.craneCmd g) (if (s.crane g).lateHalt then stBusy else stDone), ecOk)

/-- Cranes of a mask. -/
def masked (m : Nat) : List Nat := bitsOf 64 m

/-- The cranes of a mask lie on one quay (R283). -/
def oneQuay (m : Nat) : Bool :=
  match masked m with
  | [] => true
  | g :: t => t.all (fun h => h / 16 == g / 16)

/-- `GANG_START` (R283): refused whole with MODE or BUSY; on one quay at once, across quays at the next boundary. The flag says
whether the start still waits. -/
def gangStart (m : Nat) (s : State) : State × Nat × Bool :=
  if !s.node.owns then (s, ecMode, false)
  else
    let bad := (masked m).filter s.craneActive
    if !bad.isEmpty then (s.put Obj.gangRefused (maskOf bad), ecStateBusy, false)
    else
      let s := s.put Obj.gangRefused 0
      if oneQuay m then ((masked m).foldl (fun s g => startCrane g s) s, ecOk, false)
      else ((masked m).foldl (fun s g => modCrane g (fun c => { c with pendStart := true }) s) s, ecOk, true)

/-- A write to `GANG_START`. -/
def writeGangStart (m : Nat) (s : State) : State × Nat :=
  let (s, c, wait) := gangStart m s
  if c = ecOk then (s.put Obj.gangStart (if wait then stBusy else stDone), ecOk) else (s, c)

/-- START written to `CRANE_CMD`: a gang start of one (R283). -/
def cmdStart (g : Nat) (s : State) : State × Nat :=
  let (s, c, _) := gangStart (2 ^ g) s
  if c = ecOk then (s.put (Obj.craneCmd g) stDone, ecOk) else (s, c)

/-- A write to `GANG_HALT` (R295). -/
def writeGangHalt (m : Nat) (s : State) : State × Nat :=
  (((masked m).foldl (fun s g => haltOne g s) (s.put Obj.gangRefused 0)).put Obj.gangHalt stDone, ecOk)

/-- A write to `CLOCK_RESTART` (R284). -/
def writeClockRestart (m : Nat) (s : State) : State × Nat :=
  if !s.node.owns then (s, ecMode)
  else
    let s := s.put Obj.gangRefused 0
    let l := (masked m).filter s.craneActive
    if oneQuay m then ((l.foldl (fun s g => restartDivider g s) s).put Obj.clockRestart stDone, ecOk)
    else ((l.foldl (fun s g => modCrane g (fun c => { c with pendClk := true }) s) s).put Obj.clockRestart stBusy, ecOk)

/-- RESTART written to `CRANE_CMD` (R288, R289). -/
def cmdRestart (g : Nat) (s : State) : State × Nat :=
  if !s.node.owns then (s, ecMode)
  else
    let c := s.crane g
    if c.st ≠ .halted ∧ c.st ≠ .faulted then (s, ecStateBusy)
    else
      let fresh := c.changed || c.st == .faulted
      let s := if fresh && c.phase == .shifting then s.bump (Obj.shiftDiscardCnt g) else s
      let entry := s.get (Obj.entry g)
      let s := modCrane g (fun c =>
        let c := { c with st := .running, changed := false, lateHalt := false, divRestarts := c.divRestarts + 1 }
        if fresh then
          { c with phase := .ready, pc := entry, shiftDone := 0, shiftPart := 0, leads := 0 }
        else if c.phase = .shifting then { c with leads := c.shiftDone }
        else { c with phase := .ready }) s
      let s := if c.changed then modCrane g (fun c => { c with clkPin := none }) s else s
      ((settleCauseNine s).put (Obj.craneCmd g) stDone, ecOk)

/-- The cross-quay starts and restarts that waited for the boundary (R283 to R285): a member halted meanwhile has dropped out, one
started meanwhile is left running and named. -/
def pendingGangs (s : State) : State :=
  let s := (List.range 64).foldl (fun s g =>
    let c := s.crane g
    let s := if c.pendStart then
        if c.active then
          modCrane g (fun c => { c with pendStart := false }) (s.put Obj.gangRefused (setBit (s.get Obj.gangRefused) g true))
        else startCrane g (modCrane g (fun c => { c with pendStart := false }) s)
      else s
    if c.pendClk then
      let s := modCrane g (fun c => { c with pendClk := false }) s
      if (s.crane g).active then restartDivider g s else s
    else s) s
  let s := if s.get Obj.gangStart = stBusy then s.put Obj.gangStart stDone else s
  if s.get Obj.clockRestart = stBusy then s.put Obj.clockRestart stDone else s

/-- A write to `QUAY_FLAGS` (R274). -/
def writeQuayFlags (q v : Nat) (s : State) : State × Nat :=
  ({ s with quay := { s.quay with flags := modifyAt s.quay.flags q (fun _ => v % 2 ^ 16) } }, ecOk)

/-- A write to `QUAY_IRQ`: writing 1 clears a line (R274). -/
def clearQuayIrq (q v : Nat) (s : State) : State × Nat :=
  ({ s with quay := { s.quay with irq := modifyAt s.quay.irq q (fun m => clearBits m v) } }, ecOk)

/-- The quay has a line pending whose state raises a crane notice (R293). -/
def State.quayNotice (s : State) (q : Nat) : Bool := (s.quay.irq.getD q 0) &&& s.get (Obj.quayIrqEn q) != 0

/-- The crane objects that take effect through `QUAY_COMMIT` (R292). -/
def stagedObjs (g : Nat) : List Obj :=
  [Obj.craneCtrl g, Obj.tallyBase g, Obj.tallyLen g, Obj.entry g, Obj.wrap g, Obj.pinOut g, Obj.pinIn g, Obj.pinSide g,
   Obj.pinWait g, Obj.pinInit g]

/-- Cranes of a quay. -/
def quayCranes (q : Nat) : List Nat := (List.range 16).map (q * 16 + ·)

/-- Pins n from a base, within a quay. -/
def pinRun (base n : Nat) : List Nat := (List.range n).map (base + ·)

/-- Output pins of a crane as a commit would leave them, within the quay (R252). -/
def State.stagedOut (s : State) (g : Nat) : List Nat :=
  let o := s.getStaged (Obj.pinOut g)
  let d := s.getStaged (Obj.pinSide g)
  pinRun (grpBase o) (grpWidth o) ++ pinRun (grpBase d) (sideCount d)

/-- Rules of R294 and R310 on one crane: each says whether the crane meets its fault. -/
def State.failsRange (s : State) (g : Nat) : Bool :=
  let n := s.getStaged (Obj.tallyLen g)
  decide (1024 < s.getStaged (Obj.tallyBase g) + n) ||
  (decide (0 < n) && (decide (n ≤ s.getStaged (Obj.entry g)) || decide (n ≤ s.getStaged (Obj.wrap g)))) ||
  (bit (s.getStaged (Obj.craneCtrl g)) 0 && n == 0)
def State.failsPending (s : State) (g : Nat) : Bool :=
  s.rangePending g (s.getStaged (Obj.tallyBase g)) (s.getStaged (Obj.tallyLen g))
def State.failsWorn (s : State) (g : Nat) : Bool :=
  s.rangeWorn g (s.getStaged (Obj.tallyBase g)) (s.getStaged (Obj.tallyLen g))
def State.failsGroup (s : State) (g : Nat) : Bool :=
  let o := s.getStaged (Obj.pinOut g)
  let i := s.getStaged (Obj.pinIn g)
  let d := s.getStaged (Obj.pinSide g)
  let sb := fld (s.getStaged (Obj.craneCtrl g)) 3 2
  decide (8 < grpWidth o) || decide (8 < grpWidth i) || decide (4 < sideCount d) ||
  decide (64 < grpBase o + grpWidth o) || decide (64 < grpBase i + grpWidth i) || decide (64 < grpBase d + sideCount d) ||
  decide (8 < (pinRun (grpBase o) (grpWidth o) ++ (pinRun (grpBase i) (grpWidth i)).filter
    (fun p => !(pinRun (grpBase o) (grpWidth o)).contains p)).length) ||
  (decide (sb ≤ 2) && decide (sideCount d < sb))
def State.failsDepth (s : State) (g : Nat) : Bool :=
  let new := fld (s.getStaged (Obj.craneCtrl g)) 1 2
  let old := fld (s.get (Obj.craneCtrl g)) 1 2
  let holds := fun f => decide (0 < (s.fifo f).held) || (s.fifo f).opened || !(s.fifo f).built.isEmpty
  new == 3 || (new != 0 && isBulk g) || (new != old && (holds g || holds (64 + g)))
def State.failsBusy (s : State) (g : Nat) : Bool :=
  s.craneActive g && (stagedObjs g).any (fun o => s.getStaged o != s.get o)
def State.failsReserved (s : State) (g : Nat) : Bool :=
  let c := s.getStaged (Obj.craneCtrl g)
  fld c 10 6 != 0 || fld c 22 10 != 0 || fld c 3 2 == 3 ||
  s.getStaged (Obj.pinOut g) &&& 0xC0F0 != 0 || s.getStaged (Obj.pinIn g) &&& 0xC0F0 != 0 ||
  s.getStaged (Obj.pinSide g) &&& 0xC0F8 != 0 || bit (s.getStaged (Obj.pinWait g)) 6 ||
  s.getStaged (Obj.pinInit g) &&& 0x7000F000 != 0

/-- A pin of quay q that is an output pin of two cranes, or of a crane and a pulse generator (R294, R404). -/
def State.clashPin (s : State) (q : Nat) : Option Nat :=
  (List.range 64).find? (fun p =>
    let n := ((quayCranes q).filter (fun g => (s.stagedOut g).contains p)).length
    decide (2 ≤ n) || (decide (1 ≤ n) && s.genHolds (q * 64 + p)))

/-- The code that a quay commit meets and the local crane or pin at fault, in the order of R294 and R310. -/
def State.quayFault (s : State) (q : Nat) : Option (Nat × Nat) :=
  let first := fun (code : Nat) (f : Nat → Bool) => ((quayCranes q).find? f).map (fun g => (code, g % 16))
  (first 0x01 s.failsRange).orElse fun _ =>
  (first 0x22 s.failsPending).orElse fun _ =>
  (first 0x23 s.failsWorn).orElse fun _ =>
  (first 0x02 s.failsGroup).orElse fun _ =>
  ((s.clashPin q).map (fun p => (0x03, p))).orElse fun _ =>
  (first 0x04 s.failsDepth).orElse fun _ =>
  (first 0x05 s.failsBusy).orElse fun _ =>
  first 0x06 s.failsReserved

/-- The quay of the crane object at a key, if it is one (R292). -/
def keyQuay (k : Nat) : Option Nat :=
  let i := k / 256
  if 0x4200 ≤ i ∧ i < 0x4240 then some ((i - 0x4200) / 16) else none

/-- A write to `QUAY_COMMIT` (R293, R294, R310): a refused commit keeps the staged writes, an accepted one takes them and applies
them at the next boundary. Its place in the queue of R70 is taken by the caller. -/
def quayCommit (q : Nat) (s : State) : State × Nat :=
  match s.quayFault q with
  | some (code, what) =>
    let s := if code = 0x22 ∨ code = 0x23 then tallyResult (q * 16 + what) code s else s
    ((s.put (Obj.quayResult q) (what * 2 ^ 16 + code)).put (Obj.quayCommit q) stRefused, ecOk)
  | none =>
    let mine := s.staged.filter (fun e => keyQuay e.1 == some q)
    let s := { s with
      staged := s.staged.filter (fun e => keyQuay e.1 != some q)
      quay := { s.quay with commits := s.quay.commits ++ mine } }
    (configCommit ((s.put (Obj.quayResult q) (0xFFFF * 2 ^ 16)).put (Obj.quayCommit q) stBusy), ecOk)

/-- The image output that a pin is when neither a crane nor a generator owns it (R252). -/
def State.imagePin (s : State) (i : Nat) : Bool :=
  (s.pinCrane i).isNone && !s.genHolds i && bit (s.get (Obj.padCfg i)) 4

/-- A pin that no crane and no generator owns takes its place under `PAD_CFG`: driven from the output image, or high impedance
(R252, R404). -/
def imageOrInput (i : Nat) (s : State) : State :=
  if (s.pinCrane i).isSome ∨ s.genHolds i then s
  else if bit (s.get (Obj.padCfg i)) 4 then setPin i (bit s.pins.outImg i) s.node.owns s
  else setDrive i false s

/-- FIFOs of a crane whose depths change are emptied, the words counted (R279). -/
def resizeFifos (g : Nat) (s : State) : State := flushFifo (64 + g) (flushFifo g s)

/-- One value of a quay commit applied (R279, R289, R294). -/
def applyStaged (e : Nat × List Byte) (s : State) : State :=
  let i := e.1 / 256
  let g := i - 0x4200
  match (stagedObjs g).find? (fun o => o.key == e.1) with
  | none => s
  | some o =>
    let v := ofBytes e.2
    let old := s.get o
    let s := if o.sub = 3 ∧ fld v 1 2 ≠ fld old 1 2 then (resizeFifos g s).put o v else s.put o v
    if isRangeObj o ∧ v ≠ old then markChanged g s else s

/-- Step 3 of R68 for an accepted quay commit: its values take effect, and the pins of the quay that it leaves without an owner
return to their `PAD_CFG` (R252, R294). -/
def quayApply (q : Nat) (s : State) : State :=
  let before := (List.range 64).filter (fun p => (s.pinCrane (q * 64 + p)).isSome)
  let mine := s.quay.commits.filter (fun e => keyQuay e.1 == some q)
  let s := { s with quay := { s.quay with commits := s.quay.commits.filter (fun e => keyQuay e.1 != some q) } }
  let s := mine.foldl (fun s e => applyStaged e s) s
  let s := before.foldl (fun s p => imageOrInput (q * 64 + p) s) s
  s.put (Obj.quayCommit q) stDone

/-- `PIN_INIT` of crane g applied (R253): levels and directions, or the levels read on the line. -/
def applyPinInit (g : Nat) (s : State) : State :=
  let v := s.get (Obj.pinInit g)
  let follow := bit v 31
  let one := fun (pin lv dr : Nat) (s : State) =>
    setPin pin (if follow then s.pinLevel pin else bit v lv) (bit v dr) s
  let s := (List.range (s.outWidth g)).foldl (fun s i => one (quayPin g (s.outBase g + i)) i (16 + i) s) s
  (List.range (s.sideNum g)).foldl (fun s i => one (quayPin g (s.sideBase g + i)) (8 + i) (24 + i) s) s

/-- The cranes of quay q with AUTOSTART start (R286, R465). -/
def autostart (q : Nat) (s : State) : State :=
  (quayCranes q).foldl (fun s g =>
    if bit (s.get (Obj.craneCtrl g)) 0 ∧ !s.craneActive g then startCrane g s else s) s

end Sys2Proof.Machine
end

