-- ==== Sys2Proof/Machine/Boot.lean ====
section
/-! DEFINITION. Boot records and the choice of the firmware slot (R542). -/

namespace Sys2Proof.Machine

/-- A boot record (R542). -/
structure BootRec where
  seq : Nat
  trial : Bool
  slot : Nat
  deriving DecidableEq, Repr

/-- The 16 bytes of a boot record. -/
def BootRec.bytes (r : BootRec) : List Byte :=
  let v := r.seq % 2 ^ 32 * 2 ^ 64 + b2n r.trial * 2 ^ 16 + r.slot * 2 ^ 8 + 1
  bytesOf 12 v ++ bytesOf 4 (crc32c (bytesOf 12 v))

/-- The record that a copy holds, when it is valid. -/
def bootOf (bs : List Byte) : Option BootRec :=
  let v := num bs 0 16
  if 16 ≤ bs.length ∧ fld v 96 32 = crc32c (slice bs 0 12) ∧ fld v 17 47 = 0 ∧ fld v 0 8 = 1 ∧ fld v 8 8 < 2
  then some ⟨fld v 64 32, bit v 16, fld v 8 8⟩ else none

/-- The valid record with the higher REC_SEQ, and whether copy 0 holds it. -/
def State.bootRec (s : State) : Option (BootRec × Bool) :=
  match bootOf s.flash.boot0, bootOf s.flash.boot1 with
  | some a, some b => if a.seq < b.seq then some (b, false) else some (a, true)
  | some a, none => some (a, true)
  | none, some b => some (b, false)
  | none, none => none

/-- A boot record written to the copy that does not hold the record in effect, with REC_SEQ advanced. -/
def writeBoot (slot : Nat) (trial : Bool) (s : State) : State :=
  let q := match s.bootRec with | some (r, _) => r.seq + 1 | none => 1
  let in0 := match s.bootRec with | some (_, z) => z | none => false
  let bs := (BootRec.mk q trial slot).bytes
  let s := { s with upd := { s.upd with recSeq := q % 2 ^ 32 } }
  if in0 then { s with flash := { s.flash with boot1 := bs } } else { s with flash := { s.flash with boot0 := bs } }

/-- The boot loader at the release of D5: the record in effect is taken, and one with TRIAL = 1 is reverted to the other
slot (R542). With no valid record, slot 0 runs (log entry 6). -/
def bootSelect (s : State) : State :=
  match s.bootRec with
  | none => { s with upd := { s.upd with slot := 0, trial := false, recSeq := 0 } }
  | some (r, _) =>
    if r.trial then
      let s := writeBoot (1 - r.slot) false s
      { s.bump Obj.updRevertCnt with upd := { s.upd with slot := 1 - r.slot, trial := false } }
    else { s with upd := { s.upd with slot := r.slot, trial := false, recSeq := r.seq } }

end Sys2Proof.Machine
end

