-- ==== Sys2Proof/Machine/Reset.lean ====
section
/-! DEFINITION. The reset controller, option loading, block resets, bank supplies and supply monitors (13, 18). -/

namespace Sys2Proof.Machine

/-- Objects that live in D0 and keep their values through every reset but power-on: the reset records (R471), the Gangway
objects (R494, R508) and `DIE_TEMP_MAX` (R583). -/
def keptKey (k : Nat) : Bool :=
  k / 256 == 0x7401 || k / 256 == 0x7800 || k / 256 == 0x7801 || k == 0x500003

/-- Everything in D1 to D7 at its reset value (R448); D0, the flash, the outside and the model's own fields stay. -/
def resetCore (s : State) : State :=
  { s with
    objs := s.objs.filter (fun e => keptKey e.1)
    blobs := []
    staged := []
    node := { s.node with pair := 0, keyWindow := false, toAnchored := false, waitB := false, toDryDock := false,
                          leaveDryDock := false, resume := false, loaded := false }
    faults := { faultReset with cause := s.faults.cause }
    tide := { tideReset with clock := s.tide.clock }
    cranes := []
    fifos := []
    users := []
    chk := chkReset
    tally := tallyReset
    quay := quayReset
    twin := twinReset
    upd := { updReset with mnv := s.upd.mnv, batt := s.upd.batt }
    dict := dictReset
    ring := ringReset
    hold := holdReset
    bridge := bridgeReset
    man := manReset
    can := canReset
    cal := calReset
    time := timeReset
    pins := { s.pins with outImg := 0, outSent := 0, inImg := 0, imgTick := 0, quayRst := 0, quayResume := 0 } }

/-- A reset or its release is in progress (R454). -/
def State.resetting (s : State) : Bool := s.rst.asserted || s.rst.doms.any (· == .inReset)

/-- An entry of `RESET_HISTORY` (R471). -/
def histEntry (tick : Nat) (cold : Bool) (dom src : Nat) : Nat :=
  tick * 2 ^ 16 + b2n cold * 2 ^ 15 + dom * 2 ^ 8 + src

/-- An event put first in `RESET_HISTORY`, which keeps 8. -/
def pushHistory (e : Nat) (s : State) : State :=
  { s with rst := { s.rst with history := (e :: s.rst.history).take 8 } }

/-- The counter of a reset source (R471). -/
def srcCounter : Nat → Obj
  | 1 => Obj.porCnt
  | 2 => Obj.gwResetCnt
  | 3 => Obj.resetnCnt
  | 4 => Obj.wdtResetCnt
  | 5 => Obj.ringResetCnt
  | 6 => Obj.twinResetCnt
  | 7 => Obj.swResetCnt
  | _ => Obj.critResetCnt

/-- A warm reset of a Working chip keeps `TWIN_OWN_N` claimed unless the twin is ready (R40); a claim already kept through a
reset in progress stays. -/
def State.keepsClaim (s : State) : Bool :=
  s.node.claim && ((s.working && !s.twinReady) || s.node.keptOwn)

/-- D1 to D7 put in reset, with every timer of the reset controller stopped. -/
def domainsInReset (s : State) : State :=
  { s with rst := { s.rst with
      asserted := true, loading := false, optEnded := false, wdt := false, cmd := none, crit := .none, late := [],
      doms := [.released, .inReset, .inReset, .inReset, .inReset, .inReset, .inReset, .inReset],
      blocks := List.replicate 22 .idle, blkDone := false, blkLate := false, blkClock := false, blkAsked := 0, refClk := none } }

/-- The records of a reset: cause (of the first of overlapping resets), history and counter (R454, R471). -/
def recordReset (src : Nat) (cold : Bool) (s : State) : State :=
  let first := !s.resetting || s.rst.source == 0
  let s := if s.rst.loading then s.bump Obj.optRestartCnt else s
  let s := pushHistory (histEntry s.tide.tick cold 0xF src) s
  let s := s.bump (srcCounter src)
  if first then
    { s.put Obj.resetCause (s.tide.tick % 2 ^ 16 * 2 ^ 16 + b2n cold * 2 ^ 15 + src) with
      rst := { s.rst with source := src, cold := cold } }
  else { s with rst := { s.rst with cold := s.rst.cold || cold } }

/-- A mode taken by a reset: D5 is in reset with it, so the mode objects stay at their defaults (R16, R536). -/
def toMode (m : Mode) (s : State) : State := { s with node := { s.node with mode := m, origin := m } }

/-- A reset asserted: a cold one takes the node into Approach with keepers and `TWIN_OWN_N` released, a warm one into
Berthing with the keepers holding (R40, R449, R454). A combined reset is cold when either one is. -/
def assertReset (src : Nat) (cold : Bool) (s : State) : State :=
  let s := recordReset src cold s
  let keep := s.keepsClaim && !s.rst.cold
  let s := stopPickup false (loseOwnership s)
  let s := if s.rst.cold then padsOff s else { s with pins := { s.pins with clocks := 0 } }
  let s := toMode (if s.rst.cold then .approach else .berthing) (domainsInReset (resetCore s))
  { s with
    node := { s.node with claim := keep, keptOwn := keep }
    rst := { s.rst with reinsert := s.rst.reinsert && src != 2, gwBack := s.rst.gwBack || src == 2 } }

/-- The supplies of D1 to D7 go away (a trip, a drop or a rail monitor): as in Approach, the pads are high impedance and
`TWIN_OWN_N` is released; their return is a reset of source 0x02 (R32, R448, R563). -/
def powerLost (s : State) : State :=
  if s.node.mode = .approach then { s with rst := { s.rst with reinsert := true } }
  else
    let s := toMode .approach (domainsInReset (resetCore (padsOff (stopPickup false (loseOwnership s)))))
    { s with node := { s.node with claim := false, keptOwn := false }, rst := { s.rst with reinsert := true, cold := true, source := 0 } }

/-- `GW_PG` (R505). -/
def State.gwPg (s : State) : Bool := s.gw.st == .good

/-- Approach is left for Berthing once `GW_PG` is high, every supply monitor is good and `RESET_N` is high (R32). -/
def tryBerthing (s : State) : State :=
  if s.node.mode = .approach ∧ s.gwPg ∧ s.rst.supplies ∧ !s.rst.pinLow ∧ s.rst.vaon then
    toMode .berthing (if s.rst.reinsert then assertReset 2 true s else s)
  else s

/-- Power-on: everything at its value after power-on, with the straps and the diode as the board has them; the flash and
the outside stay (R448, R466, R471, R494). -/
def powerOn (roleB : Bool) (boot : Nat) (slipLow diode : Bool) (s : State) : State :=
  let r := State.reset
  { r with
    objs := (((r.put Obj.porCnt 1).put Obj.resetCause 0x8001)).objs
    node := { r.node with slipLow := slipLow, twinLow := s.node.twinLow }
    rst := { r.rst with strapRole := roleB, strapBoot := boot }
    pins := { r.pins with line := s.pins.line, canRx := s.pins.canRx }
    gw := gwPowerOn diode
    flash := s.flash
    freeCount := s.freeCount
    pending := s.pending }

/-- `VAON` no longer valid: the whole chip loses power, its keepers, latch, cooldown and claim with it (R562). -/
def powerOff (s : State) : State :=
  let r := State.reset
  { r with
    rst := { r.rst with vaon := false }
    node := { r.node with twinLow := s.node.twinLow }
    pins := { r.pins with line := s.pins.line, canRx := s.pins.canRx }
    flash := s.flash
    freeCount := s.freeCount
    pending := s.pending }

/-- `OPTIONS` bit 0, WARM_PIN (R460). -/
def State.warmPin (s : State) : Bool := s.rst.opts.testBit 0

/-- The first domain not yet released or held, if every domain it needs allows it: any needs D1, D3 to D7 need the end of
option loading (R456, R457). -/
def State.dueDomain (s : State) : Option Nat :=
  match (List.range 8).find? (fun d => s.rst.doms.getD d .held == .inReset) with
  | none => none
  | some d =>
    if s.rst.asserted ∨ s.node.mode = .approach then none
    else if 2 ≤ d ∧ !s.released 1 then none
    else if 3 ≤ d ∧ !s.rst.optEnded then none
    else some d

/-- A domain's state written. -/
def setDomain (d : Nat) (x : DomSt) (s : State) : State :=
  { s with rst := { s.rst with doms := s.rst.doms.set d x } }

/-- The events put off to the release of D4 recorded, and after a reset of source 0x02 the record of the Gangway's last
event (R457, R476, R506). -/
def raiseLate (s : State) : State :=
  let l := s.rst.late
  let s := l.foldl (fun s e => raise e.src e.inst e.detail s) { s with rst := { s.rst with late := [] } }
  if s.rst.gwBack then raise 0x3E 0 (s.get Obj.gwLastEvent) { s with rst := { s.rst with gwBack := false } } else s

/-- An event of option loading or of a domain held before the release of D4 (R457, R476). -/
def raiseOrDelay (src inst detail : Nat) (s : State) : State :=
  if s.released 4 then raise src inst detail s
  else { s with rst := { s.rst with late := s.rst.late ++ [⟨src, inst, detail⟩] } }

/-- What the release of a domain starts (R49, R88, R451, R459, R542, R564). -/
def domainEffect (d : Nat) (refEdges : Bool) (s : State) : State :=
  match d with
  | 1 => { s with rst := { s.rst with refClk := some refEdges } }
  | 2 =>
    let s := { s with rst := { s.rst with loading := true } }
    let s := if s.rst.cold then
        { s with rst := { s.rst with bootSel := s.rst.strapBoot }, node := { s.node with posB := s.rst.strapRole } }
      else s
    if s.rst.bootSel = 3 then raiseOrDelay 0x3B 0 0 s else s
  | 3 => portsStart s
  | 4 => raiseLate s
  | 5 =>
    let s := bootSelect { s with rst := { s.rst with wdt := true } }
    { s with node := { s.node with keyWindow := s.node.slipLow && s.rst.source == 1 && s.node.mode == .berthing } }
  | _ => s

/-- A domain released (R456). -/
def domainRelease (us : Nat) (refEdges : Bool) (s : State) : State :=
  match s.dueDomain with
  | none => s
  | some d => (domainEffect d refEdges (setDomain d .released s)).put Obj.releaseUs us

/-- A domain declared held for want of a clock (R457). -/
def domainHeld (s : State) : State :=
  match s.dueDomain with
  | none => s
  | some d =>
    let s := setDomain d .held s
    let s := pushHistory (histEntry s.tide.tick s.rst.cold d s.rst.source) s
    let s := s.bump Obj.clockFailCnt
    if d = 4 then s else raiseOrDelay 0x38 d 0 s

/-- The built-in option values (R460). -/
def builtinOpts : Nat := 0x0000000100403000

/-- Why an option word is rejected: 0 accepted, 1 OPT_CRC, 2 FORMAT, 3 a reserved bit or REL_GAP (R460, R476). -/
def optError (w : Nat) : Nat :=
  if fld w 96 32 ≠ crc32c (bytesOf 12 w) then 1
  else if fld w 32 16 ≠ 1 then 2
  else if fld w 48 48 ≠ 0 ∨ fld w 9 3 ≠ 0 ∨ fld w 1 7 ≠ 0 then 3
  else if fld w 16 16 < 16 ∨ 1024 < fld w 16 16 then 3
  else 0

/-- Option loading ends: all options take effect together (R459 to R461). -/
def optionsLoaded (w : Nat) (s : State) : State :=
  let s := { s with rst := { s.rst with loading := false, optEnded := true } }
  if s.rst.bootSel = 2 then { s with rst := { s.rst with opts := builtinOpts } }
  else if optError w = 0 then { s with rst := { s.rst with opts := w % 2 ^ 64 } }
  else raiseOrDelay 0x3A 0 (optError w) { s with rst := { s.rst with opts := builtinOpts } }

/-- The domain of a block of R462. -/
def blockDomain (b : Nat) : Nat :=
  if b ≤ 2 then 3 else if b ≤ 6 then 6 else if b ≤ 14 then 7 else if b ≤ 18 then 4 else if b = 19 then 7
  else if b = 20 then 5 else 2

/-- A block's state written. -/
def setBlock (b : Nat) (x : BlockSt) (s : State) : State :=
  { s with rst := { s.rst with blocks := s.rst.blocks.set b x } }

/-- State of a block. -/
def State.block (s : State) (b : Nat) : BlockSt := s.rst.blocks.getD b .idle

/-- The pins of quay q, as a mask. -/
def quayMask (q : Nat) : Nat := lowBits 64 * 2 ^ (64 * q)

/-- `BLOCK_RESET_STATE` (R470). -/
def State.blockState (s : State) : Nat :=
  maskOf ((List.range 22).filter (fun b => s.block b == .inReset || s.block b == .held))

/-- The pads of bank q isolated: high impedance, input buffers off (R468). -/
def isolateBank (q : Nat) (s : State) : State :=
  { s with
    rst := { s.rst with vio := s.rst.vio.set q ⟨0, true, false⟩ }
    pins := { s.pins with drive := clearBits s.pins.drive (quayMask q), keep := clearBits s.pins.keep (quayMask q),
                          inBuf := setBit s.pins.inBuf q false } }

/-- `VIO_LEVEL` (R583). -/
def State.vioLevel (s : State) : Nat :=
  (List.range 4).foldl (fun m q => m + (s.rst.vio.getD q ⟨0, true, false⟩).level * 4 ^ q) 0

/-- The effect of `POWER_ON` (R448). -/
def execPowerOn (roleB : Bool) (boot : BitVec 2) (slipLow diode : Bool) (s : State) : Host.Outcome State Fault Refusal :=
  .next (powerOn roleB boot.toNat slipLow diode s)

/-- The effect of `VAON_INVALID` (R562). -/
def execVaonInvalid (s : State) : Host.Outcome State Fault Refusal := .next (powerOff s)

/-- The effect of `RESET_N_ASSERT` (R450): cold or warm according to WARM_PIN. -/
def execResetNAssert (roleB : Bool) (boot : BitVec 2) (s : State) : Host.Outcome State Fault Refusal :=
  .next (if s.rst.vaon ∧ !s.rst.pinLow then
    let s := assertReset 3 (!s.warmPin) s
    { s with rst := { s.rst with pinLow := true, strapRole := roleB, strapBoot := boot.toNat } }
  else s)

/-- The effect of `RESET_N_RELEASE` (R450): the release sequence may begin; a cold reset with `GW_PG` high goes on to
Berthing at once (R32, R449). -/
def execResetNRelease (s : State) : Host.Outcome State Fault Refusal :=
  .next (if s.rst.pinLow then tryBerthing { s with rst := { s.rst with pinLow := false } } else s)

/-- The effect of `WATCHDOG_EXPIRY` (R451). -/
def execWatchdogExpiry (s : State) : Host.Outcome State Fault Refusal :=
  .next (if s.rst.wdt then assertReset 4 false s else s)

/-- The effect of `RESET_CMD_ASSERT` (R452). -/
def execResetCmdAssert (s : State) : Host.Outcome State Fault Refusal :=
  .next (match s.rst.cmd with
    | some c => assertReset c false s
    | none => s)

/-- The effect of `CRITICAL_STATE_ERROR` (R453): a fatal record of source 0x3C; an error in the controller's own
configuration brings the built-in options back. -/
def execCriticalStateError (unit : Fin 5) (bay : Fin 2048) (s : State) : Host.Outcome State Fault Refusal :=
  .next (
    let s := if unit.val = 4 then { s with rst := { s.rst with opts := builtinOpts } } else s
    raise 0x3C (unit.val + 1) (if unit.val = 2 then bay.val else 0) s)

/-- The effect of `CRITICAL_RESET_TIMER` (R453): 1 ms after the keepers' release, a warm reset of source 0x08. -/
def execCriticalResetTimer (s : State) : Host.Outcome State Fault Refusal :=
  .next (if s.rst.crit = .running then assertReset 8 false s else s)

/-- The effect of `RESET_ASSERTION_END` (R456). -/
def execResetAssertionEnd (s : State) : Host.Outcome State Fault Refusal :=
  .next (if s.rst.asserted ∧ !s.rst.pinLow ∧ s.node.mode ≠ .approach then { s with rst := { s.rst with asserted := false } } else s)

/-- The effect of `DOMAIN_RELEASE` (R456). -/
def execDomainRelease (us : BitVec 32) (refEdges : Bool) (s : State) : Host.Outcome State Fault Refusal :=
  .next (domainRelease us.toNat refEdges s)

/-- The effect of `DOMAIN_CLOCK_TIMEOUT` (R457). -/
def execDomainClockTimeout (s : State) : Host.Outcome State Fault Refusal := .next (domainHeld s)

/-- The effect of `OPTION_LOAD_COMPLETE` (R461). -/
def execOptionLoadComplete (word : BitVec 128) (s : State) : Host.Outcome State Fault Refusal :=
  .next (if s.rst.loading then optionsLoaded word.toNat s else s)

/-- Berthing is complete but for the twin: every domain in reach released, options loaded, a valid saved state, a ring
direction Active or timed out, and no key window running (R33, R458). -/
def State.berthed (s : State) : Bool :=
  s.node.mode == .berthing && s.rst.doms.all (· == .released) && s.rst.optEnded && s.node.loaded && s.ringReady &&
  !s.node.keyWindow

/-- The effect of `BERTHING_COMPLETE` (R458): Anchored at the next boundary when the twin owns the line or its heartbeat was
seen, or else Working; position B without a kept claim waits 100 ms (R32, R417). -/
def execBerthingComplete (lineLow : Bool) (s : State) : Host.Outcome State Fault Refusal :=
  .next (
    let s := { s with node := { s.node with twinLow := lineLow } }
    if s.berthed then
      if (lineLow ∧ !s.node.claim) ∨ s.hbSeen then { s with node := { s.node with toAnchored := true } }
      else if s.node.keptOwn ∨ !s.node.posB then enterWorking s
      else { s with node := { s.node with waitB := true } }
    else s)

/-- The effect of `POSITION_B_CLAIM_TIMEOUT` (R32): still no heartbeat and the line still high. -/
def execPositionBClaimTimeout (s : State) : Host.Outcome State Fault Refusal :=
  .next (if s.berthed ∧ s.node.waitB ∧ !s.node.twinLow ∧ !s.hbSeen then enterWorking s else s)

/-- The effect of `SLIPWAY_KEY_WINDOW_END` (R33): the strap is ignored, a corrected fault is recorded, Berthing goes on. -/
def execSlipwayKeyWindowEnd (s : State) : Host.Outcome State Fault Refusal :=
  .next (if s.node.keyWindow then raise 0x09 0 0 { s with node := { s.node with keyWindow := false } } else s)

/-- The effect of `VIO_OUT_OF_RANGE` (R468). -/
def execVioOutOfRange (q : Fin 4) (s : State) : Host.Outcome State Fault Refusal :=
  .next (if (s.rst.vio.getD q.val ⟨0, true, false⟩).level = 0 then s
    else raise 0x27 q.val 0 ((isolateBank q.val s).bump Obj.vioDropCnt))

/-- The effect of `VIO_RESTORE` (R468, R562): the bank takes its range; its outputs follow at the next boundary. -/
def execVioRestore (q : Fin 4) (high : Bool) (s : State) : Host.Outcome State Fault Refusal :=
  .next { s with
    rst := { s.rst with vio := s.rst.vio.set q.val ⟨if high then 2 else 1, false, true⟩ }
    pins := { s.pins with inBuf := setBit s.pins.inBuf q.val (s.node.owns || s.twin.pick != .none),
                          bufOff := clearBits s.pins.bufOff (quayMask q.val) } }

/-- The effect of `SUPPLY_MONITOR_BAD` (R563): after leaving Approach, the pads are isolated and D1 to D7 held in reset. -/
def execSupplyMonitorBad (s : State) : Host.Outcome State Fault Refusal :=
  .next (
    let s := if s.node.mode = .approach then s else powerLost s
    { s with rst := { s.rst with supplies := false } })

/-- The effect of `SUPPLY_MONITOR_GOOD` (R32, R563). -/
def execSupplyMonitorGood (s : State) : Host.Outcome State Fault Refusal :=
  .next (tryBerthing { s with rst := { s.rst with supplies := true } })

/-- An instruction of the test access port that is accepted only with the Slipway strap at power-on acts as BYPASS
otherwise (R582). -/
def tapStrapped (t : TapState) (s : State) : State :=
  { s with tap := if s.node.slipLow then t else ⟨.bypass, .bypass, false, false⟩ }

/-- The effect of `TAP_RESET` (R581). -/
def execTapReset (s : State) : Host.Outcome State Fault Refusal :=
  .next { s with tap := ⟨.idcode, .idcode, false, false⟩ }

/-- The effect of `TAP_IDCODE` (R581). -/
def execTapIdcode (s : State) : Host.Outcome State Fault Refusal :=
  .next { s with tap := ⟨.idcode, .idcode, false, false⟩ }

/-- The effect of `TAP_SAMPLE_PRELOAD` (R581). -/
def execTapSamplePreload (s : State) : Host.Outcome State Fault Refusal :=
  .next { s with tap := ⟨.sample, .boundary, false, false⟩ }

/-- The effect of `TAP_EXTEST` (R582). -/
def execTapExtest (s : State) : Host.Outcome State Fault Refusal :=
  .next (tapStrapped ⟨.extest, .boundary, true, false⟩ s)

/-- The effect of `TAP_CLAMP` (R581, R582). -/
def execTapClamp (s : State) : Host.Outcome State Fault Refusal :=
  .next (tapStrapped ⟨.clamp, .bypass, true, false⟩ s)

/-- The effect of `TAP_HIGHZ` (R581, R582). -/
def execTapHighz (s : State) : Host.Outcome State Fault Refusal :=
  .next (tapStrapped ⟨.highz, .bypass, false, true⟩ s)

/-- The effect of `TAP_BYPASS` (R581): 0xFF and every unlisted code; a listed code is not this command. -/
def execTapBypass (code : BitVec 8) (s : State) : Host.Outcome State Fault Refusal :=
  .next (if code = 1 ∨ code = 2 ∨ code = 3 ∨ code = 4 ∨ code = 5 then s
    else { s with tap := ⟨.bypass, .bypass, false, false⟩ })

/-- The 32-bit identity register (R581). -/
def idcode : Nat := Config.siliconRev.toNat % 16 * 2 ^ 28 + 0x0072 * 2 ^ 12 + 0x3A5 * 2 + 1

/-- The effect of `DIE_TEMP_UPDATE` (R583): from the release of D4. -/
def execDieTempUpdate (t : BitVec 16) (s : State) : Host.Outcome State Fault Refusal :=
  .next (if s.released 4 then
    let s := s.put Obj.dieTemp t.toNat
    if s.getI Obj.dieTempMax < t.toInt then s.put Obj.dieTempMax t.toNat else s
  else s)

end Sys2Proof.Machine
end

