-- ==== Sys2Proof/Machine/Manifest.lean ====
section
/-! DEFINITION. Changing the manifest: the staged records, the checks of R240 and the commit (R239 to R241). -/

namespace Sys2Proof.Machine

/-- Entry index, bytes 2 and 3, and entry of staged record i (R239). -/
def recIndex (bs : List Byte) (i : Nat) : Nat := num bs (20 * i) 2
def recPad (bs : List Byte) (i : Nat) : Nat := num bs (20 * i + 2) 2
def recEntry (bs : List Byte) (i : Nat) : Nat := num bs (20 * i + 4) 16

/-- Descriptor i of a staged disable list (R239). -/
def descAt (bs : List Byte) (i : Nat) : Nat := num bs (4 * i) 4

/-- Identifier width of an entry's kind (R234). -/
def idWidth (e : Nat) : Nat := if mKind e = 1 then 11 else if mKind e = 2 then 29 else 16

/-- The destination of an entry as a descriptor names it (R239). -/
def destOf (e : Nat) : Nat := mDnode e * 2 ^ 24 + mDport e * 2 ^ 16 + mUnit e * 2 ^ 12

/-- SRC out of range (R240 code 0x03). -/
def srcBad (e : Nat) : Bool := (mKind e == 1 || mKind e == 2) && decide (7 < mSrc e)

/-- KEY_ID or ID_MASK too wide (R240 code 0x04). -/
def keyBad (e : Nat) : Bool := mKind e != 0 && (decide (2 ^ idWidth e ≤ mId e) || decide (2 ^ idWidth e ≤ mMask e))

/-- A destination, as a descriptor names it, that is none (R240 code 0x05). -/
def destNone (d : Nat) : Bool :=
  let dnode := fld d 24 8
  let dport := fld d 16 8
  dnode == 0 || dnode == 255 || !((decide (0x10 ≤ dport) && decide (dport ≤ 0x13)) || dport == 0x20) || (dport == 0x20 && decide (7 < fld d 12 4))

/-- A record's destination is none. -/
def destBad (e : Nat) : Bool := mKind e != 0 && destNone (destOf e)

/-- A reserved field or value (R240 code 0x06); an empty record's own ID_MODE does not matter (log entry 40). -/
def reservedBad (bs : List Byte) (i : Nat) : Bool :=
  recPad bs i != 0 || fld (recEntry bs i) 0 7 != 0 || (mKind (recEntry bs i) != 0 && mMode (recEntry bs i) == 3)

/-- The table with the staged records applied: a record of kind 0 empties its entry (R239). -/
def manTable (entries : List (Nat × Nat)) (bs : List Byte) : List (Nat × Nat) :=
  (List.range (bs.length / 20)).foldl
    (fun m i => mapSet 0 m (recIndex bs i) (if mKind (recEntry bs i) = 0 then 0 else recEntry bs i)) entries

/-- The descriptors of a staged list. -/
def descsOf (bs : List Byte) : List Nat := (List.range (bs.length / 4)).map (descAt bs)

/-- A result of R240 as `MANIFEST_RESULT` shows it. -/
def manResult (code at_ : Nat) : Nat := at_ * 2 ^ 16 + code

/-- The first record that a check fails, as a result. -/
def firstRec (n code : Nat) (p : Nat → Bool) : Option Nat := ((List.range n).find? p).map (manResult code)

/-- What fails code 0x07, as a record of the stage or a descriptor (R240). -/
def manConflict (entries : List (Nat × Nat)) (disable : List Nat) (bs : List Byte) : Option Nat :=
  match (manTable entries bs).find? (fun e => disable.contains (destOf e.2)) with
  | none => none
  | some e =>
    match (List.range (bs.length / 20)).find? (fun i => recIndex bs i == e.1) with
    | some i => some (manResult 7 i)
    | none => some (manResult 7 ((List.range disable.length).find? (fun i => disable.getD i 0 == destOf e.2) |>.getD 0xFFFF))

/-- The disable list after the commit: replaced only when one was staged (R239). -/
def manDisable (old : List Nat) : Option (List Byte) → List Nat
  | none => old
  | some d => descsOf d

/-- The first check of R240 that the staged records and list fail, as `MANIFEST_RESULT`. -/
def manFail (m : ManState) (bs : List Byte) (dis : Option (List Byte)) : Option Nat :=
  let n := bs.length / 20
  let d := dis.getD []
  if bs.length % 20 ≠ 0 ∨ d.length % 4 ≠ 0 ∨ 256 < d.length then some (manResult 1 0xFFFF)
  else
    (firstRec n 2 (fun i => decide (2048 ≤ recIndex bs i) || (List.range i).any (fun j => recIndex bs j == recIndex bs i))).or <|
    (firstRec n 3 (fun i => srcBad (recEntry bs i))).or <|
    (firstRec n 4 (fun i => keyBad (recEntry bs i))).or <|
    (firstRec n 5 (fun i => destBad (recEntry bs i))).or <|
    (firstRec (d.length / 4) 5 (fun i => destNone (descAt d i))).or <|
    (firstRec n 6 (reservedBad bs)).or <|
    (firstRec (d.length / 4) 6 (fun i => fld (descAt d i) 0 12 != 0)).or <|
    manConflict m.entries (manDisable m.disable dis) bs

/-- A write to `MANIFEST_COMMIT`: the staged objects are taken for the check (R240). -/
def manifestCommitWrite (s : State) : State × Nat :=
  let s := (s.put Obj.manifestCommit stBusy).put Obj.manifestResult (manResult 0 0xFFFF)
  ({ s with man := { s.man with checking := some ((s.stagedOf Obj.manifestStage).getD [], s.stagedOf Obj.manifestDisable) } }, ecOk)

/-- A staged object taken by a commit, unless it was staged again since. -/
def unstageIf (o : Obj) (v : Option (List Byte)) (s : State) : State :=
  if v.isSome ∧ s.stagedOf o = v then s.unstage o else s

/-- `MANIFEST_COMMIT_COMPLETE`: the check ends; what passes changes the table and the list at one instant, and `MANIFEST_STAGE` shows the records
in effect (R240, R241, R527). -/
def execManifestCommitComplete (s : State) : Host.Outcome State Fault Refusal :=
  match s.man.checking with
  | none => .next s
  | some (bs, dis) =>
    let fail := manFail s.man bs dis
    let s1 := { s with man := { s.man with checking := none } }
    match fail with
    | some r => .next ((s1.put Obj.manifestCommit stRefused).put Obj.manifestResult r)
    | none =>
      let s2 := { s1 with man := { s1.man with entries := manTable s1.man.entries bs, disable := manDisable s1.man.disable dis } }
      let s3 := unstageIf Obj.manifestDisable dis (unstageIf Obj.manifestStage (some bs) s2)
      let s4 := (((s3.putBlob Obj.manifestStage bs).bump Obj.manifestGen).put Obj.manifestCommit stDone).put Obj.manifestResult (manResult 0 0xFFFF)
      .next (configCommit s4)

end Sys2Proof.Machine
end

