-- ==== Sys2Proof/Machine/Ports.lean ====
section
/-! DEFINITION. Ring lanes and the mooring link: bring-up, training, control blocks, lane failure, sparing, Ebb and test loops (03). -/

namespace Sys2Proof.Machine

/-- Lanes of port p that fulfil a condition, as a set. -/
def lanesWhere (p : Nat) (f : Nat → Bool) : Nat := maskOf ((lanesOf p).filter f)

/-- Lanes of port p that take part in bring-up: present and not failed. -/
def State.upLanes (s : State) (p : Nat) : Nat :=
  lanesWhere p (fun l => let st := s.get (Obj.laneState p l); st != 0 && st != 5)

/-- Blocks that leave on each lane of a set, outside the striped stream (R80). -/
def sendLanes (p lanes type times : Nat) (content : Nat → W64) (s : State) : State :=
  modPort p (fun q => { q with laneSent := q.laneSent ++ (bitsOf 5 lanes).map (fun l => ⟨l, type, content l, times⟩) }) s

/-- A MARK and 63 TRAIN blocks on each lane of a set: a training frame, or a fast-exit burst; the MARK loads the scrambler of its lane
(R83, R96, R101). -/
def sendFrame (p lanes : Nat) (s : State) : State :=
  let n := (s.port p).frameCnt
  let s := sendLanes p lanes tyTrain 63 (fun _ => 0) (sendLanes p lanes tyMark 1 (fun l => s.reqWord p l n) s)
  modPort p (fun q => { q with txScr := (bitsOf 5 lanes).foldl (fun x l => x.set l (seedOf l)) q.txScr }) s

/-- A lane trains with its direction: a bring-up of its own ends, and `LANE_RETRAIN` with it (R88, R110, log entry 104). -/
def trainLane (p l : Nat) (s : State) : State :=
  let s := modLane p l (fun c => { c with retrain := 0 }) (s.put (Obj.laneState p l) 1)
  if s.get (Obj.laneRetrain p l) = stBusy then s.put (Obj.laneRetrain p l) stAborted else s

/-- Pilot begins on a direction: the transmitter starts from its preset, the receiver with fresh maps (R88, R125). -/
def txPilot (p : Nat) (s : State) : State :=
  let s := modPort p (fun q => { q with farReady := 0, quiet := 0, txEbb := 0, txOut := 0 }) ((setTx p dPilot s).put (Obj.txSet p) 0)
  (lanesOf p).foldl (fun s l =>
    modLane p l (fun c => { c with pendTaps := none, farReq := none }) (s.put (Obj.txTaps p l) (presetTaps (s.get (Obj.presetInit p))))) s
def rxPilot (p : Nat) (s : State) : State :=
  let s := modPort p (fun q => { q with rxReady := false, blockLocked := false, calm := 0, reqs := [] }) ((setRx p dPilot s).put (Obj.rxSet p) 0)
  (bitsOf 5 (s.upLanes p)).foldl (fun s l => laneChanged p l (trainLane p l s)) s

/-- What Detect found of the lanes (R88, R121). -/
def notePresent (p : Nat) (present : List Bool) (clock : Bool) (s : State) : State :=
  let s := (lanesOf p).foldl (fun s l =>
    if present.getD l false then (trainLane p l s).put (Obj.failCause p l) 0
    else (s.put (Obj.laneState p l) 0).put (Obj.failCause p l) 1) s
  s.put (Obj.clkState p) (if clock then 1 else 0)

/-- Detect ends when the clock lane and enough data lanes are present (R88); a mooring link in Ebb for want of a receiver repeats it (R101). -/
def detectProbe (p : Nat) (present : List Bool) (clock : Bool) (s : State) : State :=
  let txHere := s.tx p = dDetect ∨ (p = 2 ∧ s.tx p = dEbb)
  let rxHere := s.rx p = dDetect
  if rxHere ∨ txHere then
    let s := if rxHere then notePresent p present clock s else s
    if clock ∧ lanesNeeded p ≤ ((lanesOf p).filter (fun l => present.getD l false)).length then
      let s := if txHere then txPilot p s else s
      if rxHere then rxPilot p s else s
    else s
  else s

/-- The effect of `DETECT_PROBE` (R88). -/
def execDetectProbe (port : Fin 3) (present : List Bool) (clock : Bool) (s : State) : Host.Outcome State Fault Refusal :=
  .next (if s.released 3 then detectProbe port.val present clock s else s)

/-- The effect of `PILOT_TIMEOUT` (R88): back to Detect. -/
def execPilotTimeout (port : Fin 3) (tx : Bool) (s : State) : Host.Outcome State Fault Refusal :=
  .next (
    let p := port.val
    if tx ∧ s.tx p = dPilot then (txLeave p dDetect s).bump (Obj.retrainCnt p)
    else if !tx ∧ s.rx p = dPilot then (rxLeave p dDetect s).bump (Obj.retrainCnt p)
    else s)

/-- The lane set that the lanes of port p which are up give a receiver between Bit lock and Harbour; too few of them send it back to Pilot
(R88, R89). -/
def settleSet (p : Nat) (s : State) : State :=
  let good := s.upLanes p
  if lanesNeeded p ≤ laneNum good then s.put (Obj.rxSet p) (chooseSet good) else rxPilot p s

/-- The check of 2^24 bits of TRAIN blocks on each lane of a direction ends (R88, R89): lanes with errors fail; with enough lanes free of errors
RX_READY is set and the direction goes on to Block lock. -/
def bitLockResult (p : Nat) (errFree : List Bool) (s : State) : State :=
  let s := (bitsOf 5 (s.upLanes p)).foldl (fun s l => if errFree.getD l false then s else failLane p l 2 s) s
  if lanesNeeded p ≤ laneNum (s.upLanes p) then
    settleSet p (modPort p (fun q => { q with rxReady := true, blockLocked := false }) (setRx p dBlock s))
  else rxPilot p s

/-- A retrain of lane l ends without its lane (R110, log entry 104). -/
def retrainFailed (p l cause : Nat) (s : State) : State :=
  let s := modLane p l (fun c => { c with retrain := 0 }) ((s.put (Obj.laneState p l) 5).put (Obj.failCause p l) cause)
  if s.get (Obj.laneRetrain p l) = stBusy then s.put (Obj.laneRetrain p l) stAborted else s

/-- The same check of the lanes that are retrained on their own (R110). -/
def laneBitLock (p : Nat) (errFree : List Bool) (s : State) : State :=
  (lanesOf p).foldl (fun s l =>
    if (s.laneCal p l).retrain = dBit then
      (if errFree.getD l false then modLane p l (fun c => { c with retrain := dBlock }) s else retrainFailed p l 2 s)
    else s) s

/-- The effect of `BIT_LOCK_CHECK_COMPLETE` (R88, R110). -/
def execBitLockCheckComplete (port : Fin 3) (errFree : List Bool) (s : State) : Host.Outcome State Fault Refusal :=
  .next (if s.rx port.val = dBit then bitLockResult port.val errFree s else laneBitLock port.val errFree s)

/-- The effect of `BIT_LOCK_TIMEOUT` (R88): back to Pilot. -/
def execBitLockTimeout (port : Fin 3) (tx : Bool) (s : State) : Host.Outcome State Fault Refusal :=
  .next (
    let p := port.val
    if tx ∧ s.tx p = dBit then txPilot p s else if !tx ∧ s.rx p = dBit then rxPilot p s else s)

/-- The CONTENT of the HARBOUR block that this node sends on port p (R92). -/
def State.harbourWord (s : State) (p : Nat) : W64 :=
  let rxLanes := if dBlock ≤ s.rx p ∧ s.rx p ≤ dActive then s.upLanes p else 0
  sealBlock (2 ^ 52 + s.nodeNumber * 2 ^ 44 + p * 2 ^ 42 + b2n s.node.posB * 2 ^ 41 + s.node.mode.num * 2 ^ 37 + rxLanes * 2 ^ 32 +
    b2n (s.port p).hSeen * 2 ^ 31 + s.tide.code * 2 ^ 29 + b2n (s.tide.placed || s.timeLocked) * 2 ^ 28 + s.fwGen * 2 ^ 12 +
    b2n (s.masters 0) * 2 ^ 11 + b2n (s.masters 1) * 2 ^ 10 + s.workDom * 2 ^ 9 + b2n (s.domGood 0) * 2 ^ 8 + b2n (s.domGood 1) * 2 ^ 7)

/-- HARBOUR blocks leave while one of the two directions of the port is in Harbour and the other end can read them (R80, R88). -/
def sendHarbour (p : Nat) (s : State) : State :=
  if s.tx p = dHarbour ∨ (s.rx p = dHarbour ∧ s.tx p = dActive) then sendBlock p tyHarbour (s.harbourWord p) s else s

/-- Both directions have at least block lock: they go on to Harbour, whose result starts afresh (R90, R93). -/
def toHarbour (p : Nat) (s : State) : State :=
  let other := dBlock ≤ s.tx p ∧ s.tx p ≤ dActive
  let s := if s.rx p = dBlock ∧ (s.port p).blockLocked ∧ other then
      modPort p (fun q => { q with hSeen := false, rxGo := false }) ((setRx p dHarbour s).put (Obj.harbourResult p) 0) else s
  let s := if s.tx p = dBlock ∧ dHarbour ≤ s.rx p ∧ s.rx p ≤ dActive then (setTx p dHarbour s).put (Obj.harbourResult p) 0 else s
  sendHarbour p s

/-- The effect of `BLOCK_LOCK_ACHIEVED` (R88, R90). -/
def execBlockLockAchieved (port : Fin 3) (s : State) : Host.Outcome State Fault Refusal :=
  .next (
    let p := port.val
    if s.rx p = dBlock then toHarbour p ((modPort p (fun q => { q with blockLocked := true }) s).put (Obj.clkState p) 2) else s)

/-- The effect of `BLOCK_LOCK_TIMEOUT` (R88): back to Pilot. -/
def execBlockLockTimeout (port : Fin 3) (tx : Bool) (s : State) : Host.Outcome State Fault Refusal :=
  .next (
    let p := port.val
    if tx ∧ s.tx p = dBlock then txPilot p s else if !tx ∧ s.rx p = dBlock then rxPilot p s else s)

/-- Code of R93 for an accepted HARBOUR block. -/
def State.harbourCode (s : State) (p : Nat) (h : W64) : Nat :=
  let node := wfld h 44 8
  let kind := wfld h 42 2
  let own := s.nodeNumber
  if wfld h 52 4 ≠ 1 then 1
  else if node = 255 then 2
  else if node = own ∧ own ≠ 0 then 3
  else if kind ≠ (if p = 0 then 1 else if p = 1 then 0 else 2) then 4
  else if p = 2 ∧ (bit h.toNat 41 = s.node.posB ∨ (node ≠ 0 ∧ own ≠ 0 ∧ pairOf node ≠ pairOf own)) then 5
  else if wfld h 29 2 ≠ s.tide.code ∧ (s.tide.placed ∨ s.timeLocked) ∧ bit h.toNat 28 then 6
  else 0

/-- A node whose tick is local takes the far end's period, and the number of the far end's last TICK, where the far end has a ring's tick (R93). -/
def harbourAdopt (p : Nat) (h : W64) (s : State) : State :=
  if !s.tide.placed ∧ !s.timeLocked ∧ bit h.toNat 28 then
    { s with tide := { s.tide with code := wfld h 29 2, tick := (s.port p).farTick.getD s.tide.tick } }
  else s

/-- A far HARBOUR block accepted after three copies (R88, R93). -/
def harbourBlock (p : Nat) (h : W64) (s : State) : State :=
  let s := harbourAdopt p h (s.put (Obj.farHarbour p) h.toNat)
  let code := s.harbourCode p h
  let s := s.put (Obj.harbourResult p) code
  let seen := bit h.toNat 31
  if code = 0 then
    let s := if s.tx p = dHarbour then s.put (Obj.txSet p) (chooseSet (wfld h 32 5)) else s
    sendHarbour p (modPort p (fun q =>
      { q with hSeen := true, rxGo := q.rxGo || (seen && s.rx p == dHarbour), txGo := q.txGo || (seen && s.tx p == dHarbour) }) s)
  else raise 0x05 p code (modPort p (fun q => { q with rxGo := false }) s)

/-- The effect of `HARBOUR_BLOCK_RECEIVE` (R88). -/
def execHarbourBlockReceive (port : Fin 3) (h : W64) (s : State) : Host.Outcome State Fault Refusal :=
  .next (
    let p := port.val
    if s.listens p ∧ (s.rx p = dHarbour ∨ s.rx p = dActive) then
      (if blockOk h then harbourBlock p h (returned p [.ctrl tyHarbour h] s) else badBlock p (returned p [.ctrl tyHarbour h] s))
    else s)

/-- The effect of `HARBOUR_TIMEOUT` (R88): back to Detect while no code but 0x00 applies. -/
def execHarbourTimeout (port : Fin 3) (tx : Bool) (s : State) : Host.Outcome State Fault Refusal :=
  .next (
    let p := port.val
    if s.get (Obj.harbourResult p) ≠ 0 then s
    else if tx ∧ s.tx p = dHarbour then (txLeave p dDetect s).bump (Obj.retrainCnt p)
    else if !tx ∧ s.rx p = dHarbour then (rxLeave p dDetect s).bump (Obj.retrainCnt p)
    else s)

/-- The effect of `BRINGUP_TIMEOUT` (R91): the direction counts as down for R36, and its bring-up goes on. -/
def execBringupTimeout (port : Fin 3) (tx : Bool) (s : State) : Host.Outcome State Fault Refusal :=
  .next (
    let p := port.val
    if !s.released 3 then s
    else if tx then (if s.tx p = dActive then s else setDir p 7 true s)
    else if s.rx p = dActive then s else setDir p 6 true s)

/-- A set asked for by LANEMAP, or the direction down when fewer than three lanes are left (R107, R109). -/
def requestSet (p new : Nat) (s : State) : State :=
  if p = 2 ∨ laneNum new < 3 then rxDown p 2 s
  else
    let s := modPort p (fun q => { q with reqSet := new }) s
    if s.tx p = dActive then sendBlock p tyLanemap (sealBlock (new * 2 ^ 51)) s else s

/-- The idle spare of a receive direction, awake or in Ebb (R107). -/
def State.spareLane (s : State) (p : Nat) : Option Nat :=
  (lanesOf p).find? (fun l => !bit (s.get (Obj.rxSet p)) l && (s.get (Obj.laneState p l) == 3 || s.get (Obj.laneState p l) == 4))

/-- The lanes of the set that have not failed (R107). -/
def State.lanesLeft (s : State) (p : Nat) : Nat := clearBits (s.get (Obj.rxSet p)) (s.port p).failing

/-- A receiver fails a lane (R105 to R110): a lane of an Active direction's set is poisoned until the set changes to take in the spare, or without
one to three lanes; a spare that an open request names gives way to three lanes; any other lane is excluded. Before Active the set is chosen
anew (R88, R89). -/
def laneFail (p l cause : Nat) (s : State) : State :=
  let st := s.get (Obj.laneState p l)
  if st = 0 ∨ st = 5 then s
  else
    let inSet := bit (s.get (Obj.rxSet p)) l
    let s := if st = 6 then retrainFailed p l cause s else failLane p l cause s
    if s.rx p = dActive ∧ inSet then
      let s := modPort p (fun q => { q with failing := setBit q.failing l true }) s
      match s.spareLane p with
      | some k => requestSet p (setBit (s.lanesLeft p) k true) s
      | none => requestSet p (s.lanesLeft p) s
    else if s.rx p = dActive then (if bit (s.port p).reqSet l then requestSet p (s.lanesLeft p) s else s)
    else if s.rx p = dBlock ∨ s.rx p = dHarbour then settleSet p s
    else s

/-- The effect of `LANE_FAIL` (R105): cause 4 asks for more sync errors in the tick than `LANE_ERR_LIMIT`. -/
def execLaneFail (port : Fin 3) (lane : Fin 5) (cause : BitVec 8) (s : State) : Host.Outcome State Fault Refusal :=
  .next (
    let p := port.val
    let c := cause.toNat
    if c < 3 ∨ 8 < c ∨ lane.val ≥ laneCount p then s
    else if c = 4 ∧ (s.port p).errs.getD lane.val 0 ≤ s.get (Obj.laneErrLimit p) then s
    else laneFail p lane.val c s)

/-- The word that a bad block at place i of the frame in progress leaves there (R79). -/
def noteRepl (p i : Nat) (c : Cargo) (s : State) : State := modPort p (fun q => { q with repl := q.repl ++ [(i, c)] }) s

/-- The effect of `SYNC_ERROR` (R79, R105): a block that its sync header or TYPE makes bad, as descrambled, is counted, and a poisoned word takes
its place in the frame in progress; outside a frame the word is dropped. -/
def execSyncError (port : Fin 3) (b : BadBlock) (s : State) : Host.Outcome State Fault Refusal :=
  .next (
    let p := port.val
    if s.listens p ∧ b.lane.val < laneCount p then
      match readLine ⟨b.hdr.toNat, b.body.toNat⟩ with
      | .bad c =>
        let s := syncCount p b.lane.val s
        (match b.place with
         | some i => if i.val = 0 then s else noteRepl p i.val c s
         | none => s)
      | _ => s
    else s)

/-- The effect of `CONTROL_BLOCK_CHECK_FAIL` (R81). -/
def execControlBlockCheckFail (port : Fin 3) (s : State) : Host.Outcome State Fault Refusal := .next (badBlock port.val s)

/-- The effect of `CLOCK_LANE_LOSS` (R86). -/
def execClockLaneLoss (port : Fin 3) (s : State) : Host.Outcome State Fault Refusal :=
  .next (
    let p := port.val
    if s.listens p ∧ dPilot ≤ s.rx p then rxDown p 1 ((s.put (Obj.clkState p) 0).bump (Obj.clkLossCnt p)) else s)

/-- The effect of `ELASTIC_BUFFER_OVERFLOW` (R111). -/
def execElasticBufferOverflow (port : Fin 3) (s : State) : Host.Outcome State Fault Refusal :=
  .next (if s.rx port.val = dActive then rxDown port.val 3 s else s)

/-- RX_READY of the far end in a MARK or a TAPREQ: in two blocks in a row it ends the training of the transmit direction (R88). -/
def noteReady (p : Nat) (m : W64) (s : State) : State :=
  let s := modPort p (fun q => { q with farReady := if bit m.toNat 48 then q.farReady + 1 else 0 }) s
  if 2 ≤ (s.port p).farReady ∧ (s.tx p = dPilot ∨ s.tx p = dBit) then toHarbour p (setTx p dBlock s) else s

/-- A new request of the far end for transmit lane l while the transmitter trains: handled at once, applied from the next training frame (R96). A
request that comes in Bit lock takes the transmitter back to Pilot (log entry 103). -/
def trainReq (p l seq req : Nat) (s : State) : State :=
  if seq ≠ (s.laneCal p l).ackSeq ∧ l < laneCount p ∧ (s.tx p = dPilot ∨ s.tx p = dBit) then
    answerReq p l seq req (modPort p (fun q => { q with quiet := 0 }) (setTx p dPilot s))
  else s

/-- The request that a MARK on receive lane l shows, with the MARK blocks in a row that showed it (R96). -/
def noteMark (p l : Nat) (m : W64) (s : State) : State :=
  let old := (s.port p).reqs.getD l ⟨0, 0, 0⟩
  let copies := if old.lane = wfld m 49 3 ∧ old.seq = wfld m 52 4 then old.copies + 1 else 1
  let new : MarkReq := ⟨wfld m 49 3, wfld m 52 4, copies⟩
  let s := modPort p (fun q => { q with reqs := (List.range 5).map (fun i => if i = l then new else q.reqs.getD i ⟨0, 0, 0⟩) }) s
  if copies = 2 then trainReq p (wfld m 49 3) (wfld m 52 4) (reqBits m) s else s

/-- A training frame received with no own request outstanding counts towards the end of Pilot (R88). -/
def noteCalm (p : Nat) (m : W64) (s : State) : State :=
  if wfld m 0 6 = (s.port p).farCnt then s
  else
    let isOpen := (bitsOf 5 (s.upLanes p)).any (s.reqOpen p)
    modPort p (fun q => { q with farCnt := wfld m 0 6, calm := if isOpen then 0 else q.calm + 1 }) s

/-- A MARK block on receive lane l (R76, R81, R88, R95, R96). -/
def markReceive (p l : Nat) (m : W64) (s : State) : State :=
  if !blockOk m then badBlock p s
  else if wfld m 6 3 ≠ l then laneFail p l 6 s
  else if dPilot ≤ s.rx p ∧ s.rx p ≤ dBlock then noteMark p l m (noteReady p m (noteCalm p m (noteAnswer p m s)))
  else s

/-- The TRAIN blocks that follow a MARK checked against the scrambler sequence of their lane, when `PRBS_CTRL` asks for it (R83, R104). -/
def prbsCheck (p l : Nat) (trains : List (BitVec 72)) (s : State) : State :=
  let r := trainsErrors (seedOf l) (if bit (s.get (Obj.prbsCtrl p)) 1 then trains.map (·.toNat) else [])
  modPort p (fun q => { q with rxScr := q.rxScr.set l r.2 }) (s.addTo (Obj.prbsErr p l) r.1)

/-- A block whose TYPE reads MARK (R80). -/
def Line.isMark (b : Line) : Bool := b.hdr == 2 && fld b.body 64 8 == tyMark

/-- A training frame on lane l: its first block as received, and the TRAIN blocks after it as far as the receiver looks at them. The P and N wires
are found swapped in Pilot (R76, R83). -/
def frameReceive (p l : Nat) (b : Line) (trains : List (BitVec 72)) (s : State) : State :=
  let pol := s.get (Obj.rxPolarity p l)
  let c := if pol = 1 then b.swapped else b
  let flip := s.rx p = dPilot ∧ !c.isMark ∧ c.swapped.isMark
  let d := if flip then c.swapped else c
  if !d.isMark then syncCount p l s
  else
    let s := if flip then s.put (Obj.rxPolarity p l) (1 - pol) else s
    let s := returned p (.ctrl tyMark (w64 d.body) :: trains.map (fun _ => .ctrl tyTrain 0)) s
    markReceive p l (w64 d.body) (prbsCheck p l trains s)

/-- The effect of `TRAINING_MARK_RECEIVE` (R96). -/
def execTrainingMarkReceive (port : Fin 3) (lane : Fin 5) (f : TrainFrame) (s : State) : Host.Outcome State Fault Refusal :=
  .next (
    let p := port.val
    if s.listens p ∧ dPilot ≤ s.rx p ∧ lane.val < laneCount p then frameReceive p lane.val ⟨f.hdr.toNat, f.body.toNat⟩ f.trains s else s)

/-- Transmit lanes that carry training frames: those of a direction in Pilot or Bit lock, every lane while `PRBS_CTRL` generates them, and else
the lanes that the set has left behind as failed, which may be retrained (R88, R104, R110, log entry 105). -/
def State.trainLanes (s : State) (p : Nat) : Nat :=
  if !s.released 3 ∨ s.faults.lanesIdle ∨ s.tx p = dOff ∨ s.tx p = dDetect ∨ s.tx p = dEbb then 0
  else if s.tx p = dPilot ∨ s.tx p = dBit then s.upLanes p
  else if bit (s.get (Obj.prbsCtrl p)) 0 then 2 ^ laneCount p - 1
  else (s.port p).txOut

/-- Requests of the receive direction in Pilot, one at a time for each lane (R88). -/
def pilotRequests (p : Nat) (s : State) : State :=
  if s.rx p = dPilot then (bitsOf 5 (s.upLanes p)).foldl (fun s l => if s.reqOpen p l then s else freeRequest p l s) s else s

/-- One training frame leaves port p (R96): granted taps apply from it, and after 16 frames without a new request the transmitter goes on to Bit
lock (R88, log entry 103). -/
def trainPort (p : Nat) (s : State) : State :=
  let lanes := s.trainLanes p
  if lanes = 0 then s
  else
    let s := pilotRequests p (if s.tx p = dPilot then tapsApply p s else s)
    let s := modPort p (fun q => { q with frameCnt := (q.frameCnt + 1) % 64, quiet := q.quiet + 1, laneSent := [] }) s
    let s := sendFrame p lanes s
    if s.tx p = dPilot ∧ 16 ≤ (s.port p).quiet then setTx p dBit s else s

/-- One training frame leaves each port that trains (log entry 105). -/
def trainPorts (s : State) : State := trainPort 2 (trainPort 1 (trainPort 0 s))

/-- A SPAN notice with a good CHECK (R113): the ring map, the relay, and the stop of the node named in FAR. -/
def spanNotice (p : Nat) (n : W64) (s : State) : State :=
  let origin := wfld n 48 8
  let far := wfld n 40 8
  let up := bit n.toNat 39
  let key := (origin, wfld n 32 4)
  let s := (applySpan origin far up s).bump Obj.spanNoticeCnt
  let s := if origin = s.nodeNumber ∨ s.ring.relayed.contains key ∨ s.tx (1 - p) ≠ dActive then s
    else modRing (fun r => { r with relayed := key :: r.relayed }) (sendBlock (1 - p) tySpan n s)
  if far = s.nodeNumber ∧ far ≠ 0 then
    [0, 1].foldl (fun s q =>
      if s.farNode q = origin then
        (if up then outputReturn q (modPort q (fun x => { x with farStop := false }) s) else txDown q s)
      else s) s
  else s

/-- The effect of `SPAN_NOTICE_RECEIVE` (R113). -/
def execSpanNoticeReceive (port : Fin 3) (n : W64) (s : State) : Host.Outcome State Fault Refusal :=
  .next (
    let p := port.val
    if p < 2 ∧ s.listens p ∧ s.rxOpen p then (if blockOk n then spanNotice p n (returned p [.ctrl tySpan n] s) else badBlock p (returned p [.ctrl tySpan n] s)) else s)

/-- A direction of the ring map is one that frames leaving by a side take (R30). -/
def State.onSide (s : State) (side : Nat) (d : SpanDir) : Bool :=
  s.neighbour side d.far == d.origin || s.neighbour (1 - side) d.origin == d.far

/-- The effect of `RETURN_HOLD_EXPIRY` (R117): the directions of the way that leaves by a port which came back `RETURN_HOLD` ticks ago carry
asynchronous frames again. -/
def execReturnHoldExpiry (port : Fin 3) (s : State) : Host.Outcome State Fault Refusal :=
  .next (modRing (fun r => { r with spans := r.spans.map (fun d =>
    { d with
      hold := d.hold && !(s.onSide port.val d && decide (d.tick + s.get (Obj.returnHold port.val) ≤ s.tide.beat)) }) }) s)

/-- An EBB block of R100 for a set of lanes, four times on each of them; the transmitter then holds them in electrical idle. -/
def sleepLanes (p lanes : Nat) (s : State) : State :=
  modPort p (fun q => { q with txEbb := q.txEbb ||| lanes, txEbbAt := s.tide.clock })
    (sendLanes p lanes tyEbb 4 (fun _ => sealBlock (lanes * 2 ^ 51)) s)

/-- More than 100 ms have passed since a moment of `tide.clock` (R101). -/
def State.longAgo (s : State) (t : Nat) : Bool := decide (4000 < s.tide.clock - t)

/-- Lanes in Ebb are woken by a fast-exit burst; those that slept for more than 100 ms go on to training frames (R101). -/
def wakeLanes (p lanes : Nat) (s : State) : State :=
  if lanes = 0 then s
  else
    let late := s.longAgo (s.port p).txEbbAt
    sendFrame p lanes (modPort p (fun q => { q with txEbb := clearBits q.txEbb lanes, txOut := if late then q.txOut ||| lanes else q.txOut }) s)

/-- The effect of `LANEMAP_RECEIVE` (R101, R107): the new set from the next boundary or the one after; a spare in Ebb is woken. -/
def execLanemapReceive (port : Fin 3) (m : W64) (ready : Bool) (s : State) : Host.Outcome State Fault Refusal :=
  .next (
    let p := port.val
    if p < 2 ∧ s.tx p = dActive ∧ s.listens p ∧ s.rxOpen p then
      let s := returned p [.ctrl tyLanemap m] s
      (if blockOk m then
        let set := wfld m 51 5
        if laneNum set < 3 then s
        else modPort p (fun q => { q with nextSet := set, nextLater := !ready }) (wakeLanes p ((s.port p).txEbb &&& set) s)
      else badBlock p s)
    else s)

/-- The receiver takes a lane set from the TICK of a tick (R82, R106 to R108, R136, R153); the mooring link has lane 0 alone (R119). -/
def adoptSet (p set tick : Nat) (s : State) : State :=
  let old := s.get (Obj.rxSet p)
  if p = 2 ∨ set = old ∨ laneNum set < lanesNeeded p ∨ s.rx p ≠ dActive then s
  else
    let gone := bitsOf 5 (clearBits old set)
    let s := gone.foldl (fun s l => abandonLane p l s) (stampLaneStep p old set tick s)
    let failed := (s.port p).failing
    let s := (s.put (Obj.rxSet p) set).bump (Obj.spareSwitchCnt p)
    let s := modPort p (fun q => { q with failing := q.failing &&& set, reqSet := if q.reqSet = set then 0 else q.reqSet }) s
    let s := setDir p 2 (laneNum set = 3) (setDir p 4 (bit set 4) (markLanes p set s))
    if laneNum set = 3 then threeLanes p set s
    else (bitsOf 5 (failed &&& old)).foldl (fun s l => if bit set l then s else raise 0x01 (p * 16 + l) (s.get (Obj.failCause p l)) s) s

/-- The set that at least two lanes carry, if any (R82): when two sets do, the one on the lower lane, which is the model's choice (log entry 102). -/
def majoritySet (sets : List Nat) : Option Nat := sets.find? (fun v => decide (2 ≤ (sets.filter (· == v)).length))

/-- At a boundary, the transmitter takes the set it announced (R107): lanes that it leaves behind have failed at the receiver. -/
def txSetApply (p : Nat) (s : State) : State :=
  let q := s.port p
  if q.nextSet = 0 then s
  else if q.nextLater then modPort p (fun q => { q with nextLater := false }) s
  else
    let set := q.nextSet
    let old := s.get (Obj.txSet p)
    let s := modPort p (fun q => { q with nextSet := 0, txOut := clearBits (q.txOut ||| old) set }) (s.put (Obj.txSet p) set)
    threeLanes p set (setDir p 3 (laneNum set = 3) (setDir p 5 (bit set 4) s))

/-- LANEMAP repeated once per tick until TICK shows the set (R107). -/
def lanemapRepeat (p : Nat) (s : State) : State :=
  let n := (s.port p).reqSet
  if n ≠ 0 ∧ s.tx p = dActive then sendBlock p tyLanemap (sealBlock (n * 2 ^ 51)) s else s

/-- The idle spare of a transmit direction: locked by the far receiver in Harbour, not in the set, and not left behind (R89, R99). -/
def State.txSpare (s : State) (p : Nat) : Nat :=
  if p < 2 then clearBits (clearBits (fld (s.get (Obj.farHarbour p)) 32 5) (s.get (Obj.txSet p))) (s.port p).txOut else 0

/-- The idle spare goes into Ebb, or is woken from it, as `SPARE_EBB` says (R99 to R101). -/
def spareEbbStep (p : Nat) (s : State) : State :=
  let q := s.port p
  if p = 2 ∨ s.tx p ≠ dActive then s
  else if s.get (Obj.spareEbb p) = 1 then
    (if q.nextSet = 0 ∧ clearBits (s.txSpare p) q.txEbb ≠ 0 then sleepLanes p (clearBits (s.txSpare p) q.txEbb) s else s)
  else wakeLanes p q.txEbb s

/-- Both directions of a port take up a state with their lane sets kept (R100, R103). -/
def keepSets (p : Nat) (f : State → State) (s : State) : State :=
  ((f s).put (Obj.rxSet p) (s.get (Obj.rxSet p))).put (Obj.txSet p) (s.get (Obj.txSet p))

/-- The lanes of a ring port that is out of service sleep while it has no loop, no training and no loop to accept (R99, log entry 106). -/
def State.mayEbb (s : State) (p : Nat) : Bool :=
  decide (p < 2) && s.get (Obj.admin p) == 1 && s.get (Obj.loopMode p) == 0 && s.get (Obj.prbsCtrl p) == 0 && s.get (Obj.farLoopAccept p) == 0 &&
    !(s.port p).asked && !(s.port p).returning

/-- A transmit direction in Ebb is woken: it restarts at Block lock with its taps kept, or after more than 100 ms in Pilot (R101, log entry 106). -/
def wakePort (p : Nat) (s : State) : State :=
  if p < 2 ∧ s.tx p = dEbb then
    (if s.longAgo (s.port p).txEbbAt then txPilot p s
    else toHarbour p (setTx p dBlock (wakeLanes p (s.port p).txEbb s)))
  else s

/-- Entry of the lanes of an out-of-service ring port into Ebb, and exit from it, at a boundary (R99 to R101). -/
def portEbbStep (p : Nat) (s : State) : State :=
  if s.mayEbb p ∧ s.tx p = dActive then
    let lanes := s.get (Obj.txSet p) ||| s.txSpare p
    sleepLanes p lanes (keepSets p (txLeave p dEbb) s)
  else if s.mayEbb p then s
  else wakePort p s

/-- The effect of `EBB_BLOCK_RECEIVE` (R100): the lanes named are frozen and squelched. -/
def execEbbBlockReceive (port : Fin 3) (m : W64) (s : State) : Host.Outcome State Fault Refusal :=
  .next (
    let p := port.val
    if s.listens p ∧ (dHarbour ≤ s.rx p ∧ s.rx p ≤ dActive ∨ p = 2) then
      let s := returned p [.ctrl tyEbb m] s
      (if blockOk m then
        let lanes := wfld m 51 5
        let s := (bitsOf 5 lanes).foldl (fun s l =>
          let s := modLane p l (fun c => { c with ebbAt := s.tide.clock, retrain := 0 }) s
          if s.get (Obj.laneState p l) = 3 then s.put (Obj.laneState p l) 4 else s) s
        if s.get (Obj.rxSet p) ≠ 0 ∧ s.get (Obj.rxSet p) &&& lanes = s.get (Obj.rxSet p) then keepSets p (rxLeave p dEbb) s else s
      else badBlock p s)
    else s)

/-- The effect of `MOORING_NO_RECEIVER_TIMEOUT` (R99): Detect has found no receiver for 1 s. -/
def execMooringNoReceiverTimeout (s : State) : Host.Outcome State Fault Refusal :=
  .next (if s.tx 2 = dDetect then setTx 2 dEbb (sleepLanes 2 1 s) else s)

/-- A lane of a receive direction in Ebb after its burst (R101): with every lane of the set locked the direction goes on from Block lock; a lane that
does not lock, or that slept for more than 100 ms, takes the direction back through Pilot. -/
def wakeDir (p l : Nat) (good : Bool) (s : State) : State :=
  if good then
    let s := modLane p l (fun c => { c with retrain := dBlock }) s
    if (bitsOf 5 (s.get (Obj.rxSet p))).all (fun k => (s.laneCal p k).retrain == dBlock) then
      let s := (lanesOf p).foldl (fun s k => modLane p k (fun c => { c with retrain := 0 }) s) s
      toHarbour p (modPort p (fun q => { q with blockLocked := true, rxReady := true }) (setRx p dBlock s))
    else s
  else rxPilot p (s.put (Obj.failCause p l) 8)

/-- The effect of `EBB_EXIT_LOCK_RESULT` (R101, R107): a woken lane is ready, or goes back through Pilot with cause `WAKE_FAIL`; a set that named
it falls back to three lanes. -/
def execEbbExitLockResult (port : Fin 3) (lane : Fin 5) (locked : Bool) (s : State) : Host.Outcome State Fault Refusal :=
  .next (
    let p := port.val
    let l := lane.val
    let good := locked && !s.longAgo (s.laneCal p l).ebbAt
    if s.rx p = dEbb ∧ bit (s.get (Obj.rxSet p)) l then wakeDir p l good s
    else if s.get (Obj.laneState p l) = 4 then
      (if good then s.put (Obj.laneState p l) 3
      else
        let s := laneChanged p l ((s.put (Obj.laneState p l) 6).put (Obj.failCause p l) 8)
        let s := modLane p l (fun c => { c with retrain := dPilot }) s
        if bit (s.port p).reqSet l then requestSet p (s.lanesLeft p) s else s)
    else s)

/-- After a loop both directions of the span restart at Block lock with their taps kept (R103). -/
def loopEnd (p : Nat) (s : State) : State :=
  modPort p (fun q => { q with returning := false, asked := false }) (keepSets p (fun s => txLeave p dBlock (rxLeave p dBlock s)) s)

/-- A loop is open to port p (R102). -/
def State.loopAllowed (s : State) (p : Nat) : Bool := s.get (Obj.admin p) == 1 || s.node.mode == .slipway

/-- A LOOP block (R103): op 1 start, 2 stop. -/
def loopBlock (p op : Nat) (s : State) : State :=
  sendBlock p tyLoop (sealBlock (s.nodeNumber * 2 ^ 48 + s.farNode p * 2 ^ 40 + op * 2 ^ 38)) s

/-- `LOOP_MODE` written (R102, R103): a loop on a ring port only while the port is out of service or in Slipway. -/
def loopModeWrite (p v : Nat) (s : State) : State × Nat :=
  let old := s.get (Obj.loopMode p)
  if 3 < v then (s, ecValue)
  else if !s.loopAllowed p ∧ p ≠ 2 then (s, ecMode)
  else if v = old then (s, ecOk)
  else
    let s := wakePort p (s.put (Obj.loopMode p) v)
    let s := if old = 3 then loopBlock p 2 s else s
    let s := if old ≠ 0 then loopEnd p s else s
    if v = 0 then (s, ecOk)
    else if v = 3 then (modPort p (fun q => { q with asked := true }) (loopBlock p 1 s), ecOk)
    else (keepSets p (fun s => txLeave p dLoop (rxLeave p dLoop s)) s, ecOk)

/-- A LOOP block with a good CHECK (R103): the own start has come back; the far end starts a loop here, or stops it. -/
def loopReceive (p : Nat) (m : W64) (s : State) : State :=
  let op := wfld m 38 2
  let here := wfld m 40 8 = s.nodeNumber ∧ s.nodeNumber ≠ 0
  if wfld m 48 8 = s.nodeNumber ∧ (s.port p).asked ∧ op = 1 then keepSets p (rxLeave p dLoop) s
  else if here ∧ op = 1 ∧ s.get (Obj.farLoopAccept p) = 1 ∧ s.loopAllowed p then
    modPort p (fun q => { q with returning := true }) (keepSets p (txLeave p dLoop) (wakePort p s))
  else if here ∧ op = 2 ∧ (s.port p).returning then loopEnd p s
  else s

/-- The effect of `LOOP_REQUEST_RECEIVE` (R103). -/
def execLoopRequestReceive (port : Fin 3) (m : W64) (s : State) : Host.Outcome State Fault Refusal :=
  .next (
    let p := port.val
    if s.listens p ∧ dHarbour ≤ s.rx p then
      let s := returned p [.ctrl tyLoop m] s
      (if blockOk m then loopReceive p m s else badBlock p s)
    else s)

/-- The effect of `FAR_LOOP_TICK_TIMEOUT` (R103): no TICK for 4 ticks. -/
def execFarLoopTickTimeout (port : Fin 3) (s : State) : Host.Outcome State Fault Refusal :=
  .next (if (s.port port.val).returning then loopEnd port.val s else s)

/-- `FAR_LOOP_ACCEPT` cleared ends a far-end loop (R103). -/
def farLoopCleared (p : Nat) (s : State) : State := if (s.port p).returning then loopEnd p s else s

/-- `PRBS_CTRL` written (R104): bit 2 clears the counters and reads 0; lanes in Ebb wake for it. -/
def prbsWrite (p v : Nat) (s : State) : State × Nat :=
  if 7 < v then (s, ecValue)
  else
    let s := s.put (Obj.prbsCtrl p) (v % 4)
    let s := if v % 4 = 0 then s else wakePort p s
    (if bit v 2 then (lanesOf p).foldl (fun s l => s.put (Obj.prbsErr p l) 0) s else s, ecOk)

/-- `LANE_RETRAIN` written (R110): a failed lane that carries no traffic begins in Pilot on its own. -/
def laneRetrainWrite (p l : Nat) (s : State) : State × Nat :=
  if s.get (Obj.laneState p l) = 5 ∧ !bit (s.get (Obj.rxSet p)) l then
    let s := laneChanged p l ((s.put (Obj.laneState p l) 6).put (Obj.laneRetrain p l) stBusy)
    (modLane p l (fun c => { c with retrain := dPilot }) s, ecOk)
  else (s, ecStateBusy)

/-- The effect of `LANE_RETRAIN_COMPLETE` (R110): the lane has passed Pilot, Bit lock and now Block lock, and is the spare again, and back in the set
of a direction on three lanes. One that has not passed within 100 ms has failed again, and `LANE_RETRAIN` reads ABORTED (log entry 104). The one
lane of the mooring link is no spare (R119). -/
def execLaneRetrainComplete (port : Fin 3) (lane : Fin 5) (passed : Bool) (s : State) : Host.Outcome State Fault Refusal :=
  .next (
    let p := port.val
    let l := lane.val
    if s.get (Obj.laneState p l) = 6 then
      (if passed ∧ (s.laneCal p l).retrain = dBlock then
        let s := (s.put (Obj.laneState p l) (if p = 2 then 1 else 3)).put (Obj.failCause p l) 0
        let s := modLane p l (fun c => { c with retrain := 0 }) s
        let s := if s.get (Obj.laneRetrain p l) = stBusy then s.put (Obj.laneRetrain p l) stDone else s
        let set := s.get (Obj.rxSet p)
        if p ≠ 2 ∧ s.rx p = dActive ∧ laneNum set = 3 then requestSet p (setBit set l true) s else s
      else retrainFailed p l (s.get (Obj.failCause p l)) s)
    else s)

/-- `RETRAIN` written (R120): accepted only when the port is out of service or a direction is down. -/
def portRetrainWrite (p : Nat) (s : State) : State × Nat :=
  if s.get (Obj.admin p) = 1 ∨ s.rx p ≠ dActive ∨ s.tx p ≠ dActive then ((portRestart p s).put (Obj.retrain p) stDone, ecOk)
  else (s, ecStateBusy)

end Sys2Proof.Machine
end

