-- ==== Sys2Proof/Machine/Calibration.lean ====
section
/-! DEFINITION. Calibration in live traffic: axis scans, trials, slack water and the asymmetry of each span (04). -/

namespace Sys2Proof.Machine

/-- H or V of the last scan lies below a pair of thresholds (R127). -/
def State.eyeBelow (s : State) (p l : Nat) (h v : Nat) : Bool :=
  decide (s.get (Obj.eyeH p l) < h) || decide (s.get (Obj.eyeV p l) < v)
def State.belowWarn (s : State) (p l : Nat) : Bool := s.eyeBelow p l (s.get (Obj.eyeWarnH p)) (s.get (Obj.eyeWarnV p))
def State.belowFail (s : State) (p l : Nat) : Bool := s.eyeBelow p l (s.get (Obj.eyeFailH p)) (s.get (Obj.eyeFailV p))

/-- The figure of merit of R141. -/
def State.merit (s : State) (p l : Nat) : Nat := 4 * s.get (Obj.eyeH p l) + s.get (Obj.eyeV p l)

/-- Some lane of the set lay below the warning thresholds when it was last scanned (R127). -/
def State.lowMargin (s : State) (p : Nat) : Bool := (bitsOf 5 (s.get (Obj.rxSet p))).any (fun l => (s.laneCal p l).low)

/-- The trial of port p is changed. -/
def setTrial (p : Nat) (t : Trial) (s : State) : State :=
  let code := match t.st with | .requested => 1 | .scanning | .kept => 2 | _ => 3
  modCal p (fun c => { c with trial := some t }) (s.put (Obj.trialState p t.lane) code)

/-- The far coefficients, or the CTLE code, after an action of R139, if they stay within their limits. -/
def tapsAfter (taps action : Nat) : Option Nat :=
  let pre : Int := (tapPre taps : Int) + (if action = 3 then 1 else if action = 4 then -1 else 0)
  let main : Int := (tapMain taps : Int) + (if action = 5 then 1 else if action = 6 then -1 else 0)
  let post : Int := (tapPost taps : Int) + (if action = 1 then 1 else if action = 2 then -1 else 0)
  if pre < 0 ∨ 6 < pre ∨ main < 16 ∨ 32 < main ∨ post < 0 ∨ 12 < post ∨ 32 < pre + main + post then none
  else some (tapsOf pre.toNat main.toNat post.toNat)

/-- An action of R139 may be tried on a lane. -/
def State.actionOk (s : State) (p l action : Nat) : Bool :=
  let en := s.get (Obj.calEnable p)
  if action ≤ 6 then bit en 0 && (tapsAfter (s.laneCal p l).farTaps action).isSome
  else if action = 7 then bit en 1 && decide (s.get (Obj.ctleCode p l) < 15)
  else bit en 1 && decide (0 < s.get (Obj.ctleCode p l))

/-- The action bits of a TAPREQ for an action of R139: PRESET, PRE_ACT, MAIN_ACT, POST_ACT. -/
def actionBits (action : Nat) : Nat :=
  match action with
  | 1 => 1
  | 2 => 2
  | 3 => 16
  | 4 => 32
  | 5 => 4
  | 6 => 8
  | _ => 0

/-- The inverse of an action of R139. -/
def inverse (action : Nat) : Nat := if action % 2 = 1 then action + 1 else action - 1

/-- The action that a lane's next trial takes: its next in turn that may be tried (R139). -/
def State.nextAction (s : State) (p l : Nat) : Option Nat :=
  let n := s.get (Obj.trialNext p l)
  ((List.range 8).map (fun i => (n - 1 + i) % 8 + 1)).find? (s.actionOk p l)

/-- A trial begins when it is due (R138 to R140). -/
def trialStart (p : Nat) (s : State) : State :=
  let c := s.calPort p
  let gap := if s.lowMargin p then s.get (Obj.calIntervalLow p) else s.get (Obj.calInterval p)
  if c.trial.isSome ∨ s.tide.beat < c.ended + gap ∨ s.rx p ≠ dActive ∨ s.tx p ≠ dActive then s
  else
    let set := s.get (Obj.rxSet p)
    let order := (List.range 5).map (fun i => (c.turn + i) % 5)
    match order.find? (fun l => bit set l && (s.laneCal p l).scanned && (s.nextAction p l).isSome) with
    | none => s
    | some l =>
      match s.nextAction p l with
      | none => s
      | some a =>
        let s := modCal p (fun c => { c with turn := (l + 1) % 5 }) (s.put (Obj.trialNext p l) (a % 8 + 1))
        let s := if a ≤ 6 then newRequest p l (actionBits a) s else s
        setTrial p ⟨l, a, .requested, s.merit p l, 0, (s.laneCal p l).farTaps, false⟩ s

/-- A revert that is due is requested (R140 step 5). -/
def trialRevert (p : Nat) (s : State) : State :=
  match (s.calPort p).trial with
  | some t =>
    if t.st = .toRevert ∧ t.action ≤ 6 then
      setTrial p { t with st := .reverting, sent := 0, taps0 := (s.laneCal p t.lane).farTaps }
        (newRequest p t.lane (actionBits (inverse t.action)) s)
    else s
  | none => s

/-- The requests of the far end are handled as the TAPREQ words are formed; granted taps apply at the next boundary (R96, R97). -/
def handleFar (p l : Nat) (s : State) : State :=
  match (s.laneCal p l).farReq with
  | none => s
  | some (seq, req) => answerReq p l seq req s

/-- The lanes whose adaptation still asks for taps in slack water: those of a direction in Pilot, and those that are retrained on their own, at most
one change in a tick (R88, R110, R143). -/
def State.adaptLanes (s : State) (p : Nat) : Nat :=
  if s.rx p = dPilot then s.upLanes p else lanesWhere p (fun l => (s.laneCal p l).retrain == dPilot)

/-- Their requests, one at a time for each lane. -/
def slackRequests (p : Nat) (s : State) : State :=
  (bitsOf 5 (s.adaptLanes p)).foldl (fun s l => if s.reqOpen p l then s else freeRequest p l s) s

/-- The CAL words of a transmit slack water (R131, R146). -/
def State.calWords (s : State) (p : Nat) (moved : Bool) (txOff : Nat) : List W64 :=
  let c := s.calPort p
  let ref := match c.ref with
    | some (n, q) => n * 2 ^ 44 + q * 2 ^ 32 + txOff
    | none => 2 ^ 52
  let rep := 2 ^ 54 + b2n c.valid * 2 ^ 53 + c.win % 16 * 2 ^ 48 + s.get (Obj.asymSamples p) * 2 ^ 32 + ofSigned 32 (s.getI (Obj.qMean p))
  [sealBlock (b2n moved * 2 ^ 53 + ref), sealBlock rep]

/-- Own asynchronous frames that could not start before slack water are deferred and counted once (R47). -/
def deferFrames (p : Nat) (s : State) : State :=
  let late := fun (j : Job) => j.own && j.output == p && !j.sched && !j.deferred
  let n := (s.hold.jobs.filter late).length
  modHold (fun h => { h with jobs := h.jobs.map (fun j => if late j then { j with deferred := true } else j) }) (s.addTo Obj.asyncDeferCnt n)

/-- The word positions of a transmit slack water: on a ring port positions 0 to 20, of which 21 and those after it carry IDLE (R131); on the mooring
link its one TAPREQ and its PSTEP words (R154). -/
def State.slackWords (s : State) (p txOff : Nat) : List Sym :=
  let idle : Sym := .ctrl tyIdle 0
  let taps := (lanesOf p).map (fun l => Sym.ctrl tyTapreq (s.reqWord p l 0))
  let steps := ((s.calPort p).psteps.take 6).map (Sym.ctrl tyPstep)
  if p < 2 then
    List.replicate 8 idle ++ taps ++ steps ++ List.replicate (6 - steps.length) idle ++
      (s.calWords p s.boundaryMoved txOff).map (Sym.ctrl tyCal)
  else taps ++ ((s.calPort p).psteps).map (Sym.ctrl tyPstep)

/-- The transmit slack water of port p (R131, R154). -/
def slackStart (p txOff : Nat) (s : State) : State :=
  let s := slackRequests p (trialRevert p (trialStart p (if p < 2 then deferFrames p s else s)))
  let s := (lanesOf p).foldl (fun s l => handleFar p l s) s
  let words := s.slackWords p txOff
  let s := if s.nearLoop p then turnBack p words s else s
  let s := modCal p (fun c => { c with slack := words, psteps := if p < 2 then c.psteps.drop 6 else [] }) s
  match (s.calPort p).trial with
  | some t => if t.st = .requested ∨ t.st = .reverting then setTrial p { t with sent := t.sent + 1 } s else s
  | none => s

/-- The effect of `SLACK_WATER_START` (R131). -/
def execSlackWaterStart (port : Fin 3) (txOff : BitVec 32) (s : State) : Host.Outcome State Fault Refusal :=
  .next (if s.tx port.val = dActive then slackStart port.val txOff.toNat s else s)

/-- A trial's change or revert stands: it is scanned next (R140, R142). -/
def trialScans (p : Nat) (t : Trial) (s : State) : State :=
  setTrial p { t with st := if t.st = .requested then .scanning else .rescan } s

/-- New far taps stand from the next TICK: a new map begins (R125, R140, R142). -/
def trialApplied (p : Nat) (t : Trial) (s : State) : State := trialScans p t (laneChanged p t.lane s)

/-- The answer of the far end to a trial's request (R140, R142). A refusal of a revert ends the trial too, with the change left standing: R142
speaks of the first request only (log entry 107). -/
def trialAnswer (p l : Nat) (m : W64) (s : State) : State :=
  match (s.calPort p).trial with
  | some t =>
    if t.lane = l ∧ t.action ≤ 6 ∧ (t.st = .requested ∨ t.st = .reverting) ∧ wfld m 34 4 = (s.laneCal p l).reqSeq ∧ wfld m 29 3 = l then
      (if wfld m 32 2 = 1 then modLane p l (fun c => { c with announced := true }) (trialApplied p t s)
      else if wfld m 32 2 = 0 then s
      else endTrial p s)
    else s
  | none => s

/-- A received TAPREQ word (R95, R131). -/
def tapreqReceive (p : Nat) (m : W64) (s : State) : State :=
  if !blockOk m then badBlock p s
  else
    let l := wfld m 6 3
    if laneCount p ≤ l then s
    else
      let s := noteReady p m (noteAnswer p m (trialAnswer p l m s))
      if wfld m 52 4 = (s.laneCal p l).ackSeq then s
      else if s.tx p = dPilot ∨ s.tx p = dBit then trainReq p l (wfld m 52 4) (reqBits m) s
      else modLane p l (fun c => { c with farReq := some (wfld m 52 4, reqBits m) }) s

/-- A received PSTEP word is recorded, and added up when it moves the stamps (R133, R137). -/
def pstepReceive (p : Nat) (m : W64) (s : State) : State :=
  if !blockOk m then badBlock p s
  else
    let s := modCal p (fun c => { c with pstepsIn := c.pstepsIn ++ [m] }) s
    if bit m.toNat 52 then s.putI (Obj.farPstepSum p) (s.getI (Obj.farPstepSum p) + toSigned 16 (wfld m 32 16)) else s

/-- m of the span of port p once both means of a window are known (R147). -/
def spanMean (p : Nat) (s : State) : State :=
  let d := s.getI (Obj.qFarMean p) - s.getI (Obj.qMean p)
  s.putI (Obj.asymSpan p) (if p = 0 then d else -d)

/-- RX_OFFSET of the header that a CAL word names, when it was received in the tick (R145). -/
def State.rxOffset (s : State) (p : Nat) (m : W64) : Option Int :=
  ((s.calPort p).heads.find? (fun h => h.1 == wfld m 44 8 && h.2.1 == wfld m 32 12)).map (·.2.2)

/-- The sample that a CAL word of KIND 0b00 gives (R145): none for an invalid one. TX_OFFSET has units of 2^-12 ns. -/
def State.calSample (s : State) (p : Nat) (m : W64) : Option Int :=
  if bit m.toNat 52 ∨ bit m.toNat 53 ∨ s.boundaryMoved then none
  else (s.rxOffset p m).map (fun r => r - (wfld m 0 32 : Int) * 16)

/-- A received CAL word (R133, R145, R146). -/
def calReceive (p : Nat) (m : W64) (s : State) : State :=
  if !blockOk m then badBlock p s
  else if wfld m 54 2 = 0 then
    (match s.calSample p m with
     | some q => modCal p (fun c => { c with sum := c.sum + q, count := c.count + 1 }) s
     | none => s)
  else if wfld m 54 2 = 1 then
    let s := modCal p (fun c => { c with farWin := wfld m 48 4, farValid := bit m.toNat 53 }) s
    spanMean p (s.putI (Obj.qFarMean p) (toSigned 32 (wfld m 0 32)))
  else s

/-- The CTLE code of a trial changed or restored at the move point; the size of the step it gives is the receiver's (log entry 3). -/
def ctleMove (p : Nat) (t : Trial) (s : State) : State :=
  let a := if t.st = .requested then t.action else inverse t.action
  let code := s.get (Obj.ctleCode p t.lane)
  let s := s.put (Obj.ctleCode p t.lane) (if a = 7 then code + 1 else code - 1)
  let d := s.draw
  let s := moveSampler p t.lane 1 (toSigned 16 (d.1.toNat % 2 ^ 16)) d.2
  trialScans p t (modLane p t.lane (fun c => { c with scanned := false }) s)

/-- The trial at the move point (R140). -/
def trialMove (p : Nat) (s : State) : State :=
  match (s.calPort p).trial with
  | none => s
  | some t =>
    if t.st = .kept then endTrial p s
    else if 7 ≤ t.action ∧ (t.st = .requested ∨ t.st = .toRevert) then ctleMove p t s
    else s

/-- A trial scan of lane l is still running (R130). -/
def State.trialScanning (s : State) (p l : Nat) : Bool :=
  match (s.calPort p).trial with
  | some t => t.lane == l && (t.st == .scanning || t.st == .rescan)
  | none => false

/-- A lane's recentring at the move point, unless new taps are announced or its trial scan runs (R130, R132). -/
def recentre (p l : Nat) (s : State) : State :=
  let c := s.laneCal p l
  let busy := s.trialScanning p l
  let s := modLane p l (fun c => { c with announced := false }) s
  if c.move = 0 ∨ c.announced ∨ busy then s
  else modLane p l (fun c => { c with move := 0, scanned := false }) (moveSampler p l 0 c.move s)

/-- A received slack water in stream order (R132). -/
def slackReceive (p : Nat) (taps steps cals : List W64) (s : State) : State :=
  let s := taps.foldl (fun s m => tapreqReceive p m s) s
  let s := steps.foldl (fun s m => pstepReceive p m s) (modCal p (fun c => { c with pstepsIn := [] }) s)
  let s := if p < 2 then cals.foldl (fun s m => calReceive p m s) s else s
  (lanesOf p).foldl (fun s l => recentre p l s) (trialMove p s)

/-- The effect of `SLACK_WATER_RECEIVE` (R132). -/
def execSlackWaterReceive (port : Fin 3) (idles taps steps calRef calRep : List W64) (s : State) : Host.Outcome State Fault Refusal :=
  .next (
    let p := port.val
    let cals := calRef ++ calRep
    if s.listens p ∧ s.rxOpen p then
      slackReceive p taps steps cals
        (returned p (idles.map (.ctrl tyIdle) ++ taps.map (.ctrl tyTapreq) ++ steps.map (.ctrl tyPstep) ++ cals.map (.ctrl tyCal)) s)
    else s)

/-- The effect of `TRIAL_ANSWER_TIMEOUT` (R142): no answer within 8 ticks, to the request of the change or, as the model has it, of its revert
(log entry 107). -/
def execTrialAnswerTimeout (port : Fin 3) (lane : Fin 5) (s : State) : Host.Outcome State Fault Refusal :=
  .next (
    let p := port.val
    match (s.calPort p).trial with
    | some t =>
      if t.lane = lane.val ∧ t.action ≤ 6 ∧ 8 ≤ t.sent ∧ (t.st = .requested ∨ t.st = .reverting) then
        (if (s.laneCal p t.lane).farTaps ≠ t.taps0 then trialApplied p t s else abandonTrial p s)
      else s
    | none => s)

/-- The verdict on a trial's scan (R140, R141, R144): whether the scan counts towards a failure of the lane, and the state. -/
def trialScan (p l : Nat) (s : State) : Bool × State :=
  match (s.calPort p).trial with
  | none => (true, s)
  | some t =>
    if t.lane ≠ l then (true, s)
    else if t.st = .scanning then
      (if s.belowFail p l then (false, setTrial p { t with st := .toRevert, closed := true } (s.bump (Obj.calRevertCnt p)))
      else if t.qBase + s.get (Obj.calGainMin p) ≤ s.merit p l then (true, setTrial p { t with st := .kept } (s.bump (Obj.calKeepCnt p)))
      else (true, setTrial p { t with st := .toRevert } (s.bump (Obj.calRevertCnt p))))
    else if t.st = .rescan then
      (let s := endTrial p s
       if t.closed ∧ s.belowFail p l then (false, laneFail p l 7 s) else (true, s))
    else (true, s)

/-- Lanes that meet the Pilot exit figures (R126). -/
def State.pilotLanes (s : State) (p : Nat) : Nat :=
  lanesWhere p (fun l => bit (s.upLanes p) l && (s.laneCal p l).scanned && decide (20 ≤ s.get (Obj.eyeH p l)) && decide (30 ≤ s.get (Obj.eyeV p l)))

/-- A lane is scanned by the monitor: training, carrying, an idle spare or being retrained. -/
def State.monitored (s : State) (p l : Nat) : Bool :=
  let st := s.get (Obj.laneState p l)
  decide (l < laneCount p) && (st == 1 || st == 2 || st == 3 || st == 6)

/-- Open points in a row from the first of a list of counts on: a point is open when its count is zero (R124). -/
def openRun : List Nat → Nat
  | 0 :: t => openRun t + 1
  | _ => 0

/-- What an axis scan gives (R126): H in 1/64 UI, V in mV, and the centre c in steps. -/
structure Eye where
  h : Nat
  v : Nat
  c : Int
  deriving DecidableEq, Repr

/-- The counts of an axis scan, outward from the middle point: phase offsets in steps of 2 to each side, voltage offsets in steps of 5 mV
(R123, R125). -/
structure Scan where
  mid : Nat
  left : List Nat
  right : List Nat
  down : List Nat
  up : List Nat
  deriving DecidableEq, Repr

/-- H, V and c of an axis scan (R124, R126): the open points about the middle one. Where the middle point is not open no range is stated, and the
three figures are free values (log entry 108). -/
def eyeOf (a : Scan) (s : State) : Eye × State :=
  if a.mid = 0 then
    let l := openRun (a.left.take 16)
    let r := openRun (a.right.take 16)
    (⟨2 * (l + r), 5 * (openRun (a.down.take 30) + openRun (a.up.take 30)), (r : Int) - l⟩, s)
  else
    let d := s.draw
    let free := d.1.toNat
    (⟨fld free 0 7, fld free 8 8, toSigned 6 (fld free 16 6)⟩, d.2)

/-- The scan of a lane against the warning thresholds (R127): one record until a scan is above both. A carrying lane below them fails item 0 of an
Anchored chip's self-test (R420). -/
def warnScan (p l : Nat) (e : Eye) (s : State) : State :=
  let low := s.belowWarn p l
  let s := modLane p l (fun x => { x with low := low, warned := x.warned && low }) s
  if low then
    let s := s.bump (Obj.lowMarginCnt p l)
    let s := if s.get (Obj.laneState p l) = 2 then selfTestFail 0 s else s
    if (s.laneCal p l).warned then s
    else modLane p l (fun x => { x with warned := true }) (raise 0x06 (p * 16 + l) (capAt 255 e.h * 256 + capAt 255 e.v) s)
  else s

/-- Two scans in a row of a carrying lane, or of an idle spare, below the fail thresholds fail it (R127, R143). -/
def failScan (p l : Nat) (s : State) : State :=
  let st := s.get (Obj.laneState p l)
  if (st = 2 ∨ st = 3) ∧ s.belowFail p l then
    let s := modLane p l (fun x => { x with bad := x.bad + 1 }) s
    if 2 ≤ (s.laneCal p l).bad then laneFail p l 7 s else s
  else modLane p l (fun x => { x with bad := 0 }) s

/-- What Pilot's adaptation leaves on a lane: its CTLE code and its sampler position, whole-UI deskew included, which no rule states (R85, R88, R98,
R156, log entry 3). -/
def lockLane (p l : Nat) (s : State) : State :=
  let d := s.draw
  (d.2.put (Obj.ctleCode p l) (fld d.1.toNat 0 4)).putI (Obj.samplerPos p l) (toSigned 16 (fld d.1.toNat 16 16))

/-- A direction leaves Pilot when enough lanes meet its exit figures and no own tap request has been open for 16 training frames; a lane that is
retrained on its own leaves it when it meets them with no request open (R88, R110, R126). -/
def pilotExit (p l : Nat) (s : State) : State :=
  if s.rx p = dPilot then
    (if 16 ≤ (s.port p).calm ∧ lanesNeeded p ≤ laneNum (s.pilotLanes p) then
      setRx p dBit ((bitsOf 5 (s.upLanes p)).foldl (fun s k => lockLane p k s) s)
    else s)
  else if (s.laneCal p l).retrain = dPilot ∧ bit (s.pilotLanes p) l ∧ !s.reqOpen p l then
    modLane p l (fun c => { c with retrain := dBit }) (lockLane p l s)
  else s

/-- An axis scan ends (R126, R127, R130, R141, R144). -/
def axisScan (p l : Nat) (a : Scan) (s : State) : State :=
  let r := eyeOf a s
  let e := r.1
  let s := (r.2.put (Obj.eyeH p l) e.h).put (Obj.eyeV p l) e.v
  let s := modLane p l (fun x => { x with
      axis := true, scanned := true, phase := (a.left.take 16).reverse ++ a.mid :: a.right.take 16, volt := (a.down.take 30).reverse ++ a.mid :: a.up.take 30, move := if 2 ≤ e.c.natAbs then clampInt (-4) 4 e.c else 0 }) s
  let s := { s with twin := { s.twin with eyeHMin := Nat.min s.twin.eyeHMin e.h, eyeVMin := Nat.min s.twin.eyeVMin e.v } }
  let s := warnScan p l e s
  if s.rx p = dPilot ∨ s.get (Obj.laneState p l) = 6 then pilotExit p l s
  else
    let r := trialScan p l s
    if r.1 then failScan p l r.2 else r.2

/-- The effect of `AXIS_SCAN_COMPLETE` (R126): once for each map. -/
def execAxisScanComplete (port : Fin 3) (lane : Fin 5) (mid : Nat) (left right down up : List Nat) (s : State) :
    Host.Outcome State Fault Refusal :=
  .next (
    let p := port.val
    let l := lane.val
    if s.monitored p l ∧ !(s.laneCal p l).axis then axisScan p l ⟨mid, left, right, down, up⟩ s else s)

/-- A map whose points on the axes are those of its scan (R125, R156): rows from 150 mV down, each from phase -32 to 32, counts capped at 255. -/
def mapBytes (phase volt : List Nat) (points : List Byte) : List Byte :=
  (List.range 2013).map (fun i =>
    if i / 33 = 30 then BitVec.ofNat 8 (capAt 255 (phase.getD (i % 33) 0))
    else if i % 33 = 16 then BitVec.ofNat 8 (capAt 255 (volt.getD (60 - i / 33) 0))
    else points.getD i 0)

/-- The effect of `EYE_MAP_COMPLETE` (R125): the map is kept and the next one begins. -/
def execEyeMapComplete (port : Fin 3) (lane : Fin 5) (points : List Byte) (s : State) : Host.Outcome State Fault Refusal :=
  .next (
    let p := port.val
    let l := lane.val
    let c := s.laneCal p l
    if s.monitored p l ∧ c.axis then newMap p l (s.putBlob (Obj.eyeMap p l) (mapBytes c.phase c.volt points)) else s)

/-- A DFE tap changed by 1 mV within its range (R128). -/
def dfeStep (taps i : Nat) (up down : Bool) : Nat :=
  let lim : Int := if i = 0 then 63 else 31
  let t := toSigned 8 (fld taps (8 * i) 8)
  let t2 := clampInt (-lim) lim (t + (if up then 1 else 0) - (if down then 1 else 0))
  taps - fld taps (8 * i) 8 * 2 ^ (8 * i) + ofSigned 8 t2 * 2 ^ (8 * i)

/-- The equalisers of port p are frozen: in Ebb and during a loop, at either end of it (R98, R128). -/
def State.eqFrozen (s : State) (p : Nat) : Bool := s.rx p == dLoop || s.rx p == dEbb || (s.port p).returning || (s.port p).asked

/-- The effect of `DFE_UPDATE` (R98, R128): frozen in Ebb and during a loop. -/
def execDfeUpdate (port : Fin 3) (lane : Fin 5) (up down : BitVec 5) (s : State) : Host.Outcome State Fault Refusal :=
  .next (
    let p := port.val
    let l := lane.val
    if s.monitored p l ∧ !s.eqFrozen p then
      s.put (Obj.dfeTaps p l) ((List.range 5).foldl (fun t i => dfeStep t i (bit up.toNat i) (bit down.toNat i)) (s.get (Obj.dfeTaps p l)))
    else s)

/-- The effect of `ASYM_WINDOW_END` (R147): the mean of the valid samples of the window that has just ended; that of a window without one is 0,
which is the model's choice (log entry 109). -/
def execAsymWindowEnd (port : Fin 3) (s : State) : Host.Outcome State Fault Refusal :=
  .next (
    let p := port.val
    if p < 2 ∧ s.tide.tick % 64 = 0 ∧ 64 ≤ s.tide.tick then
      let c := s.calPort p
      let s := (s.putI (Obj.qMean p) (if c.count = 0 then 0 else roundDiv c.sum c.count)).put (Obj.asymSamples p) c.count
      modCal p (fun c => { c with sum := 0, count := 0, win := s.tide.tick / 64 - 1, valid := decide (16 ≤ c.count) }) s
    else s)

/-- A frame sent in both directions with one SEQ (R14, R118, R148), room and paths given. -/
def sendBoth (dport : Nat) (pay : List PWord) (s : State) : State :=
  let q := nextSeqOf 2 s
  let f : Frame := ⟨mkHdr 255 s.nodeNumber dport 2 q.1 pay.length s.ttl 8, pay, mkTrl s.tide.tick pay⟩
  enqueue 7 1 .node (Frame.words f) (enqueue 7 0 .node (Frame.words f) q.2)

/-- An asymmetry survey kept, the latest of each node. -/
def keepSurvey (v : AsymSurvey) (s : State) : State :=
  { s with cal := { s.cal with surveys := s.cal.surveys.filter (fun e => e.node != v.node) ++ [v] } }

/-- The own asymmetry survey of the last window (R147, R148). -/
def State.ownSurvey (s : State) : AsymSurvey :=
  let c := s.calPort 0
  ⟨s.nodeNumber, s.getI (Obj.asymSpan 0), ofSigned 32 (s.getI (Obj.qFarMean 0) + s.getI (Obj.qMean 0)), s.fixedOf 0, s.farNode 0,
   (s.tide.tick / 64 - 1) % 16, c.valid && c.farValid && c.win % 16 == c.farWin && bit (s.get (Obj.calEnable 0)) 2⟩

/-- The payload of an asymmetry survey (R148). -/
def AsymSurvey.words (v : AsymSurvey) : List PWord :=
  [pw (w64 (ofSigned 32 v.m * 2 ^ 32 + v.rt % 2 ^ 32)),
   pw (w64 (ofSigned 32 v.f * 2 ^ 32 + v.eastNb * 2 ^ 24 + v.win * 2 ^ 20 + b2n v.valid * 2 ^ 19))]

/-- The effect of `ASYM_SURVEY_SEND` (R148): in tick 64(w + 1) + 1. -/
def execAsymSurveySend (s : State) : Host.Outcome State Fault Refusal :=
  .next (if s.released 4 ∧ s.tide.tick % 64 = 1 ∧ 65 ≤ s.tide.tick ∧ 4 ≤ s.ownRoom 7 2 then
    sendBoth 0xFD s.ownSurvey.words (keepSurvey s.ownSurvey s)
  else s)

/-- What an asymmetry survey of another node brings (R148, R155). -/
def asymSurveyTake (f : Frame) (s : State) : State :=
  let w0 := Frame.word f 0
  let w1 := Frame.word f 1
  let v : AsymSurvey := ⟨hSnode f.hdr, toSigned 32 (wfld w0 32 32), wfld w0 0 32, toSigned 32 (wfld w1 32 32), wfld w1 24 8, wfld w1 20 4,
    bit w1.toNat 19⟩
  let s := if v.node = s.farNode 1 ∧ v.node ≠ 0 then s.putI (Obj.asymFixed 1) v.f else s
  keepSurvey v s

/-- The survey of a node that counts for a window (R149, R151). -/
def State.surveyFor (s : State) (win n : Nat) : Option AsymSurvey :=
  s.cal.surveys.find? (fun v => v.node == n && v.win == win && v.valid)

/-- A limit in ps as units of 2^-16 ns. -/
def psUnits (n : Nat) : Nat := n * 65536 / 1000

/-- The estimate of a span (R149). -/
def AsymSurvey.est (v : AsymSurvey) (e : Int) (rtSum : Nat) : Int := v.f + (if rtSum = 0 then 0 else roundDiv (e * v.rt) rtSum)

/-- The estimates of the spans, as the own ports show them (R149, R155). -/
def estimates (vs : List AsymSurvey) (e : Int) (rtSum : Nat) (s : State) : State :=
  vs.foldl (fun s v =>
    let s := if v.node = s.nodeNumber then s.putI (Obj.asymEst 0) (v.est e rtSum) else s
    if v.node = s.farNode 1 then s.putI (Obj.asymEst 1) (v.est e rtSum) else s) s

/-- The values in use moved towards the estimates (R150). -/
def alphaStep (vs : List AsymSurvey) (e : Int) (rtSum : Nat) (s : State) : State :=
  let lim : Int := psUnits (s.get Obj.asymSlew)
  vs.foldl (fun s v => setAlpha v.node (s.alpha v.node + clampInt (-lim) lim (v.est e rtSum - s.alpha v.node)) s) s

/-- `ASYM_STATE` of both ring ports. -/
def asymState (n : Nat) (s : State) : State := (s.put (Obj.asymState 0) n).put (Obj.asymState 1) n

/-- The computation of R149 with its freeze conditions (R151). -/
def asymCompute (s : State) : State :=
  let win := s.tide.tick / 64 - 1
  let found := s.mapNodes.map (s.surveyFor (win % 16))
  let vs := found.filterMap id
  let m := vs.foldl (fun a v => a + v.m) (0 : Int)
  let rt := vs.foldl (fun a v => a + v.rt) 0
  let f := vs.foldl (fun a v => a + v.f) (0 : Int)
  let e := m - f
  let whole := vs.length = s.mapNodes.length
  let beyond := psUnits (s.get Obj.asymResidLimit) < e.natAbs
  let s := s.put Obj.asymWindow win
  let s := if whole then ((s.putI Obj.asymRingM m).put Obj.asymRingRt (rt / 256)).putI Obj.asymRingF f |>.putI Obj.asymResid e |> estimates vs e rt else s
  let frozen := s.cal.brokenWas ∨ !whole ∨ s.get Obj.asymFreeze = 1 ∨ beyond
  if frozen then
    let s := asymState 2 (s.bump Obj.asymFrozenCnt)
    if whole ∧ beyond then raise 0x07 0 (ofSigned 32 e) s else s
  else asymState 1 (alphaStep vs e rt s)

/-- The effect of `ASYM_COMPUTE` (R149): at the boundary of tick 64(w + 1) + 8. -/
def execAsymCompute (s : State) : Host.Outcome State Fault Refusal :=
  .next (if s.tide.tick % 64 = 8 ∧ 72 ≤ s.tide.tick then asymCompute s else s)

end Sys2Proof.Machine
end

