-- ==== Sys2Proof/Machine/Time.lean ====
section
/-! DEFINITION. The time unit: time and echo words, domains and their switches, PPS, captures and pulse generators (11). -/

namespace Sys2Proof.Machine

/-- Picoseconds in units of 2^-16 ns. -/
def psInt (n : Int) : Int := n * 65536 / 1000

/-- d_in of ring port p in 2^-16 ns, once 16 round trips have been sampled (R387). -/
def State.delayIn (s : State) (p : Nat) : Option Int :=
  if 16 ≤ s.get (Obj.rtSamples p) then some ((s.get (Obj.linkRt p) : Int) / 2 + s.getI (Obj.asymApplied p)) else none

/-- The CHECK of eight time or echo words: CRC-32C over words 0 to 6 (R384, R386). -/
def checkEight (ws : List Cargo) : Bool :=
  ws.length == 8 && wfld (ws.getD 7 Cargo.empty).data 0 32 == crc32c (bytesOfWords ((ws.take 7).map (·.data)))

/-- DATA of word i. -/
def dat (ws : List Cargo) (i : Nat) : W64 := (ws.getD i Cargo.empty).data

/-- The effect of `TIME_WORDS_RECEIVE` (R384, R390): the words are kept for the boundary when they are usable; a failed CHECK is counted. -/
def execTimeWordsReceive (port : Fin 2) (fields rest : List Cargo) (check : Cargo) (s : State) : Host.Outcome State Fault Refusal :=
  .next (
    let p := port.val
    let words := fields ++ rest ++ [check]
    let w0 := dat words 0
    let d := b2n (bit w0.toNat 48)
    let s := returned p (words.map .word) s
    if !s.listens p ∨ !s.rxOpen p then s
    else if !checkEight words then s.bump (Obj.domWordsBadCnt d)
    else
      let w1 := dat words 1
      let w3 := dat words 3
      let ok := !words.any (·.p) && bit w3.toNat 3 && wfld w0 49 3 != 3 && (s.port p).stamp.isSome && (s.delayIn p).isSome
      let t : TimeWords := ⟨wfld w0 56 8, wfld w0 49 3, timeOf (wfld w0 0 48) (wfld w1 0 32) (wfld w1 32 16), wfld (dat words 2) 48 16,
        wfld (dat words 2) 0 48, wfld w3 16 8, wfld w3 4 2, bit w3.toNat 3, b2n (bit w3.toNat 0), ok, (s.port p).stamp.getD 0⟩
      modTime (fun x => { x with words := x.words.set (p * 2 + d) (some t) }) s)

/-- A round-trip sample of a span (R387). -/
def rtSample (p : Nat) (v : Int) (s : State) : State :=
  let n := s.get (Obj.rtSamples p)
  let sum := (if n = 0 then 0 else s.time.rtSum.getD p 0) + v
  let s := modTime (fun x => { x with rtSum := x.rtSum.set p sum }) (s.bump (Obj.rtSamples p))
  if n + 1 < 16 then s
  else if n + 1 = 16 then s.put (Obj.linkRt p) (sum / 16).toNat
  else s.put (Obj.linkRt p) ((s.get (Obj.linkRt p) : Int) + (v - (s.get (Obj.linkRt p) : Int)) / 16).toNat

/-- The walk round the ring eastward and the transit it gives (R388). -/
def walkStep (p : Nat) (ws : List Cargo) (s : State) : State :=
  let w3 := dat ws 3
  let w4 := dat ws 4
  let origin := wfld w3 56 8
  let hops := wfld w3 48 8
  let din := match s.delayIn p with | some d => (d / 256).toNat | none => 0
  let total := wfld w3 0 48 + din
  let s :=
    if p = 0 ∨ origin = 0 then s
    else if origin = s.nodeNumber then
      (if hops = s.ringNodes then
        let ns := (total + 255) / 256
        let q := (s.time.transit.2.1 + 1) % 256
        let s := modTime (fun x => { x with transit := (origin, q, ns) }) s
        if s.ringClosed then s.put Obj.ringTransitMeas ns else s
      else s)
    else modTime (fun x => { x with walk := some (origin, (hops + 1) % 256, total + 176 * 256) }) s
  let ahead := (wfld w4 48 8 + 256 - s.time.transit.2.1) % 256
  if 1 ≤ ahead ∧ ahead ≤ 127 then
    let s := modTime (fun x => { x with transit := (wfld w4 56 8, wfld w4 48 8, wfld w4 0 32) }) s
    if s.ringClosed then s.put Obj.ringTransitMeas (wfld w4 0 32) else s
  else s

/-- The sample that echo words give with the own stamp of the same TICK (R386, R387): none for an invalid one. -/
def State.echoSample (s : State) (p : Nat) (ws : List Cargo) : Option Int :=
  let w2 := dat ws 2
  if wfld (dat ws 0) 0 48 = (s.tide.tick + 2 ^ 48 - 1) % 2 ^ 48 ∧ bit w2.toNat 0 ∧ !bit w2.toNat 1 ∧ !s.time.wasJumped then
    (s.port p).lastStamp.map (fun own => own + toSigned 64 (dat ws 1).toNat)
  else none

/-- The effect of `ECHO_WORDS_RECEIVE` (R387, R388). -/
def execEchoWordsReceive (port : Fin 2) (fields : List Cargo) (walk : Cargo) (rest : List Cargo) (check : Cargo) (s : State) :
    Host.Outcome State Fault Refusal :=
  .next (
    let p := port.val
    let words := fields ++ [walk] ++ rest ++ [check]
    let s := returned p (words.map .word) s
    if !s.listens p ∨ !s.rxOpen p then s
    else
      let good := checkEight words && !words.any (·.p)
      let s := match (if good then s.echoSample p words else none) with
        | some v => rtSample p v s
        | none => s.bump (Obj.echoInvalidCnt p)
      if good then walkStep p words s else s)

/-- Usable words of domain d from port p in the tick just ended. -/
def State.usableWords (s : State) (p d : Nat) : Option TimeWords :=
  match s.time.words.getD (p * 2 + d) none with
  | some t => if t.usable then some t else none
  | none => none

/-- The upstream port of a domain: the later GM_TICK, then fewer HOPS, then West (R390). -/
def State.upstream (s : State) (d : Nat) : Option (Nat × TimeWords) :=
  match s.usableWords 0 d, s.usableWords 1 d with
  | some e, some w => if w.gmTick < e.gmTick ∨ (w.gmTick = e.gmTick ∧ e.hops < w.hops) then some (0, e) else some (1, w)
  | some e, none => some (0, e)
  | none, some w => some (1, w)
  | none, none => none

/-- Whether |e| is at most a threshold in ps. -/
def within (e : Int) (ps : Nat) : Bool := decide (e.natAbs * 1000 ≤ ps * 65536)

/-- The loop terms of R391 for a phase error: I in 2^-32 ns and c in 2^-16 ns. -/
def loopTerms (s : State) (integ e : Int) : Int × Int :=
  let i := integ + e * 65536 / (2 ^ s.get Obj.kiShift : Nat)
  (i, (e * 65536 / (2 ^ s.get Obj.kpShift : Nat) + i) / 65536)

/-- The correction of a domain applied: the PLL takes that of the working domain, another domain's O changes (R391). -/
def correct (d : Nat) (c : Int) (s : State) : State :=
  modDomain d (fun x => { x with corr := c, off := if d = s.workDom then x.off else x.off + c }) s

/-- `DOM_ERR` saturates (R410). -/
def putErr (d : Nat) (e : Int) (s : State) : State := s.putI (Obj.domErr d) (clampInt (-(2 ^ 31)) (2 ^ 31 - 1) e)

/-- Pulses of generator n that a step of W forward passes over: a running one counts them and goes on with the first pulse after the step, an
armed single pulse is missed (R405). -/
def genSkip (n : Nat) (s : State) : State :=
  let g := s.gen n
  if g.st = 1 ∧ g.period = 0 ∧ g.start < s.time.w then setGen n { g with st := 5 } s
  else if (g.st = 1 ∨ g.st = 2) ∧ 0 < g.period then
    let next := g.k + b2n g.active
    let k := ((s.time.w - g.start + (g.period - 1 : Nat)) / (g.period : Int)).toNat
    if next < k then setGen n { g with k := k - b2n g.active } (s.addTo (Obj.pgSkipCnt n) (k - next)) else s
  else s

/-- W steps by e while both domains run on: their offsets to W change, the times in W that are still measured from move with it, and the generators
follow (R393, R405). -/
def jumpW (e : Int) (s : State) : State :=
  let s := modTime (fun t => { t with
    w := t.w + e, moved := true, stepped := true, jumped := true, doms := t.doms.map (fun x => { x with off := x.off - e }),
    pps := t.pps.map (· + e), fineLast := t.fineLast.map (fun l => (l.1, ((l.2 : Int) + e / 8192).toNat)) }) s
  (List.range 16).foldl (fun s n => genSkip n s) s

/-- D_d set forward by e; the working domain takes W with it (R379, R382, R392). -/
def setDomTime (d : Nat) (e : Int) (s : State) : State :=
  modDomain d (fun x => { x with off := x.off + e }) (if d = s.workDom then jumpW e s else s)

/-- A domain stepped so that its phase error is zero; the working domain's step moves W, and only while the node places its boundaries
under R49 (R392). -/
def domStep (d : Nat) (e : Int) (s : State) : State := if d = s.workDom ∧ s.timeLocked then s else setDomTime d e s

/-- A state of a domain entered (R392). -/
def domEnter (d st : Nat) (s : State) : State :=
  modDomain d (fun x => { x with near := 0, far := 0, dry := 0, held := 0 }) (s.put (Obj.domState d) st)

/-- What a domain sends on: copied from its upstream (R385). -/
def domCopy (d : Nat) (t : TimeWords) (s : State) : State :=
  let s := ((s.put (Obj.domHops d) (Nat.min 255 (t.hops + 1))).put (Obj.domGmTick d) t.gmTick).put (Obj.domQuality d) t.quality
  modDomain d (fun x => { x with utc := t.utc, leap := t.leap, master := t.master }) s

/-- A domain at its master (R382, R383, R385). -/
def masterStep (d : Nat) (s : State) : State :=
  let src := bit (s.get Obj.masterSrc) (4 * d)
  let s := if s.get (Obj.domState d) = 5 then s else domEnter d 5 s
  let s := ((s.put (Obj.domHops d) 0).put (Obj.domGmTick d) s.tide.tick).put (Obj.domUpstream d) 255
  let s := s.put (Obj.domQuality d) (if src then (if s.get Obj.ppsState = 1 then 0 else 2) else 1)
  let s := modDomain d (fun x => { x with utc := s.get Obj.utcOffset, leap := s.get Obj.leap,
                                          master := s.get (if d = 0 then Obj.masterA else Obj.masterB) }) s
  if src then
    match (s.domain d).pps with
    | some e =>
      let r := loopTerms s (s.domain d).integ e
      correct d r.2 (modDomain d (fun x => { x with integ := r.1, pps := none }) (putErr d e s))
    | none => correct d ((s.domain d).integ / 65536) s
  else
    let s := modDomain d (fun x => { x with corr := 0, pps := none, setTo := none }) (match (s.domain d).setTo with
      | some v => setDomTime d (v - (s.time.w + (s.domain d).off)) s
      | none => s)
    s

/-- The transitions of R392 of a domain with or without a phase error. -/
def domTransit (d : Nat) (used : Bool) (gm : Option Nat) (s : State) : State :=
  let x := s.domain d
  let st := s.get (Obj.domState d)
  let lim := s.get Obj.domAgeLimit
  let old := match gm with | some g => decide (g + lim < s.tide.tick) | none => decide (s.get (Obj.domGmTick d) + lim < s.tide.tick)
  if st = 0 ∨ st = 4 ∨ st = 5 then (if used ∧ !old then domEnter d 1 s else if st = 5 then domEnter d 1 s else s)
  else if old then domEnter d 4 s
  else if st = 1 then (if 16 ≤ x.near then domEnter d 2 s else s)
  else if st = 2 then
    (if 4 ≤ x.far then domEnter d 3 (s.bump (Obj.lockLossCnt d))
    else if 4 ≤ x.dry then domEnter d 3 s
    else s)
  else if 4 ≤ x.near then domEnter d 2 s
  else if lim < x.held then domEnter d 4 s
  else s

/-- The loop of a domain at a boundary at which its upstream's words are usable (R391, R392); w0 is W at the boundary they describe. -/
def loopStep (d p : Nat) (t : TimeWords) (w0 : Int) (s : State) : State :=
  let x := s.domain d
  let e := t.time + (s.delayIn p).getD 0 - (w0 + t.tRx + x.off)
  let s := putErr d e s
  let s := if s.get (Obj.domUpstream d) = p then s else (s.put (Obj.domUpstream d) p).bump (Obj.upstreamChgCnt d)
  let s := domCopy d t s
  let near := if within e (s.get Obj.lockThresh) then x.near + 1 else 0
  let far := if within e (s.get Obj.unlockThresh) then 0 else x.far + 1
  let st := s.get (Obj.domState d)
  let s := modDomain d (fun x => { x with near := near, far := far, dry := 0, held := if st = 3 then x.held + 1 else 0 }) s
  let s :=
    if (st = 0 ∨ st = 1 ∨ st = 4) ∧ s.get Obj.stepLimit * nsUnits < e.natAbs then domStep d e (modDomain d (fun x => { x with corr := 0 }) s)
    else if st = 3 then correct d (x.integ / 65536) s
    else
      let r := loopTerms s x.integ e
      correct d r.2 (modDomain d (fun x => { x with integ := r.1 }) s)
  domTransit d true (some t.gmTick) s

/-- A domain at a boundary without usable words (R391, R392). -/
def dryStep (d : Nat) (s : State) : State :=
  let st := s.get (Obj.domState d)
  let s := modDomain d (fun x => { x with near := 0, far := 0, dry := x.dry + 1, held := if st = 3 then x.held + 1 else 0 }) s
  domTransit d false none (if st = 0 then s else correct d ((s.domain d).integ / 65536) s)

/-- What a Lost domain sends (R385). -/
def lostSends (d : Nat) (s : State) : State :=
  if s.get (Obj.domState d) = 4 then (s.put (Obj.domQuality d) 3).put (Obj.domHops d) 255 else s

/-- The discipline of one domain at a boundary (R391). -/
def discipline (d : Nat) (w0 : Int) (s : State) : State :=
  if s.masters d then masterStep d s
  else
    let s := modDomain d (fun x => { x with pps := none, setTo := none }) s
    lostSends d (match s.upstream d with
      | some (p, t) => loopStep d p t w0 s
      | none => dryStep d s)

/-- Another domain becomes the working one: W does not move, S takes up the difference (R393). -/
def switchTo (d : Nat) (s : State) : State :=
  if d = s.workDom then s
  else modTime (fun t => { t with slew := -((s.domain d).off), moved := true, jumped := true }) (s.put Obj.workDomain d)

/-- A domain becomes the working one by a step: W becomes D_d and S zero (R395). -/
def stepTo (d : Nat) (s : State) : State :=
  let s := jumpW (s.domain d).off s
  (modTime (fun t => { t with slew := 0 }) s).put Obj.workDomain d

/-- An armed switch applied at its tick (R395). -/
def switchApply (s : State) : State :=
  match s.time.armed with
  | none => s
  | some a =>
    if s.tide.tick < a.actTick then s
    else
      let s := (modTime (fun t => { t with armed := none }) s).put Obj.domainSwitch stDone
      if !s.domGood a.target then (s.put Obj.switchResult 6).put Obj.domainSwitch stRefused
      else if !a.step then (if a.target = s.workDom then s else switchTo a.target (s.bump Obj.switchCnt))
      else
        let fixed := a.delta.getD (s.domain a.target).off
        if slotsOf s.tide.code / 10 * 5 * nsUnits < fixed.natAbs then (s.put Obj.switchResult 7).put Obj.domainSwitch stRefused
        else stepTo a.target ((s.bump Obj.switchCnt).bump Obj.stepCnt)

/-- Δ of a switch with a step is fixed at the first slot of the tick before ACT_TICK (R395). -/
def switchFix (s : State) : State :=
  match s.time.armed with
  | some a =>
    if a.step ∧ s.tide.tick + 1 = a.actTick then
      modTime (fun t => { t with armed := some { a with delta := some (s.domain a.target).off } }) s
    else s
  | none => s

/-- The working domain was Lost: an automatic switch (R396). -/
def autoSwitch (s : State) : State :=
  let o := 1 - s.workDom
  if s.get (Obj.domState s.workDom) = 4 ∧ s.get Obj.autoSwitch = 1 ∧ s.domGood o then switchTo o (s.bump Obj.autoSwitchCnt) else s

/-- WORK_DOM received on a port in the tick just ended. -/
def State.farWork (s : State) (p : Nat) : Option Nat :=
  match s.time.words.getD (p * 2) none, s.time.words.getD (p * 2 + 1) none with
  | some t, _ => some t.workDom
  | none, some t => some t.workDom
  | none, none => none

/-- Both neighbours agree on the other working domain at two boundaries in a row: the node follows them at the next one (R397). A node not
yet locked takes the domain of its first usable upstream without a record, and W becomes that domain's time (log entry 113). -/
def domainMismatch (s : State) : State :=
  if !s.timeLocked ∧ s.get (Obj.domState s.workDom) ≤ 1 then
    match s.upstream 0, s.upstream 1 with
    | some (_, t), _ | none, some (_, t) => if t.workDom = s.workDom then s else stepTo t.workDom s
    | none, none => s
  else
    let s := if 2 ≤ s.time.differ then
        let d := 1 - s.workDom
        modTime (fun t => { t with differ := 0 }) (raise 0x0A 0 d (switchTo d (s.bump Obj.domMismatchCnt)))
      else s
    let other := some (1 - s.workDom)
    if s.rx 0 = dActive ∧ s.rx 1 = dActive ∧ s.farWork 0 = other ∧ s.farWork 1 = other then modTime (fun t => { t with differ := t.differ + 1 }) s
    else modTime (fun t => { t with differ := 0 }) s

/-- A domain other than the working one that its master disciplines to the own reference (R382). -/
def State.freeRuns (s : State) (d : Nat) : Bool := s.masters d && !bit (s.get Obj.masterSrc) (4 * d) && d != s.workDom

/-- The tick's change of O_d while the PLL moves W by adv against the own reference and S falls by sig: a domain that runs at the rate of that
reference takes back what W gains; the others run on through the slew (R382, R393). -/
def domDrift (d : Nat) (sig adv : Int) (s : State) : State :=
  let m := if s.freeRuns d then -adv else sig
  modDomain d (fun x => { x with off := x.off + m }) s

/-- The slew of R393 and the steering of the PLL (R380). -/
def slewSteer (s : State) : State :=
  let lim := psInt (s.get Obj.slewMax)
  let sig := clampInt (-lim) lim s.time.slew
  let want := (s.domain s.workDom).corr - sig
  let top : Int := (periodUnits s.tide.code / 10000 : Nat)
  let ppb := roundDiv (want * 1000000000) (periodUnits s.tide.code)
  let s := domDrift 1 sig (clampInt (-top) top want) (domDrift 0 sig (clampInt (-top) top want) s)
  let s := modTime (fun t => { t with slew := t.slew - sig, moved := t.moved || sig != 0 }) s
  let s := s.putI Obj.steerPpb (clampInt (-100000) 100000 ppb)
  if 100000 < ppb.natAbs then s.bump Obj.steerLimitCnt else s

/-- The time unit at a boundary (R391 to R398): W has advanced by the period that has ended. The echo walk starts at the lowest node number. -/
def timeBoundary (oldCode : Nat) (s : State) : State :=
  let w0 := s.time.w
  let s := modTime (fun t => { t with w := t.w + (periodUnits oldCode : Nat), moved := false, stepped := false, jumped := false, wasJumped := t.jumped }) s
  let s := discipline 1 w0 (discipline 0 w0 s)
  let s := slewSteer (switchFix (switchApply (domainMismatch (autoSwitch s))))
  let low := s.mapNodes.foldl Nat.min s.nodeNumber
  modTime (fun t => { t with words := [none, none, none, none],
                             walk := if low = s.nodeNumber ∧ low ≠ 0 then some (low, 1, 176 * 256) else t.walk }) s

/-- The largest `SLEW_MAX` at a period (R393). -/
def slewLimit (code : Nat) : Nat := match code with | 0 => 1500 | 1 => 3000 | 2 => 6000 | _ => 10000

/-- A `SLEW_MAX` above the limit of a new period is reduced to it (R393). -/
def reduceSlew (s : State) : State :=
  if slewLimit s.tide.code < s.get Obj.slewMax then s.put Obj.slewMax (slewLimit s.tide.code) else s

/-- `TIME_SET` written (R382): refused when the node masters neither domain. -/
def timeSetWrite (v : Nat) (s : State) : State × Nat :=
  if !s.masters 0 ∧ !s.masters 1 then (s, ecMode)
  else if 1000000000 ≤ fld v 0 32 then (s, ecValue)
  else
    let one := fun (d : Nat) (s : State) =>
      if s.masters d then modDomain d (fun x => { x with setTo := some (timeOf (fld v 32 48) (fld v 0 32) 0) }) s else s
    (one 1 (one 0 (s.put Obj.timeSet v)), ecOk)

/-- Code of R394 for a write to `DOMAIN_SWITCH`. -/
def State.switchCode (s : State) (v : Nat) : Nat :=
  let act := fld v 16 48
  if fld v 2 14 ≠ 0 then 1
  else if act < s.tide.tick + 2 then 2
  else if !s.domGood (fld v 0 1) then 3
  else match s.tide.armed with
    | some a => if bit v 1 ∧ a.actTick = act ∧ a.code ≠ s.tide.code then 4 else 0
    | none => 0

/-- A write to `DOMAIN_SWITCH` arms a switch, or is refused and leaves an armed one in place: the object reads BUSY while one is armed (R394, R409). -/
def domainSwitchWrite (v : Nat) (s : State) : State × Nat :=
  let code := s.switchCode v
  let s := s.put Obj.switchResult code
  if code = 0 then
    (modTime (fun t => { t with armed := some ⟨fld v 16 48, bit v 1, fld v 0 1, none⟩ }) (s.put Obj.domainSwitch stBusy), ecOk)
  else (if s.time.armed.isSome then s else s.put Obj.domainSwitch stRefused, ecOk)

/-- The effect of `PPS_EDGE` (R383): accepted when it falls 1 s, to within 1 ms, after the last accepted one, or is the first. -/
def execPpsEdge (off : BitVec 32) (s : State) : Host.Outcome State Fault Refusal :=
  .next (
    if !s.released 7 then s
    else
      let t : Int := s.time.w + (off.toNat * 8192 : Nat)
      let good := match s.time.pps with
        | none => true
        | some l => decide ((t - l - (secUnits : Int)).natAbs ≤ 1000000 * nsUnits)
      if !good then s.bump Obj.ppsRejectCnt
      else
        let s := (modTime (fun x => { x with pps := some t }) (s.put Obj.ppsState 1)).put Obj.ppsLast (time96 t)
        let u := t - psInt (s.getI Obj.ppsDelay) - s.time.w
        let feed := fun (d : Nat) (s : State) =>
          if s.masters d ∧ bit (s.get Obj.masterSrc) (4 * d) then
            let here := s.time.w + u + (s.domain d).off
            match (s.domain d).setTo with
            | some v => setDomTime d (v - here) (modDomain d (fun x => { x with setTo := none }) s)
            | none =>
              let whole := (here + (secUnits / 2 : Nat)) / (secUnits : Int) * (secUnits : Int)
              modDomain d (fun x => { x with pps := some (whole - here) }) s
          else s
        feed 1 (feed 0 s))

/-- The effect of `PPS_MISS_TIMEOUT` (R383): no edge accepted for 1.001 s. -/
def execPpsMissTimeout (s : State) : Host.Outcome State Fault Refusal :=
  .next (
    let src := (s.masters 0 && bit (s.get Obj.masterSrc) 0) || (s.masters 1 && bit (s.get Obj.masterSrc) 4)
    if s.released 7 ∧ s.get Obj.ppsState = 1 then
      let s := modTime (fun t => { t with pps := none }) (s.put Obj.ppsState 2)
      if src then s.bump Obj.ppsMissCnt else s
    else s)

/-- The two words of a record (R400, R401). -/
def recordWords (sec ns extra0 extra1 : Nat) : List Cargo :=
  [⟨true, .first, 8, false, w64 (sec % 2 ^ 48 + extra0 * 2 ^ 48)⟩, ⟨true, .last, 8, false, w64 (ns + extra1 * 2 ^ 32)⟩]

/-- An edge of a logged pin adds a record to its quay's coarse log, or is lost for want of room (R400). -/
def coarseLog (pin : Nat) (level : Bool) (t : Nat) (s : State) : State :=
  let q := pin / 64
  if s.node.owns ∧ bit (s.get (Obj.coarseLogEn q)) (pin % 64) then
    (if 2 ≤ s.room (144 + q) then
      storeWords (144 + q) (recordWords (t / 1000000000) (t % 1000000000) (pin % 64 + b2n level * 64) 0) s
    else s.bump (Obj.coarseLostCnt q))
  else s

/-- A fine-capture unit takes an edge of its pin, is blind, or lacks room (R401). -/
def fineCapture (f pin : Nat) (level : Bool) (t : Int) (s : State) : State :=
  let c := s.get (Obj.fcCtrl f)
  if s.node.owns ∧ bit c 15 ∧ fld c 0 8 = pin ∧ bit c (if level then 8 else 9) then
    let u := (t / 8192).toNat
    let last := s.time.fineLast.find? (fun e => e.1 == f)
    let blind := match last with | some (_, l) => decide (u < l + 64) | none => false
    if blind then s.bump (Obj.fcLostCnt f)
    else
      let s := modTime (fun x => { x with fineLast := x.fineLast.filter (fun e => e.1 != f) ++ [(f, u)] }) s
      if 2 ≤ s.room (148 + f) then
        (storeWords (148 + f) (recordWords (timeSec t) (timeNs t) (pin + b2n level * 256) (timeFrac t / 8192 * 8192)) s).bump (Obj.fcRecCnt f)
      else s.bump (Obj.fcLostCnt f)
  else s

/-- The coarse capture of a pin (R399): W of the quay edge less 8 ns. -/
def coarseCapture (pin : Nat) (level : Bool) (t : Nat) (s : State) : State :=
  modTime (fun x =>
    if level then { x with rise := x.rise.filter (fun e => e.1 != pin) ++ [(pin, t)] }
    else { x with fall := x.fall.filter (fun e => e.1 != pin) ++ [(pin, t)] }) s

/-- The effect of `PIN_EDGE` (R399 to R401). A pin that this chip or its keeper does not drive takes the level from outside. -/
def execPinEdge (pin : Fin 264) (level : Bool) (ns fine : BitVec 32) (s : State) : Host.Outcome State Fault Refusal :=
  .next (
    let i := pin.val
    let t := ((s.time.w + (ns.toNat * nsUnits : Nat)) / (nsUnits : Int)).toNat - 8
    if 256 ≤ i then
      let s := { s with pins := { s.pins with canRx := setBit s.pins.canRx (i - 256) level } }
      if s.released 7 then coarseCapture i level t s else s
    else
      let s := { s with pins := { s.pins with line := setBit s.pins.line i level } }
      if s.hears i ∧ s.released 7 then
        let s := coarseLog i level t (coarseCapture i level t s)
        (List.range 32).foldl (fun s f => fineCapture f i level (s.time.w + (fine.toNat * 8192 : Nat)) s) s
      else s)

/-- A time that START or a length of a generator holds: ns in [31:0] and FRAC in [47:32], rounded down to 125 ps (R402, R403). -/
def pgTime (v : Nat) : Nat := fld v 0 32 * nsUnits + fld v 32 16 / 8192 * 8192

/-- Code of an ARM of generator n with a CONTROL value (R403). -/
def State.armCode (s : State) (n v : Nat) : Nat :=
  let g := s.gen n
  let target := fld v 0 9
  let period := pgTime (s.get (Obj.pgPeriod n))
  let width := pgTime (s.get (Obj.pgWidth n))
  if g.st = 1 ∨ g.st = 2 then 1
  else if fld v 11 5 ≠ 0 ∨ fld v 18 46 ≠ 0 ∨ (256 < target ∧ target ≠ 511) ∨ fld (s.get (Obj.pgStartSec n)) 48 16 ≠ 0 ∨
      fld (s.get (Obj.pgStartNs n)) 48 16 ≠ 0 ∨ fld (s.get (Obj.pgPeriod n)) 48 16 ≠ 0 ∨ fld (s.get (Obj.pgWidth n)) 48 16 ≠ 0 ∨
      fld (s.get (Obj.pgCount n)) 32 32 ≠ 0 then 2
  else if (period ≠ 0 ∧ period < 16 * nsUnits) ∨ width < 4 * nsUnits ∨ (period ≠ 0 ∧ period < width + 4 * nsUnits) then 3
  else if (target < 256 ∧ (s.pinCrane target).isSome) ∨
      (target ≠ 511 ∧ (List.range 16).any (fun m => m != n && (s.gen m).holds == some target)) then 4
  else 0

/-- An accepted ARM (R403): the first pulse not earlier than 200 ns after W. -/
def genArm (n v : Nat) (now : Int) (s : State) : State :=
  let start := timeOf (fld (s.get (Obj.pgStartSec n)) 0 48) 0 0 + (pgTime (s.get (Obj.pgStartNs n)) : Int)
  let period := pgTime (s.get (Obj.pgPeriod n))
  let floor := now + (200 * nsUnits : Nat)
  let k := if period = 0 ∨ floor ≤ start then 0 else ((floor - start + (period - 1 : Nat)) / (period : Int)).toNat
  let missed := period = 0 ∧ start < floor
  let target := fld v 0 9
  let g : Gen := ⟨if missed then 5 else 1, (s.gen n).code, start, period, pgTime (s.get (Obj.pgWidth n)), fld (s.get (Obj.pgCount n)) 0 32, k, false, 0,
    false, if target = 511 then none else some target, bit v 9⟩
  genDrive n (setGen n g s)

/-- A generator at rest lets its target go when another one is written (R404). -/
def genRelease (n target : Nat) (s : State) : State :=
  let g := s.gen n
  match g.holds with
  | some t =>
    if g.st = 1 ∨ g.st = 2 ∨ t = target then s
    else
      let s := setGen n { g with holds := none } s
      if t < 256 then imageOrInput t s else s
  | none => s

/-- CONTROL of a generator written, with or without ARM and STOP (R402 to R405). -/
def pgControlWrite (n v : Nat) (now : Int) (s : State) : State :=
  let s := genRelease n (fld v 0 9) s
  let s := if bit v 17 then
      let g := s.gen n
      if g.st = 1 ∨ (g.st = 2 ∧ !g.active) then genStop n s
      else if g.st = 2 then setGen n { g with stopping := true } s
      else s
    else s
  let s := genDrive n (setGen n { s.gen n with invert := bit v 9 } s)
  let code := if bit v 16 then s.armCode n v else 0
  let s := s.put (Obj.pgControl n) (v % 2 ^ 11)
  if !bit v 16 then s
  else if code = 0 then genArm n v now s
  else setGen n { s.gen n with code := code } s

/-- The effect of `PULSE_EDGE` (R403): the generator reaches the start or the end of a pulse. -/
def execPulseEdge (n : Fin 16) (s : State) : Host.Outcome State Fault Refusal :=
  .next (
    let i := n.val
    let g := s.gen i
    if g.st ≠ 1 ∧ g.st ≠ 2 then s
    else if !g.active then genDrive i (setGen i { g with st := 2, active := true } s)
    else
      let e := g.emitted + 1
      let st := if g.stopping then 4 else if g.period = 0 ∨ (g.count ≠ 0 ∧ g.count ≤ e) then 3 else 2
      genDrive i (setGen i { g with st := st, active := false, emitted := e % 2 ^ 32, k := g.k + 1, stopping := false } s))

/-- Generators with PERSIST re-arm at the first boundary in Working (R406). -/
def gensRearm (s : State) : State :=
  (List.range 16).foldl (fun s n =>
    let v := s.get (Obj.pgControl n)
    if bit v 10 then pgControlWrite n (v + 2 ^ 16) s.time.w s else s) s

end Sys2Proof.Machine
end

