-- ==== Sys2Proof/Machine/ObjCheck.lean ====
section
/-! DEFINITION. The values that a write to an object may give, and the saved objects (R511, R530, R507, and the Meaning columns). -/

namespace Sys2Proof.Machine

/-- The check of an object whose range is not a plain one. Groups and reserved bits of staged objects are checked by their commit (R294, R374; log
entry 42). -/
def State.specialOk (s : State) (o : Obj) (v : Nat) : Bool :=
  if 0x5400 ≤ o.idx ∧ o.idx < 0x5440 then
    (v &&& 0xC07F) == v && decide (fld v 0 7 ≤ 64) && (!bit v 15 || decide (1 ≤ fld v 0 7))
  else if 0x6000 ≤ o.idx ∧ o.idx < 0x6008 then (if o.sub = 2 then fld v 5 8 != 0 else ccEwl v != 0)
  else if o.idx = 0x6400 then v == 0 || (v % 2 == 1 && decide (v ≤ 253))
  else if o = Obj.kiShift then decide (s.get Obj.kpShift + 1 ≤ v) && decide (v ≤ 16)
  else if o = Obj.lockThresh then true
  else if o = Obj.unlockThresh then decide (s.get Obj.lockThresh ≤ v)
  else if o = Obj.slewMax then decide (100 ≤ v) && decide (v ≤ slewLimit s.tide.code)
  else if 0x6500 ≤ o.idx ∧ o.idx < 0x6520 then (v &&& 0x83FF) == v && (!bit v 15 || fld v 8 2 != 0)
  else if o = Obj.pairNode then v % 2 == 1 && decide (v ≤ 253)
  else true

/-- A scalar value is one that the object takes (R511 and the object's Meaning). -/
def State.inRange (s : State) (o : Obj) (v : Nat) : Bool :=
  (o.ty != .bool || decide (v < 2)) &&
    (match o.chk with
     | .any => true
     | .range lo hi => decide (lo ≤ v) && decide (v ≤ hi)
     | .mask m => o.eff == .commit || (v &&& m) == v
     | .srange lo hi => decide (lo ≤ toSigned (8 * o.ty.size) v) && decide (toSigned (8 * o.ty.size) v ≤ hi)
     | .special => s.specialOk o v)

/-- The order that R507 keeps among the Gangway's thresholds, with an object's new value. -/
def State.gwOrderOk (s : State) (o : Obj) (v : Nat) : Bool :=
  let t := s.put o v
  decide (t.getI Obj.gwTBase < t.getI Obj.gwTRestart) && decide (t.getI Obj.gwTRestart < t.getI Obj.gwTTrip) &&
    decide (t.get Obj.gwUv < t.get Obj.gwOv)

/-- Objects that R530 leaves out of the saved state. -/
def notSaved : List (Nat × Nat) :=
  [(0x2800, 1), (0x3500, 1), (0x3500, 2), (0x4000, 1), (0x4001, 1), (0x4001, 3), (0x3500, 6), (0x4000, 2), (0x4000, 6), (0x7500, 4),
   (0x7500, 5), (0x6400, 6), (0x7400, 5), (0x1001, 2)]

/-- Families of objects that R530 leaves out of the saved state. -/
def notSavedFamily (i s : Nat) : Bool :=
  ((i == 0x2000 || i == 0x2100 || i == 0x2200) && [0x06, 0x0C, 0x0D, 0x0E].contains s) ||
    (((decide (0x4100 ≤ i) && decide (i < 0x4104)) || (decide (0x5400 ≤ i) && decide (i < 0x5440))) && (s == 3 || s == 4)) ||
    (decide (0x6100 ≤ i) && decide (i < 0x6108) && s == 3) || (decide (0x6600 ≤ i) && decide (i < 0x6610))

/-- A saved object (R530). -/
def Obj.saved (o : Obj) : Bool :=
  (o.acc == .rw || o.acc == .rwl || o.acc == .rwb) && decide (o.idx < 0xF000) && !notSaved.contains (o.idx, o.sub) &&
    !notSavedFamily o.idx o.sub

/-- The chip's own objects (R426 section 0x0002). -/
def Obj.chipOwn (o : Obj) : Bool := decide (0x2000 ≤ o.idx) && decide (o.idx < 0x2800)

/-- The objects of a row of the table. -/
def ObjRow.objs (r : ObjRow) : List Obj :=
  (List.range r.n1).flatMap (fun i => (List.range r.n2).map (fun j => { r.obj with idx := r.obj.idx + i * r.stride + j }))

/-- Every saved object, in the order of the object tables. -/
def savedObjs : List Obj := objTable.flatMap (fun r => if r.obj.saved then (r.objs).filter Obj.saved else [])

/-- A scalar object's bytes, or a STR's or DOMAIN's. -/
def State.objBytes (s : State) (o : Obj) : List Byte := if o.ty.size = 0 then s.blob o else bytesOf o.ty.size (s.get o)

end Sys2Proof.Machine
end

