-- ==== Sys2Proof/Machine/Can.lean ====
section
/-! DEFINITION. CAN FD controllers (10): buffers, filters, queues, transmission, error states, configuration. -/

namespace Sys2Proof.Machine

/-- `CAN_CTRL` as committed: GW_RETRY, EWL, BOFF_AUTO and the pilot fields act from it; ENABLE, FD_EN and OPMODE from the settings in use. -/
def State.canCtl (s : State) (k : Nat) : Nat := s.get (Obj.canCtrl k)

/-- Bits of `CAN_IRQ` set (R377). -/
def canIrqSet (k i : Nat) (s : State) : State := s.put (Obj.canIrq k) (setBit (s.get (Obj.canIrq k)) i true)

/-- The controller's interrupt line to the core: a pending bit that is enabled (R376, R377). -/
def State.canLine (s : State) (k : Nat) : Bool := s.get (Obj.canIrq k) &&& s.get (Obj.canIrqEn k) != 0

/-- `ERR_COUNTERS` (R377). -/
def State.canCounters (s : State) (k : Nat) : Nat := (s.ctl k).rxErr % 512 * 2 ^ 16 + (s.ctl k).txErr % 512

/-- A controller is error passive (R371). -/
def Can.passive (c : Can) : Bool := decide (128 ≤ c.txErr) || decide (128 ≤ c.rxErr)

/-- `CAN_STATE` (R377). -/
def State.canState (s : State) (k : Nat) : Nat :=
  let c := s.ctl k
  if !s.servesPair then 8
  else match c.st with
    | .off => 0
    | .joining => 1
    | .busOff => 4
    | .recovering => 5
    | .on => if ccMode c.ctrl = 1 then 6 else if ccMode c.ctrl = 2 then 7 else if Can.passive c then 3 else 2

/-- The error counters written, with the warning, and the record of entry into error passive (R371). -/
def setCounters (k tx rx : Nat) (s : State) : State :=
  let c := s.ctl k
  let ewl := ccEwl (s.canCtl k)
  let s := modCtl k (fun c => { c with txErr := capAt 511 tx, rxErr := capAt 511 rx }) s
  let s := if (c.txErr < ewl ∧ ewl ≤ tx) ∨ (c.rxErr < ewl ∧ ewl ≤ rx) then canIrqSet k 4 s else s
  if !Can.passive c ∧ Can.passive (s.ctl k) ∧ tx ≤ 255 then raise 0x28 k (s.canCounters k) (canIrqSet k 5 s) else s

/-- `LAST_ERR` and `ERR_CNT` (R377). -/
def noteErr (k kind pos : Nat) (s : State) : State :=
  (s.bump (Obj.errCnt k)).put (Obj.lastErr k) (s.tide.tick % 2 ^ 16 * 2 ^ 16 + pos % 256 * 2 ^ 8 + (kind + 1))

/-- Buffer b transmits: by `BUF_DIR`, the pilot buffer by PILOT_TX (R364, R376). -/
def State.canTxBuf (s : State) (k b : Nat) : Bool := if b = 64 then ccPilotTx (s.canCtl k) else bit (s.get (Obj.bufDir k)) b

/-- Errors inverted in word w of buffer b. -/
def State.bufInv (s : State) (k b w : Nat) : Nat := mapGet 0 (s.ctl k).inv (b * 16 + w)

/-- Word w of a buffer read through SEC-DED (R360). -/
def readBufWord (k b w : Nat) (s : State) : PWord × State :=
  let x := (s.canBuf k b).words.getD w 0
  let i := s.bufInv k b w
  if popCount 64 i < 2 then (⟨x, bit (s.canBuf k b).pois w⟩, s)
  else (⟨x ^^^ w64 i, true⟩, raise 0x2A k b (s.bump (Obj.bufUeCnt k)))

/-- A word of a buffer written with fresh check bits. -/
def writeBufWord (k b w : Nat) (v : W64) (p : Bool) (s : State) : State :=
  modCtl k (fun c => { c with inv := mapSet 0 c.inv (b * 16 + w) 0 })
    (modBuf k b (fun x => { x with words := x.words.set w v, pois := setBit x.pois w p }) s)

/-- The message head in a buffer. -/
def CanBuf.head (x : CanBuf) : W64 := x.words.getD 0 0

/-- The control word of R358 as it reads. -/
def State.bufControl (s : State) (k b : Nat) : W64 :=
  let x := s.canBuf k b
  w64 (x.attempts % 256 * 2 ^ 48 + x.retry % 16 * 2 ^ 44 + b2n x.late * 2 ^ 40 + (if s.canTxBuf k b then 255 else x.filter) * 2 ^ 32 + x.status * 2 ^ 20)

/-- The bytes of data word i that lie below LENGTH (R357). -/
def maskLen (len i : Nat) (v : W64) : W64 :=
  let n := Nat.min 8 (len - 8 * i)
  w64 (v.toNat % 2 ^ (8 * n))

/-- A word of the window of kind 8 read (R357): offset as a word number within the controller's 0x4000 bytes. What lies past the pilot buffer has
no content in the spec: a free value (log entry 3). -/
def canRead (k word : Nat) (s : State) : PWord × State :=
  let b := word / 12
  let w := word % 12
  if 64 < b then let d := s.draw; (pw d.1, d.2)
  else if w = 9 then (pw (s.bufControl k b), s)
  else if w = 10 then (pw (s.canBuf k b).stamp, s)
  else if w = 11 then (pw 0, s)
  else
    let r := readBufWord k b w s
    if w = 0 then r else (⟨maskLen (hdLen (CanBuf.head (s.canBuf k b))) (w - 1) r.1.data, r.1.p⟩, r.2)

/-- STATUS of a buffer written. -/
def setBufStatus (k b st : Nat) (s : State) : State := modBuf k b (fun x => { x with status := st }) s

/-- A message may be sent in its format (R359, R366). -/
def headRejected (fdEn : Bool) (h : W64) : Bool :=
  hdKind h == 0 || hdKind h == 3 || (hdFdf h && !fdEn) || decide ((if hdFdf h then 64 else 8) < hdLen h)

/-- A transmit command (R358, R359): whether it is accepted, and its effect. -/
def bufTransmit (k b retry : Nat) (s : State) : Option State :=
  let x := s.canBuf k b
  if s.canTxBuf k b ∧ [0, 3, 4, 6, 9].contains x.status then
    let c := s.ctl k
    let st := if headRejected (ccFd c.ctrl) (CanBuf.head x) then 9
      else if c.st = .busOff ∨ c.st = .recovering then 5 else 1
    some (modBuf k b (fun x => { x with status := st, retry := retry, attempts := 0, late := false }) s)
  else none

/-- The buffer is being sent. -/
def State.sending (s : State) (k b : Nat) : Bool :=
  match (s.ctl k).tx with
  | some t => t.src == b
  | none => false

/-- A transmit abort (R359, R369): at once while pending or held; an attempt in progress takes it at its end. -/
def bufAbort (k b : Nat) (s : State) : Option State :=
  let x := s.canBuf k b
  if x.status = 1 ∨ x.status = 5 ∨ (x.status = 2 ∧ !s.sending k b) then some (setBufStatus k b 4 s)
  else if x.status = 2 then some (modCtl k (fun c => { c with tx := c.tx.map (fun t => { t with abort := true }) }) s)
  else none

/-- A release (R359): the buffer is EMPTY; its words stay as they are. -/
def bufRelease (k b : Nat) (s : State) : Option State :=
  if [3, 4, 6, 7, 8, 9].contains (s.canBuf k b).status then some (setBufStatus k b 0 s) else none

/-- Bytes of a word that an access changes: mask has one bit for each byte. -/
def mergeBytes (old v : W64) (mask : Nat) : W64 :=
  w64 (ofBytes ((List.range 8).map (fun i => byte ((if bit mask i then v else old).toNat / 2 ^ (8 * i)))))

/-- A word of the window of kind 8 written in the bytes of a mask (R357 to R359): none when it is refused with ACCESS. A part of a word is merged with
the word as it is read (R360). -/
def canWrite (k word mask : Nat) (v : PWord) (s : State) : Option State :=
  let b := word / 12
  let w := word % 12
  if 64 < b ∨ w = 10 ∨ w = 11 then some s
  else if w = 9 then
    if v.p then some s
    else
      let cmd := if bit mask 0 then wfld v.data 0 4 else 0
      let retry := if bit mask 5 then wfld v.data 44 4 else (s.canBuf k b).retry
      match cmd with
      | 0 => some s
      | 1 => bufTransmit k b retry s
      | 2 => bufAbort k b s
      | 3 => bufRelease k b s
      | _ => none
  else if s.canTxBuf k b ∧ [1, 2, 5].contains (s.canBuf k b).status then none
  else if mask = 255 then some (writeBufWord k b w v.data v.p s)
  else
    let r := readBufWord k b w s
    some (writeBufWord k b w (mergeBytes r.1.data v.data mask) (v.p || r.1.p) r.2)

/-- The effect of `CAN_BUFFER_TRANSMIT` (R359). -/
def execCanBufferTransmit (k : Fin 8) (b : Fin 65) (retry : BitVec 4) (s : State) : Host.Outcome State Fault Refusal :=
  .next (if s.servesPair then (bufTransmit k.val b.val retry.toNat s).getD s else s)

/-- The effect of `CAN_BUFFER_ABORT` (R369). -/
def execCanBufferAbort (k : Fin 8) (b : Fin 65) (s : State) : Host.Outcome State Fault Refusal :=
  .next (if s.servesPair then (bufAbort k.val b.val s).getD s else s)

/-- The effect of `CAN_BUFFER_RELEASE` (R359). -/
def execCanBufferRelease (k : Fin 8) (b : Fin 65) (s : State) : Host.Outcome State Fault Refusal :=
  .next (if s.servesPair then (bufRelease k.val b.val s).getD s else s)

/-- Fields of an acceptance filter (R361). -/
def fId (f : Nat) : Nat := fld f 99 29
def fMask (f : Nat) : Nat := fld f 70 29
def fIde (f : Nat) : Bool := bit f 69
def fFmt (f : Nat) : Nat := fld f 67 2
def fRtr (f : Nat) : Bool := bit f 66
def fAction (f : Nat) : Nat := fld f 64 2
def fBuffer (f : Nat) : Nat := fld f 58 6
def fGateway (f : Nat) : Bool := bit f 57

/-- Filter i of `CAN_FILTERS`. -/
def filterAt (bs : List Byte) (i : Nat) : Nat := num bs (16 * i) 16

/-- A filter matches a frame (R362). -/
def filterHit (f : Nat) (x : CanFrame) : Bool :=
  fAction f != 0 && fIde f == x.ext && (fFmt f == 0 || (fFmt f == 1 && !x.fdf) || (fFmt f == 2 && x.fdf)) && (fRtr f || !x.rtr) &&
  (x.id.toNat ^^^ fId f) &&& fMask f == 0

/-- The number of the filter that decides (R362). -/
def State.filterFor (s : State) (k : Nat) (x : CanFrame) : Option Nat :=
  (List.range 32).find? (fun i => filterHit (filterAt (s.blob (Obj.canFilters k)) i) x)

/-- The head of a received frame (R235). -/
def CanFrame.head (k : Nat) (x : CanFrame) : W64 :=
  headWord (if x.ext then 2 else 1) x.fdf x.brs x.rtr x.esi x.data.length k x.id.toNat

/-- The data words of a frame. -/
def CanFrame.dataWords (x : CanFrame) : List W64 := wordsOf (wordCount x.data.length) x.data

/-- A frame stored in a buffer (R363), with STATUS 7, or 8 when it replaces an unreleased message. -/
def storeInBuffer (k b i : Nat) (x : CanFrame) (sof : W64) (s : State) : State :=
  let full := (s.canBuf k b).status = 7 ∨ (s.canBuf k b).status = 8
  let ws := CanFrame.head k x :: (wordsOf 8 x.data)
  let s := modBuf k b (fun _ => ⟨if full then 8 else 7, ws, 0, 0, false, i, sof, 0⟩)
    (modCtl k (fun c => { c with inv := c.inv.filter (fun e => e.1 / 16 != b) }) s)
  if full then canIrqSet k 8 (s.bump (if b = 64 then Obj.pilotOverrunCnt k else Obj.rxOverrunCnt k)) else s

/-- The FIFO frame of a received frame (R365). -/
def rxFrame (k : Nat) (x : CanFrame) (sof : W64) : List Cargo :=
  let ds := CanFrame.dataWords x
  let n := ds.length
  let tail := if x.data.length % 8 = 0 then 8 else x.data.length % 8
  ⟨true, .first, 8, false, CanFrame.head k x⟩ :: ⟨true, if n = 0 then .last else .middle, 8, false, sof⟩ ::
    (List.range n).map (fun i => ⟨true, if i + 1 = n then .last else .middle, BitVec.ofNat 4 (if i + 1 = n then tail else 8), false, ds.getD i 0⟩)

/-- A frame for the receive queue (R363, R365). -/
def storeInQueue (k : Nat) (x : CanFrame) (sof : W64) (s : State) : State :=
  let ws := rxFrame k x sof
  if ws.length ≤ s.room (rxQueue k) then canIrqSet k 2 (storeWords (rxQueue k) ws s) else s.bump (Obj.rxqLostCnt k)

/-- The receive error counter after a frame received without error (ISO 11898-1): from above 127 to a value from 119 to 127 that it leaves
open. -/
def rxGood (k : Nat) (s : State) : State :=
  let c := s.ctl k
  if 127 < c.rxErr then
    let d := s.draw
    modCtl k (fun c => { c with rxErr := 119 + d.1.toNat % 9 }) d.2
  else modCtl k (fun c => { c with rxErr := c.rxErr - 1 }) s

/-- A frame at its end on controller k: counted, filtered, stored and offered (R362 to R365). -/
def canReceive (k : Nat) (x : CanFrame) (sof : W64) (s : State) : State :=
  let c := s.ctl k
  let s := s.bump (Obj.rxOkCnt k)
  let s := if ccMode c.ctrl = 0 then rxGood k s else s
  match s.filterFor k x with
  | none => s
  | some i =>
    let f := filterAt (s.blob (Obj.canFilters k)) i
    let ctl := s.canCtl k
    let s := if ccPilotEn ctl ∧ ccPilotFilter ctl = i then canIrqSet k 3 (storeInBuffer k 64 i x sof s)
      else match fAction f with
        | 1 => canIrqSet k 1 (storeInBuffer k (fBuffer f) i x sof s)
        | 2 => storeInQueue k x sof s
        | _ => s
    if fGateway f then
      offerMsg 7 ⟨if x.ext then 2 else 1, k, x.id.toNat, x.fdf, x.brs, x.rtr, x.esi, x.data.length, (CanFrame.dataWords x).map pw⟩
        (s.bump (Obj.gwOfferCnt k))
    else s

/-- The frame is one of ISO 11898-1: a classical frame of at most 8 bytes, or an FD frame of a valid length that is not remote. -/
def CanFrame.valid (x : CanFrame) : Bool :=
  let n := x.data.length
  if x.fdf then !x.rtr && (decide (n ≤ 8) || [12, 16, 20, 24, 32, 48, 64].contains n) else !x.brs && decide (n ≤ 8) && (!x.rtr || n == 0)

/-- The effect of `CAN_FRAME_RECEIVE` (R362): a frame received without error by a controller on its bus. -/
def execCanFrameReceive (k : Fin 8) (f : CanFrame) (sof : W64) (s : State) : Host.Outcome State Fault Refusal :=
  .next (if (s.ctl k.val).st = .on ∧ CanFrame.valid f ∧ (!f.fdf ∨ ccFd (s.ctl k.val).ctrl) then canReceive k.val f sof s else s)

/-- The effect of `CAN_RX_ERROR` (R351, R370, R371). -/
def execCanRxError (k : Fin 8) (kind : Fin 5) (pos : BitVec 8) (heavy : Bool) (s : State) : Host.Outcome State Fault Refusal :=
  .next (
    let c := s.ctl k.val
    if c.st = .on then
      let s := noteErr k.val kind.val pos.toNat s
      if ccMode c.ctrl = 0 then setCounters k.val c.txErr (c.rxErr + (if heavy then 8 else 1)) s else s
    else s)

/-- The order of arbitration (R367): a message wins over those of a greater number. -/
def arbKey (h : W64) : Nat :=
  let id := hdId h
  let rtr := b2n (hdRtr h && !hdFdf h)
  if hdKind h = 2 then id / 2 ^ 18 * 2 ^ 21 + 2 ^ 20 + 2 ^ 19 + id % 2 ^ 18 * 2 + rtr else id % 2 ^ 11 * 2 ^ 21 + rtr * 2 ^ 20

/-- The candidates of R367 in the order of the tie rule, with their arbitration order: buffers by number, then the gateway queue (65). A
transmission that was cut off keeps STATUS 2 and is a candidate again. -/
def State.candidates (s : State) (k : Nat) : List (Nat × Nat) :=
  let bufs := (List.range 65).filter (fun b => s.canTxBuf k b && ((s.canBuf k b).status == 1 || (s.canBuf k b).status == 2))
  let gw := match (s.fifo (gwQueue k)).words with
    | w :: _ => [(65, arbKey w.data)]
    | [] => []
  bufs.map (fun b => (b, arbKey (CanBuf.head (s.canBuf k b)))) ++ gw

/-- The first of the least. -/
def least : List (Nat × Nat) → Option (Nat × Nat)
  | [] => none
  | a :: t =>
    match least t with
    | some b => if b.2 < a.2 then some b else some a
    | none => some a

/-- A buffer whose words cannot all be read without error: read, and STATUS 9 (R360). -/
def bufBad (k b : Nat) (s : State) : Bool × State :=
  (List.range 9).foldl (fun a w => let r := readBufWord k b w a.2; (a.1 || r.1.p, r.2)) (false, s)

/-- The head message of the gateway queue cannot be read without error. -/
def State.gwBad (s : State) (k : Nat) : Bool :=
  let x := s.fifo (gwQueue k)
  let n := (frameLen x.words).getD 0
  (List.range n).any (fun i => (x.words.getD i Cargo.empty).p || decide (2 ≤ popCount 72 (s.fifoInv (gwQueue k) (s.fifoPlace (gwQueue k) i))))

/-- The head message of the gateway queue leaves it. -/
def queueDrop (k : Nat) (s : State) : State :=
  modCtl k (fun c => { c with gwAttempts := 0, gwFlush := 0 }) (fifoFramePop (gwQueue k) s).2

/-- The data length of a frame that carries n bytes: an FD frame's next valid one (R237). -/
def fdLength (fdf : Bool) (n : Nat) : Nat :=
  if !fdf ∨ n ≤ 8 then n else ([12, 16, 20, 24, 32, 48].find? (fun m => decide (n ≤ m))).getD 64

/-- The data field that a message head and its data words make: an FD message is padded with zero bytes to its data length; a remote frame has none
(R237). -/
def dataField (h : W64) (ws : List W64) : List Byte :=
  if hdRtr h ∧ !hdFdf h then []
  else
    let d := (bytesOfWords ws).take (hdLen h)
    d ++ List.replicate (fdLength (hdFdf h) (hdLen h) - d.length) 0

/-- The transmission of the gateway queue's head message, and of a buffer's. -/
def State.txQueue (s : State) (k : Nat) : CanTx :=
  match s.fifo (gwQueue k) |>.words with
  | w :: t => ⟨65, false, w.data, dataField w.data (t.map (·.data))⟩
  | [] => ⟨65, false, 0, []⟩
def State.txBuf (s : State) (k b : Nat) : CanTx :=
  let x := s.canBuf k b
  ⟨b, false, CanBuf.head x, dataField (CanBuf.head x) (x.words.drop 1)⟩

/-- The controller takes the candidate that would win arbitration (R367). -/
def canChoose (k : Nat) (s : State) : State :=
  match least (s.candidates k) with
  | none => s
  | some (b, _) =>
    if b = 65 then
      if s.gwBad k then queueDrop k s else modCtl k (fun c => { c with tx := some (s.txQueue k) }) s
    else
      let r := bufBad k b s
      if r.1 then setBufStatus k b 9 r.2 else modCtl k (fun c => { c with tx := some (r.2.txBuf k b) }) (setBufStatus k b 2 r.2)

/-- The effect of `CAN_TX_CHOOSE` (R367): the bus is idle, or a start of frame can still be joined. -/
def execCanTxChoose (k : Fin 8) (s : State) : Host.Outcome State Fault Refusal :=
  .next (
    let c := s.ctl k.val
    if c.st = .on ∧ c.tx = none ∧ !c.applyDue ∧ ccMode c.ctrl = 0 then canChoose k.val s else s)

/-- The transmission in progress is over. -/
def endTx (k : Nat) (s : State) : State := modCtl k (fun c => { c with tx := none }) s

/-- The head of the gateway queue is dropped by a flush that waited for it, its words counted (R369). -/
def gwFlushHead (k : Nat) (s : State) : State :=
  queueDrop k (s.addTo (Obj.gwFlushCnt k) ((frameLen (s.fifo (gwQueue k)).words).getD 0))

/-- The effect of `CAN_ARB_LOST` (R368, R369). -/
def execCanArbLost (k : Fin 8) (s : State) : Host.Outcome State Fault Refusal :=
  .next (match (s.ctl k.val).tx with
    | none => s
    | some t =>
      let s := endTx k.val (s.bump (Obj.arbLostCnt k.val))
      if t.src = 65 then (if (s.ctl k.val).gwFlush = 1 then gwFlushHead k.val s else s)
      else setBufStatus k.val t.src (if t.abort then 4 else 1) s)

/-- The transmit delay measured in a frame with BRS (R354). -/
def noteTdc (k tdc : Nat) (h : W64) (s : State) : State :=
  if bit (s.ctl k).dat 18 ∧ hdFdf h ∧ hdBrs h then s.put (Obj.tdcMeas k) tdc else s

/-- The effect of `CAN_TX_COMPLETE` (R354, R359, R369): the frame was acknowledged and met no error. -/
def execCanTxComplete (k : Fin 8) (tdc : BitVec 8) (sof : W64) (s : State) : Host.Outcome State Fault Refusal :=
  .next (match (s.ctl k.val).tx with
    | none => s
    | some t =>
      let k := k.val
      let s := endTx k (canIrqSet k 0 (s.bump (Obj.txOkCnt k)))
      let s := setCounters k ((s.ctl k).txErr - 1) (s.ctl k).rxErr s
      if t.src = 65 then
        let h := match (s.fifo (gwQueue k)).words with | w :: _ => w.data | [] => 0
        queueDrop k (noteTdc k tdc.toNat h s)
      else
        let s := noteTdc k tdc.toNat (CanBuf.head (s.canBuf k t.src)) s
        let s := modBuf k t.src (fun x => { x with status := 3, attempts := capAt 255 (x.attempts + 1), late := t.abort, stamp := sof }) s
        let s := if t.abort then s.bump (Obj.lateAbortCnt k) else s
        if t.src = 64 then canIrqSet k 3 s else s)

/-- Entry into bus-off (R372, R373). -/
def busOff (k : Nat) (s : State) : State :=
  let hold := fun (b : Nat) (s : State) =>
    if s.canTxBuf k b ∧ ((s.canBuf k b).status = 1 ∨ (s.canBuf k b).status = 2) then setBufStatus k b 5 s else s
  let s := (List.range 65).foldl (fun s b => hold b s) s
  let s := modCtl k (fun c => { c with st := if ccAuto (s.canCtl k) then .recovering else .busOff, tx := none }) s
  raise 0x29 k 0 (canIrqSet k 6 (s.bump (Obj.boffCnt k)))

/-- A buffer's transmission has ended in an error, past the end of its arbitration field or not (R368, R369). -/
def bufError (k : Nat) (t : CanTx) (past off : Bool) (s : State) : State :=
  let x := s.canBuf k t.src
  if t.abort then setBufStatus k t.src 4 s
  else if off then s
  else if past ∧ x.retry ≠ 0 ∧ x.retry ≤ x.attempts then setBufStatus k t.src 6 (s.bump (Obj.retryOutCnt k))
  else setBufStatus k t.src 1 s

/-- A transmission of the gateway queue's head has ended in an error (R366, R369). -/
def gwError (k : Nat) (past off : Bool) (s : State) : State :=
  let c := s.ctl k
  let lim := ccRetry (s.canCtl k)
  if c.gwFlush = 1 then gwFlushHead k s
  else if off then s
  else if past ∧ lim ≠ 0 ∧ lim ≤ c.gwAttempts then queueDrop k (s.bump (Obj.retryOutCnt k))
  else s

/-- A transmission that ended in an error: past says that its arbitration field had ended (R368, R371, R372). -/
def canTxError (k kind pos : Nat) (past counts : Bool) (t : CanTx) (s : State) : State :=
  let s := endTx k (noteErr k kind pos s)
  let s := if !past then s
    else if t.src = 65 then modCtl k (fun c => { c with gwAttempts := c.gwAttempts + 1 }) s
    else modBuf k t.src (fun x => { x with attempts := capAt 255 (x.attempts + 1) }) s
  let tx := (s.ctl k).txErr + (if counts then 8 else 0)
  let off := decide (255 < tx)
  let s := setCounters k tx (s.ctl k).rxErr s
  let s := if t.src = 65 then gwError k past off s else bufError k t past off s
  if off then busOff k s else s

/-- The effect of `CAN_TX_ERROR` (R368). -/
def execCanTxError (k : Fin 8) (kind : Fin 5) (pos : BitVec 8) (past counts : Bool) (s : State) : Host.Outcome State Fault Refusal :=
  .next (match (s.ctl k.val).tx with
    | none => s
    | some t => canTxError k.val kind.val pos.toNat past counts t s)

/-- RECOVER (R373): refused outside bus-off. -/
def canRecover (k : Nat) (s : State) : State :=
  match (s.ctl k).st with
  | .busOff => (modCtl k (fun c => { c with st := .recovering }) s).put (Obj.canCmd k) stDone
  | .recovering => s.put (Obj.canCmd k) stDone
  | _ => s.put (Obj.canCmd k) stRefused

/-- The effect of `CAN_RECOVERY_COMPLETE` (R373). -/
def execCanRecoveryComplete (k : Fin 8) (s : State) : Host.Outcome State Fault Refusal :=
  .next (
    if (s.ctl k.val).st = .recovering then
      let s := modCtl k.val (fun c => { c with st := .on, txErr := 0, rxErr := 0 }) s
      canIrqSet k.val 7 ((List.range 65).foldl (fun s b => if (s.canBuf k.val b).status = 5 then setBufStatus k.val b 1 s else s) s)
    else s)

/-- `CAN_CMD` 2: the gateway queue emptied but for a message being sent (R369). -/
def canGwEmpty (k : Nat) (s : State) : State :=
  let q := gwQueue k
  let keep := if s.sending k 65 then (frameLen (s.fifo q).words).getD 0 else 0
  let x := s.fifo q
  let s := s.addTo (Obj.gwFlushCnt k) (x.words.length - keep)
  let s := s.setFifo q { x with words := x.words.take keep }
  modCtl k (fun c => { c with gwFlush := if keep = 0 then 0 else 1, gwAttempts := if keep = 0 then 0 else c.gwAttempts }) s

/-- `CAN_CMD` 3: the receive queue emptied (R376). -/
def canRxEmpty (k : Nat) (s : State) : State := flushFifo (rxQueue k) s

/-- A write to `CAN_CMD` (R376). -/
def canCmdWrite (k v : Nat) (s : State) : State × Nat :=
  match v with
  | 1 => (canRecover k s, ecOk)
  | 2 => ((canGwEmpty k s).put (Obj.canCmd k) stDone, ecOk)
  | 3 => ((canRxEmpty k s).put (Obj.canCmd k) stDone, ecOk)
  | _ => (s, ecValue)

/-- A message for the gateway queue (R366): refused with a status, waiting for room (none), or taken whole. -/
def gwStore (k : Nat) (head : PWord) (data : List PWord) (s : State) : Option (Nat × State) :=
  let h := head.data
  if hdKind h = 0 ∨ hdKind h = 3 ∨ (hdFdf h ∧ !ccFd (s.ctl k).ctrl) then some (bsAccess, s)
  else if (if hdFdf h then 64 else 8) < hdLen h ∨ data.length ≠ (if hdRtr h then 0 else wordCount (hdLen h)) then some (bsSize, s)
  else if s.room (gwQueue k) < data.length + 1 then none
  else
    let n := data.length
    let ws : List Cargo := ⟨true, if n = 0 then .only else .first, 8, head.p, h⟩ ::
      (List.range n).map (fun i => ⟨true, if i + 1 = n then .last else .middle, 8, (data.getD i ⟨0, false⟩).p, (data.getD i ⟨0, false⟩).data⟩)
    some (bsOk, storeWords (gwQueue k) ws (s.bump (Obj.gwInCnt k)))

/-- `QUEUE_FILL`, `BUF_PEND` and `BUF_FULL` (R377). -/
def State.queueFill (s : State) (k : Nat) : Nat :=
  let g := s.fifo (gwQueue k)
  let r := s.fifo (rxQueue k)
  Fifo.frames g % 256 * 2 ^ 24 + g.words.length % 256 * 2 ^ 16 + Fifo.frames r % 256 * 2 ^ 8 + r.words.length % 256
def State.bufMask (s : State) (k : Nat) (sts : List Nat) : Nat :=
  maskOf ((List.range 64).filter (fun b => sts.contains (s.canBuf k b).status))

/-- Quanta of a phase: prescaler, TSEG1, TSEG2, SJW (R353). -/
def nomTiming (v : Nat) : Nat × Nat × Nat × Nat := (fld v 0 5 + 1, fld v 5 8 + 1, fld v 13 7 + 1, fld v 20 7 + 1)
def datTiming (v : Nat) : Nat × Nat × Nat × Nat := (fld v 0 5 + 1, fld v 5 5 + 1, fld v 10 4 + 1, fld v 14 4 + 1)

/-- CAN clock cycles of a bit (R352). -/
def bitCycles (t : Nat × Nat × Nat × Nat) : Nat := t.1 * (1 + t.2.1 + t.2.2.1)

/-- SJW exceeds TSEG1 or TSEG2. -/
def sjwBad (t : Nat × Nat × Nat × Nat) : Bool := decide (t.2.1 < t.2.2.2) || decide (t.2.2.1 < t.2.2.2)

/-- A filter has a reserved bit set, a reserved FMT, or identifier bits above its width (R361). -/
def filterBad (f : Nat) : Bool :=
  fld f 0 57 != 0 || fFmt f == 3 || (!fIde f && (fld (fId f) 11 18 != 0 || fld (fMask f) 11 18 != 0))

/-- The staged filters of controller k, or those in effect. -/
def State.filtersStaged (s : State) (k : Nat) : List Byte := (s.stagedOf (Obj.canFilters k)).getD (s.blob (Obj.canFilters k))

/-- The first filter that a test picks. -/
def firstFilter (bs : List Byte) (p : Nat → Bool) : Option Nat := (List.range 32).find? (fun i => p (filterAt bs i))

/-- The first buffer whose direction may not change now (R374 code 0x06). -/
def State.dirBusy (s : State) (k ctrl dir : Nat) : Option Nat :=
  (List.range 65).find? (fun b =>
    (if b = 64 then ccPilotTx ctrl != ccPilotTx (s.canCtl k) else bit dir b != bit (s.get (Obj.bufDir k)) b) &&
    [1, 2, 5, 7, 8].contains (s.canBuf k b).status)

/-- The check of R374: the code of the first rule that fails, and the filter or buffer at fault. -/
def State.canFault (s : State) (k : Nat) : Option (Nat × Nat) :=
  let ctrl := s.getStaged (Obj.canCtrl k)
  let nomV := s.getStaged (Obj.bitNom k)
  let datV := s.getStaged (Obj.bitData k)
  let dir := s.getStaged (Obj.bufDir k)
  let fs := s.filtersStaged k
  let nt := nomTiming nomV
  let dt := datTiming datV
  if fs.length ≠ 512 then some (1, 0xFFFF)
  else if fld ctrl 24 8 ≠ 0 ∨ ccMode ctrl = 3 ∨ fld nomV 27 5 ≠ 0 ∨ fld datV 26 6 ≠ 0 then some (2, 0xFFFF)
  else match firstFilter fs filterBad with
  | some i => some (2, i)
  | none =>
    if sjwBad nt ∨ sjwBad dt ∨ bitCycles nt < 80 ∨ (ccFd ctrl ∧ (bitCycles dt < 10 ∨ bitCycles nt < bitCycles dt)) then some (3, 0xFFFF)
    else match firstFilter fs (fun f => (fAction f == 1 && bit dir (fBuffer f)) || (fFmt f == 2 && !ccFd ctrl)) with
    | some i => some (4, i)
    | none =>
      if ccPilotEn ctrl ∧ ccPilotTx ctrl then some (5, 0xFFFF)
      else match s.dirBusy k ctrl dir with
      | some b => some (6, b)
      | none => none

/-- The staged objects of controller k. -/
def canKey (k : Nat) (key : Nat) : Bool := key / 256 == 0x6000 + k

/-- A write to `CAN_COMMIT` (R374): checked at once; an accepted commit waits for the boundary (R375) and is a configuration commit (R428). -/
def canCommit (k : Nat) (s : State) : State × Nat :=
  match s.canFault k with
  | some (code, what) => ((s.put (Obj.canResult k) (what * 2 ^ 16 + code)).put (Obj.canCommit k) stRefused, ecOk)
  | none =>
    let mine := s.staged.filter (fun e => canKey k e.1)
    let s := { s with staged := s.staged.filter (fun e => !canKey k e.1), can := { s.can with commits := s.can.commits ++ mine } }
    (configCommit ((s.put (Obj.canResult k) (0xFFFF * 2 ^ 16)).put (Obj.canCommit k) stBusy), ecOk)

/-- A committed value of controller k takes effect. -/
def canPut (k : Nat) (e : Nat × List Byte) (s : State) : State :=
  match e.1 % 256 with
  | 1 => s.put (Obj.canCtrl k) (ofBytes e.2)
  | 2 => s.put (Obj.bitNom k) (ofBytes e.2)
  | 3 => s.put (Obj.bitData k) (ofBytes e.2)
  | 4 => s.put (Obj.bufDir k) (ofBytes e.2)
  | _ => s.putBlob (Obj.canFilters k) e.2

/-- The new settings of a controller taken into use: it joins its bus again (R375). -/
def canTake (k : Nat) (s : State) : State :=
  modCtl k (fun c => { c with ctrl := s.canCtl k, nom := s.get (Obj.bitNom k), dat := s.get (Obj.bitData k), applyDue := false,
                              st := if c.st = .on ∨ c.st = .off then .joining else c.st }) s

/-- An accepted commit at the boundary (R375). -/
def canApply (k : Nat) (s : State) : State :=
  let mine := s.can.commits.filter (fun e => canKey k e.1)
  let s := { s with can := { s.can with commits := s.can.commits.filter (fun e => !canKey k e.1) } }
  let s := (mine.foldl (fun s e => canPut k e s) s).put (Obj.canCommit k) stDone
  let c := s.ctl k
  let ctrl := s.canCtl k
  let same := fld ctrl 0 4 = fld c.ctrl 0 4 ∧ s.get (Obj.bitNom k) = c.nom ∧ s.get (Obj.bitData k) = c.dat
  if !s.servesPair ∨ same then s
  else if !ccEnable ctrl then modCtl k (fun c => { c with st := .off, tx := none, applyDue := false }) (canTake k s)
  else if !ccEnable c.ctrl then canTake k (modCtl k (fun c => { c with txErr := 0, rxErr := 0 }) s)
  else if c.st = .joining then canTake k s
  else modCtl k (fun c => { c with applyDue := true }) s

/-- The effect of `CAN_CONFIG_APPLY` (R375): the frame in progress and its intermission are over. -/
def execCanConfigApply (k : Fin 8) (s : State) : Host.Outcome State Fault Refusal :=
  .next (if (s.ctl k.val).applyDue ∧ (s.ctl k.val).tx = none then canTake k.val s else s)

/-- The effect of `CAN_BUS_JOIN` (R356): 11 consecutive recessive bits. -/
def execCanBusJoin (k : Fin 8) (s : State) : Host.Outcome State Fault Refusal :=
  .next (if (s.ctl k.val).st = .joining then modCtl k.val (fun c => { c with st := .on }) s else s)

end Sys2Proof.Machine
end

