-- ==== Sys2Proof/Machine/Windows.lean ====
section
/-! DEFINITION. Windows of the spaces and their accesses on the local bus (R201 to R205, R217 to R221, R272, R342, R402). -/

namespace Sys2Proof.Machine

/-- The window at an offset of a space (R204), if one is there. Cargo windows have width 8 here. -/
def winAt (space off : Nat) : Option Win :=
  match space with
  | 0x01 =>
    if off < 0x20 then some ⟨1, 1, 0, 0x20, 8, 0⟩
    else if off < 0x40 then some ⟨2, 1, 0x20, 0x40, 8, 0⟩
    else if off < 0x48 then some ⟨1, 1, 0x40, 0x48, 8, 0⟩
    else if 0x1000 ≤ off ∧ off < 0x9000 then some ⟨3, 1, 0x1000, 0x9000, 8, 0⟩
    else none
  | 0x20 =>
    let k := off / 0x4000
    let b := k * 0x4000
    let r := off % 0x4000
    if 7 < k then none
    else if r < 0x2000 then some ⟨8, space, b, b + 0x2000, 8, k⟩
    else if r = 0x2100 then some ⟨9, space, off, off + 8, 8, k⟩
    else if r = 0x2200 then some ⟨10, space, off, off + 8, 8, rxQueue k⟩
    else none
  | 0x30 =>
    let u := off / 0x100
    let b := u * 0x100
    let r := off % 0x100
    if 3 < u then none
    else if r < 0x20 then some ⟨11, space, b + r / 8 * 8, b + r / 8 * 8 + 8, 2 ^ (r / 8), u⟩
    else if r < 0x30 then some ⟨12, space, b + 0x20, b + 0x30, 8, u⟩
    else none
  | 0x40 =>
    if off < 0x10 then some ⟨13, space, 0, 0x10, 8, 0⟩
    else if 0x1000 ≤ off ∧ off < 0x1400 ∧ off % 0x20 = 0 then some ⟨14, space, off, off + 8, 8, 148 + (off - 0x1000) / 0x20⟩
    else if 0x1800 ≤ off ∧ off < 0x1880 ∧ off % 0x20 = 0 then some ⟨14, space, off, off + 8, 8, 144 + (off - 0x1800) / 0x20⟩
    else if 0x2000 ≤ off ∧ off < 0x2400 then
      let b := off / 0x40 * 0x40
      some ⟨15, space, b, b + 0x40, 8, (off - 0x2000) / 0x40⟩
    else none
  | 0x7F => if off < 0x20000 then some ⟨16, space, 0, 0x20000, 4, 0⟩ else none
  | _ =>
    if 0x10 ≤ space ∧ space ≤ 0x13 then
      let c := off / 0x100
      let g := (space - 0x10) * 16 + c
      let b := c * 0x100
      let r := off % 0x100
      if 15 < c then none
      else if r < 0x08 then some ⟨4, space, b, b + 8, 8, g⟩
      else if r = 0x40 then some ⟨5, space, off, off + 8, 8, g⟩
      else if 0x80 ≤ r ∧ r < 0x88 then some ⟨6, space, b + 0x80, b + 0x88, 8, g⟩
      else if 0xC0 ≤ r then some ⟨7, space, b + 0xC0, b + 0x100, 8, g⟩
      else none
    else none

/-- Kinds of window that allow reads, and writes (R204). -/
def readKind (k : Nat) : Bool := [1, 2, 3, 5, 6, 7, 8, 10, 12, 13, 14, 15, 16].contains k
def writeKind (k : Nat) : Bool := [2, 4, 7, 8, 9, 11, 12, 15, 16].contains k

/-- Kinds that take a partial access (R219). -/
def partialKind (k : Nat) : Bool := [2, 7, 8, 12, 15, 16].contains k

/-- A space exists (R201). -/
def spaceExists (sp : Nat) : Bool := [0x00, 0x01, 0x10, 0x11, 0x12, 0x13, 0x20, 0x30, 0x40, 0x7F].contains sp

/-- A space is served in the present mode (R31, R201, R439). -/
def State.serves (s : State) (sp : Nat) : Bool :=
  if sp = 0 then s.node.mode != .approach
  else if sp = 0x30 then s.node.mode == .anchored || s.working || s.anchored || s.node.mode == .slipway
  else if sp = 0x7F then s.node.mode == .slipway
  else s.servesPair

/-- A time within the tick in progress: W at its boundary and an open part of the period (log entries 3 and 8). -/
def workNow (s : State) : Int × State :=
  let d := s.draw
  (s.time.w + (d.1.toNat % periodUnits s.tide.code : Nat), d.2)

/-- The two words of a time (R378). -/
def timeWord0 (t : Int) : W64 := w64 (timeSec t)
def timeWord1 (t : Int) : W64 := w64 (timeFrac t * 2 ^ 32 + timeNs t)

/-- A read of a word of the time window (R221): the first word latches both; the second reads the latched value until it has been read or one
tick has passed. -/
def readTimeWord (i : Nat) (s : State) : PWord × State :=
  if i = 0 then
    let r := workNow s
    (pw (timeWord0 r.1), modBridge (fun b => { b with latch := some (timeWord1 r.1, s.tide.beat) }) r.2)
  else
    match s.bridge.latch with
    | some (w, t) =>
      let s2 := modBridge (fun b => { b with latch := none }) s
      if s.tide.beat ≤ t + 1 then (pw w, s2) else let r := workNow s2; (pw (timeWord1 r.1), r.2)
    | none => let r := workNow s; (pw (timeWord1 r.1), r.2)

/-- A word of the scheduled receive area: zero and poisoned until an entry has delivered it (R61). -/
def areaGet (m : List (Nat × PWord)) (i : Nat) : PWord := mapGet ⟨0, true⟩ m i

/-- A register of a pulse generator as it reads (R402). -/
def State.pgRead (s : State) (n i : Nat) : W64 :=
  match i with
  | 0 => w64 (s.get (Obj.pgStartSec n))
  | 1 => w64 (s.get (Obj.pgStartNs n))
  | 2 => w64 (s.get (Obj.pgPeriod n))
  | 3 => w64 (s.get (Obj.pgWidth n))
  | 4 => w64 (s.get (Obj.pgCount n))
  | 5 => w64 (s.get (Obj.pgControl n))
  | 6 => w64 (Gen.status (s.gen n))
  | _ => 0

/-- A byte of the core's data SRAM: what was written, or its open content. -/
def State.sramByte (s : State) (a : Nat) : Byte := (mapGet none s.bridge.sram a).getD (if s.bridge.sramZero then 0 else Config.sramByte a)

/-- Word i of a window, with the side effects of a read of it (R204). -/
def readWinWord (w : Win) (i : Nat) (s : State) : PWord × State :=
  match w.kind with
  | 1 => if w.base = 0 then (pw (w64 (fld s.pins.inImg (64 * i) 64)), s) else (pw (w64 s.pins.imgTick), s)
  | 2 => (pw (w64 (fld s.pins.outImg (64 * i) 64)), s)
  | 3 => (areaGet s.tide.area i, s)
  | 6 => (pw (w64 (s.fifoStatus w.unit)), s)
  | 7 => (pw (s.userWord w.unit i), s.setCrane w.unit { s.crane w.unit with usrRd := true })
  | 8 => canRead w.unit i s
  | 12 =>
    let x := s.unit w.unit
    if i = 0 then (⟨w64 x.result, x.parity || x.poison⟩, s) else (pw (w64 x.control), s)
  | 13 => readTimeWord i s
  | 15 => (pw (s.pgRead w.unit i), s)
  | _ => (pw 0, s)

/-- Data bits of byte a of the core's data SRAM that are inverted (R487). -/
def State.sramBits (s : State) (a : Nat) : Nat := mapGet 0 s.bridge.sramInv (2 ^ 18 + a)

/-- The core's SRAM detector finds the inverted bits of a byte: one is corrected, more are not, which is a give-up criterion (R423, R476). -/
def sramDetect (a : Nat) (s : State) : State :=
  let n := popCount 8 (s.sramBits a)
  if n = 0 then s
  else if n = 1 then raise 0x34 1 a s
  else holdCriterion 5 (raise 0x35 1 a s)

/-- n bytes of the core's data SRAM read: an uncorrected error poisons the word and shows its inverted bits. -/
def sramRead (off n : Nat) (s : State) : PWord × State :=
  let l := (List.range n).map (off + ·)
  let bad := fun a => decide (2 ≤ popCount 8 (s.sramBits a))
  let v := ofBytes (l.map (fun a => if bad a then s.sramByte a ^^^ byte (s.sramBits a) else s.sramByte a))
  (⟨w64 v, l.any bad⟩, l.foldl (fun s a => sramDetect a s) s)

/-- An element of n bytes at an offset read: an access to the word that holds it, its bytes taken from it (R218, R219). The SRAM, the one
readable window narrower than an element, reads the same bytes in its two parts. -/
def readElem (w : Win) (off n : Nat) (s : State) : PWord × State :=
  if w.kind = 16 then sramRead off n s
  else
    let r := readWinWord w ((off - w.base) / 8) s
    (⟨w64 (r.1.data.toNat / 2 ^ (8 * (off % 8)) % 2 ^ (8 * n)), r.1.p⟩, r.2)

/-- k elements of n bytes from an offset read in ascending order. -/
def readElems (w : Win) (n : Nat) : Nat → Nat → State → List PWord × State
  | 0, _, s => ([], s)
  | k + 1, off, s =>
    let r := readElem w off n s
    let t := readElems w n k (off + n) r.2
    (r.1 :: t.1, t.2)

/-- A pop from a pop window: the head word, or an empty word (R210, R325). -/
def popWords (f : Nat) : Nat → State → List Cargo × State
  | 0, s => ([], s)
  | k + 1, s =>
    let r := fifoPop f s
    if r.1.v then let t := popWords f k r.2; (r.1 :: t.1, t.2) else ([r.1], r.2)

/-- A write to a register of a pulse generator in the bytes of a mask (R402): STATUS and the reserved word take none. -/
def pgWrite (n i mask : Nat) (v : W64) (s : State) : State :=
  let m := (mergeBytes (s.pgRead n i) v mask).toNat
  match i with
  | 0 => s.put (Obj.pgStartSec n) m
  | 1 => s.put (Obj.pgStartNs n) m
  | 2 => s.put (Obj.pgPeriod n) m
  | 3 => s.put (Obj.pgWidth n) m
  | 4 => s.put (Obj.pgCount n) m
  | 5 => let r := workNow s; pgControlWrite n m r.1 r.2
  | _ => s

/-- A feed over the local bus: it waits behind the accesses that wait for the unit (R340). -/
def busFeed (u : Nat) (f : ChkFeed) (s : State) : State := chkArrive u false f s

/-- An element of n bytes fed in parts of w bytes, byte 0 first (R218, R341). -/
def feedParts (u w : Nat) (v : Nat) (p : Bool) : Nat → State → State
  | 0, s => s
  | k + 1, s => feedParts u w (v / 2 ^ (8 * w)) p k (busFeed u ⟨w, w64 (v % 2 ^ (8 * w)), p, none⟩ s)

/-- Bytes of the core's data SRAM written. -/
def sramWrite (a n v : Nat) (s : State) : State :=
  modBridge (fun b => { b with
    sram := (List.range n).foldl (fun m j => mapSet none m (a + j) (some (byte (v / 2 ^ (8 * j))))) b.sram,
    sramInv := b.sramInv.filter (fun e => !(decide (2 ^ 18 + a ≤ e.1) && decide (e.1 < 2 ^ 18 + a + n))) }) s

/-- Levels written into the output image in the bytes of a mask: the last to arrive counts (R69). -/
def imageWrite (i mask : Nat) (v : W64) (s : State) : State :=
  let old := w64 (fld s.pins.outImg (64 * i) 64)
  let new := (mergeBytes old v mask).toNat
  { s with pins := { s.pins with outImg := clearBits s.pins.outImg (lowBits 64 * 2 ^ (64 * i)) + new * 2 ^ (64 * i) } }

/-- An element of n bytes written at an offset (R217 to R219): the status of the part, and the state. No window acts on a poisoned element, but
that a check unit is poisoned by it and a CAN buffer keeps it as it is (R9, R341). -/
def writeElem (w : Win) (off n : Nat) (v : PWord) (s : State) : Nat × State :=
  let i := (off - w.base) / 8
  let s := touchWord w.kind w.unit i s
  let mask := (lowBits n) * 2 ^ (off % 8)
  let word := w64 (v.data.toNat % 2 ^ (8 * n) * 2 ^ (8 * (off % 8)))
  match w.kind with
  | 8 => match canWrite w.unit i mask ⟨word, v.p⟩ s with
    | some t => (bsOk, t)
    | none => (bsAccess, s)
  | 11 => (bsOk, feedParts w.unit w.width v.data.toNat v.p (n / w.width) s)
  | k =>
    if v.p then (bsOk, s)
    else match k with
    | 2 => (bsOk, imageWrite i mask word s)
    | 7 => (bsOk, (s.setUserWord w.unit i (mergeBytes (s.userWord w.unit i) word mask)).setCrane w.unit { s.crane w.unit with usrWr := true })
    | 12 =>
      let x := s.unit w.unit
      if i = 0 then (bsOk, s.setUnit w.unit (x.setResult (mergeBytes (w64 x.result) word mask).toNat))
      else match chkControlWrite w.unit (mergeBytes (w64 x.control) word mask).toNat s with
        | some t => (bsOk, t)
        | none => (bsAccess, s)
    | 15 => (bsOk, pgWrite w.unit i mask word s)
    | _ => (bsOk, sramWrite off n v.data.toNat s)

/-- What a local source reads from a window shows in the bridge's report. -/
def reportData (d : List PWord) (s : State) : State := modBridge (fun b => { b with report := ⟨0, bsOk, 0, false, d⟩ }) s

/-- The effect of `USER_WINDOW_READ` (R272): a read of word i of a crane's user window by a local source. -/
def execUserWindowRead (g : Fin 64) (i : Fin 8) (s : State) : Host.Outcome State Fault Refusal :=
  .next (if s.serves 0x10 then
    match winAt (0x10 + g.val / 16) (g.val % 16 * 0x100 + 0xC0) with
    | some w => let r := readWinWord w i.val s; reportData [r.1] r.2
    | none => s
  else s)

/-- The effect of `USER_WINDOW_WRITE` (R272). -/
def execUserWindowWrite (g : Fin 64) (i : Fin 8) (v : W64) (s : State) : Host.Outcome State Fault Refusal :=
  .next (if s.serves 0x10 then
    match winAt (0x10 + g.val / 16) (g.val % 16 * 0x100 + 0xC0) with
    | some w => (writeElem w (w.base + 8 * i.val) 8 (pw v) s).2
    | none => s
  else s)

/-- The effect of `POP_WINDOW_READ` (R231, R325): a local source pops up to n words, streams on the FIFO being discarded first; the read ends at
the first empty word. -/
def execPopWindowRead (f : Fin 180) (n : BitVec 8) (s : State) : Host.Outcome State Fault Refusal :=
  .next (
    if s.serves 0x10 ∧ (f.val < 64 ∨ (128 ≤ f.val ∧ f.val < 136) ∨ 144 ≤ f.val) then
      let r := popWords f.val n.toNat (claimFifo f.val s)
      reportData (payOf r.1) r.2
    else s)

/-- The effect of `WORK_TIME_WINDOW_READ` (R221): a local source reads the first word, or the second. -/
def execWorkTimeWindowRead (second : Bool) (s : State) : Host.Outcome State Fault Refusal :=
  .next (if s.serves 0x40 then
    let r := readTimeWord (b2n second) s
    reportData [r.1] r.2
  else s)

end Sys2Proof.Machine
end

