-- ==== Sys2Proof/Machine/Plan.lean ====
section
/-! DEFINITION. The tide plan: its format, the checks of R64, arming and taking effect (R62 to R67). -/

namespace Sys2Proof.Machine

/-- The entry in 16 bytes (R63). -/
def entryOf (bs : List Byte) : PlanEntry where
  startSlot := num bs 0 2
  snode := num bs 2 1
  dnode := num bs 3 1
  dport := num bs 4 1
  len := num bs 5 1
  phase := fld (num bs 6 1) 0 4
  periodLog2 := fld (num bs 6 1) 4 4
  srcSpace := num bs 7 1
  srcOffset := num bs 8 4
  dstOffset := num bs 12 4

/-- The plan in the bytes of the DOMAIN (R62); bytes that are missing read as 0. -/
def planOf (bs : List Byte) : Plan where
  raw := bs
  format := num bs 0 2
  code := num bs 2 1
  nodes := num bs 3 1
  gen := num bs 4 4
  actTick := num bs 8 8
  sEnd := num bs 16 2
  count := num bs 18 2
  transit := num bs 20 4
  crc := num bs 28 4
  entries := (List.range (num bs 18 2)).map (fun i => entryOf (slice bs (32 + 16 * i) 16))

/-- Slots that an entry occupies (R63). -/
def PlanEntry.slots (e : PlanEntry) : Nat := (e.len + 5) / 4

/-- An entry is due in tick n (R63). -/
def PlanEntry.due (e : PlanEntry) (n : Nat) : Bool := n % 2 ^ e.periodLog2 == e.phase

/-- Two entries share a slot (R64 code 0x08). -/
def PlanEntry.shares (a b : PlanEntry) : Bool :=
  decide (a.startSlot < b.startSlot + b.slots) && decide (b.startSlot < a.startSlot + a.slots)

/-- The spaces of R59 and R60. -/
def schedSpace (sp : Nat) : Bool := sp == 0x01 || (decide (0x10 ≤ sp) && decide (sp ≤ 0x13)) || sp == 0x20 || sp == 0x40

/-- The output image and the scheduled receive area, as n words from an offset lie in them (R60). -/
def inImage (off n : Nat) : Bool := decide (0x20 ≤ off) && decide (off + 8 * Nat.max n 1 ≤ 0x40)
def inArea (off n : Nat) : Bool := decide (0x1000 ≤ off) && decide (off + 8 * Nat.max n 1 ≤ 0x9000)

/-- SRC_OFFSET names a source for LEN words (R64 code 0x0B). -/
def PlanEntry.srcGood (e : PlanEntry) : Bool :=
  match winAt e.srcSpace e.srcOffset with
  | none => false
  | some w =>
    if 0x10 ≤ e.srcSpace ∧ e.srcSpace ≤ 0x13 then w.kind == 5
    else readKind w.kind && (isPop w.kind || (e.srcOffset % 8 == 0 && decide (e.srcOffset + 8 * e.len ≤ w.stop)))

/-- SRC_SPACE, DPORT or an offset is not allowed (R64 code 0x0B). -/
def PlanEntry.spaceBad (e : PlanEntry) : Bool :=
  !schedSpace e.srcSpace || !schedSpace e.dport || !e.srcGood ||
    (e.dport == 0x01 && !inImage e.dstOffset e.len && !inArea e.dstOffset e.len)

/-- Words that an entry brings to the scheduled receive area (R64 code 0x0D). -/
def PlanEntry.areaWords (e : PlanEntry) : Nat := if e.dport = 0x01 ∧ inArea e.dstOffset e.len then e.len else 0

/-- Entries that the pair with an odd number receives, broadcasts included (R64 code 0x0D). -/
def destEntries (es : List PlanEntry) (pair t : Nat) : List PlanEntry :=
  es.filter (fun e => e.due t && (e.dnode == 255 || pairOf e.dnode == pair))

/-- Some pair receives too much in some tick; 16 ticks show every period (R64 code 0x0D). -/
def destOver (es : List PlanEntry) : Bool :=
  es.any (fun e => (List.range 16).any (fun t =>
    let l := destEntries es (pairOf e.dnode) t
    decide (512 < l.length) || decide (4096 < (l.map PlanEntry.areaWords).foldl (· + ·) 0)))

/-- A code with the index of the first entry that fails, as `TIDE_PLAN_RESULT`. -/
def firstEntry (es : List PlanEntry) (code : Nat) (p : Nat → PlanEntry → Bool) : Option Nat :=
  ((List.range es.length).find? (fun i => match es[i]? with | some e => p i e | none => false)).map (fun i => i * 2 ^ 16 + code)

/-- The checks of R64 up to code 0x06, which concern the plan header alone. -/
def State.planHead (s : State) (bs : List Byte) (p : Plan) : Option Nat :=
  let n := slotsOf p.code
  if p.format ≠ 1 ∨ bs.length ≠ 32 + 16 * p.count then some 0x01
  else if p.crc ≠ crc32c (slice bs 0 28 ++ bs.drop 32) then some 0x02
  else if 3 < p.code then some 0x03
  else if p.sEnd < 31 ∨ n - 161 - n / 10 < p.sEnd then some 0x04
  else if 20 * n < 5 * p.transit ∨ (n - 160) * 5 < (p.sEnd + 1) * 5 + p.transit + 320 then some 0x05
  else if p.transit < s.get Obj.ringTransitMeas then some 0x06
  else none

/-- The checks of R64 from code 0x07 to 0x0D: each over the entries. -/
def entriesFail (sEnd : Nat) (es : List PlanEntry) : Option Nat :=
  [firstEntry es 0x07 (fun _ e => decide (e.startSlot < 32) || decide (sEnd < e.startSlot + e.slots - 1)),
   firstEntry es 0x08 (fun i e => (es.take i).any e.shares),
   firstEntry es 0x09 (fun _ e => decide (32 < e.len)),
   firstEntry es 0x0A (fun _ e => decide (4 < e.periodLog2) || decide (2 ^ e.periodLog2 ≤ e.phase)),
   firstEntry es 0x0B (fun _ e => e.spaceBad),
   firstEntry es 0x0C (fun i e => decide (256 ≤ ((es.take i).filter (fun x => x.snode == e.snode)).length)),
   firstEntry es 0x0D (fun i _ => destOver (es.take (i + 1)))].findSome? id

/-- The checks of R64 from code 0x0E on but for the map's entries. -/
def State.planTail (s : State) (p : Plan) : Option Nat :=
  let armed := match s.tide.armed with | some a => a.gen | none => 0
  if p.gen = 0 ∨ p.gen ≤ s.get Obj.tideGenActive ∨ p.gen ≤ armed then some 0x0F
  else if p.actTick < s.tide.tick + 2 then some 0x10
  else if p.code ≠ s.tide.code ∧ p.actTick * 2 ^ s.tide.code % 2 ^ p.code ≠ 0 then some 0x11
  else none

/-- A node number that the ring map lacks. -/
def State.notInMap (s : State) (n : Nat) : Bool := !s.mapNodes.contains n

/-- A code that concerns the plan header, as `TIDE_PLAN_RESULT`. -/
def planHdr (code : Nat) : Nat := 0xFFFF0000 + code

/-- The first check of R64 that a staged plan fails, as `TIDE_PLAN_RESULT`. -/
def State.planFail (s : State) (bs : List Byte) : Option Nat :=
  let p := planOf bs
  match s.planHead bs p with
  | some c => some (planHdr c)
  | none =>
    match entriesFail p.sEnd p.entries with
    | some r => some r
    | none =>
      if p.nodes ≠ s.ringNodes then some (planHdr 0x0E)
      else
        match firstEntry p.entries 0x0E (fun _ e => e.snode % 2 == 0 || s.notInMap e.snode || (e.dnode != 255 && s.notInMap e.dnode)) with
        | some r => some r
        | none => (s.planTail p).map planHdr

/-- A write to `TIDE_PLAN_COMMIT`: the staged plan is taken for the check (R64); with none staged, the one staged by the last commit. While the
check runs, `TIDE_PLAN_RESULT` reads 0xFFFF0000 (log entry 22). -/
def planCommitWrite (s : State) : State × Nat :=
  let bs := (s.stagedOf Obj.tidePlanStage).getD (s.blob Obj.tidePlanStage)
  let s := (s.put Obj.tidePlanCommit stBusy).put Obj.tidePlanResult (planHdr 0)
  ({ s with tide := { s.tide with checking := some bs } }, ecOk)

/-- A plan armed, or none (R65). -/
def armPlan (p : Option Plan) (s : State) : State :=
  let s := { s with tide := { s.tide with armed := p } }
  match p with
  | some a => (s.put Obj.tideGenArmed a.gen).put Obj.tideActTick a.actTick
  | none => (s.put Obj.tideGenArmed 0).put Obj.tideActTick 0

/-- The effect of `TIDE_PLAN_CHECK_COMPLETE`: the check ends (R64), and an accepted plan is armed and saved (R65, R428). -/
def execTidePlanCheckComplete (s : State) : Host.Outcome State Fault Refusal :=
  match s.tide.checking with
  | none => .next s
  | some bs =>
    let fail := s.planFail bs
    let s1 := { s with tide := { s.tide with checking := none } }
    match fail with
    | some r => .next ((s1.put Obj.tidePlanCommit stRefused).put Obj.tidePlanResult r)
    | none =>
      let s2 := if s1.stagedOf Obj.tidePlanStage = some bs then s1.unstage Obj.tidePlanStage else s1
      let s3 := armPlan (some (planOf bs)) (s2.putBlob Obj.tidePlanStage bs)
      .next (configCommit ((s3.put Obj.tidePlanCommit stDone).put Obj.tidePlanResult (planHdr 0)))

/-- A plan put into effect without a change of period (R65, R67). -/
def setActive (p : Option Plan) (s : State) : State :=
  let s := { s with tide := { s.tide with active := p, stale := [] } }
  match p with
  | some a => (s.put Obj.tideGenActive a.gen).putBlob Obj.tidePlanActive a.raw
  | none => (s.put Obj.tideGenActive 0).putBlob Obj.tidePlanActive []

/-- A tick number of one period in the numbering of another (R65). -/
def renumber (old new n : Nat) : Nat := n * 2 ^ old / 2 ^ new % 2 ^ 48

/-- The GM_TICK of both domains, held and received, in a new numbering: every node of the ring counts anew at this boundary (R65, R385). -/
def renumberTime (old new : Nat) (s : State) : State :=
  let s := s.put (Obj.domGmTick 0) (renumber old new (s.get (Obj.domGmTick 0)))
  let s := s.put (Obj.domGmTick 1) (renumber old new (s.get (Obj.domGmTick 1)))
  { s with time := { s.time with words := s.time.words.map (fun w => w.map (fun t => { t with gmTick := renumber old new t.gmTick })) } }

/-- A plan in effect with its period: ticks count anew in it (R65). -/
def takePlan (a : Plan) (s : State) : State :=
  let s := renumberTime s.tide.code a.code (setActive (some a) s)
  { s with tide := { s.tide with tick := renumber s.tide.code a.code s.tide.tick, code := a.code } }

/-- The armed plan takes effect at the boundary that starts the tick in `tide.tick`, with its period: the tick is counted anew (R65). Not while
the node runs the local tick (R49). -/
def planBoundary (s : State) : State :=
  match s.tide.armed with
  | none => s
  | some a =>
    if s.tide.placed ∧ a.actTick ≤ s.tide.tick then takePlan a (armPlan none s) else s

end Sys2Proof.Machine
end

