-- ==== Sys2Proof/Machine/Sched.lean ====
section
/-! DEFINITION. Scheduled traffic: the frames of the plan's entries at their source, their copies at the destination, and what a boundary
settles (R46, R52 to R61, R66). -/

namespace Sys2Proof.Machine

/-- The tide state changed. -/
def modTide (f : TideState → TideState) (s : State) : State := { s with tide := f s.tide }

/-- Words as one FIFO frame, the last with a number of bytes (R214); its bytes at and above that number are zero (R8). -/
def frameWords (last : Nat) : List PWord → Bool → List Cargo
  | [], _ => []
  | [w], first => [⟨true, if first then .only else .last, BitVec.ofNat 4 last, w.p, w64 (w.data.toNat % 2 ^ (8 * last))⟩]
  | w :: t, first => ⟨true, if first then .first else .middle, 8, w.p, w.data⟩ :: frameWords last t false

/-- Words written to a FIFO as one frame, when it has room for every word (R60, R214). -/
def pushFrame (f off : Nat) (pay : List PWord) (s : State) : Option State :=
  let last := if off % 8 = 0 then 8 else off % 8
  let ws := frameWords last pay true
  let extra := if (s.fifo f).opened then 1 else 0
  if s.room f < ws.length + extra then none else some (ws.foldl (fun s w => fifoWrite f w s) s)

/-- Words written into a window one element after another: nothing when one of them does not go. -/
def writeAll (w : Win) : Nat → List PWord → State → Option State
  | _, [], s => some s
  | off, v :: t, s =>
    let r := writeElem w off 8 v s
    if r.1 = bsOk then writeAll w (off + 8) t r.2 else none

/-- Words for space 0x01: those in the output image, and those in the receive area (R60). An offset that is not a multiple of 8 names the word
it lies in (log entry 98). -/
def writeDeck : Nat → List PWord → State → State
  | _, [], s => s
  | off, v :: t, s =>
    let s1 :=
      if inImage off 1 then (if v.p then s else imageWrite ((off - 0x20) / 8) (lowBits 8) v.data (touchWord 2 0 ((off - 0x20) / 8) s))
      else if inArea off 1 then modTide (fun d => { d with fill := mapSet ⟨0, true⟩ d.fill ((off - 0x1000) / 8) v }) s
      else s
    writeDeck (off + 8) t s1

/-- The target of an entry takes a frame whole, or does not (R60). An offset at which no window takes it is no room (log entry 41). -/
def schedTarget (dport off : Nat) (pay : List PWord) (s : State) : Option State :=
  if dport = 0x01 then some (writeDeck off pay s)
  else
    match winAt dport off with
    | none => none
    | some w =>
      if w.kind = 4 then pushFrame (64 + w.unit) off pay s
      else if w.kind = 9 then
        match pay with
        | [] => some s
        | h :: t =>
          match gwStore w.unit h t s with
          | some r => if r.1 = bsOk then some r.2 else none
          | none => none
      else if (w.kind = 8 ∨ w.kind = 15) ∧ off % 8 = 0 ∧ off + 8 * pay.length ≤ w.stop then writeAll w off pay s
      else none

/-- A scheduled frame delivered to its entry's target, or dropped whole and counted (R60). -/
def schedDeliver (e : PlanEntry) (pay : List PWord) (s : State) : State :=
  match schedTarget e.dport e.dstOffset pay s with
  | some t => t
  | none => s.bump Obj.schedDropCnt

/-- Rank of entry i among the entries with its SNODE (R52). -/
def Plan.rank (p : Plan) (i snode : Nat) : Nat := ((p.entries.take i).filter (fun e => e.snode == snode)).length

/-- SEQ of entry i in tick n (R52). -/
def Plan.seqOf (p : Plan) (n i : Nat) (e : PlanEntry) : Nat := n % 16 * 256 + p.rank i e.snode % 256

/-- A frame popped for a scheduled entry: at most LEN words, the rest dropped and counted (R59, R326, R327). -/
def schedPop (f len : Nat) (s : State) : List PWord × State :=
  let r := fifoFramePop f (claimFifo f s)
  let s := if len < r.1.length then fifoCount Obj.schedTruncCnt f 1 r.2 else r.2
  (payOf (r.1.take len), s)

/-- The data of an entry read at its source: the deck image as it stood at the boundary that began the tick (R59, R365). -/
def schedSource (e : PlanEntry) (s : State) : List PWord × State :=
  match winAt e.srcSpace e.srcOffset with
  | none => ([], s)
  | some w =>
    if isPop w.kind then schedPop (winFifo w) e.len s
    else if e.srcSpace = 0x01 then ((readElems w 8 e.len e.srcOffset { s with pins := { s.pins with outImg := s.pins.outSent } }).1, s)
    else readElems w 8 e.len e.srcOffset s

/-- The Working chip sends scheduled frames: outputs are applied, boundaries are placed, and neither R66 nor a pause of R550 stops it (R49, R52,
R66, R439). -/
def State.sends (s : State) : Bool :=
  s.workingChip && !s.node.resume && s.tide.placed && !s.tide.stopped && s.tide.pause == 0

/-- One copy of a scheduled frame put to a ring output when the local input has room for it: it waits else, behind those that wait (R182). -/
def schedCopy (o : Nat) (f : Frame) (s : State) : State :=
  if s.tide.waits.isEmpty ∧ bayCount f.pay.length ≤ s.ownRoom 7 0 then enqueue 7 o .node (Frame.words f) s
  else modTide (fun d => { d with waits := d.waits ++ [(o, f)] }) s

/-- The copies that wait go into the Hold in order, as far as room has come (R182). -/
def schedGo (s : State) : State :=
  s.tide.waits.foldl (fun s e => schedCopy e.1 e.2 s) (modTide (fun d => { d with waits := [] }) s)

/-- The effect of `SCHEDULED_ENTRY_DUE` (R46, R52, R58, R59): at the start slot of an own entry that is due, its data are read and one frame
leaves East and one West. -/
def execScheduledEntryDue (entry : Fin 2048) (s : State) : Host.Outcome State Fault Refusal :=
  .next (
    match s.tide.active with
    | none => s
    | some p =>
      match p.entries[entry.val]? with
      | none => s
      | some e =>
        if s.sends ∧ e.snode = s.node.pair ∧ s.node.pair ≠ 0 ∧ e.due s.tide.tick then
          let r := schedSource e s
          let fl := setBit 8 1 (r.1.any (·.p))
          let h := mkHdr e.dnode e.snode e.dport 0 (p.seqOf s.tide.tick entry.val e) r.1.length r.2.ttl fl
          let f : Frame := ⟨h, r.1, mkTrl s.tide.tick r.1⟩
          schedCopy 1 f (schedCopy 0 f r.2)
        else s)

/-- The entry that a copy belongs to: due in the tick and bound for the node's pair (R54). -/
def State.schedEntry (s : State) (h : W64) : Option (Nat × PlanEntry) :=
  match s.tide.active with
  | none => none
  | some p =>
    let hit := (List.range p.entries.length).find? (fun i =>
      match p.entries[i]? with
      | some e => e.snode == hSnode h && p.seqOf s.tide.tick i e == hSeq h && e.due s.tide.tick &&
          (e.dnode == 255 || (s.node.pair != 0 && pairOf e.dnode == s.node.pair))
      | none => false)
    match hit with
    | some i => (p.entries[i]?).map (fun e => (i, e))
    | none => none

/-- A copy passes its trailer check (R54): the CRC holds, and no payload word was poisoned on the way, which is so when a word is poisoned
and FLAGS bit 11 of the header is clear (R9, R106, log entry 96). -/
def Frame.sound (f : Frame) : Bool := Frame.crcOk f && (hPoison f.hdr || !f.pay.any (·.p))

/-- A copy whose trailer tick is the current one, sound or not (R54, R56, R106). A copy that is not sound and names no entry that is due is
dropped without a count: R54 counts a valid one only (log entry 97). -/
def schedTake (ok : Bool) (f : Frame) (s : State) : State :=
  match s.schedEntry f.hdr with
  | none => if ok then s.bump Obj.schedUnknownCnt else s
  | some (i, e) =>
    if s.tide.delivered.contains i then s.bump Obj.schedAbsorbedCnt
    else if ok then
      let s := modTide (fun d => { d with delivered := d.delivered ++ [i], candidates := d.candidates.filter (fun c => c.entry != i) }) s
      schedDeliver e f.pay s
    else if s.tide.candidates.any (fun c => c.entry == i) then s.bump Obj.schedAbsorbedCnt
    else modTide (fun d => { d with candidates := d.candidates ++ [⟨i, f⟩] }) s

/-- A scheduled frame discarded as stale tide (R55, R187 cause 1). -/
def staleTide (input : Nat) (s : State) : State := countDiscard 1 input s

/-- The words of a copy whose trailer cannot be read: closed poisoned by an input (R165, R168), or its trailer poisoned on the way (R106). Its
payload is what came of it. -/
def brokenCopy (ws : List Cargo) : Frame :=
  match ws with
  | [] => ⟨0, [], 0⟩
  | h :: t => ⟨h.data, (payOf t.dropLast).take (hLen h.data), 0⟩

/-- The effect of `SCHED_FRAME_RECEIVE` (R53 to R56): a local port takes the next scheduled frame that is bound for it. One whose trailer cannot
be read is a copy that fails its trailer CRC (R106, log entry 96). -/
def execSchedFrameReceive (q : Fin 5) (s : State) : Host.Outcome State Fault Refusal :=
  .next (
    match s.localNext (3 + q.val) (fun j => j.sched) with
    | none => s
    | some j =>
      let r := departJob j s
      match frameOf r.1 with
      | none => schedTake false (brokenCopy r.1) r.2
      | some f => if tTick f.trl = s.tide.tick % 2 ^ 16 then schedTake (Frame.sound f) f r.2 else staleTide j.input r.2)

/-- The candidates that no valid copy replaced, delivered with P = 1 in every word at the boundary that ends their tick (R56). -/
def settleCandidates (es : List PlanEntry) (s : State) : State :=
  let s := s.tide.candidates.foldl (fun s c =>
    match es[c.entry]? with
    | some e => schedDeliver e (c.frame.pay.map (fun w => ⟨w.data, true⟩)) (s.bump Obj.schedPoisonedCnt)
    | none => s) s
  modTide (fun d => { d with delivered := d.delivered ++ d.candidates.map (·.entry), candidates := [] }) s

/-- The entries of tick n of which no copy came (R57). -/
def State.missing (s : State) (es : List PlanEntry) (n : Nat) : List Nat :=
  (List.range es.length).filter (fun i =>
    match es[i]? with
    | some e => e.due n && (e.dnode == 255 || (s.node.pair != 0 && pairOf e.dnode == s.node.pair)) && !s.tide.delivered.contains i
    | none => false)

/-- An entry marked stale (R28, R57). -/
def markStale (i : Nat) (s : State) : State := modTide (fun d => { d with stale := i :: d.stale.filter (· != i) }) s

/-- Step 6 of a boundary for the tick n that ends under a plan: candidates, missing entries, and the exchange of the buffers (R56, R57, R61). -/
def settleTick (p : Option Plan) (n : Nat) (s : State) : State :=
  let es := match p with | some p => p.entries | none => []
  let s := settleCandidates es s
  let s := if s.workingChip then
      (s.missing es n).foldl (fun s i => markStale i ((s.bump Obj.schedMissingCnt).put Obj.schedLastMissing i)) s
    else s
  modTide (fun d => { d with area := d.fill, stale := d.stale.filter (fun i => !d.delivered.contains i), delivered := [] }) s

/-- Scheduled frames of the ending tick that wait in the Hold, or for room in it, are discarded as stale tide (R55). -/
def discardStale (s : State) : State :=
  let s := s.tide.waits.foldl (fun s _ => staleTide 7 s) (modTide (fun d => { d with waits := [] }) s)
  promote ((s.hold.jobs.filter (fun j => j.sched)).foldl (fun s j => discardJob 1 j s) s)

/-- The generation received on a port in the tick fulfils a condition (R66). -/
def State.genOn (s : State) (p : Nat) (f : Nat → Bool) : Bool :=
  match s.tide.gens.getD p none with
  | some g => f g
  | none => false

/-- The plan generations of the tick just ended compared with the own one of that tick (R66): a difference counts when every Active ring port
shows one; sending resumes only at a boundary at which an Active port shows the own generation, or with the mode. -/
def genCheck (gen : Nat) (s : State) : State :=
  let ports := [0, 1].filter (fun p => s.rx p == dActive)
  let bad := s.workingChip && !ports.isEmpty && ports.all (fun p => s.genOn p (· != gen))
  let match_ := !s.workingChip || ports.any (fun p => s.genOn p (· == gen))
  let s1 := modTide (fun d => { d with gens := [none, none] }) s
  if !bad then modTide (fun d => { d with misses := 0, stopped := d.stopped && !match_ }) s1
  else
    let m := s.tide.misses + 1
    let s2 := modTide (fun d => { d with misses := m }) s1
    if m < 2 then s2
    else
      let s3 := s2.bump Obj.genMismatchCnt
      if s.tide.stopped then s3
      else
        let g := ((ports.head?.bind (fun p => s.tide.gens.getD p none)).getD 0)
        raise 0x08 0 g (modTide (fun d => { d with stopped := true }) s3)

end Sys2Proof.Machine
end

