-- ==== Sys2Proof/Machine/SavedState.lean ====
section
/-! DEFINITION. Saved-state slots: their bytes, what a slot saves, the choice of a slot, and loading it (R426 to R432, R531). -/

namespace Sys2Proof.Machine

/-- Header fields of a slot (R427). -/
def slFormat (bs : List Byte) : Nat := num bs 0 2
def slWriter (bs : List Byte) : Nat := num bs 4 1 % 2
def slPair (bs : List Byte) : Nat := num bs 5 1
def slGen (bs : List Byte) : Nat := num bs 6 4
def slSeq (bs : List Byte) : Nat := num bs 10 4
def slSections (bs : List Byte) : Nat := num bs 14 2
def slTick (bs : List Byte) : Nat := num bs 18 6
def slLength (bs : List Byte) : Nat := num bs 24 4
def slCrc (bs : List Byte) : Nat := num bs 28 4

/-- The sections of a slot as bytes. -/
def slBody (bs : List Byte) : List Byte := slice bs 32 (slLength bs)

/-- A slot is valid (R432). -/
def slotValid (bs : List Byte) : Bool :=
  decide (32 ≤ bs.length) && slFormat bs == 1 && decide (32 + slLength bs ≤ bs.length) &&
    slCrc bs == crc32c (slice bs 0 28 ++ slBody bs)

/-- A section as bytes (R427). -/
def sectionBytes (e : Nat × List Byte) : List Byte := bytesOf 8 (e.1 * 2 ^ 48 + e.2.length) ++ pad8 e.2

/-- The bytes of a slot with its header (R427). -/
def slotBytes (writer pair gen seq fw tick : Nat) (secs : List (Nat × List Byte)) : List Byte :=
  let body := secs.flatMap sectionBytes
  let head := bytesOf 4 1 ++ bytesOf 1 (writer % 2) ++ bytesOf 1 pair ++ bytesOf 4 gen ++ bytesOf 4 seq ++ bytesOf 2 secs.length ++
    bytesOf 2 fw ++ bytesOf 6 tick ++ bytesOf 4 body.length
  head ++ bytesOf 4 (crc32c (head ++ body)) ++ body

/-- The sections that bytes hold, at most n of them. -/
def sectionsOf : Nat → List Byte → List (Nat × List Byte)
  | 0, _ => []
  | n + 1, bs =>
    if bs.length < 8 then []
    else (num bs 6 2, slice bs 8 (num bs 0 4)) :: sectionsOf n (bs.drop (8 + 8 * wordCount (num bs 0 4)))

/-- The sections of a slot. -/
def slotSections (bs : List Byte) : List (Nat × List Byte) := sectionsOf (slSections bs) (slBody bs)

/-- A DOMAIN at its full length: one stored shorter reads zero beyond its end. -/
def fullDomain (o : Obj) (v : List Byte) : List Byte := (v ++ List.replicate (o.dflt - v.length) 0).take o.dflt

/-- The value of a saved object as a slot keeps it; a DOMAIN is kept at its full length (log entry 43). -/
def State.savedValue (s : State) (o : Obj) : List Byte := if o.ty.size = 0 then fullDomain o (s.blob o) else s.objBytes o

/-- An object in a section (R427). -/
def State.objEntry (s : State) (o : Obj) : List Byte :=
  let v := s.savedValue o
  bytesOf 8 (o.idx * 2 ^ 48 + o.sub * 2 ^ 40 + v.length % 256 * 2 ^ 32) ++ pad8 v

/-- The objects that a section holds: index, subindex, value. -/
def objEntries : Nat → List Byte → List (Nat × Nat × List Byte)
  | 0, _ => []
  | n + 1, bs =>
    if bs.length < 8 then []
    else
      let idx := num bs 6 2
      let sub := num bs 5 1
      let size := match objAt idx sub with
        | some o => if o.ty.size = 0 then o.dflt else num bs 4 1
        | none => num bs 4 1
      (idx, sub, slice bs 8 size) :: objEntries n (bs.drop (8 + 8 * wordCount size))

/-- Section 0x0010 (R426; its layout is the model's, log entry 43): each plan with its length, and the armed plan's ACT_TICK. -/
def State.planSection (s : State) : List Byte :=
  let raw := fun (p : Option Plan) => match p with | some a => a.raw | none => []
  let tick := match s.tide.armed with | some a => a.actTick | none => 0
  bytesOf 4 (raw s.tide.active).length ++ raw s.tide.active ++ bytesOf 4 (raw s.tide.armed).length ++ raw s.tide.armed ++ bytesOf 8 tick

/-- Section 0x0011: entries, disable list, generation. -/
def State.manifestSection (s : State) : List Byte :=
  (List.range 2048).flatMap (fun i => bytesOf 16 (mapGet 0 s.man.entries i)) ++ s.man.disable.flatMap (bytesOf 4) ++
    bytesOf 4 (s.get Obj.manifestGen)

/-- Section 0x0012: the Tally, 3 bytes a word. -/
def State.tallySection (s : State) : List Byte := (List.range 1024).flatMap (fun a => bytesOf 3 (s.tallyWord a))

/-- Registers of a pulse generator, CONTROL last (R402). -/
def genObjs (n : Nat) : List Obj := [Obj.pgStartSec n, Obj.pgStartNs n, Obj.pgPeriod n, Obj.pgWidth n, Obj.pgCount n, Obj.pgControl n]

/-- Section 0x0013: the number and the registers of each generator with PERSIST = 1 (R406). -/
def State.genSection (s : State) : List Byte :=
  ((List.range 16).filter (fun n => bit (s.get (Obj.pgControl n)) 10)).flatMap (fun n =>
    bytesOf 8 n ++ (genObjs n).flatMap (fun o => bytesOf 8 (s.get o)))

/-- The pair sections and the chip section of the present state (R426). -/
def State.pairSections (s : State) : List (Nat × List Byte) :=
  [(0x0001, (savedObjs.filter (fun o => !o.chipOwn)).flatMap s.objEntry), (0x0010, s.planSection), (0x0011, s.manifestSection),
   (0x0012, s.tallySection), (0x0013, s.genSection)]
def State.chipSection (s : State) : Nat × List Byte := (0x0002, (savedObjs.filter Obj.chipOwn).flatMap s.objEntry)

/-- The slot that a chip writes of its own state at a boundary (R427, R428). -/
def State.ownSlot (s : State) : List Byte :=
  slotBytes (b2n s.node.posB) (s.get Obj.pairNode) (s.get Obj.savedGen) (s.get Obj.slotSeq + 1) s.fwGen s.tide.tick
    (s.pairSections ++ [s.chipSection])

/-- A slot of given pair sections with this chip's own section (R429, R431). -/
def State.mixedSlot (s : State) (pair : Nat) (from_ : List Byte) : List Byte :=
  slotBytes (slWriter from_) pair (slGen from_) (s.get Obj.slotSeq + 1) s.fwGen (slTick from_)
    ((slotSections from_).filter (fun e => e.1 != 0x0002) ++ [s.chipSection])

/-- What goes to the twin: the header with the pair sections alone, its LENGTH, SECTIONS and STATE_CRC theirs (R430, R431). -/
def copyBytes (slot : List Byte) : List Byte :=
  slotBytes (slWriter slot) (slPair slot) (slGen slot) (slSeq slot) (num slot 16 2) (slTick slot)
    ((slotSections slot).filter (fun e => e.1 != 0x0002))

/-- SLOT_SEQ that a slot's header shows; 0 for a slot with no header. -/
def slotRank (bs : List Byte) : Nat := if 32 ≤ bs.length then slSeq bs + 1 else 0

/-- The latest valid slot: 0 or 1 (R432). -/
def State.latestSlot (s : State) : Option Nat :=
  match slotValid s.flash.saved0, slotValid s.flash.saved1 with
  | true, true => if slSeq s.flash.saved0 < slSeq s.flash.saved1 then some 1 else some 0
  | true, false => some 0
  | false, true => some 1
  | false, false => none

/-- A slot's bytes, and a slot written. -/
def State.savedSlot (s : State) (i : Nat) : List Byte := if i = 0 then s.flash.saved0 else s.flash.saved1
def setSlot (i : Nat) (bs : List Byte) (s : State) : State :=
  if i = 0 then { s with flash := { s.flash with saved0 := bs } } else { s with flash := { s.flash with saved1 := bs } }

/-- The slot that is written next: the one that does not hold the latest valid state (R428). -/
def State.spareSlot (s : State) : Nat := match s.latestSlot with | some 0 => 1 | _ => 0

/-- A saved value applied; one out of its object's range leaves the default, with a record (R531). A halted crane whose range it changes has a
changed program (R289). -/
def applySaved (chip : Bool) (e : Nat × Nat × List Byte) (s : State) : State :=
  let bad := raise 0x36 0 (e.1 * 2 ^ 16 + e.2.1 * 2 ^ 8)
  match objAt e.1 e.2.1 with
  | none => bad s
  | some o =>
    if !o.saved ∨ o.chipOwn ≠ chip then s
    else if o.ty.size = 0 then s.putBlob o e.2.2
    else if e.2.2.length = o.ty.size ∧ s.inRange o (ofBytes e.2.2) then
      let changed := 0x4200 ≤ o.idx ∧ o.idx < 0x4240 ∧ isRangeObj o ∧ ofBytes e.2.2 ≠ s.get o
      let s := s.put o (ofBytes e.2.2)
      if changed then replaceProgram (o.idx - 0x4200) s else s
    else bad (s.put o o.dflt)

/-- The plans of a slot take their places: an armed one whose ACT_TICK has passed is in effect with its period (R49, R67). -/
def loadPlans (bs : List Byte) (s : State) : State :=
  let n := num bs 0 4
  let act := slice bs 4 n
  let arm := slice bs (8 + n) (num bs (4 + n) 4)
  let plan := fun (b : List Byte) => if b.isEmpty then none else some (planOf b)
  let s := modTide (fun d => { d with candidates := [], delivered := [] }) (setActive (plan act) s)
  match plan arm with
  | none => armPlan none s
  | some a => if s.tide.placed ∧ a.actTick ≤ s.tide.tick then takePlan a (armPlan none s) else armPlan (some a) s

/-- The manifest of a slot. -/
def loadManifest (bs : List Byte) (s : State) : State :=
  let n := bs.length
  let es := (List.range 2048).foldl (fun m i => mapSet 0 m i (num bs (16 * i) 16)) []
  let d := (List.range ((n - 32772) / 4)).map (fun i => num bs (32768 + 4 * i) 4)
  ({ s with man := { s.man with entries := es, disable := d } }).put Obj.manifestGen (num bs (n - 4) 4)

/-- The Tally of a slot: the program of every halted crane has been written (R289). -/
def loadTally (bs : List Byte) (s : State) : State :=
  let s := (List.range 64).foldl (fun s g => replaceProgram g s) s
  setTally (fun t => { t with
    words := (List.range 1024).foldl (fun m a => mapSet 0 m a (num bs (3 * a) 3)) []
    inv := t.inv.filter (fun e => decide (1024 ≤ e.1)) }) s

/-- The generators that a section of slots lists. -/
def listedGens (bs : List Byte) : List Nat := (List.range (bs.length / 56)).map (fun i => num bs (56 * i) 8 % 16)

/-- The pulse generators of a slot: one with PERSIST that the slot does not list is at its defaults (R426, R531). -/
def loadGens (bs : List Byte) (s : State) : State :=
  let s := ((List.range 16).filter (fun n => bit (s.get (Obj.pgControl n)) 10 && !(listedGens bs).contains n)).foldl
    (fun s n => (genObjs n).foldl (fun s o => s.put o o.dflt) s) s
  (List.range (bs.length / 56)).foldl (fun s i =>
    let n := num bs (56 * i) 8 % 16
    (List.range 6).foldl (fun s j => s.put ((genObjs n).getD j (Obj.pgControl n)) (num bs (56 * i + 8 + 8 * j) 8)) s) s

/-- A section applied; the chip section of another chip is none of ours. -/
def loadSection (e : Nat × List Byte) (s : State) : State :=
  let objs := objEntries e.2.length e.2
  if e.1 = 0x0001 then objs.foldl (fun s x => applySaved false x s) s
  else if e.1 = 0x0002 then objs.foldl (fun s x => applySaved true x s) s
  else if e.1 = 0x0010 then loadPlans e.2 s
  else if e.1 = 0x0011 then loadManifest e.2 s
  else if e.1 = 0x0012 then loadTally e.2 s
  else if e.1 = 0x0013 then loadGens e.2 s
  else s

/-- A valid slot loaded: every value together (R531), with the source that `SAVED_SOURCE` shows (R539). -/
def loadSlot (source : Nat) (bs : List Byte) (s : State) : State :=
  let s := (slotSections bs).foldl (fun s e => loadSection e s) s
  let s := (((s.put Obj.savedGen (slGen bs)).put Obj.slotSeq (slSeq bs)).put Obj.savedTick (slTick bs)).put Obj.savedLen (slLength bs)
  { s.put Obj.savedSource source with node := { s.node with loaded := true } }

/-- The node takes its number from a slot's header (R432). -/
def takePair (n : Nat) (s : State) : State := { s.put Obj.pairNode n with node := { s.node with pair := n } }

/-- The effect of `SAVED_STATE_LOAD` (R432, R531): in Berthing the valid slot with the later SLOT_SEQ is loaded; the older one, when the later
is not valid, with a record. -/
def execSavedStateLoad (s : State) : Host.Outcome State Fault Refusal :=
  .next (
    if s.node.mode = .berthing ∧ s.released 5 then
      match s.latestSlot with
      | none => s
      | some i =>
        let bs := s.savedSlot i
        let older := decide (slotRank bs < slotRank (s.savedSlot (1 - i)))
        let s := if older then raise 0x33 0 (slSeq bs) s else s
        takePair (slPair bs) (loadSlot 1 bs s)
    else s)

/-- A slot write begins: the spare slot is erased and will hold the bytes (R428). -/
def beginWrite (bs : List Byte) (s : State) : State :=
  let s := setSlot s.spareSlot [] s
  let s := s.put Obj.saveState 1
  { s with twin := { s.twin with writing := some bs, saveDue := false, sending := none, retryWait := false } }

/-- At a boundary: the content of a commit that has taken effect is taken, unless a write is running (R428). -/
def saveBoundary (s : State) : State := if s.twin.saveDue ∧ s.twin.writing.isNone then beginWrite s.ownSlot s else s

end Sys2Proof.Machine
end

