-- ==== Sys2Proof/Machine/Update.lean ====
section
/-! DEFINITION. Update sessions: guards, delivery, the check of an image, ACTIVATE, confirmation and fallback (R540 to R552). -/

namespace Sys2Proof.Machine

/-- The update state changed. -/
def modUpd (f : UpdState → UpdState) (s : State) : State := { s with upd := f s.upd }

/-- Image slot i (R540), and a slot written. -/
def State.image (s : State) (i : Nat) : List Byte := if i = 0 then s.flash.image0 else s.flash.image1
def setImage (i : Nat) (bs : List Byte) (s : State) : State :=
  if i = 0 then { s with flash := { s.flash with image0 := bs } } else { s with flash := { s.flash with image1 := bs } }

/-- The inactive slot: the one that takes the next image. -/
def State.spareImage (s : State) : Nat := 1 - s.upd.slot

/-- Header fields of an image (R541). -/
def imFormat (bs : List Byte) : Nat := num bs 0 2
def imKind (bs : List Byte) : Nat := num bs 2 1
def imKey (bs : List Byte) : Nat := num bs 3 1
def imDevice (bs : List Byte) : Nat := num bs 4 2
def imMinRev (bs : List Byte) : Nat := num bs 6 1
def imFwGen (bs : List Byte) : Nat := num bs 8 2
def imPair (bs : List Byte) : Nat := num bs 10 1
def imBodyLen (bs : List Byte) : Nat := num bs 12 4
def imReserved (bs : List Byte) : Nat := num bs 7 1 + num bs 11 1 + num bs 16 16
def imBody (bs : List Byte) : List Byte := slice bs 32 (imBodyLen bs)

/-- `UPD_TOTAL` (R545). -/
def State.updTotal (s : State) : Nat := if 32 ≤ s.get Obj.updReceived then 96 + imBodyLen (s.image s.spareImage) else 0

/-- The supply guard of R543: `BATT_ON` low and `GW_VIN_MEAS` at 21,600 mV or above. -/
def State.supplyOk (s : State) : Bool := !s.upd.batt && decide (21600 ≤ s.gw.vin)

/-- `UPD_RESULT` written: a code of this chapter. -/
def updResult (code : Nat) (s : State) : State := s.put Obj.updResult code

/-- A code where the spec names none for a refusal: a free one that is not 0 (log entry 44). -/
def freeCode (s : State) : Nat × State :=
  let d := s.draw
  (d.1.toNat % 255 + 1, d.2)

/-- The REPLY of the relay (R547). -/
def relayReply (node rseq status : Nat) (s : State) : State :=
  sendResponse ⟨7, 2, false, node, 0, [pw (w64 (0x81 * 2 ^ 56 + status % 256 * 2 ^ 48 + rseq % 256 * 2 ^ 40))], .core, 0, none, true, false⟩ s

/-- The REPLY of a relay command that has completed (R547). -/
def relayDone (status : Nat) (s : State) : State :=
  match s.upd.relay with
  | some (n, q) => relayReply n q status (modUpd (fun u => { u with relay := none }) s)
  | none => s

/-- The guards of R543 that OPEN checks, in their order; holds says that the writer holds the open lock. -/
def State.openCode (s : State) (holds : Bool) : Nat :=
  if !holds then 0x12
  else if !(s.node.mode == .anchored || s.node.mode == .working || s.node.mode == .reduced) then 0x13
  else if s.upd.isOpen then 0x14
  else if !s.upd.mnv then 0x10
  else if !s.supplyOk then 0x11
  else 0

/-- OPEN and OPEN with RESUME (R543): a code of this chapter, 0 when accepted. -/
def updOpen (resume holds : Bool) (s : State) : Nat × State :=
  let code := s.openCode holds
  let s := updResult code s
  if code ≠ 0 then (code, s)
  else
    let keep := resume && s.upd.resumable
    let s := { s with node := { s.node with toDryDock := true, leaveDryDock := false } }
    let s := modUpd (fun u => { u with isOpen := true, resumable := false, state := 1, erasing := !keep, verifying := false, guardEnd := false }) s
    if keep then (0, s.put Obj.updCmd stDone)
    else (0, ((setImage s.spareImage [] s).put Obj.updReceived 0).put Obj.updCmd stBusy)

/-- The session ends, and the node leaves Dry dock at the next boundary (R544, R552). -/
def endSession (cause : Nat) (s : State) : State :=
  let s := modUpd (fun u => { u with isOpen := false, state := 0, guardEnd := false, verifying := false }) (s.put Obj.updEndCause cause)
  { s with node := { s.node with toDryDock := false, leaveDryDock := s.node.mode == .dryDock } }

/-- A session ended under R544: a RESUME may follow. -/
def closeSession (cause : Nat) (s : State) : State := modUpd (fun u => { u with resumable := true }) (endSession cause s)

/-- The effect of `UPD_ERASE_COMPLETE` (R543). -/
def execUpdEraseComplete (s : State) : Host.Outcome State Fault Refusal :=
  .next (if s.upd.erasing then relayDone 0 ((modUpd (fun u => { u with erasing := false }) s).put Obj.updCmd stDone) else s)

/-- Bytes of an image delivered at an offset (R545): a code of this chapter, 0 when taken. -/
def chunkWrite (off : Nat) (data : List Byte) (s : State) : Nat × State :=
  let i := s.spareImage
  let have_ := s.get Obj.updReceived
  let n := data.length
  let open_ := s.upd.isOpen && !s.upd.erasing && (s.upd.state == 1 || s.upd.state == 2)
  if open_ ∧ off = have_ ∧ off + n ≤ 524288 then
    (0, modUpd (fun u => { u with state := 1 }) ((setImage i (s.image i ++ data) s).put Obj.updReceived (have_ + n)))
  else if open_ ∧ off + n ≤ have_ ∧ slice (s.image i) off n = data then (0, modUpd (fun u => { u with state := 1 }) s)
  else if 524288 < off + n then (0x16, s)
  else (0x15, s)

/-- VERIFY starts (R548). -/
def updVerify (s : State) : Nat × State :=
  if s.upd.isOpen ∧ (s.upd.state = 1 ∨ s.upd.state = 2) then
    (0, (modUpd (fun u => { u with verifying := true }) s).put Obj.updCmd stBusy)
  else freeCode s

/-- A value that a configuration image carries is one that its object takes (R548 code 0x07). -/
def State.cfgValueOk (s : State) (e : Nat × Nat × List Byte) : Bool :=
  match objAt e.1 e.2.1 with
  | none => false
  | some o =>
    o.saved && !o.chipOwn &&
      (if o.ty.size = 0 then e.2.2.length == o.dflt else e.2.2.length == o.ty.size && s.inRange o (ofBytes e.2.2))

/-- A section of a configuration image is allowed, and its values are in range (R548 code 0x07). -/
def State.cfgSectionOk (s : State) (e : Nat × List Byte) : Bool :=
  [0x0001, 0x0010, 0x0011, 0x0012, 0x0013].contains e.1 &&
    (e.1 != 0x0001 || (objEntries e.2.length e.2).all s.cfgValueOk)

/-- The sections of a configuration body. -/
def bodySections (body : List Byte) : List (Nat × List Byte) := sectionsOf (body.length / 8 + 1) body

/-- A header that breaks the format (R548 code 0x02). -/
def imBad (bs : List Byte) : Bool :=
  imFormat bs != 1 || !(imKind bs == 1 || imKind bs == 2) || imReserved bs != 0 || (imKind bs == 2 && imFwGen bs != 0) ||
    imBodyLen bs == 0 || decide ((if imKind bs = 1 then 229376 else 262112) < imBodyLen bs)

/-- The code that VERIFY ends with (R548). -/
def State.verifyCode (s : State) : Nat :=
  let bs := s.image s.spareImage
  let cfg := imKind bs == 2
  if s.get Obj.updReceived < 32 ∨ s.get Obj.updReceived < s.updTotal then 0x01
  else if imBad bs then 0x02
  else if imDevice bs ≠ 0x0072 ∨ Config.siliconRev.toNat < imMinRev bs then 0x03
  else if 1 < imKey bs ∨ Config.keyBlank (imKey bs) then 0x04
  else if !Config.signatureOk (imKey bs) (bs.take s.updTotal) then 0x05
  else if cfg ∧ imPair bs ≠ 0 ∧ imPair bs ≠ s.node.pair then 0x06
  else if cfg ∧ !(bodySections (imBody bs)).all s.cfgSectionOk then 0x07
  else if cfg ∧ !s.node.owns then 0x08
  else 0

/-- The effect of `UPD_VERIFY_COMPLETE` (R548); a guard that failed meanwhile ends the session now (R544). -/
def execUpdVerifyComplete (s : State) : Host.Outcome State Fault Refusal :=
  .next (
    if s.upd.verifying then
      let code := s.verifyCode
      let s := updResult code (modUpd (fun u => { u with verifying := false, state := if code = 0 then 2 else 1 }) s)
      let s := relayDone code (s.put Obj.updCmd (if code = 0 then stDone else stRefused))
      if s.upd.guardEnd then closeSession (s.get Obj.updEndCause) s else s
    else s)

/-- A slot of given pair sections as a new commit of this chip (R428, R550). -/
def State.commitSlot (s : State) (secs : List (Nat × List Byte)) : List Byte :=
  slotBytes (b2n s.node.posB) (s.get Obj.pairNode) (s.get Obj.savedGen) (s.get Obj.slotSeq + 1) s.fwGen s.tide.tick (secs ++ [s.chipSection])

/-- The pair sections that a configuration switch writes: those of the image, or those of the saved state it replaced (R550, R552). -/
def State.cfgSections (s : State) : List (Nat × List Byte) :=
  if s.upd.state = 5 then (slotSections s.upd.oldState).filter (fun e => e.1 != 0x0002) else bodySections (imBody (s.image s.spareImage))

/-- The write of a configuration switch begins, when no other slot write runs (R428, R550). -/
def cfgWrite (s : State) : State :=
  if s.upd.cfgDue ∧ s.twin.writing.isNone then
    beginWrite (s.commitSlot s.cfgSections) (modUpd (fun u => { u with cfgDue := false }) s)
  else s

/-- A configuration switch is started as a commit, `SAVED_GEN` advanced (R550). -/
def cfgStart (s : State) : State :=
  let s := s.put Obj.savedGen (Nat.max (s.get Obj.savedGen) s.twinSavedGen + 1)
  cfgWrite (modUpd (fun u => { u with cfgDue := true, cfgReady := false }) s)

/-- The write of a configuration switch runs. -/
def State.cfgWriting (s : State) : Bool :=
  s.upd.config && (s.upd.state == 3 || s.upd.state == 5) && !s.upd.cfgDue && !s.upd.cfgReady && s.twin.writing.isSome

/-- The guards of R543 but for MODE and SESSION, as a session is under way: the code of the first that fails (R544, R549). -/
def State.guardCode (s : State) : Nat :=
  if s.dict.holder.isNone then 0x12 else if !s.upd.mnv then 0x10 else if !s.supplyOk then 0x11 else 0

/-- ACTIVATE (R549, R550): a code, 0 when accepted. For a firmware image the boot record is written at once. -/
def updActivate (s : State) : Nat × State :=
  if !(s.upd.isOpen && s.upd.state == 2 && !s.upd.verifying) then freeCode s
  else if s.guardCode ≠ 0 then (s.guardCode, updResult s.guardCode s)
  else
    let cfg := imKind (s.image s.spareImage) == 2
    let old := match s.latestSlot with | some i => s.savedSlot i | none => s.ownSlot
    let s := modUpd (fun u => { u with state := 3, config := cfg, late := false, oldState := if cfg then old else [] }) (s.put Obj.updCmd stBusy)
    if cfg then (0, cfgStart s)
    else (0, (writeBoot s.spareImage true s).bump Obj.updActivateCnt)

/-- The effect of `ACTIVATE_RECORD_VERIFIED` (R549 step 2): the management pause begins; contexts close and the watchdog stops. -/
def execActivateRecordVerified (s : State) : Host.Outcome State Fault Refusal :=
  .next (
    if (s.upd.state = 3 ∨ s.upd.state = 5) ∧ !s.upd.config ∧ !s.upd.pause then
      modUpd (fun u => { u with pause := true })
        { s with dict := { s.dict with ctxs := [] }, rst := { s.rst with wdt := false } }
    else s)

/-- The self-test cycle of an Anchored chip restarts (R549). -/
def restartCycle (s : State) : State :=
  if s.anchored then { s with twin := { s.twin with stFail := 0, stDone := false } } else s

/-- What ends an activation: the trial begins (R549 step 4, R550). -/
def beginTrial (s : State) : State :=
  let st := if s.upd.late then stLate + stDone else stDone
  relayDone 0 (modUpd (fun u => { u with state := 4, late := false, trialAt := s.tide.clock }) (s.put Obj.updCmd st))

/-- The effect of `ACTIVATE_LOAD_COMPLETE` (R549 steps 3 and 4, R552): the firmware of the other slot runs, the pause ends. -/
def execActivateLoadComplete (s : State) : Host.Outcome State Fault Refusal :=
  .next (
    if s.upd.pause ∧ (s.upd.state = 3 ∨ s.upd.state = 5) then
      let s := modUpd (fun u => { u with pause := false, slot := 1 - u.slot, trial := u.state == 3 }) s
      let s := modBridge (fun b => { b with sram := [], sramZero := true, sramInv := [] }) { s with rst := { s.rst with wdt := true } }
      let s := restartCycle s
      if s.upd.state = 3 then beginTrial s else endSession (s.get Obj.updEndCause) s
    else s)

/-- CONFIRM (R552): a code, 0 when accepted. -/
def updConfirm (s : State) : Nat × State :=
  if s.upd.state ≠ 4 then freeCode s
  else
    let s := if s.upd.config then s else modUpd (fun u => { u with trial := false }) (writeBoot s.upd.slot false s)
    (0, (endSession 0 s).put Obj.updCmd stDone)

/-- CLOSE (R544): a code, 0 when accepted; a session past the point of no return is not closed. -/
def updClose (s : State) : Nat × State :=
  if !s.upd.isOpen ∨ 3 ≤ s.upd.state then freeCode s else (0, (closeSession 0 s).put Obj.updCmd stDone)

/-- ABORT (R551): before the point of no return of a configuration image the activation is undone; after it the abort is late. -/
def updAbort (s : State) : State :=
  if s.upd.state ≠ 3 then s
  else if s.upd.config ∧ !s.upd.cfgReady ∧ s.tide.pause = 0 then
    let s := if s.cfgWriting then { s with twin := { s.twin with writing := none } } else s
    let f := freeCode s
    let s := f.2
    relayDone f.1 ((modUpd (fun u => { u with state := 2, cfgDue := false }) (s.put Obj.saveState 0)).put Obj.updCmd stAborted)
  else modUpd (fun u => { u with late := true }) s

/-- The effect of `UPD_TRIAL_EXPIRY` (R552): 60 s have passed without CONFIRM, and the image is reverted. -/
def execUpdTrialExpiry (s : State) : Host.Outcome State Fault Refusal :=
  .next (
    if s.upd.state = 4 then
      let s := modUpd (fun u => { u with state := 5 }) (s.bump Obj.updRevertCnt)
      if s.upd.config then cfgStart s else writeBoot (1 - s.upd.slot) false s
    else s)

/-- The slot of a configuration switch is verified: the point of no return (R550), or written in vain. -/
def cfgWritten (verified : Bool) (s : State) : State :=
  if verified then
    let s := modUpd (fun u => { u with cfgReady := true }) s
    if s.upd.state = 3 then s.bump Obj.updActivateCnt else s
  else if s.upd.state = 3 then
    let f := freeCode s
    relayDone f.1 ((modUpd (fun u => { u with state := 2 }) f.2).put Obj.updCmd stRefused)
  else endSession (s.get Obj.updEndCause) s

/-- Boundary b of a configuration switch: every crane halts, the sections are applied as on loading, and the pause of two ticks begins
(R550). -/
def cfgApply (s : State) : State :=
  if s.upd.cfgReady then
    let secs := match s.latestSlot with | some i => (slotSections (s.savedSlot i)).filter (fun (e : Nat × List Byte) => e.1 != 0x0002) | none => []
    let s := haltAllCranes s
    let s := secs.foldl (fun s e => loadSection e s) s
    modTide (fun d => { d with pause := 2 }) (modUpd (fun u => { u with cfgReady := false }) s)
  else s

/-- The pause of a configuration switch counts down; at boundary b + 2 outputs are applied and the trial begins, or the revert ends (R550,
R552). -/
def cfgResume (s : State) : State :=
  if s.tide.pause = 0 then s
  else
    let s := modTide (fun d => { d with pause := d.pause - 1 }) s
    if 0 < s.tide.pause then s
    else
      let s := { s with node := { s.node with resume := s.node.owns } }
      if s.upd.state = 3 then beginTrial (setImage s.spareImage [] s) else endSession (s.get Obj.updEndCause) s

/-- The guards at a tick boundary (R544). -/
def guardBoundary (s : State) : State :=
  if s.upd.isOpen ∧ (s.upd.state = 1 ∨ s.upd.state = 2) ∧ !s.upd.guardEnd ∧ s.guardCode ≠ 0 then
    let c := s.guardCode
    let s := s.bump Obj.updGuardEndCnt
    if s.upd.verifying then modUpd (fun u => { u with guardEnd := true }) (s.put Obj.updEndCause c) else closeSession c s
  else s

end Sys2Proof.Machine
end

