-- ==== Sys2Proof/Machine/Twin.lean ====
section
/-! DEFINITION. The twin pair: frames between the twins, self-test, give-up and hand-over, saved-state writes and copies, line pick-up
(R414 to R442). -/

namespace Sys2Proof.Machine

/-- The twin logic changed. -/
def modTwin (f : TwinState → TwinState) (s : State) : State := { s with twin := f s.twin }

/-- A twin frame sent on the mooring link, when it is up (R415); it takes its SEQ from the class 10 counter (R14). -/
def sendTwin (ws : List W64) (s : State) : State :=
  if s.tx 2 = dActive then
    let q := nextSeqOf 2 s
    let dnode := if s.nodeNumber = 0 then 255 else s.twinNumber
    let pay : List PWord := ws.map (fun w => ⟨w, false⟩)
    let f : Frame := ⟨mkHdr dnode s.nodeNumber 0xFB 2 q.1 ws.length 0 0, pay, mkTrl s.tide.tick pay⟩
    modTwin (fun t => { t with sent := t.sent ++ [f] }) q.2
  else s

/-- TKIND of a twin frame (R415). -/
def twinKind (f : Frame) : Nat := wfld (Frame.word f 0) 56 8

/-- A frame that the mooring receive side consumes as a twin frame (R415). -/
def State.isTwinFrame (s : State) (f : Frame) : Bool :=
  s.rxOpen 2 && hdrOk f.hdr && hClass f.hdr == 2 && hDport f.hdr == 0xFB

/-- A twin frame that is taken: its trailer CRC holds, no word is poisoned (log entry 45), and it is of a kind and length. -/
def State.takesTwin (s : State) (f : Frame) (kind len : Nat) : Bool :=
  s.isTwinFrame f && Frame.crcOk f && !f.pay.any (·.p) && twinKind f == kind && f.pay.length == len

/-- The effect of `HEARTBEAT_RECEIVE` (R416, R417). -/
def execHeartbeatReceive (f : Frame) (s : State) : Host.Outcome State Fault Refusal :=
  .next (
    if s.takesTwin f 1 6 then
      let w := fun i => (Frame.word f i).toNat
      let drive := w 2 + w 3 * 2 ^ 64 + w 4 * 2 ^ 128 + w 5 * 2 ^ 192
      let hb : Heartbeat := ⟨fld (w 0) 48 8, fld (w 0) 44 4, fld (w 0) 0 32, fld (w 1) 0 48, drive⟩
      modTwin (fun t => { t with hb := some hb, hbAge := 0, hbNow := true, hbSince := true }) s
    else s)

/-- The effect of `HEALTH_REPORT_RECEIVE` (R418, R419). -/
def execHealthReportReceive (f : Frame) (s : State) : Host.Outcome State Fault Refusal :=
  .next (
    if s.takesTwin f 2 4 then modTwin (fun t => { t with health := some (f.pay.map (·.data)), healthAge := 0 }) s else s)

/-- The effect of `TWIN_FRAME_DROP` (R415). -/
def execTwinFrameDrop (f : Frame) (s : State) : Host.Outcome State Fault Refusal :=
  .next (
    if s.isTwinFrame f ∧ (!Frame.crcOk f ∨ f.pay.any (·.p) ∨ twinKind f = 0 ∨ 4 < twinKind f) then s.bump Obj.twinFrameErrCnt else s)

/-- SELFTEST_OK (R421) and ST_FAIL (R418). -/
def State.selfTestOk (s : State) : Bool := s.twin.stDone && s.twin.stLast == 0
def State.stFailMask (s : State) : Nat := s.twin.stFail ||| (if s.twin.stDone then s.twin.stLast else 0)

/-- SAVED_OK and TIME_OK (R418). -/
def State.savedOk (s : State) : Bool :=
  s.node.loaded && (!s.twin.hbSince || (match s.twin.hb with | some h => h.savedGen == s.get Obj.savedGen | none => true))
def State.timeOk (s : State) : Bool := s.get (Obj.domState s.workDom) == 2

/-- READY (R419). -/
def State.readyNow (s : State) : Bool := s.node.mode == .anchored && s.selfTestOk && s.savedOk && s.timeOk

/-- An Anchored chip's own health is good (R419). -/
def State.healthGood (s : State) : Bool := s.stFailMask == 0 && !s.faults.recs.any (fun r => r.cls == .fatal)

/-- The heartbeat of this tick (R416). -/
def State.heartbeatWords (s : State) : List W64 :=
  [w64 (1 * 2 ^ 56 + s.nodeNumber * 2 ^ 48 + s.node.mode.num * 2 ^ 44 + s.get Obj.savedGen), w64 (s.twin.applied % 2 ^ 48),
   w64 s.pins.drive, w64 (s.pins.drive / 2 ^ 64), w64 (s.pins.drive / 2 ^ 128), w64 (s.pins.drive / 2 ^ 192)]

/-- `PAGES_WORN`: the number of worn Tally pages (R316). -/
def State.pagesWorn (s : State) : Nat := popCount 64 s.tally.worn

/-- The health report of this tick (R418). -/
def State.healthWords (s : State) : List W64 :=
  [w64 (2 * 2 ^ 56 + s.nodeNumber * 2 ^ 48 + s.node.mode.num * 2 ^ 44 + b2n s.readyNow * 2 ^ 43 + b2n s.savedOk * 2 ^ 42 +
      b2n s.selfTestOk * 2 ^ 41 + b2n s.timeOk * 2 ^ 40 + s.stFailMask % 64 * 2 ^ 32 + s.get Obj.savedGen),
   w64 (s.fwGen * 2 ^ 48 + s.tide.tick % 2 ^ 48),
   w64 (s.hold.retired.length % 2 ^ 16 * 2 ^ 48 + s.pagesWorn % 256 * 2 ^ 40 + s.get Obj.selftestCycles % 2 ^ 16 * 2 ^ 16 +
      s.twin.eyeHLast % 256 * 2 ^ 8 + s.twin.eyeVLast % 256),
   w64 (s.get Obj.slotSeq * 2 ^ 32 + s.faults.recs.length % 2 ^ 16 * 2 ^ 16)]

/-- The effect of `SELFTEST_CYCLE_END` (R421). -/
def execSelftestCycleEnd (s : State) : Host.Outcome State Fault Refusal :=
  .next (
    if s.anchored then
      modTwin (fun t => { t with stLast := t.stFail, stDone := true, stFail := 0, eyeHLast := t.eyeHMin,
                                 eyeVLast := t.eyeVMin, eyeHMin := 255, eyeVMin := 255 }) (s.bump Obj.selftestCycles)
    else s)

/-- The lowest enabled criterion that holds (R423). -/
def State.giveUpCode (s : State) : Option Nat := ((bitsOf 6 (s.twin.crit &&& s.get Obj.giveupEn)).head?).map (· + 1)

/-- A chip from which ownership passes: the owner in Working or Reduced draught (R32, R424, R425). -/
def State.mayRelease (s : State) : Bool := s.node.owns && (s.node.mode == .working || s.node.mode == .reduced)

/-- The owner releases the pins and `TWIN_OWN_N` and enters Anchored; `CLAIM_WAIT` runs (R424, R425, R440). -/
def passOn (handed : Bool) (s : State) : State :=
  modTwin (fun t => { t with claimWait := true, handed := handed, lateAbort := false }) (enterAnchored (releaseOwnership s))

/-- The effect of `GIVE_UP` (R424). -/
def execGiveUp (s : State) : Host.Outcome State Fault Refusal :=
  .next (
    match s.giveUpCode with
    | none => s
    | some c =>
      if s.mayRelease ∧ s.twinReady then
        let s := releaseOwnership s
        let s := (s.put Obj.lastGiveup (s.tide.tick % 2 ^ 16 * 2 ^ 16 + c)).bump Obj.giveupCnt
        passOn false (raise 0x31 0 c s)
      else s)

/-- The hand-over itself: BUSY until the twin claims, counted, ownership passed on (R425). -/
def handOver (s : State) : State := passOn true ((s.put Obj.handover stBusy).bump Obj.releaseCnt)

/-- The command that waits next is an abort of a hand-over: it comes before the release (log entry 46). -/
def State.abortNext (s : State) : Bool :=
  match s.pending with
  | .handoverAbort _ :: _ => true
  | _ => false

/-- A hand-over that an abort did not stop goes on. -/
def handOn (s : State) : State := if s.twin.handPend then handOver (modTwin (fun t => { t with handPend := false }) s) else s

/-- A write to `HANDOVER` (R425): 1 hands over, 2 aborts, before the release only where the abort is the very next command (log entry 46). -/
def handoverWrite (v : Nat) (s : State) : State × Nat :=
  if v = 2 ∧ s.twin.handPend then (modTwin (fun t => { t with handPend := false }) (s.put Obj.handover stAborted), ecOk)
  else if v = 2 then
    (if s.twin.handed ∧ s.twin.claimWait then modTwin (fun t => { t with lateAbort := true }) s else s, ecOk)
  else if v ≠ 1 then (s, ecValue)
  else if s.get Obj.handover = stBusy then (s, ecStateBusy)
  else if !s.mayRelease then (s, ecMode)
  else if !s.twinReady then (s.put Obj.handover stNotReady, ecCheck)
  else if s.abortNext then (modTwin (fun t => { t with handPend := true }) (s.put Obj.handover stBusy), ecOk)
  else (handOver s, ecOk)

/-- A staged `PAIR_NODE` committed (R536): in Berthing the node takes the number at once, otherwise at the next reset. -/
def commitPair (s : State) : State :=
  match s.stagedOf Obj.pairNode with
  | none => s
  | some v =>
    let s := (s.unstage Obj.pairNode).put Obj.pairNode (ofBytes v)
    if s.node.mode = .berthing then { s with node := { s.node with pair := ofBytes v } } else s

/-- A write to `STATE_SAVE` (R428, R429). -/
def stateSaveWrite (s : State) : State × Nat :=
  if s.get Obj.stateSave = stBusy then (s, ecStateBusy)
  else
    let t := (commitPair s).put Obj.stateSave stBusy
    if s.node.owns ∨ s.node.mode = .berthing then (configCommit t, ecOk)
    else if s.anchored then
      let bs := match t.latestSlot with
        | some i => t.mixedSlot (t.get Obj.pairNode) (t.savedSlot i)
        | none => t.ownSlot
      (beginWrite bs t, ecOk)
    else (s, ecMode)

/-- The frames of a copy (R430). -/
def copyFrames (bs : List Byte) : List (List W64) :=
  let n := (bs.length + 247) / 248
  (List.range n).map (fun i =>
    w64 (3 * 2 ^ 56 + b2n (i + 1 == n) * 2 ^ 55 + slGen bs * 2 ^ 16 + i % 2 ^ 16) :: wordsOf 31 (slice bs (248 * i) 248))

/-- A copy sent to the twin (R430). -/
def sendCopy (bs : List Byte) (s : State) : State := (copyFrames bs).foldl (fun s f => sendTwin f s) (s.put Obj.saveState 2)

/-- The effect of `SAVED_STATE_WRITE_COMPLETE` (R428, R430, R35, R550). -/
def execSavedStateWriteComplete (verified : Bool) (s : State) : Host.Outcome State Fault Refusal :=
  .next (
    match s.twin.writing with
    | none => s
    | some bs =>
      let cfg := s.cfgWriting
      let i := s.spareSlot
      let more := s.twin.saveDue
      let done := fun (s : State) (st : Nat) => if s.get Obj.stateSave = stBusy ∧ !more then s.put Obj.stateSave st else s
      let s := modTwin (fun t => { t with writing := none }) s
      if verified then
        let s := done (((setSlot i bs s).put Obj.slotSeq (slSeq bs)).put Obj.savedTick (slTick bs) |>.put Obj.savedLen (slLength bs)) stDone
        let s := if s.node.mode = .berthing then { s.put Obj.savedSource 3 with node := { s.node with loaded := true } } else s
        let s := if cfg then cfgWritten true s else s
        if s.node.owns then sendCopy (copyBytes bs) (modTwin (fun t => { t with sending := some (copyBytes bs), tries := 0 }) s)
        else s.put Obj.saveState 0
      else
        let s := raise 0x37 0 ecInternal (done (s.put Obj.saveState 3) stRefused)
        if cfg then cfgWritten false s else s)

/-- An acknowledgement of a copy (R431). -/
def sendAck (gen result : Nat) (s : State) : State := sendTwin [w64 (4 * 2 ^ 56 + gen * 2 ^ 16 + result * 2 ^ 8)] s

/-- A copy in progress given up (R431, R442). -/
def dropCopy (s : State) : State :=
  let s := if s.twin.rxSegs.isEmpty then s else sendAck s.twin.rxGen 4 s
  modTwin (fun t => { t with rxSegs := [], rxBad := false }) s

/-- A whole copy checked, and written with this chip's own section (R431). -/
def takeCopy (bs : List Byte) (verified : Bool) (s : State) : State :=
  let gen := s.twin.rxGen
  let bad := s.twin.rxBad || !slotValid bs
  let s := modTwin (fun t => { t with rxSegs := [], rxBad := false }) s
  let fresh := s.node.mode == .berthing && s.node.pair == 0
  if bad then sendAck gen 1 s
  else if slPair bs ≠ s.node.pair ∧ !fresh then sendAck gen 3 s
  else
    let slot := s.mixedSlot (slPair bs) bs
    let i := s.spareSlot
    if !verified then sendAck gen 2 (setSlot i [] s)
    else modTwin (fun t => { t with toLoad := some slot }) ((setSlot i slot s).put Obj.slotSeq (slSeq slot))

/-- A chip that takes copies from its twin: it does not own the pins (R430, R431). -/
def State.takesCopy (s : State) : Bool := !s.node.owns && (s.anchored || s.node.mode == .berthing)

/-- The effect of `STATE_COPY_RECEIVE` (R430, R431). -/
def execStateCopyReceive (f : Frame) (verified : Bool) (s : State) : Host.Outcome State Fault Refusal :=
  .next (
    if s.takesTwin f 3 32 ∧ s.takesCopy then
      let w := Frame.word f 0
      let seg := wfld w 0 16
      let gen := wfld w 16 32
      let data := bytesOfWords ((f.pay.drop 1).map (·.data))
      let s := if seg = 0 then modTwin (fun t => { t with rxGen := gen }) (dropCopy s) else s
      let ok := seg == s.twin.rxSegs.length && gen == s.twin.rxGen
      let s := modTwin (fun t => { t with rxSegs := t.rxSegs ++ [data], rxBad := t.rxBad || !ok }) s
      if bit w.toNat 55 then takeCopy s.twin.rxSegs.flatten verified s else s
    else s)

/-- The copy that has been verified is loaded at the boundary, and acknowledged (R431). -/
def copyBoundary (s : State) : State :=
  match s.twin.toLoad with
  | none => s
  | some bs =>
    let s := modTwin (fun t => { t with toLoad := none }) s
    let s := if s.node.mode = .berthing ∧ s.node.pair = 0 then takePair (slPair bs) s else s
    sendAck (slGen bs) 0 (loadSlot 2 bs s)

/-- The effect of `COPY_ACK_RECEIVE` (R431). -/
def execCopyAckReceive (f : Frame) (s : State) : Host.Outcome State Fault Refusal :=
  .next (
    match s.twin.sending with
    | none => s
    | some bs =>
      let w := Frame.word f 0
      let r := wfld w 8 8
      if s.takesTwin f 4 1 ∧ wfld w 16 32 = slGen bs then
        let done := fun (s : State) => modTwin (fun t => { t with sending := none, retryWait := false }) (s.put Obj.saveState 0)
        if r = 0 then done (s.bump Obj.copyOkCnt)
        else if r = 1 ∨ r = 2 then
          if s.twin.tries < 3 then modTwin (fun t => { t with retryWait := true }) s
          else done (raise 0x32 0 r (s.bump Obj.copyErrCnt))
        else done s
      else s)

/-- The effect of `COPY_RETRY_TIMER` (R431). -/
def execCopyRetryTimer (s : State) : Host.Outcome State Fault Refusal :=
  .next (
    match s.twin.sending with
    | some bs =>
      if s.twin.retryWait then sendCopy bs (modTwin (fun t => { t with retryWait := false, tries := t.tries + 1 }) s) else s
    | none => s)

/-- The pins that this chip's own configuration drives (R435). -/
def State.configDrives (s : State) (i : Nat) : Bool := (s.pinCrane i).isSome || s.imagePin i

/-- Line pick-up begins: steps 3 and 4 of R434 with a map. -/
def beginPickup (map : Nat) (s : State) : State :=
  let s := buffersOn s
  modTwin (fun t => { t with pick := .started, map := map, sample := 0, taken := 0, levels := 0 }) s

/-- The map of R435. -/
def State.pickMap (s : State) : Nat :=
  match s.twin.hb with
  | some h => if s.hbSeen then h.drive else maskOf ((List.range 256).filter s.configDrives)
  | none => maskOf ((List.range 256).filter s.configDrives)

/-- A takeover abandons a copy that is not loaded yet, and the slot it wrote (R442). -/
def abandonCopy (s : State) : State :=
  let s := dropCopy s
  match s.twin.toLoad with
  | none => s
  | some bs =>
    let i := if s.flash.saved0 = bs then 0 else 1
    sendAck (slGen bs) 4 (modTwin (fun t => { t with toLoad := none }) (setSlot i [] s))

/-- A takeover from Dry dock abandons a session that has not activated; its slot stays marked invalid, and a command under way reads ABORTED
(R39, log entry 95). A trial goes on. -/
def abandonSession (s : State) : State :=
  if s.node.mode = .dryDock ∧ s.upd.state < 3 then
    let s := if s.get Obj.updCmd = stBusy then s.put Obj.updCmd stAborted else s
    let s := modUpd (fun u => { u with isOpen := false, state := 0, verifying := false, erasing := false, resumable := false, guardEnd := false,
                                       relay := none }) s
    setImage s.spareImage [] (s.put Obj.updReceived 0 |> fun s => { s with node := { s.node with leaveDryDock := true } })
  else s

/-- The effect of `TAKEOVER_START` (R32, R39, R434 steps 3 and 4, R440, R442). -/
def execTakeoverStart (s : State) : Host.Outcome State Fault Refusal :=
  .next (
    if s.anchored ∧ s.healthGood ∧ s.node.loaded ∧ !s.twin.claimWait ∧ s.twin.pick = .none ∧ s.upd.state ≠ 3 ∧ s.upd.state ≠ 5 ∧
        !s.node.claim then
      let from_ := s.twin.hb.map (·.applied)
      let s := abandonSession (abandonCopy { s with node := { s.node with twinLow := false } })
      modTwin (fun t => { t with gapFrom := some from_ }) (beginPickup s.pickMap s)
    else s)

/-- Step 5 of R434: every mapped pin that the configuration drives is driven at its taken level, and the output image takes it. -/
def drivePicked (s : State) : State :=
  let pins := (bitsOf 256 s.twin.map).filter s.configDrives
  let s := pins.foldl (fun s i =>
    let b := bit s.twin.levels i
    let s := setPin i b true s
    { s with pins := { s.pins with outImg := setBit s.pins.outImg i b, keep := setBit s.pins.keep i false } }) s
  modTwin (fun t => { t with pick := .driven }) (s.put Obj.pickupPins pins.length)

/-- Sample number n + 1 of pick-up (R435): a level is taken when two samples agree, or at the ninth. -/
def pickSample (n : Nat) (s : State) : State :=
  let now := maskOf ((bitsOf 256 s.twin.map).filter s.pinLevel)
  let open_ := (bitsOf 256 s.twin.map).filter (fun i => !bit s.twin.taken i)
  let agree := open_.filter (fun i => decide (0 < n) && bit now i == bit s.twin.sample i)
  let forced := if 8 ≤ n then open_.filter (fun i => !agree.contains i) else []
  let s := s.addTo Obj.pickupUnstableCnt forced.length
  let s := modTwin (fun t => { t with
    pick := .sampling (n + 1), sample := now,
    taken := t.taken ||| maskOf (agree ++ forced),
    levels := t.levels ||| maskOf ((agree ++ forced).filter (fun i => bit now i)) }) s
  if s.twin.taken = s.twin.map then drivePicked s else s

/-- The effect of `PICKUP_SAMPLE` (R434 steps 4 and 5, R435). -/
def execPickupSample (levels : BitVec 256) (s : State) : Host.Outcome State Fault Refusal :=
  .next (
    let t := { s with pins := { s.pins with line := levels.toNat } }
    match s.twin.pick with
    | .started => pickSample 0 t
    | .sampling n => pickSample n t
    | _ => s)

/-- Step 6 with the line low: the chip stops driving the mapped pins and stays Anchored (R434). -/
def pickLost (s : State) : State :=
  let s := { s with
    node := { s.node with twinLow := true }
    pins := { s.pins with inBuf := 0 } }
  stopPickup false s

/-- The effect of `OWNERSHIP_CLAIM` (R434 step 6). -/
def execOwnershipClaim (lineLow : Bool) (s : State) : Host.Outcome State Fault Refusal :=
  .next (
    if s.twin.pick = .driven ∧ s.anchored then
      if lineLow then pickLost s
      else modTwin (fun t => { t with pick := .claimed, claimWait := false, handed := false }) (enterWorking s)
    else s)

/-- The effect of `KEEPER_RELEASE` (R433, R434 step 7): the line has been low for 1 us while this chip does not claim it. A hand-over is done
(R425). -/
def execKeeperRelease (s : State) : Host.Outcome State Fault Refusal :=
  .next (
    if !s.node.claim ∧ s.twin.pick = .none ∧ s.node.mode ≠ .approach then
      let s := keepersRelease { s with node := { s.node with twinLow := true } }
      let s := if s.twin.handed ∧ s.get Obj.handover = stBusy then
          s.put Obj.handover (if s.twin.lateAbort then stLate + stDone else stDone)
        else s
      let s := modTwin (fun t => { t with claimWait := false, handed := false }) s
      if s.rst.crit = .waitKeepers then { s with rst := { s.rst with crit := .running } } else s
    else s)

/-- The effect of `CLAIM_WAIT_EXPIRY` (R440, R441): with the line still high, the chip takes ownership back on its keepers' levels. -/
def execClaimWaitExpiry (s : State) : Host.Outcome State Fault Refusal :=
  .next (
    if s.twin.claimWait ∧ s.anchored ∧ s.ownLine ∧ s.upd.state ≠ 3 ∧ s.upd.state ≠ 5 then
      let s := abandonSession (abandonCopy (s.bump Obj.noClaimCnt))
      let s := if s.twin.handed ∧ s.get Obj.handover = stBusy then s.put Obj.handover stNoClaim else s
      let s := modTwin (fun t => { t with claimWait := false, handed := false, gapFrom := none }) s
      beginPickup s.pins.keep s
    else s)

end Sys2Proof.Machine
end

