-- ==== Sys2Proof/Machine/BlockReset.lean ====
section
/-! DEFINITION. Block resets (R462 to R465). -/

namespace Sys2Proof.Machine

/-- The keepers hold the outputs of one quay (R465). -/
def keepersHoldQuay (q : Nat) (s : State) : State :=
  let m := s.pins.drive &&& quayMask q
  { s with pins := { s.pins with
      keep := s.pins.keep ||| m, keepLevel := clearBits s.pins.keepLevel m ||| (s.pins.level &&& m),
      drive := clearBits s.pins.drive m } }

/-- What a block does when it is asked to go idle: a quay halts its cranes, and its keepers hold
from the edge on which they halt (R462, R465). -/
def blockQuiesce (b : Nat) (s : State) : State :=
  let s := setBlock b .quiescing s
  if 3 ≤ b ∧ b ≤ 6 then
    let q := b - 3
    let s := (List.range 16).foldl (fun s c => haltOne (q * 16 + c) s) s
    let s := if s.node.owns ∧ !(quayCranes q).any s.craneActive then keepersHoldQuay q s else s
    { s with pins := { s.pins with quayRst := setBit s.pins.quayRst q true } }
  else s

/-- Status of `BLOCK_RESET` once no named block waits or is in reset (R463, R464). -/
def blockStatus (s : State) : State :=
  if s.rst.blocks.any (fun b => b == .quiescing || b == .inReset) then s
  else if s.get Obj.blockReset = stBusy then
    s.put Obj.blockReset (if s.rst.blkClock then stClock else stDone + (if s.rst.blkLate then stLate else 0))
  else s

/-- A write to `BLOCK_RESET` (R463, R464): bit 31 aborts; the status is BUSY until every named block has been released or
held. While it is BUSY, a write that names only blocks in their reset is merged with it, and any other is refused (R463, R526). -/
def blockResetWrite (v : Nat) (s : State) : State × Nat :=
  let busy := s.get Obj.blockReset = stBusy
  if fld v 22 9 ≠ 0 then (s, ecValue)
  else if bit v 31 then
    if busy then
      let waiting := (List.range 22).filter (fun b => s.block b == .quiescing)
      let resume := (List.range 4).filter (fun q => s.block (q + 3) == .quiescing)
      let s := { s with
        pins := { s.pins with quayRst := clearBits s.pins.quayRst (maskOf resume),
                              quayResume := s.pins.quayResume ||| maskOf resume } }
      let began := s.rst.blkDone || s.rst.blocks.any (· == .inReset)
      let s := waiting.foldl (fun s b => setBlock b .idle s) s
      if began then (blockStatus { s with rst := { s.rst with blkLate := true } }, ecOk)
      else (s.put Obj.blockReset stAborted, ecOk)
    else (s, ecOk)
  else if busy then
    (s, if v ≠ 0 ∧ (bitsOf 22 v).all (fun b => s.block b == .inReset || s.block b == .held) then ecOk else ecStateBusy)
  else if (bitsOf 22 v).any (fun b => !s.released (blockDomain b)) then (s, ecStateBusy)
  else
    let s := { s.put Obj.blockReset stBusy with rst := { s.rst with blkDone := false, blkLate := false, blkClock := false,
                                                                      blkAsked := s.tide.beat } }
    let s := (bitsOf 22 v).foldl (fun s b => if s.block b == .held then s else blockQuiesce b s) s
    (blockStatus s, ecOk)

/-- A quay as its reset leaves it: cranes idle, FIFOs empty; its objects and the Tally stay (R462). -/
def quayClear (q : Nat) (s : State) : State :=
  let s := if s.node.owns then keepersHoldQuay q s else { s with pins := { s.pins with clocks := setBit s.pins.clocks q true } }
  let s := { s with pins := { s.pins with quayRst := setBit s.pins.quayRst q true },
                    users := s.users.filter (fun e => e.1 / 128 != q) }
  settleCauseNine ((quayCranes q).foldl (fun s g => clearFifo (64 + g) (clearFifo g (s.setCrane g Crane.zero))) s)

/-- A CAN controller as its reset leaves it: buffers and queues empty, counters zero, off the bus (R462). -/
def canClear (k : Nat) (s : State) : State :=
  clearFifo (gwQueue k) (clearFifo (rxQueue k) (modCtl k (fun _ => Can.zero) s))

/-- The capture units and generators as their reset leaves them: stores empty, STATE 0, TARGET kept (R462). -/
def captureClear (s : State) : State :=
  let s := (List.range 36).foldl (fun s i => clearFifo (144 + i) s) s
  let s := (List.range 16).foldl (fun s n => genStop n s) s
  let s := modTime (fun t => { t with gens := t.gens.map (fun g => { Gen.zero with holds := g.holds, invert := g.invert }) }) s
  modTime (fun t => { t with rise := [], fall := [], fineLast := [] }) s

/-- The flash controller as its reset leaves it: a slot write in progress is lost, and the other slot stays the latest (R462). -/
def flashClear (s : State) : State :=
  if s.twin.writing.isSome then
    let s := modTwin (fun t => { t with writing := none }) (s.put Obj.saveState 3)
    if s.get Obj.stateSave = stBusy then s.put Obj.stateSave stRefused else s
  else s

/-- What the reset of a block does to it (R462). Its objects and its staged writes stay: that a block reset is none of the resets that discard staged
writes under R21 is the model's choice (log entry 55). -/
def blockClear (b : Nat) (s : State) : State :=
  if b ≤ 2 then portRestart b s
  else if b ≤ 6 then quayClear (b - 3) s
  else if b ≤ 14 then canClear (b - 7) s
  else if b ≤ 18 then { s with chk := s.chk.set (b - 15) (chkReset.getD (b - 15) ChkUnit.none) }
  else if b = 19 then captureClear s
  else if b = 21 then flashClear s
  else s

/-- What a block does once it is released: a quay resumes at the next boundary, a controller joins (R356, R462, R465). -/
def blockResume (b : Nat) (s : State) : State :=
  if 3 ≤ b ∧ b ≤ 6 then
    if s.node.owns then { s with pins := { s.pins with quayResume := setBit s.pins.quayResume (b - 3) true } }
    else { s with pins := { s.pins with clocks := setBit s.pins.clocks (b - 3) false, quayRst := setBit s.pins.quayRst (b - 3) false } }
  else if 7 ≤ b ∧ b ≤ 14 ∧ s.node.owns then canStart (b - 7) s
  else s

/-- The effect of `BLOCK_QUIESCE_END` (R463): the block is idle, or `QUIESCE_TICKS` boundaries have passed, and its reset is asserted. -/
def execBlockQuiesceEnd (b : Fin 22) (forced : Bool) (s : State) : Host.Outcome State Fault Refusal :=
  .next (if s.block b.val = .quiescing ∧ (!forced ∨ s.rst.blkAsked + s.get Obj.quiesceTicks ≤ s.tide.beat) then
    let s := setBlock b.val .inReset { s with rst := { s.rst with blkDone := true } }
    blockClear b.val (if forced then s.bump Obj.forcedResetCnt else s)
  else s)

/-- The effect of `BLOCK_RESET_RELEASE` (R463): with a good clock the block is released; without one the release is deferred. -/
def execBlockResetRelease (b : Fin 22) (clockGood : Bool) (s : State) : Host.Outcome State Fault Refusal :=
  .next (if s.block b.val = .inReset then
    (if clockGood then blockStatus (blockResume b.val (setBlock b.val .idle s)) else s.bump Obj.clockDeferCnt)
  else s)

/-- The effect of `BLOCK_CLOCK_TIMEOUT` (R463): the block stays in reset. -/
def execBlockClockTimeout (b : Fin 22) (s : State) : Host.Outcome State Fault Refusal :=
  .next (if s.block b.val = .inReset then
    let s := setBlock b.val .held { s with rst := { s.rst with blkClock := true } }
    blockStatus (raise 0x39 b.val 0 (s.bump Obj.clockFailCnt))
  else s)

end Sys2Proof.Machine
end

