-- ==== Sys2Proof/Machine/Gangway.lean ====
section
/-! DEFINITION. Gangway hot insertion and fusing (15). -/

namespace Sys2Proof.Machine

/-- The Gangway's state changed. -/
def setGw (f : GwState → GwState) (s : State) : State := { s with gw := f s.gw }

/-- Code of a state (R495). -/
def GwSt.code : GwSt → Nat
  | .disabled => 0 | .qualify => 1 | .ramp => 2 | .settle => 3 | .good => 4 | .latched => 5

/-- The gate is on in RAMP, SETTLE and GOOD (R495). -/
def GwSt.gateOn : GwSt → Bool
  | .ramp | .settle | .good => true
  | _ => false

/-- T_EST in units of 1e-9 degree (R499). -/
def State.tEst (s : State) : Int := s.getI Obj.gwTBase * 1000000000 + s.gw.dt1 + s.gw.dt2

/-- T_EST as `GW_T_EST` shows it, 0.1 degree, kept within the object's width. -/
def State.tEstObj (s : State) : Int := clampInt (-32768) 32767 (s.tEst / 100000000)

/-- A threshold object in degrees, in units of 1e-9 degree. -/
def State.degrees (s : State) (o : Obj) : Int := s.getI o * 1000000000

/-- The start window and the run window (R496), in mV. -/
def State.startWindow (s : State) (vin : Nat) : Bool := decide (s.get Obj.gwUv ≤ vin) && decide (vin ≤ s.get Obj.gwOv)
def State.belowRun (s : State) (vin : Nat) : Bool := decide (vin + s.get Obj.gwUvHyst < s.get Obj.gwUv)
def State.aboveRun (s : State) (vin : Nat) : Bool := decide (s.get Obj.gwOv + s.get Obj.gwOvHyst < vin)

/-- The gate turned off: `GW_LAST_EVENT` written, the counts of a new ramp cleared; when `GW_PG` was high the supplies of
D1 to D7 go away (R495, R506). -/
def gateOff (cause : Nat) (target : GwSt) (s : State) : State :=
  let left := s.gw.st
  let s := s.put Obj.gwLastEvent (capAt 0xFFFF (s.gw.cur / 10) * 2 ^ 16 + left.code * 2 ^ 8 + cause)
  let s := setGw (fun g => { g with st := target, delayDone := false, clean := 0, under := 0, above := 0, timer := 0, calm := 0,
                                    limiting := false }) s
  if left = .good then powerLost s else s

/-- A trip (R500): the gate off, LATCHED, a cooldown started, counted. Only a state with the gate on trips. -/
def gwTrip (cause : Nat) (s : State) : State :=
  if s.gw.st.gateOn then
    setGw (fun g => { g with cooling := true, enLow := false }) ((gateOff cause .latched s).bump Obj.gwTripCnt)
  else s

/-- A drop (R503): to QUALIFY, or to DISABLED when `GW_EN` is low. -/
def gwDrop (cause : Nat) (s : State) : State :=
  if s.gw.st.gateOn then
    (gateOff cause (if s.gw.en then .qualify else .disabled) s).bump Obj.gwDropCnt
  else s

/-- The condition that ends a cooldown, but for its minimum time: T_EST, or with a diode its last reading, is at or below
`GW_T_RESTART` (R500). -/
def State.coolEnough (s : State) : Bool :=
  if s.gw.diode then
    match s.gw.reading with
    | some r => decide (r ≤ s.getI Obj.gwTRestart * 10)
    | none => false
  else decide (s.tEst ≤ s.degrees Obj.gwTRestart)

/-- LATCHED ends when the cooldown has ended and `GW_EN` has been low since the trip (R500). -/
def tryUnlatch (s : State) : State :=
  if s.gw.st = .latched ∧ !s.gw.cooling ∧ s.gw.enLow then
    setGw (fun g => { g with st := if g.en then .qualify else .disabled, delayDone := false }) s
  else s

/-- The thermal model over one sample (R499), p in uW. A time constant of 0 gives no quotient: the term is then a free
value (log entry 9). -/
def thermalTerm (p : Int) (rth tau : Nat) (dt : Int) (s : State) : Int × State :=
  if tau = 0 then let (v, s) := s.draw; (v.toInt, s)
  else (dt + (p * (rth : Int) - dt) / (tau : Int), s)

/-- Both terms of the model advanced by one sample. -/
def thermalStep (s : State) : State :=
  let p := ((s.gw.vin : Int) - (s.gw.vout : Int)) * (s.gw.cur : Int)
  let (d1, s) := thermalTerm p (s.get Obj.gwRth1) (s.get Obj.gwTau1) s.gw.dt1 s
  let (d2, s) := thermalTerm p (s.get Obj.gwRth2) (s.get Obj.gwTau2) s.gw.dt2 s
  setGw (fun g => { g with dt1 := d1, dt2 := d2 }) s

/-- `GW_PEAK_T` raised to T_EST (R508). -/
def peakStep (s : State) : State :=
  if s.getI Obj.gwPeakT < s.tEstObj then s.putI Obj.gwPeakT s.tEstObj else s

/-- The fault timer over one sample: up on a sample at which the limit acts, down on every eighth at which it does not
(R498). -/
def timerStep (limit : Bool) (g : GwState) : GwState :=
  if limit then { g with timer := g.timer + 1, calm := 0, limiting := true }
  else if g.calm + 1 = 8 then { g with timer := g.timer - 1, calm := 0, limiting := false }
  else { g with calm := g.calm + 1, limiting := false }

/-- The decisions of one sample (R496, R500, R501, R502, R504). The trips and drops that have a command of their own happen
at that command, before the next sample; what comes after them in the order of R504 waits for it. -/
def gwDecide (vgs : Nat) (s : State) : State :=
  match s.gw.st with
  | .qualify =>
    if !s.startWindow s.gw.vin then setGw (fun g => { g with delayDone := false }) s
    else if s.gw.en ∧ s.gw.delayDone ∧ !s.gw.cooling then
      setGw (fun g => { g with st := .ramp, timer := 0, calm := 0, limiting := false }) s
    else s
  | .ramp | .settle | .good =>
    if s.get Obj.gwFaultTime ≤ s.gw.timer then s
    else if s.degrees Obj.gwTTrip ≤ s.tEst then gwTrip 6 s
    else if s.gw.st = .ramp then
      (if 10000 ≤ vgs then setGw (fun g => { g with st := .settle, clean := 0 }) s else s)
    else if s.gw.st = .settle then
      let ok := decide (10000 ≤ vgs) && s.gw.timer == 0 && !s.gw.limiting && !s.belowRun s.gw.vin && !s.aboveRun s.gw.vin
      setGw (fun g => { g with clean := if ok then capAt 1000 (g.clean + 1) else 0 }) s
    else s
  | _ => s

/-- V_IN in mV of a level at the ball `GW_VIN` in uV: times `GW_VIN_RATIO`, which counts hundredths (R493, R507; log entry 9). -/
def State.gwVin (s : State) (ball : Nat) : Nat := ball * s.get Obj.gwVinRatio / 100000

/-- One sample (R493): measures kept, the model, the fault timer and the window counts advanced, the decisions taken. -/
def gwSample (vin vout vgs vsns : Nat) (s : State) : State :=
  let cur := vsns * 1000 / s.get Obj.gwRsns
  let s := setGw (fun g => { g with vin := vin, vout := vout, cur := cur }) s
  let s := peakStep (thermalStep s)
  let limit := decide (s.get Obj.gwVcl * 1000 ≤ vsns)
  let s := if s.gw.st.gateOn then
      setGw (fun g => { timerStep limit g with under := if s.belowRun vin then g.under + 1 else 0,
                                               above := if s.aboveRun vin then g.above + 1 else 0 }) s
    else s
  gwDecide vgs s

/-- `GW_STATUS` (R508). -/
def State.gwStatus (s : State) : Nat :=
  maskOf ((List.range 7).filter (fun i => [s.gw.diode, s.gw.cooling, s.gw.limiting, decide (0 < s.gw.timer), s.gw.en,
    s.gwPg, s.gw.st == .latched].getD i false))

/-- The effect of `GW_SAMPLE` (R493): while `VAON` is valid. -/
def execGwSample (vin vout vgs vsns : BitVec 32) (s : State) : Host.Outcome State Fault Refusal :=
  .next (if s.rst.vaon then gwSample (s.gwVin vin.toNat) vout.toNat vgs.toNat vsns.toNat s else s)

/-- The effect of `GW_EN_HIGH` (R495): DISABLED goes to QUALIFY; LATCHED stays. -/
def execGwEnHigh (s : State) : Host.Outcome State Fault Refusal :=
  .next (if s.rst.vaon then
    tryUnlatch (setGw (fun g => { g with en := true, st := if g.st = .disabled then .qualify else g.st,
                                         delayDone := if g.st = .disabled then false else g.delayDone }) s)
  else s)

/-- The effect of `GW_EN_LOW_DROP` (R500, R503). -/
def execGwEnLowDrop (s : State) : Host.Outcome State Fault Refusal :=
  .next (if s.rst.vaon then
    let s := setGw (fun g => { g with en := false, enLow := true }) s
    if s.gw.st = .latched then tryUnlatch s else gwDrop 1 s
  else s)

/-- The effect of `GW_INSERT_DELAY_END` (R496): the delay has passed in the start window; with every other condition met,
QUALIFY goes to RAMP. -/
def execGwInsertDelayEnd (s : State) : Host.Outcome State Fault Refusal :=
  .next (if s.gw.st = .qualify ∧ s.startWindow s.gw.vin then gwDecide 0 (setGw (fun g => { g with delayDone := true }) s) else s)

/-- The effect of `GW_FAST_TRIP` (R497): V_SNS at or above 2 × `GW_VCL`. -/
def execGwFastTrip (vsns : BitVec 32) (s : State) : Host.Outcome State Fault Refusal :=
  .next (if 2 * s.get Obj.gwVcl * 1000 ≤ vsns.toNat ∧ s.gw.st.gateOn then
    gwTrip 5 (setGw (fun g => { g with cur := vsns.toNat * 1000 / s.get Obj.gwRsns }) s)
  else s)

/-- The effect of `GW_RAMP_TIMEOUT` (R497). -/
def execGwRampTimeout (s : State) : Host.Outcome State Fault Refusal :=
  .next (if s.gw.st = .ramp then gwTrip 7 s else s)

/-- The effect of `GW_FAULT_TIMER_EXPIRY` (R498): the timer has reached `GW_FAULT_TIME`. -/
def execGwFaultTimerExpiry (s : State) : Host.Outcome State Fault Refusal :=
  .next (if s.get Obj.gwFaultTime ≤ s.gw.timer then gwTrip 4 s else s)

/-- The effect of `GW_DIODE_READING` (R499): the reading replaces the slow term. -/
def execGwDiodeReading (t : BitVec 16) (s : State) : Host.Outcome State Fault Refusal :=
  .next (if s.gw.diode ∧ s.rst.vaon then
    let s := s.put Obj.gwTDiode t.toNat
    peakStep (setGw (fun g => { g with reading := some t.toInt, dt2 := t.toInt * 100000000 - s.degrees Obj.gwTBase }) s)
  else s)

/-- The effect of `GW_COOLDOWN_END` (R500). -/
def execGwCooldownEnd (s : State) : Host.Outcome State Fault Refusal :=
  .next (if s.gw.cooling ∧ s.coolEnough then tryUnlatch (setGw (fun g => { g with cooling := false }) s) else s)

/-- The effect of `GW_POWER_GOOD` (R501): after 1,000 counted samples, GOOD and `GW_PG` high; the node leaves Approach once its
monitors are good (R32, R448). -/
def execGwPowerGood (s : State) : Host.Outcome State Fault Refusal :=
  .next (if s.gw.st = .settle ∧ s.gw.clean = 1000 then tryBerthing (setGw (fun g => { g with st := .good }) s) else s)

/-- The effect of `GW_UNDERVOLTAGE_DROP` (R503): 100 consecutive samples below the run window. -/
def execGwUndervoltageDrop (s : State) : Host.Outcome State Fault Refusal :=
  .next (if 100 ≤ s.gw.under then gwDrop 2 s else s)

/-- The effect of `GW_OVERVOLTAGE_DROP` (R503): 2 consecutive samples above the run window. -/
def execGwOvervoltageDrop (s : State) : Host.Outcome State Fault Refusal :=
  .next (if 2 ≤ s.gw.above then gwDrop 3 s else s)

end Sys2Proof.Machine
end

