-- ==== Sys2Proof/Machine/Switch.lean ====
section
/-! DEFINITION. The switch core: frames that arrive on a port, their checks and routes, outputs, credits, stalls and linger (R158 to R188). -/

namespace Sys2Proof.Machine

/-- A word as a port takes it: BYTES 9 to 15 poison it (R8). -/
def portWord (w : Cargo) : Cargo := if 8 < w.bytes.toNat then { w with p := true } else w

/-- Words of a port with such a BYTES are tag errors of the port (R8). -/
def tagErrors (p : Nat) (ws : List Cargo) (s : State) : State :=
  modPort p (fun q => { q with tagErr := q.tagErr + (ws.filter (fun w => w.v && decide (8 < w.bytes.toNat))).length }) s

/-- A word of KIND first or only begins a frame (R164). -/
def beginsFrame (w : Cargo) : Bool := w.kind == .first || w.kind == .only

/-- How an input delimits the words of a frame of n words (R165, R168): the words it keeps, a length error, a truncation. -/
structure Delim where
  words : List Cargo
  lenErr : Bool
  cut : Bool
  deriving DecidableEq, Repr

/-- The words of a frame of n words as its input delimits them by KIND (R165), closing a frame that was cut off (R168). -/
def delimit : Nat → List Cargo → Delim
  | _, [] => ⟨[⟨true, .last, 0, true, 0⟩], false, true⟩
  | 0, _ => ⟨[], false, false⟩
  | n + 1, w :: t =>
    if endsFrame' w then ⟨[if n = 0 then w else { w with p := true }], n != 0, false⟩
    else if n = 0 then ⟨[{ w with kind := .last, p := true }], true, false⟩
    else
      let r := delimit n t
      ⟨w :: r.words, r.lenErr, r.cut⟩
where
  /-- A word of KIND last or only. -/
  endsFrame' (w : Cargo) : Bool := w.kind == .last || w.kind == .only

/-- Where R166 sends a frame: outputs it is forwarded to, local delivery, a refusal by port 7 with a status. -/
structure Route where
  outs : List Nat
  loc : Bool
  refuse : Option Nat
  deriving DecidableEq, Repr

/-- The odd number of this node's pair, 0 while unnumbered. -/
def State.pairNumber (s : State) : Nat := s.node.pair

/-- This node is the consumer of a class 00 broadcast (R53). -/
def State.consumes (s : State) (h : W64) : Bool :=
  hClass h == 0 && s.workingChip && hSnode h == s.pairNumber && s.pairNumber != 0

/-- The route of a frame from port p by the rules of R166, but for the header check. -/
def State.route (s : State) (p : Nat) (h : W64) : Route :=
  let d := hDnode h
  let dp := hDport h
  let fromTwin := p = 2 ∨ p = s.twinSide
  if d = 255 then
    ⟨if p = 2 ∨ s.consumes h then [] else [1 - p], s.workingChip || dp == 0xFD || dp == 0xFE, none⟩
  else if d = s.nodeNumber ∧ chipPort dp then ⟨[], true, none⟩
  else if s.inPair d ∧ pairPort dp then
    if s.workingChip then ⟨[], true, none⟩
    else if fromTwin then ⟨[], false, some bsNotWorking⟩
    else ⟨[s.towardsTwin], false, none⟩
  else if d = s.twinNumber ∧ chipPort dp then ⟨[s.towardsTwin], false, none⟩
  else if p = 2 then ⟨[], false, some bsUnreachable⟩
  else ⟨[1 - p], false, none⟩

/-- A frame that crossed from another pair and would go on by a ring port with TTL 0 goes no further (R167). -/
def State.ttlOut (s : State) (p : Nat) (h : W64) (r : Route) : Bool :=
  decide (p < 2) && p != s.twinSide && r.outs.any (· < 2) && hTtl h == 0

/-- The header as it is forwarded (R167). -/
def State.sentOn (s : State) (p : Nat) (h : W64) (r : Route) : W64 :=
  if p < 2 ∧ p ≠ s.twinSide ∧ r.outs.any (· < 2) then setTtl h (hTtl h - 1) else h

/-- The header of a list of words replaced. -/
def withHdr (h : W64) : List Cargo → List Cargo
  | [] => []
  | w :: t => { w with data := h } :: t

/-- DPORT d is enabled for local delivery (R198). -/
def State.dportOn (s : State) (d : Nat) : Bool := bit ((s.blob Obj.dportEnable).getD (d / 8) 0).toNat (d % 8)

/-- The mark of a doubled broadcast: SNODE, and CLASS with SEQ (R115). -/
def dupKey (h : W64) : Nat × Nat := (hSnode h, hClass h * 4096 + hSeq h)

/-- Local delivery of a class 01 or 10 frame whose trailer CRC holds: the first copy of a doubled broadcast counts, the second is absorbed
(R13, R115). -/
def deliverLocal (p : Nat) (h : W64) (ws : List Cargo) (s : State) : State × Bool :=
  let ok := match frameOf ws with
    | some f => Frame.crcOk f
    | none => false
  if !ok then (s.bump Obj.payloadCrcCnt, false)
  else if hDnode h = 255 ∧ hDup h then
    if s.ring.dups.contains (dupKey h) then (s, false)
    else
      let s := modRing (fun r => { r with dups := (dupKey h :: r.dups).take 256 }) s
      (placeFrame p (localPort (hDport h)) .ring ws s, true)
  else (placeFrame p (localPort (hDport h)) .ring ws s, true)

/-- Local delivery by rules 2 to 4 of R166: refused when DPORT is disabled; class 11 consumed (R14). Whether it took bays. -/
def localArrive (p : Nat) (h : W64) (ws : List Cargo) (s : State) : State × Bool :=
  if !s.dportOn (hDport h) then (countDiscard 3 p s, false)
  else if hClass h = 3 then (s.bump Obj.class11Cnt, false)
  else if hClass h = 0 then (placeFrame p (localPort (hDport h)) .ring ws s, true)
  else deliverLocal p h ws s

/-- Port 7 refuses a frame (R28, R166, R167): counted when the chip is not Working; answered when its trailer CRC holds (R13). A scheduled
frame marks its entry stale. A class 11 frame counts in `CLASS11_CNT` and is not answered, also when its TTL has run out: the order of the two
checks is the model's choice (log entry 99). -/
def portRefuse (st : Nat) (h : W64) (ws : List Cargo) (s : State) : State :=
  if hClass h = 3 then s.bump Obj.class11Cnt
  else
    let s := if st = bsNotWorking then s.bump Obj.notWorkingCnt else s
    if hClass h = 0 then (match s.schedEntry h with | some (i, _) => markStale i s | none => s)
    else
      match frameOf ws with
      | some f => if Frame.crcOk f then refuseAs false st 0 h f.pay s else s.bump Obj.payloadCrcCnt
      | none => s.bump Obj.payloadCrcCnt

/-- A frame is forwarded to an output: not the copy of a doubled broadcast whose output is down (R115). -/
def State.forwards (s : State) (h : W64) (o : Nat) : Bool :=
  !(hDnode h == 255 && hDup h && hClass h != 0 && !s.txUp o)

/-- A frame that passed its header check, delimited, takes its route (R166 to R169). -/
def routeFrame (p : Nat) (h : W64) (ws : List Cargo) (s : State) : State :=
  let r := s.route p h
  let out := s.ttlOut p h r
  let outs := (if out then r.outs.filter (2 ≤ ·) else r.outs).filter (s.forwards h)
  let refuse := if out ∧ hDnode h ≠ 255 then some bsUnreachable else r.refuse
  let s := if out then s.bump Obj.ttlExpiredCnt else s
  let sent := withHdr (s.sentOn p h r) ws
  let charge := bayCount (hLen h) * (if hDnode h = 255 then 2 else 1)
  let s := outs.foldl (fun s o => placeFrame p o .ring sent s) s
  let l := if r.loc then localArrive p h ws s else (s, false)
  let s := match refuse with
    | some st => portRefuse st h ws l.1
    | none => l.1
  addFreed p (charge - (ws.length + 7) / 8 * (outs.length + b2n l.2)) s

/-- A frame on port p: checked, delimited and routed (R164 to R169). A twin frame on the mooring link does not enter the switch (R415). -/
def ringReceive (p : Nat) (words : List Cargo) (s : State) : State :=
  let s := tagErrors p words s
  match (words.map portWord).filter (·.v) with
  | [] => s
  | w :: t =>
    let h := w.data
    if w.p ∨ !beginsFrame w ∨ !hdrOk h then countDiscard 2 p s
    else if p = 2 ∧ hClass h = 2 ∧ hDport h = 0xFB then s
    else
      let d := delimit (hLen h + 2) (w :: t)
      let s := s.bump (Obj.framesInCnt p)
      let s := if d.lenErr then s.bump Obj.lengthErrCnt else s
      let s := if d.cut then s.bump Obj.truncatedCnt else s
      routeFrame p h d.words s

/-- The lane of port p that carries word position k of the stream: word 0 on the lowest lane of the set (R42). -/
def State.laneAt (s : State) (p k : Nat) : Nat :=
  let lanes := bitsOf 5 (s.get (Obj.rxSet p))
  lanes.getD (k % Nat.max 1 lanes.length) 0

/-- Word i of a frame whose first word stands at position `first`: what a bad block left in its place, and poisoned when its lane has failed
(R79, R106). -/
def State.wordAt (s : State) (p first i : Nat) (w : Cargo) : Cargo :=
  let w := match (s.port p).repl.find? (fun e => e.1 == i) with
    | some (_, c) => c
    | none => w
  if bit (s.port p).failing (s.laneAt p (first + i)) then { w with p := true } else w

/-- The words of a frame as the receiver reads them off its lanes. -/
def State.wordsAt (s : State) (p first : Nat) : Nat → List Cargo → List Cargo
  | _, [] => []
  | i, w :: t => s.wordAt p first i w :: s.wordsAt p first (i + 1) t

/-- The header of a class 00 frame and its stamp less the own boundary, corrected under R135, kept for the sample of the tick (R145). -/
def noteHead (p : Nat) (stamp : Int) (ws : List Cargo) (s : State) : State :=
  match ws with
  | w :: _ =>
    if p < 2 ∧ !w.p ∧ hdrOk w.data ∧ hClass w.data = 0 then
      modCal p (fun c => { c with heads := c.heads ++ [(hSnode w.data, hSeq w.data, stamp - s.stepUnits p)] }) s
    else s
  | [] => s

/-- The effect of `RING_FRAME_RECEIVE` (R166): a frame, or what came of it before its direction went down, on an Active port; its first word
stands at a position of the stream, and its header has a receive stamp. -/
def execRingFrameReceive (port : Fin 3) (f : FrameIn) (s : State) : Host.Outcome State Fault Refusal :=
  .next (
    let p := port.val
    if s.listens p ∧ s.rxOpen p then
      let ws := s.wordsAt p f.first.val 0 f.words
      let s := returned p (ws.map .word) (modPort p (fun q => { q with repl := [] }) s)
      ringReceive p ws (noteHead p f.stamp ws s)
    else s)

/-- The effect of `ORPHAN_WORD_DROP` (R164): a word outside a frame. -/
def execOrphanWordDrop (port : Fin 3) (w : Cargo) (s : State) : Host.Outcome State Fault Refusal :=
  .next (
    let p := port.val
    if s.listens p ∧ s.rxOpen p ∧ w.v ∧ !beginsFrame w then (returned p [.word w] s).bump Obj.orphanWordCnt else s)

/-- Slots that a frame takes at output p (R45): a slot carries one word on each lane of the set. -/
def State.slotsFor (s : State) (p : Nat) (j : Job) : Nat :=
  let n := Nat.max 1 (laneNum (s.get (Obj.txSet p)))
  (hLen j.hdr + 2 + n - 1) / n

/-- A frame may start at output p now (R45, R46, R48, R173). -/
def State.mayStart (s : State) (p : Nat) (asyncRegion : Bool) (room : Nat) (j : Job) : Bool :=
  s.creditFor p j && (p == 2 || ((!j.own || j.sched || asyncRegion) && decide (s.slotsFor p j ≤ room)))

/-- The header that a port names in CAL: the first class 00 frame that left in the tick (R145). -/
def noteRef (p : Nat) (h : W64) (s : State) : State :=
  if p < 2 ∧ hClass h = 0 ∧ (s.calPort p).ref = none then modCal p (fun c => { c with ref := some (hSnode h, hSeq h) }) s else s

/-- A frame starts at output p: its cost charged, its words sent (R173, R181). -/
def startFrame (p : Nat) (j : Job) (s : State) : State :=
  let cost := Job.cost j
  let r := departJob j s
  let s := modPort p (fun q => { q with sent := (q.sent + cost) % 2 ^ 16, starved := 0 }) r.2
  noteRef p j.hdr (modRing (fun x => { x with onWire := x.onWire.set p (some r.1) }) s)

/-- Output p takes its next frame (R173), once scheduled copies that found no room have gone into the Hold (R182): a message whose destination is
disabled by now is discarded instead (R242). -/
def outputStart (p : Nat) (asyncRegion : Bool) (room : Nat) (s : State) : State :=
  let s := schedGo s
  if s.txUp p ∧ s.get (Obj.outState p) = 0 ∧ !s.faults.lanesIdle then
    match (s.turns p).find? (s.mayStart p asyncRegion room) with
    | some j => if s.manifestStale j then promote (discardJob 4 j s) else startFrame p j s
    | none => s
  else s

/-- The effect of `OUTPUT_FRAME_START` (R173). -/
def execOutputFrameStart (out : Fin 3) (asyncRegion : Bool) (room : BitVec 16) (s : State) : Host.Outcome State Fault Refusal :=
  .next (outputStart out.val asyncRegion room.toNat s)

/-- The credit word that this node sends on port p (R178). -/
def State.creditWord (s : State) (p : Nat) : W64 :=
  let q := s.port p
  sealBlock (2 ^ 52 + q.epoch % 4 * 2 ^ 50 + partSize p * 2 ^ 40 + q.freed % 2 ^ 16)

/-- Some frame at output p has the credit it needs. -/
def State.hasCredit (s : State) (p : Nat) : Bool := (s.turns p).any (s.creditFor p)

/-- A credit word on port p (R178, R179): LIMIT and FREED taken, a new EPOCH lets frames go; a stall ends when the credit has come (R183). -/
def creditReceive (p : Nat) (w : W64) (s : State) : State :=
  if w = 0 then s
  else if !blockOk w then badBlock p s
  else if wfld w 52 4 ≠ 1 then s
  else
    let e := wfld w 50 2
    let s := modPort p (fun q =>
      let go := q.fresh || q.lastEpoch != e
      { q with farLimit := wfld w 40 10, farFreed := wfld w 0 16, fresh := go, lastEpoch := if go then e else q.lastEpoch }) s
    let s := s.put (Obj.farLimit p) (wfld w 40 10)
    let s := if (s.port p).fresh ∧ ((s.port p).stalled ∧ (s.port p).need ≤ s.creditOf p ∨ s.hasCredit p) then
        modPort p (fun q => { q with stalled := false, starved := 0 }) s
      else s
    outputReturn p s

/-- The effect of `CREDIT_WORD_RECEIVE` (R179). -/
def execCreditWordReceive (port : Fin 3) (w : W64) (s : State) : Host.Outcome State Fault Refusal :=
  .next (
    let p := port.val
    if s.listens p ∧ s.rxOpen p then creditReceive p w (returned p [.ctrl tyIdle w] s) else s)

/-- The effect of `CREDIT_WORD_INSERT` (R180): a word with the present FREED leaves. -/
def execCreditWordInsert (port : Fin 3) (s : State) : Host.Outcome State Fault Refusal :=
  .next (
    let p := port.val
    if s.tx p = dActive ∧ !s.faults.lanesIdle ∧ (s.port p).freed ≠ (s.port p).freedSent then
      modPort p (fun q => { q with freedSent := q.freed }) (sendBlock p tyIdle (s.creditWord p) s)
    else s)

/-- The least credit that a frame at output p needs before it starts. -/
def State.leastNeed (s : State) (p : Nat) : Nat :=
  match s.turns p with
  | [] => 0
  | j :: t => t.foldl (fun n k => Nat.min n (s.needs p k)) (s.needs p j)

/-- The effect of `OUTPUT_STALL` (R183): the output held a frame and lacked its credit at `STALL_TICKS` boundaries in a row. -/
def execOutputStall (port : Fin 3) (s : State) : Host.Outcome State Fault Refusal :=
  .next (
    let p := port.val
    if s.txUp p ∧ s.get (Obj.outState p) = 0 ∧ !(s.port p).stalled ∧ s.get Obj.stallTicks ≤ (s.port p).starved then
      outputDown p (raise 0x15 p 0 ((modPort p (fun q => { q with stalled := true, need := s.leastNeed p }) s).bump (Obj.stallCnt p)))
    else s)

/-- The effect of `LINGER_EXPIRY` (R185): every boundary of the linger time has passed. -/
def execLingerExpiry (port : Fin 3) (s : State) : Host.Outcome State Fault Refusal :=
  .next (if s.get (Obj.outState port.val) = 1 ∧ (s.port port.val).linger = 0 then lingerExpire port.val s else s)

end Sys2Proof.Machine
end

