-- ==== Sys2Proof/Machine/Survey.lean ====
section
/-! DEFINITION. Survey notices and asymmetry surveys on the ring (R118, R148). -/

namespace Sys2Proof.Machine

/-- EAST_STATE or WEST_STATE of port p, and MOOR_STATE of port 2 (R118). -/
def State.sideState (s : State) (p : Nat) : Nat :=
  b2n (s.rx p == dActive) * 8 + b2n (s.tx p == dActive) * 4 +
  (if p = 2 then 0 else b2n (s.dirThree p) * 2 + b2n (s.dir p 4 || s.dir p 5))

/-- The payload of a survey notice but SURVEY_SEQ (R118). -/
def State.surveyWord (s : State) : Nat :=
  s.nodeNumber * 2 ^ 56 + s.farNode 0 * 2 ^ 48 + s.farNode 1 * 2 ^ 40 + s.sideState 0 * 2 ^ 36 + s.sideState 1 * 2 ^ 32 +
  s.sideState 2 * 2 ^ 28 + s.node.mode.num * 2 ^ 24

/-- The last survey of a node kept in the ring map (R118). -/
def keepNode (w : W64) (s : State) : State :=
  modRing (fun r => { r with map := r.map.filter (fun e => wfld e.word 56 8 != wfld w 56 8) ++ [⟨w, s.tide.beat⟩] }) s

/-- A survey notice leaves both ways (R118). -/
def surveySend (s : State) : State :=
  let w := w64 (s.surveyWord + (wfld s.ring.lastSurvey 0 16 + 1) % 2 ^ 16)
  let s := modRing (fun r => { r with lastSurvey := w, surveyTick := s.tide.beat }) s
  sendBoth 0xFE [pw w] (keepNode w s)

/-- The effect of `SURVEY_NOTICE_SEND` (R118): when a field has changed, and otherwise every 1,024 ticks; an unnumbered node has nothing to
name. -/
def execSurveyNoticeSend (s : State) : Host.Outcome State Fault Refusal :=
  .next (
    if s.released 4 ∧ s.nodeNumber ≠ 0 ∧ 2 ≤ s.ownRoom 7 2 ∧
      (s.ring.lastSurvey.toNat / 2 ^ 16 ≠ s.surveyWord / 2 ^ 16 ∨ s.ring.surveyTick + 1024 ≤ s.tide.beat)
    then surveySend s else s)

/-- The next frame of class 10 at port 7 with a DPORT. -/
def State.mgmtNext (s : State) (dport : Nat) : Option Job :=
  s.localNext 7 (fun j => hClass j.hdr == 2 && !hRelay j.hdr && hDport j.hdr == dport)

/-- The effect of `SURVEY_NOTICE_RECEIVE` (R118): the next survey notice at port 7. -/
def execSurveyNoticeReceive (s : State) : Host.Outcome State Fault Refusal :=
  .next (match s.mgmtNext 0xFE with
    | none => s
    | some j =>
      match localFrame j s with
      | (some f, s) => if f.pay.length = 1 ∧ f.pay.all (fun w => !w.p) then keepNode (Frame.word f 0) s else s
      | (none, s) => s)

/-- The effect of `SURVEY_NODE_EXPIRY` (R118): 3,072 ticks have passed without a notice of the node; its span notices of that age go with it. -/
def execSurveyNodeExpiry (node : BitVec 8) (s : State) : Host.Outcome State Fault Refusal :=
  .next (modRing (fun r => { r with
    map := r.map.filter (fun e => wfld e.word 56 8 != node.toNat || decide (s.tide.beat < e.tick + 3072))
    spans := r.spans.filter (fun d => d.origin != node.toNat || decide (s.tide.beat < d.tick + 3072)) }) s)

/-- The effect of `ASYM_SURVEY_RECEIVE` (R148): the next asymmetry survey at port 7. -/
def execAsymSurveyReceive (s : State) : Host.Outcome State Fault Refusal :=
  .next (match s.mgmtNext 0xFD with
    | none => s
    | some j =>
      match localFrame j s with
      | (some f, s) => if f.pay.length = 2 ∧ f.pay.all (fun w => !w.p) then asymSurveyTake f s else s
      | (none, s) => s)

end Sys2Proof.Machine
end

