-- ==== Sys2Proof/Machine/DictRead.lean ====
section
/-! DEFINITION. What a read of an object returns: objects that show other state, and reads with a side effect (R510, R534, R535). -/

namespace Sys2Proof.Machine

/-- Whole seconds left of a time of n seconds that began at t units of 25 us, rounded up (log entry 8). -/
def State.secondsLeft (s : State) (n t : Nat) : Nat := (40000 * n - (s.tide.clock - t) + 39999) / 40000

/-- `LOCK_STATE` (R537). -/
def State.lockState (s : State) : Nat :=
  let left := capAt 0xFFFF (s.secondsLeft (s.get Obj.lockTimeout) s.dict.lockAt)
  match s.dict.holder with
  | none => 0
  | some (.ring n) => 2 ^ 31 + 1 * 2 ^ 28 + n.toNat * 2 ^ 16 + left
  | some (.gangplank _ _) => 2 ^ 31 + 2 * 2 ^ 28 + left
  | some .core => 2 ^ 31 + 3 * 2 ^ 28 + left

/-- `LOCK_HOLDER_IP` (R537). -/
def State.lockHolderIp (s : State) : Nat :=
  match s.dict.holder with
  | some (.gangplank ip _) => ip.toNat
  | _ => 0

/-- The Gangplank address in use (R523): 169.254.1.N, or 169.254.2.(1 + POS) while unnumbered. -/
def State.gpAddr (s : State) : Nat :=
  if s.get Obj.gpIpAddr ≠ 0 then s.get Obj.gpIpAddr
  else if s.nodeNumber ≠ 0 then 0xA9FE0100 + s.nodeNumber
  else 0xA9FE0201 + b2n s.node.posB

/-- The mask in use (R523). -/
def State.gpMask (s : State) : Nat := if s.get Obj.gpIpAddr ≠ 0 then s.get Obj.gpNetmask else 0xFFFF0000

/-- Transfer buffer in use (R515). -/
def State.segUsed (s : State) : Nat := s.dict.ctxs.foldl (fun n c => n + c.total) 0

/-- Objects 0x1000 to 0x1FFF that show other state. -/
def State.viewService (s : State) (o : Obj) : Option Nat :=
  if o = Obj.siliconRev then some Config.siliconRev.toNat
  else if o = Obj.serialNumber then some Config.serialNumber.toNat
  else if o = Obj.fwGen then some s.fwGen
  else if o = Obj.nodeNumber then some s.nodeNumber
  else if o = Obj.mode then some s.node.mode.num
  else if o = Obj.lockState then some s.lockState
  else if o = Obj.lockHolderIp then some s.lockHolderIp
  else if o = Obj.ownerKey then some 0
  else if o = Obj.gpMac then some Config.gpMac.toNat
  else if o = Obj.gpIpInUse then some s.gpAddr
  else if o = Obj.gpLink then some (b2n s.dict.link + 2 * s.dict.speed)
  else if o = Obj.segOpen then some s.dict.ctxs.length
  else if o = Obj.segBufFree then some (65536 - s.segUsed)
  else none

/-- Objects 0x2000 to 0x2FFF that show other state. -/
def State.viewRing (s : State) (o : Obj) : Option Nat :=
  if o = Obj.ringNodes then some s.ringNodes
  else if o = Obj.ringClosed then some (b2n s.ringClosed)
  else if o = Obj.downDirs then some s.downDirs
  else if o = Obj.surveySeq then some (wfld s.ring.lastSurvey 0 16)
  else if o = Obj.tickNumber then some s.tide.tick
  else if o = Obj.tickCode then some s.tide.code
  else if o = Obj.tideWriteQueue then some s.tide.queue.length
  else if (o.idx = 0x2600 ∧ 0x0E ≤ o.sub) ∨ (o.idx = 0x2200 ∧ (o.sub = 0x08 ∨ o.sub = 0x14)) then some 0
  else none

/-- Objects of a switch port (R198). -/
def State.viewPort (s : State) (o : Obj) : Option Nat :=
  let u := o.idx - 0x3010
  match o.sub with
  | 1 => some (s.partUsedOf u)
  | 2 => some (partSize u)
  | 3 => some (if u ≤ 2 then s.creditOf u else 0)
  | 5 => some (s.outSharedNow u)
  | 7 => some (if u ≤ 2 ∧ s.get (Obj.outState u) = 1 then (s.hold.jobs.filter (fun j => j.output == u)).length else 0)
  | _ => none

/-- Objects 0x3000 to 0x3FFF that show other state. -/
def State.viewSwitch (s : State) (o : Obj) : Option Nat :=
  if o = Obj.holdFree then some s.freeBays
  else if o = Obj.sharedUsed then some s.sharedNow
  else if o = Obj.baysRetired then some s.hold.retired.length
  else if o = Obj.baysRetiring then some s.hold.retiring.length
  else if 0x3010 ≤ o.idx ∧ o.idx < 0x3018 then s.viewPort o
  else if o = Obj.tagsFree then some (s.bridge.tags.filter (fun t => t.use == .none)).length
  else if o = Obj.inboundUsed then some ((s.bridge.respWait.filter (·.place)).length + (s.bridge.postWait.filter (fun w => w.ser.isNone)).length)
  else if o = Obj.manEntriesUsed then some s.man.entries.length
  else none

/-- Code of a crane's state (R290). -/
def CraneSt.code : CraneSt → Nat
  | .idle => 0 | .running => 1 | .stalled => 2 | .halted => 3 | .faulted => 4

/-- Registers of a crane as its objects show them (R290). -/
def State.viewCrane (s : State) (g sub : Nat) : Option Nat :=
  let c := s.crane g
  match sub with
  | 0x01 => some c.st.code
  | 0x10 => some c.pc
  | 0x11 => some c.x.toNat
  | 0x12 => some c.y.toNat
  | 0x13 => some c.lc.toNat
  | 0x14 => some c.sir.toNat
  | 0x15 => some c.sor.toNat
  | 0x16 => some (c.pstat * 2 ^ 16 + c.op * 2 ^ 8 + c.sc)
  | 0x17 => some (b2n (c.phase == .shifting) * 2 ^ 15 + b2n c.frameErr * 2 ^ 14 + c.shiftDone % 128)
  | 0x18 => some c.shiftPart.toNat
  | _ => none

/-- Objects 0x4000 to 0x5FFF that show other state. -/
def State.viewQuay (s : State) (o : Obj) : Option Nat :=
  if 0x4200 ≤ o.idx ∧ o.idx < 0x4240 then s.viewCrane (o.idx - 0x4200) o.sub
  else if 0x4100 ≤ o.idx ∧ o.idx < 0x4104 ∧ o.sub = 3 then some (s.quay.flags.getD (o.idx - 0x4100) 0)
  else if 0x4100 ≤ o.idx ∧ o.idx < 0x4104 ∧ o.sub = 4 then some (s.quay.irq.getD (o.idx - 0x4100) 0)
  else if o = Obj.pageOwners then some (maskOf (s.coverers (s.get Obj.pageIndex)))
  else if o = Obj.pagesFree then some ((List.range 64).filter s.pageFree).length
  else if o = Obj.pagesWorn then some (popCount 64 s.tally.worn)
  else if o = Obj.freeRun then some s.freeRun
  else if o = Obj.swapState then some s.tally.swap.code
  else if o = Obj.stageWorn then some s.tally.stageWorn
  else if 0x5400 ≤ o.idx ∧ o.idx < 0x5440 ∧ o.sub = 1 then some (s.fifoStatus (o.idx - 0x5400))
  else if o = Obj.noticeSummary then some (maskOf ((List.range 64).filter (fun g => s.get (Obj.noticePend g) != 0)))
  else if 0x5500 ≤ o.idx ∧ o.idx < 0x5504 ∧ o.sub = 1 then some (s.unit (o.idx - 0x5500)).control
  else if 0x5500 ≤ o.idx ∧ o.idx < 0x5504 ∧ o.sub = 2 then some (s.unit (o.idx - 0x5500)).result
  else if o = Obj.vioLevel then some s.vioLevel
  else none

/-- Objects 0x6000 to 0x6FFF that show other state, but for the times. -/
def State.viewCan (s : State) (o : Obj) : Option Nat :=
  let k := o.idx - 0x6100
  if 0x6100 ≤ o.idx ∧ o.idx < 0x6108 then
    match o.sub with
    | 1 => some (s.canState k)
    | 2 => some (s.canCounters k)
    | 4 => some (s.bufMask k [1, 2, 5])
    | 5 => some (s.bufMask k [7, 8])
    | 6 => some (s.queueFill k)
    | _ => none
  else if o = Obj.slewRemain then some (ofSigned 64 s.time.slew)
  else if 0x6410 ≤ o.idx ∧ o.idx < 0x6412 ∧ o.sub = 3 then some (ofSigned 64 (s.domain (o.idx - 0x6410)).off)
  else if 0x6420 ≤ o.idx ∧ o.idx < 0x6422 ∧ o.sub = 2 then some ((s.delayIn (o.idx - 0x6420)).getD 0).toNat
  else if 0x6420 ≤ o.idx ∧ o.idx < 0x6422 ∧ o.sub = 4 then some (Config.txLat (o.idx - 0x6420)).toNat
  else if 0x6420 ≤ o.idx ∧ o.idx < 0x6422 ∧ o.sub = 5 then some (Config.rxLat (o.idx - 0x6420)).toNat
  else if 0x6600 ≤ o.idx ∧ o.idx < 0x6610 ∧ o.sub = 7 then some (Gen.status (s.gen (o.idx - 0x6600)))
  else none

/-- Objects of the twin logic, the reset controller and the fault collector that show other state. -/
def State.viewTwin (s : State) (o : Obj) : Option Nat :=
  if o = Obj.twinPos then some (b2n s.node.posB)
  else if o = Obj.ownLine then some (b2n s.ownLine)
  else if o = Obj.ready then some (b2n s.readyNow)
  else if o = Obj.selftestPass then some (if s.twin.stDone then clearBits 0x3F s.twin.stLast else 0)
  else if o = Obj.twinHealthAge then some s.twin.healthAge
  else if o = Obj.twinSavedGen then some s.twinSavedGen
  else if o = Obj.hbAge then some s.twin.hbAge
  else if o = Obj.blockResetState then some s.blockState
  else if o = Obj.options then some s.rst.opts
  else if o = Obj.straps then some (b2n s.node.posB + 2 * b2n s.node.slipLow + 4 * s.rst.bootSel)
  else if o = Obj.faultSummary then some s.faultSummary
  else if o = Obj.faultSeq then some s.faults.seq
  else if o = Obj.quarantineCause then some s.faults.cause
  else none

/-- `UPD_GUARDS` (R554). -/
def State.updGuards (s : State) : Nat :=
  b2n s.upd.mnv + 2 * b2n (!s.upd.batt) + 4 * b2n (decide (21600 ≤ s.gw.vin)) + 8 * b2n s.dict.holder.isSome

/-- Objects of the Gangway and of the update that show other state. -/
def State.viewGw (s : State) (o : Obj) : Option Nat :=
  if o = Obj.gwState then some s.gw.st.code
  else if o = Obj.gwStatus then some s.gwStatus
  else if o = Obj.gwVinMeas then some (capAt 0xFFFF s.gw.vin)
  else if o = Obj.gwVoutMeas then some (capAt 0xFFFF s.gw.vout)
  else if o = Obj.gwIMeas then some (capAt 0xFFFF s.gw.cur)
  else if o = Obj.gwTEst then some (ofSigned 16 s.tEstObj)
  else if o = Obj.gwFtMeas then some (capAt 0xFFFF s.gw.timer)
  else if o = Obj.updState then some s.upd.state
  else if o = Obj.updTotal then some s.updTotal
  else if o = Obj.updTrialLeft then some (if s.upd.state = 4 then s.secondsLeft 60 s.upd.trialAt else 0)
  else if o = Obj.updGuards then some s.updGuards
  else if o = Obj.slotActive then some (s.upd.slot + 2 * b2n s.upd.trial)
  else if o = Obj.bootRecSeq then some s.upd.recSeq
  else none

/-- A scalar object's value as a read returns it, without the reads that draw or change something. -/
def State.view (s : State) (o : Obj) : Nat :=
  let v :=
    if o.idx < 0x2000 then s.viewService o
    else if o.idx < 0x3000 then s.viewRing o
    else if o.idx < 0x4000 then s.viewSwitch o
    else if o.idx < 0x6000 then s.viewQuay o
    else if o.idx < 0x7000 then s.viewCan o
    else if o.idx < 0x7800 then s.viewTwin o
    else s.viewGw o
  v.getD (s.get o)

/-- The header of an image slot, zero for an empty slot (R554). -/
def State.slotHeader (s : State) (i : Nat) : List Byte :=
  let h := (s.image i).take 32
  h ++ List.replicate (32 - h.length) 0

/-- The nodes met on a side from a node, as far as the ring map links them, back to the own one at most. -/
def State.along (s : State) (side : Nat) : Nat → Nat → List Nat
  | 0, _ => []
  | fuel + 1, n =>
    let m := s.neighbour side n
    if m = 0 ∨ m = s.nodeNumber then [] else m :: s.along side fuel m

/-- The nodes in ring order East from the own node: on an open ring the far West ones follow the far East one. -/
def State.eastOrder (s : State) : List Nat :=
  let e := s.along 0 254 s.nodeNumber
  s.nodeNumber :: (e ++ ((s.along 1 254 s.nodeNumber).filter (fun n => !e.contains n)).reverse)

/-- `RING_MAP` (R122): the survey words of the ring map's nodes, one per node; a node that no neighbour link reaches follows the others. -/
def State.ringMapBytes (s : State) : List Byte :=
  let order := s.eastOrder
  let rest := (s.ring.map.map (fun e => wfld e.word 56 8)).filter (fun n => !order.contains n)
  (order ++ rest).flatMap (fun n => match s.surveyOf n with | some w => bytesOf 8 w.toNat | none => [])

/-- `TWIN_HEALTH` (R446). -/
def State.healthBytes (s : State) : List Byte :=
  match s.twin.health with
  | some l => bytesOfWords (l.take 4)
  | none => List.replicate 32 0

/-- A STR's or DOMAIN's bytes as a read returns them, without the reads that change something. -/
def State.viewBlob (s : State) (o : Obj) : List Byte :=
  if o = Obj.fwVersion then Config.fwVersion s.upd.slot
  else if o = Obj.ringMap then s.ringMapBytes
  else if o = Obj.manReadEntry then bytesOf 16 (mapGet 0 s.man.entries (s.get Obj.manReadIndex))
  else if o = Obj.manifestDisable then s.man.disable.flatMap (bytesOf 4)
  else if o = Obj.tallyPageMap then s.pageMap
  else if o = Obj.twinHealth then s.healthBytes
  else if o = Obj.resetHistory then (s.rst.history.take 8).flatMap (bytesOf 8)
  else if o = Obj.slotInfo then s.slotHeader 0 ++ s.slotHeader 1
  else s.blob o

/-- A read of an object (R534): the value's bytes and the state, with the effects of R535 and the open values of a running time. -/
def readObj (o : Obj) (s : State) : List Byte × State :=
  let n := o.ty.size
  if o = Obj.sharedPeak then (bytesOf n (s.get o), s.put o s.sharedNow)
  else if 0x3010 ≤ o.idx ∧ o.idx < 0x3018 ∧ o.sub = 0x0D then (bytesOf n (s.get o), s.put o 0)
  else if o = Obj.gwPeakT then (bytesOf n (s.get o), s.putI o s.tEstObj)
  else if 0x4100 ≤ o.idx ∧ o.idx < 0x4104 ∧ o.sub = 6 then let d := s.draw; (bytesOf n d.1.toNat, d.2)
  else if o = Obj.workTime then let r := workNow s; (bytesOf n (time96 r.1), r.2)
  else if 0x6410 ≤ o.idx ∧ o.idx < 0x6412 ∧ o.sub = 2 then
    let r := workNow s
    (bytesOf n (time96 (r.1 + (s.domain (o.idx - 0x6410)).off)), r.2)
  else if o = Obj.tallyReadData then tallyReadData s
  else if o = Obj.stageRead then stageReadData s
  else if o = Obj.faultList then (s.faultList, latchFaults s)
  else if n = 0 then (s.viewBlob o, s)
  else (bytesOf n (s.view o), s)

end Sys2Proof.Machine
end

