-- ==== Sys2Proof/Machine/Inject.lean ====
section
/-! DEFINITION. Fault events of detectors that have no command of their own, and fault injection in Slipway (R474, R487, R488). -/

namespace Sys2Proof.Machine

/-- The block counter of a source with its instance (R476). A critical-state error and a Gangway event are counted by the resets that they cause. -/
def blockCounter (src inst : Nat) : Option Obj :=
  let p := inst / 16 % 4
  match src with
  | 0x01 => some (Obj.spareSwitchCnt p)
  | 0x02 => some (Obj.spareSwitchCnt (inst % 4))
  | 0x03 | 0x04 => some (Obj.downCnt (inst % 4))
  | 0x06 => some (Obj.lowMarginCnt p (inst % 8))
  | 0x07 => some Obj.asymFrozenCnt
  | 0x08 => some Obj.genMismatchCnt
  | 0x0A => some Obj.domMismatchCnt
  | 0x10 => some Obj.leakCnt
  | 0x11 => some Obj.rowsSparedCnt
  | 0x12 => some Obj.holdUeCnt
  | 0x14 => some Obj.auditMismatchCnt
  | 0x15 => some (Obj.stallCnt (inst % 4))
  | 0x18 => some Obj.sideEffectDiscardCnt
  | 0x21 => some Obj.tallyCeCnt
  | 0x22 => some Obj.tallyUeCnt
  | 0x23 => some (Obj.fifoUeCnt inst)
  | 0x24 => some (Obj.fifoCeCnt inst)
  | 0x25 => some (Obj.flushLostCnt inst)
  | 0x26 => some (Obj.chkParityCnt inst)
  | 0x27 => some Obj.vioDropCnt
  | 0x29 => some (Obj.boffCnt inst)
  | 0x2A => some (Obj.bufUeCnt inst)
  | 0x30 => some Obj.selftestFailCnt
  | 0x31 => some Obj.giveupCnt
  | 0x32 => some Obj.copyErrCnt
  | 0x37 => some Obj.dictRefusedCnt
  | 0x38 | 0x39 => some Obj.clockFailCnt
  | _ => none

/-- An event counted in its block counter, once the counter's domain has been released, and where the table has that object; a FIFO's parity counts
the words lost (R476, R477). -/
def countBlock (e : Event) (s : State) : State :=
  match blockCounter e.src.toNat e.inst.toNat with
  | some o =>
    if (objAt o.idx o.sub).isSome ∧ s.released (objDomain o.idx) then s.addTo o (if e.src.toNat = 0x25 then e.detail.toNat % 256 else 1) else s
  | none => s

/-- The effect of `FAULT_EVENT` (R474): an event of a source of R476, counted in its block counter too (R477). An uncorrected error in the core's SRAMs, or a failed instruction
test, is a give-up criterion too (R423). -/
def execFaultEvent (e : Event) (s : State) : Host.Outcome State Fault Refusal :=
  .next (
    if faultCodes.contains e.src.toNat then
      let s := raise e.src.toNat e.inst.toNat e.detail.toNat (countBlock e s)
      if e.src.toNat = 0x35 then holdCriterion 5 s else s
    else s)

/-- Fields of `FAULT_INJECT` (R487). -/
def fiSrc (v : Nat) : Nat := fld v 56 8
def fiInst (v : Nat) : Nat := fld v 48 8
def fiMethod (v : Nat) : Nat := fld v 46 2
def fiBit (v : Nat) : Nat := fld v 39 7
def fiArg (v : Nat) : Nat := fld v 0 32

/-- A source accepts the bit methods with an instance (R487). -/
def bitSource (src inst : Nat) : Bool :=
  match src with
  | 0x12 | 0x22 | 0x23 | 0x2A => true
  | 0x34 | 0x35 => decide (inst < 2)
  | 0x3C => inst == 2 || inst == 3
  | _ => false

/-- A FIFO as INSTANCE names it (R476). -/
def fifoUnit (i : Nat) : Bool :=
  decide (i < 0x48) || (decide (0x50 ≤ i) && decide (i < 0x54)) || (decide (0x60 ≤ i) && decide (i < 0x80))

/-- A port and lane as INSTANCE names them (R476). -/
def laneUnit (i : Nat) : Bool := decide (i / 16 < 3) && decide (i % 16 < laneCount (i / 16))

/-- INSTANCE names a unit of a source (R476). -/
def unitOk (src i : Nat) : Bool :=
  match src with
  | 0x01 | 0x06 => laneUnit i
  | 0x02 | 0x03 => decide (i < 2)
  | 0x04 => i == 2
  | 0x05 | 0x15 | 0x35 => decide (i < 3)
  | 0x20 | 0x3F => decide (i < 64)
  | 0x21 | 0x22 => decide (i < 0x44)
  | 0x23 | 0x24 | 0x25 => fifoUnit i
  | 0x26 | 0x27 => decide (i < 4)
  | 0x28 | 0x29 | 0x2A => decide (i < 8)
  | 0x30 => decide (i < 6)
  | 0x34 | 0x37 => decide (i < 2)
  | 0x38 => decide (1 ≤ i) && decide (i < 8)
  | 0x39 => decide (i < 22)
  | 0x3C => decide (1 ≤ i) && decide (i < 6)
  | _ => i == 0

/-- The FIFO that INSTANCE and ARG bit 0 name, if there is one (R487). -/
def fifoNamed (i arg : Nat) : Option Nat :=
  let tx := bit arg 0
  if i < 64 then some (if tx then 64 + i else i)
  else if 0x40 ≤ i ∧ i < 0x48 then some (if tx then 136 + (i - 0x40) else 128 + (i - 0x40))
  else if 0x50 ≤ i ∧ i < 0x54 ∧ !tx then some (144 + (i - 0x50))
  else if 0x60 ≤ i ∧ i < 0x80 ∧ !tx then some (148 + (i - 0x60))
  else none

/-- ARG names a location of the store (R487): the bits it names, and whether the location exists. -/
def State.argOk (s : State) (src inst arg : Nat) : Bool :=
  match src with
  | 0x22 =>
    let w := fld arg 0 10
    if inst < 64 then w / 16 == inst else decide (w < 64) && w / 16 == inst - 0x40
  | 0x23 => match fifoNamed inst arg with
    | some f => decide (fld arg 8 7 < s.depth f)
    | none => false
  | 0x2A => decide (fld arg 0 7 ≤ 64) && decide (fld arg 8 4 < 12)
  | 0x34 | 0x35 => inst == 0 || decide (fld arg 0 18 < 0x20000)
  | _ => true

/-- The bits of ARG that name a location of a source (R487). -/
def argMask (src : Nat) : Nat :=
  match src with
  | 0x12 => 0x3FFF
  | 0x22 => 0x3FF
  | 0x23 => 0x7F01
  | 0x2A => 0xF7F
  | 0x34 | 0x35 => 0x3FFFF
  | _ => 0x7FF

/-- The code of R488 that a write to `FAULT_INJECT` meets. -/
def State.injectCode (s : State) (v : Nat) : Nat :=
  let src := fiSrc v
  let m := fiMethod v
  let bits := decide (2 ≤ m)
  if !faultCodes.contains src then 1
  else if m = 0 ∨ (bits ∧ !bitSource src (fiInst v)) then 2
  else if !unitOk src (fiInst v) ∨ (bits ∧ !s.argOk src (fiInst v) (fiArg v)) then 3
  else if fld v 32 7 ≠ 0 ∨ (bits ∧ (fiArg v &&& argMask src) ≠ fiArg v) then 4
  else 0

/-- The stored data bits that a write inverts at a location of w of them (R487). -/
def flipMask (v w : Nat) : Nat :=
  let b := 2 ^ (fiBit v % w)
  if fiMethod v = 3 then b ^^^ 2 ^ ((fiBit v + 1) % w) else b

/-- The bits m of entry k of a map of inverted bits inverted. -/
def flip (m k : Nat) (l : List (Nat × Nat)) : List (Nat × Nat) := mapSet 0 l k (mapGet 0 l k ^^^ m)

/-- The bit methods (R487). -/
def injectBits (v : Nat) (s : State) : State :=
  let a := fiArg v
  match fiSrc v with
  | 0x12 => modHold (fun h => { h with inv := flip (flipMask v 72) (fld a 0 11 * 8 + fld a 11 3) h.inv }) s
  | 0x22 => tallyUpset (if fiInst v < 64 then fld a 0 10 else stageKey (fld a 0 10)) (flipMask v 24) s
  | 0x23 => match fifoNamed (fiInst v) a with
    | some f =>
      let x := s.fifo f
      let p := fld a 8 7
      s.setFifo f { x with inv := mapSet 0 x.inv p (mapGet 0 x.inv p ^^^ flipMask v 72) }
    | none => s
  | 0x2A => modCtl (fiInst v) (fun c => { c with inv := flip (flipMask v 64) (fld a 0 7 * 16 + fld a 8 4) c.inv }) s
  | 0x34 | 0x35 => modBridge (fun b => { b with sramInv := flip (flipMask v 8) (fiInst v * 2 ^ 18 + fld a 0 18) b.sramInv }) s
  | _ =>
    if fiInst v = 2 then modHold (fun h => { h with freeInv := flip (flipMask v 11) (fld a 0 11) h.freeInv }) s
    else modHold (fun h => { h with tagInv := flip (flipMask v 48) (fld a 0 11) h.tagInv }) s

/-- A write to `FAULT_INJECT` (R487, R488). -/
def injectWrite (v : Nat) (s : State) : State × Nat :=
  let code := s.injectCode v
  if code ≠ 0 then ((s.put Obj.injectResult code).put Obj.faultInject stRefused, ecOk)
  else
    let s := ((s.put Obj.injectResult 0).bump Obj.injectCnt).put Obj.faultInject stDone
    (if fiMethod v = 1 then raiseAs true (fiSrc v) (fiInst v) (fiArg v) s else injectBits v s, ecOk)

end Sys2Proof.Machine
end

