-- ==== Sys2Proof/Machine/DictWrite.lean ====
section
/-! DEFINITION. Writes to the dictionary: presence, modes, rights, the owner lock, values, effect times, and the objects whose write does more
than store a value (R17 to R21, R70, R509 to R532). -/

namespace Sys2Proof.Machine

/-- Not codes of R532: a request that a pause answers with status BUSY (R226), and one that nothing answers (R524). -/
def ecPaused : Nat := 0x100
def ecSilent : Nat := 0x101

/-- The object at an index and subindex while it is present: test objects in Slipway only, the test key while R34 allows it, and subindex 00
(R34, R509, R510). -/
def State.findObj (s : State) (idx sub : Nat) : Option Obj :=
  let here := (idx < 0xF000 || s.node.mode == .slipway) &&
    (idx != 0x1050 || (s.node.mode == .berthing && s.node.slipLow && s.node.keyWindow))
  if !here then none
  else if sub = 0 then (if highestSub idx = 0 then none else some ⟨idx, 0, .u8, .ro, .none, highestSub idx, .any⟩)
  else objAt idx sub

/-- Objects that the bridge passes straight to the reset controller and the fault collector (R452, R518). -/
def directObj (idx : Nat) : Bool := decide (0x7400 ≤ idx) && decide (idx < 0x7600)

/-- Objects that a node in Quarantine serves (R484). -/
def quarantineObj (idx : Nat) : Bool := idx == 0x1000 || idx == 0x1001 || directObj idx

/-- No answer while nothing serves the dictionary, BUSY during a pause, or else OK: a reset by command is taken in a pause too (R226, R452,
R524, R550). -/
def State.serveCode (s : State) (idx sub : Nat) : Nat :=
  if s.node.mode = .approach ∨ !s.released (if directObj idx then 4 else 5) then ecSilent
  else if (s.upd.pause ∨ 0 < s.tide.pause) ∧ !(idx = 0x7400 ∧ sub = 1) then ecPaused
  else ecOk

/-- The modes in which an object is served (R484, R524). -/
def State.modeCode (s : State) (o : Obj) : Nat :=
  if s.node.mode = .quarantine ∧ !quarantineObj o.idx then ecMode
  else if s.node.mode = .berthing ∧ !s.released (objDomain o.idx) then ecMode
  else ecOk

/-- A requester holds the open lock (R528). -/
def State.holds (s : State) (r : Req) : Bool := s.dict.holder == some r

/-- Loading objects and commits that R429 refuses on an Anchored chip. -/
def anchoredCmd (o : Obj) : Bool :=
  [Obj.tallyLoad, Obj.stageLoad, Obj.tidePlanCommit, Obj.manifestCommit, Obj.swapCmd].contains o ||
    (decide (0x4100 ≤ o.idx) && decide (o.idx < 0x4104) && o.sub == 1) ||
    (decide (0x6000 ≤ o.idx) && decide (o.idx < 0x6008) && o.sub == 6)

/-- The rights of a write: READ_ONLY, MODE, LOCKED (R17, R429, R524, R528, R543). -/
def State.rightCode (s : State) (r : Req) (o : Obj) : Nat :=
  if o.acc = .ro then ecReadOnly
  else if o.acc = .rwb ∧ s.node.mode ≠ .berthing ∧ s.node.mode ≠ .dryDock then ecMode
  else if s.anchored ∧ ((o.saved ∧ !o.chipOwn) ∨ anchoredCmd o) then ecMode
  else if (o.acc = .rwl ∨ o.idx / 256 = 0x79) ∧ !s.holds r then ecLocked
  else ecOk

/-- Largest size in bytes of a STR or DOMAIN (R511, R513). -/
def Obj.maxLen (o : Obj) : Nat :=
  if o = Obj.updChunk then 4100
  else if o = Obj.swapReq then 16
  else if o = Obj.dportEnable then 32
  else if o = Obj.fwVersion then 32
  else if o.ty = .str then 64
  else 65536

/-- A value of a length fits an object (R532 code SIZE_MISMATCH). -/
def Obj.sizeOk (o : Obj) (n : Nat) : Bool :=
  if o.ty.size ≠ 0 then n == o.ty.size
  else if o = Obj.swapReq ∨ o = Obj.dportEnable then n == o.maxLen
  else decide (n ≤ o.maxLen)

/-- Values of a busy command that its chapter takes as an abort (R526). -/
def abortValue (o : Obj) (v : Nat) : Bool :=
  (o == Obj.blockReset && bit v 31) || (o == Obj.handover && v == 2) || (o == Obj.swapCmd && v == 2) || (o == Obj.updCmd && v == 7)

/-- A command object reads BUSY (R526). -/
def State.cmdBusy (s : State) (o : Obj) (v : Nat) : Bool :=
  o.acc == .cmd && s.get o % 128 == stBusy && !abortValue o v

/-- A place in the queue of tide-applied writes (R20, R70): none when a 65th would be needed. -/
def queueTide (key : Nat) (v : List Byte) (s : State) : Option State :=
  let q := s.tide.queue.filter (fun e => e.1 != key)
  if 64 ≤ q.length then none else some (modTide (fun d => { d with queue := q ++ [(key, v)] }) s)

/-- A commit that takes effect at the next boundary takes a place in that queue once it is accepted (R70, R293, R374). -/
def commitQueued (o : Obj) (f : State → State × Nat) (s : State) : State × Nat :=
  match queueTide o.key [1] s with
  | none => (s, ecTideFull)
  | some q =>
    let r := f s
    if r.1.get o = stBusy then ({ r.1 with tide := { r.1.tide with queue := q.tide.queue } }, r.2) else r

/-- A write to `OWNER_LOCK` (R528, R529). -/
def lockWrite (r : Req) (v : Nat) (s : State) : State × Nat :=
  let op := fld v 56 8
  let other := s.dict.holder.isSome && !s.holds r
  if (op ≠ 1 ∧ op ≠ 2) ∨ fld v 32 24 ≠ 0 then (s, ecValue)
  else if other then (s, ecLocked)
  else if op = 2 then ((lockClose s).put Obj.ownerLock stDone, ecOk)
  else if s.dict.lockout then (s, ecLocked)
  else if fld v 0 32 = s.get Obj.ownerKey then
    ({ s.put Obj.ownerLock stDone with dict := { s.dict with holder := some r, lockAt := s.tide.clock } }, ecOk)
  else
    let w := s.tide.clock :: s.dict.wrong.filter (fun t => decide (s.tide.clock < t + 2400000))
    let full := decide (8 ≤ w.length)
    ({ s.bump Obj.lockRefusedCnt with dict := { s.dict with wrong := if full then [] else w, lockout := full } }, ecValue)

/-- A write to `SLIPWAY_KEY` (R34). -/
def slipwayKeyWrite (v : Nat) (s : State) : State × Nat :=
  if v = 0x51F00072 * 2 ^ 32 + Config.serialNumber.toNat % 2 ^ 32 then (enterSlipway s, ecOk) else (s, ecValue)

/-- The source code of a reset by command (R452). -/
def State.resetSource (s : State) : Req → Nat
  | .ring n => if s.twinNumber ≠ 0 ∧ n.toNat = s.twinNumber then 6 else 5
  | _ => 7

/-- A write to `RESET_CMD` (R452): the reset asserts 10 us later; one already accepted stays. -/
def resetCmdWrite (r : Req) (v : Nat) (s : State) : State × Nat :=
  if v ≠ 0x5AFE0001 then (s, ecValue)
  else if s.rst.cmd.isSome then (s, ecOk)
  else ({ s with rst := { s.rst with cmd := some (s.resetSource r) } }, ecOk)

/-- A write to `ADMIN` (R120, R183). -/
def adminWrite (p v : Nat) (s : State) : State × Nat :=
  let t := s.put (Obj.admin p) v
  (if v = 1 then outputDown p t else outputReturn p t, ecOk)

/-- A write to `CRANE_CMD` (R290). -/
def craneCmdWrite (g v : Nat) (s : State) : State × Nat :=
  match v with
  | 1 => cmdHalt g s
  | 2 => cmdRestart g s
  | 3 => cmdStart g s
  | _ => (s, ecValue)

/-- A write to `FIFO_FLUSH` (R336). -/
def fifoFlushWrite (g v : Nat) (s : State) : State × Nat :=
  if v = 0 ∨ 3 < v then (s, ecValue)
  else if s.craneActive g then (s, ecStateBusy)
  else
    let s := if bit v 0 then flushFifo g s else s
    let s := if bit v 1 then flushFifo (64 + g) s else s
    (s.put (Obj.fifoFlush g) stDone, ecOk)

/-- A write of ones that clear the bits of an object below a limit. -/
def clearWrite (o : Obj) (lim v : Nat) (s : State) : State × Nat :=
  if lim ≤ v then (s, ecValue) else (s.put o (clearBits (s.get o) v), ecOk)

/-- A write to `SWAP_CMD` (R304, R307). -/
def swapCmdWrite (v : Nat) (s : State) : State × Nat := if v = 1 then swapArm s else if v = 2 then swapCancel s else (s, ecValue)

/-- What an update command answers: a refusal leaves its code in `UPD_RESULT` (R543, R546). -/
def updAnswer (r : Nat × State) : State × Nat := if r.1 = 0 then (r.2, ecOk) else (updResult r.1 r.2, ecCheck)

/-- A write to `UPD_CMD` by the lock's holder (R543 to R552). -/
def updCmdWrite (v : Nat) (s : State) : State × Nat :=
  match v with
  | 1 => updAnswer (updOpen false true s)
  | 2 => updAnswer (updOpen true true s)
  | 3 => updAnswer (updVerify s)
  | 4 => updAnswer (updActivate s)
  | 5 => updAnswer (updConfirm s)
  | 6 => updAnswer (updClose s)
  | 7 => (updAbort s, ecOk)
  | _ => (s, ecValue)

/-- A write to `UPD_CHUNK` (R546). -/
def updChunkWrite (bs : List Byte) (s : State) : State × Nat :=
  if bs.length < 5 then updAnswer (0x15, s) else updAnswer (chunkWrite (num bs 0 4) (bs.drop 4) s)

/-- Writes of ring ports and of the tide and manifest commits that do more than store a value. -/
def writeRing (o : Obj) (v : Nat) (s : State) : Option (State × Nat) :=
  let p := (o.idx - 0x2000) / 256
  if o = Obj.tidePlanCommit then some (planCommitWrite s)
  else if o = Obj.manifestCommit then some (manifestCommitWrite s)
  else if o.idx < 0x2300 ∧ o.idx % 256 = 0 then
    match o.sub with
    | 0x06 => some (adminWrite p v s)
    | 0x0C => some (loopModeWrite p v s)
    | 0x0D => some (let t := s.put o v; if v = 0 then farLoopCleared p t else t, ecOk)
    | 0x0E => some (prbsWrite p v s)
    | 0x0F => some (portRetrainWrite p s)
    | _ => none
  else if o.idx < 0x2300 ∧ o.sub = 7 then some (laneRetrainWrite p (o.idx % 256 - 0x10) s)
  else none

/-- Writes of the quays, the Tally and the FIFOs that do more than store a value. -/
def writeQuay (o : Obj) (v : Nat) (bs : List Byte) (s : State) : Option (State × Nat) :=
  let q := o.idx - 0x4100
  if 0x4200 ≤ o.idx ∧ o.idx < 0x4240 ∧ o.sub = 2 then some (craneCmdWrite (o.idx - 0x4200) v s)
  else if 0x4100 ≤ o.idx ∧ o.idx < 0x4104 then
    match o.sub with
    | 1 => some (commitQueued o (quayCommit q) s)
    | 3 => some (writeQuayFlags q v s)
    | 4 => some (clearQuayIrq q v s)
    | _ => none
  else if o = Obj.gangStart then some (writeGangStart v s)
  else if o = Obj.gangHalt then some (writeGangHalt v s)
  else if o = Obj.clockRestart then some (writeClockRestart v s)
  else if o = Obj.tallyLoad then some (tallyLoad bs s)
  else if o = Obj.stageLoad then some (stageLoad bs s)
  else if o = Obj.swapCmd then some (swapCmdWrite v s)
  else if 0x5400 ≤ o.idx ∧ o.idx < 0x5440 ∧ o.sub = 3 then some (clearWrite o 8 v s)
  else if 0x5400 ≤ o.idx ∧ o.idx < 0x5440 ∧ o.sub = 0x0C then some (fifoFlushWrite (o.idx - 0x5400) v s)
  else none

/-- Writes of the CAN controllers and the time unit that do more than store a value. -/
def writeCan (o : Obj) (v : Nat) (s : State) : Option (State × Nat) :=
  if 0x6000 ≤ o.idx ∧ o.idx < 0x6008 ∧ o.sub = 6 then some (commitQueued o (canCommit (o.idx - 0x6000)) s)
  else if 0x6000 ≤ o.idx ∧ o.idx < 0x6008 ∧ o.sub = 8 then some (canCmdWrite (o.idx - 0x6000) v s)
  else if 0x6100 ≤ o.idx ∧ o.idx < 0x6108 ∧ o.sub = 3 then some (clearWrite o 0x200 v s)
  else if o = Obj.timeSet then some (timeSetWrite v s)
  else if o = Obj.domainSwitch then some (domainSwitchWrite v s)
  else if 0x6600 ≤ o.idx ∧ o.idx < 0x6610 ∧ o.sub = 6 then
    let r := workNow s
    some (pgControlWrite (o.idx - 0x6600) v r.1 r.2, ecOk)
  else none

/-- Writes of the twin logic, the reset controller, the fault collector, the lock and the update that do more than store a value. -/
def writeTwin (r : Req) (o : Obj) (v : Nat) (bs : List Byte) (s : State) : Option (State × Nat) :=
  if o = Obj.handover then some (handoverWrite v s)
  else if o = Obj.stateSave then some (stateSaveWrite s)
  else if o = Obj.resetCmd then some (resetCmdWrite r v s)
  else if o = Obj.blockReset then some (blockResetWrite v s)
  else if o = Obj.wdtKick then some (s, if v = 0xA5 then ecOk else ecValue)
  else if o = Obj.faultClear then some (faultClear v s)
  else if o = Obj.faultInject then some (injectWrite v s)
  else if o = Obj.slipwayKey then some (slipwayKeyWrite v s)
  else if o = Obj.ownerLock then some (lockWrite r v s)
  else if o = Obj.updCmd then some (updCmdWrite v s)
  else if o = Obj.updChunk then some (updChunkWrite bs s)
  else none

/-- The write of an object that does more than store a value, if this one does. -/
def writeSpecial (r : Req) (o : Obj) (v : Nat) (bs : List Byte) (s : State) : Option (State × Nat) :=
  if 0x2000 ≤ o.idx ∧ o.idx < 0x4000 then writeRing o v s
  else if 0x4000 ≤ o.idx ∧ o.idx < 0x6000 then writeQuay o v bs s
  else if 0x6000 ≤ o.idx ∧ o.idx < 0x7000 then writeCan o v s
  else writeTwin r o v bs s

/-- A value stored at once. -/
def storeObj (o : Obj) (bs : List Byte) (s : State) : State := if o.ty.size = 0 then s.putBlob o bs else s.put o (ofBytes bs)

/-- A value stored with the object's effect time (R19 to R21). -/
def writeStored (o : Obj) (bs : List Byte) (s : State) : State × Nat :=
  match o.eff with
  | .tide => match queueTide o.key bs s with
    | some t => (t, ecOk)
    | none => (s, ecTideFull)
  | .commit => (s.stage o bs, ecOk)
  | _ => (storeObj o bs s, ecOk)

/-- A value of an object is one that it takes (R511, R507, R532 code VALUE). -/
def State.valueOk (s : State) (o : Obj) (bs : List Byte) : Bool :=
  o.ty.size == 0 || (s.inRange o (ofBytes bs) && (o.idx != 0x7800 || s.gwOrderOk o (ofBytes bs)))

/-- The checks of a write before its value is looked at: SIZE_MISMATCH, MODE, READ_ONLY, MODE, LOCKED, STATE_BUSY. -/
def State.gateCode (s : State) (r : Req) (o : Obj) (bs : List Byte) : Nat :=
  if o.acc ≠ .ro ∧ !o.sizeOk bs.length then ecSize
  else if s.modeCode o ≠ ecOk then s.modeCode o
  else if s.rightCode r o ≠ ecOk then s.rightCode r o
  else if s.cmdBusy o (ofBytes bs) then ecStateBusy
  else ecOk

/-- An accepted write of an RWL object by the holder restarts `LOCK_TIMEOUT` (R528). -/
def lockRestart (o : Obj) (s : State) : State :=
  if o.acc = .rwl then { s with dict := { s.dict with lockAt := s.tide.clock } } else s

/-- A refused OPEN of an update session by another than the holder leaves its code too (R543). -/
def lockedOpen (o : Obj) (code v : Nat) (s : State) : State :=
  if o = Obj.updCmd ∧ code = ecLocked ∧ (v = 1 ∨ v = 2) then updResult 0x12 s else s

/-- An arm of a swap refused because one is armed or copying leaves T_PENDING (R304). -/
def pendingArm (o : Obj) (code v : Nat) (s : State) : State :=
  if o = Obj.swapCmd ∧ code = ecStateBusy ∧ v = 1 then tallyResult 0xFFFF 0x22 s else s

/-- A write of a whole value to a present object: the state and the code of R532. A refused write changes nothing, but for the result objects
(R18). -/
def writeObj (r : Req) (o : Obj) (bs : List Byte) (s : State) : State × Nat :=
  let g := s.gateCode r o bs
  if g ≠ ecOk then (pendingArm o g (ofBytes bs) (lockedOpen o g (ofBytes bs) s), g)
  else if !s.valueOk o bs then (s, ecValue)
  else
    let res := match writeSpecial r o (ofBytes bs) bs s with
      | some x => x
      | none => writeStored o bs s
    if res.2 = ecOk then (lockRestart o res.1, ecOk) else res

/-- The path and node of a requester, as `DICT_LAST_ERR` gives them (R539). -/
def Req.path : Req → Nat
  | .ring n => n.toNat * 2 ^ 8
  | .gangplank _ _ => 1 * 2 ^ 16
  | .core => 2 * 2 ^ 16

/-- The end of a request (R533, R539): a request served is counted, a refused one too and written to `DICT_LAST_ERR`. -/
def settle (r : Req) (idx sub code : Nat) (s : State) : State :=
  let s := s.bump Obj.dictReqCnt
  if code = ecOk then s
  else (s.bump Obj.dictRefusedCnt).put Obj.dictLastErr
    (s.tide.tick % 2 ^ 16 * 2 ^ 48 + idx % 2 ^ 16 * 2 ^ 32 + sub * 2 ^ 24 + (Req.path r) + code)

/-- What a request of the dictionary answers: state, code, LAST and bytes. -/
structure Served where
  st : State
  code : Nat
  last : Bool
  data : List Byte

/-- A request served by f when the dictionary serves one at all. -/
def serve (r : Req) (idx sub : Nat) (f : State → Served) (s : State) : Served :=
  let c := s.serveCode idx sub
  if c ≠ ecOk then ⟨s, c, false, []⟩
  else
    let x := f s
    { x with st := settle r idx sub x.code x.st }

/-- An object picked for a request: NO_OBJECT when it is not present. -/
def withObj (idx sub : Nat) (f : Obj → State → Served) (s : State) : Served :=
  match s.findObj idx sub with
  | some o => f o s
  | none => ⟨s, ecNoObject, false, []⟩

/-- A read of a present object (R17, R524). -/
def readServed (o : Obj) (s : State) : Served :=
  if s.modeCode o ≠ ecOk then ⟨s, s.modeCode o, false, []⟩
  else if o.acc = .wo then ⟨s, ecWriteOnly, false, []⟩
  else let v := readObj o s; ⟨v.2, ecOk, true, v.1⟩

/-- A read of an object by a requester, from presence to the value. -/
def dictRead (r : Req) (idx sub : Nat) (s : State) : Served := serve r idx sub (withObj idx sub readServed) s

/-- A write of a whole value by a requester. -/
def dictWrite (r : Req) (idx sub : Nat) (bs : List Byte) (s : State) : Served :=
  serve r idx sub (withObj idx sub (fun o s => let x := writeObj r o bs s; ⟨x.1, x.2, false, []⟩)) s

/-- The answer of a request shown to the requester. -/
def shown (x : Served) : State := { x.st with dict := { x.st.dict with answer := ⟨x.code, x.last, x.data⟩ } }

end Sys2Proof.Machine
end

