-- ==== Sys2Proof/Machine/DictSeg.lean ====
section
/-! DEFINITION. Segmented transfers, their contexts, and the descriptor of an object (R513 to R519). -/

namespace Sys2Proof.Machine

/-- A request of the dictionary (R512, R513), with its data; bad tells that a word of them is poisoned. -/
inductive DictOp where
  | read
  | write (bs : List Byte) (bad : Bool)
  | segRead (off count : Nat)
  | segWrite (total off count : Nat) (bs : List Byte) (bad : Bool)
  | segAbort
  | info
  deriving DecidableEq, Repr

/-- A context is the one of a requester and an object. -/
def Ctx.isOf (c : Ctx) (r : Req) (o : Obj) : Bool := c.req == r && c.idx == o.idx && c.sub == o.sub

/-- The contexts changed. -/
def modCtxs (f : List Ctx → List Ctx) (s : State) : State := { s with dict := { s.dict with ctxs := f s.dict.ctxs } }

/-- The context of a requester and an object, if it is open. -/
def State.ctxOf (s : State) (r : Req) (o : Obj) : Option Ctx := s.dict.ctxs.find? (fun c => Ctx.isOf c r o)

/-- That context closed. -/
def closeCtx (r : Req) (o : Obj) (s : State) : State := modCtxs (fun l => l.filter (fun c => !Ctx.isOf c r o)) s

/-- That context replaced by another, or added. -/
def setCtx (r : Req) (o : Obj) (c : Ctx) (s : State) : State := modCtxs (fun l => l.filter (fun x => !Ctx.isOf x r o) ++ [c]) s

/-- A context of n bytes opened, or reopened: none where it would be the ninth, or the buffer has no room (R515). -/
def openCtx (r : Req) (o : Obj) (c : Ctx) (s : State) : Option State :=
  let t := closeCtx r o s
  if 8 ≤ t.dict.ctxs.length ∨ 65536 < t.segUsed + c.total then none else some (setCtx r o c s)

/-- Objects that the reset controller and the fault collector serve from a copy of their own (R518). -/
def copyObj (o : Obj) : Bool := o == Obj.resetHistory || o == Obj.faultList

/-- Bytes of a copy from an offset: SEGMENT beyond its end; LAST at its end (R514, R517). -/
def segPart (bs : List Byte) (off count : Nat) (s : State) : Served :=
  if bs.length < off then ⟨s, ecSegment, false, []⟩
  else
    let l := slice bs off (Nat.min count (bs.length - off))
    ⟨s, ecOk, decide (bs.length ≤ off + l.length), l⟩

/-- The copy of `RESET_HISTORY` or `FAULT_LIST` refilled (R480, R518). -/
def refillCopy (o : Obj) (s : State) : State :=
  if o = Obj.faultList then latchFaults s
  else { s with dict := { s.dict with histCopy := s.viewBlob o } }

/-- A SEG_READ of those objects. -/
def segReadCopy (o : Obj) (off count : Nat) (s : State) : Served :=
  let s := if off = 0 then refillCopy o s else s
  segPart (if o = Obj.faultList then s.faults.copy else s.dict.histCopy) off count s

/-- A SEG_READ with OFFSET 0 (R517): the whole value is copied into the buffer. -/
def segReadOpen (r : Req) (o : Obj) (count : Nat) (s : State) : Served :=
  let v := readObj o s
  match openCtx r o ⟨r, o.idx, o.sub, false, v.1.length, v.1, 0⟩ v.2 with
  | none => ⟨s, ecBuffer, false, []⟩
  | some t => segPart v.1 0 count t

/-- A SEG_READ with another OFFSET: from the requester's copy. -/
def segReadNext (r : Req) (o : Obj) (off count : Nat) (s : State) : Served :=
  match s.ctxOf r o with
  | none => ⟨s, ecNoContext, false, []⟩
  | some c => if c.download then ⟨s, ecSegment, false, []⟩ else segPart c.data off count s

/-- A SEG_READ of an object (R513, R517, R518). -/
def segRead (r : Req) (off count : Nat) (o : Obj) (s : State) : Served :=
  if s.modeCode o ≠ ecOk then ⟨s, s.modeCode o, false, []⟩
  else if o.acc = .wo then ⟨s, ecWriteOnly, false, []⟩
  else if count = 0 ∨ 240 < count then ⟨s, ecSize, false, []⟩
  else if copyObj o then segReadCopy o off count s
  else if off = 0 then segReadOpen r o count s
  else segReadNext r o off count s

/-- Rights and mode of a write, as a segmented one is judged when it opens (R516). -/
def State.segOpenCode (s : State) (r : Req) (o : Obj) : Nat := if s.modeCode o ≠ ecOk then s.modeCode o else s.rightCode r o

/-- What a dictionary write answers. -/
def written (x : State × Nat) : Served := ⟨x.1, x.2, false, []⟩

/-- Bytes taken into a download: the whole value is written when they reach TOTAL (R516). -/
def segTake (r : Req) (o : Obj) (c : Ctx) (off : Nat) (bs : List Byte) (s : State) : Served :=
  let d := c.data ++ bs
  if c.total < d.length then ⟨closeCtx r o s, ecSegment, false, []⟩
  else if d.length = c.total then written (writeObj r o d (closeCtx r o s))
  else ⟨setCtx r o { c with data := d, lastOff := off } s, ecOk, false, []⟩

/-- Another requester has a download of an object open (R519). -/
def State.otherDownload (s : State) (r : Req) (o : Obj) : Bool :=
  s.dict.ctxs.any (fun c => c.download && c.idx == o.idx && c.sub == o.sub && c.req != r)

/-- A SEG_WRITE with OFFSET 0 (R516, R519). -/
def segWriteOpen (r : Req) (total : Nat) (bs : List Byte) (o : Obj) (s : State) : Served :=
  let t := closeCtx r o s
  let maxLen := if o.ty.size = 0 then o.maxLen else o.ty.size
  if total = 0 then written (writeObj r o [] t)
  else if t.segOpenCode r o ≠ ecOk then ⟨t, t.segOpenCode r o, false, []⟩
  else if maxLen < total then ⟨t, ecSize, false, []⟩
  else if t.otherDownload r o then ⟨t, ecStateBusy, false, []⟩
  else
    let c : Ctx := ⟨r, o.idx, o.sub, true, total, [], 0⟩
    match openCtx r o c t with
    | none => ⟨t, ecBuffer, false, []⟩
    | some u => segTake r o c 0 bs u

/-- A SEG_WRITE with another OFFSET (R516). -/
def segWriteNext (r : Req) (off : Nat) (bs : List Byte) (o : Obj) (s : State) : Served :=
  match s.ctxOf r o with
  | none => ⟨s, ecNoContext, false, []⟩
  | some c =>
    if c.download ∧ off + bs.length = c.data.length ∧ off = c.lastOff then ⟨s, ecOk, false, []⟩
    else if c.download ∧ off = c.data.length then segTake r o c off bs s
    else ⟨closeCtx r o s, ecSegment, false, []⟩

/-- A SEG_WRITE of an object (R513, R516, R518). Poisoned data are no value to take (R9). -/
def segWrite (r : Req) (total off count : Nat) (bs : List Byte) (bad : Bool) (o : Obj) (s : State) : Served :=
  if copyObj o then ⟨s, ecReadOnly, false, []⟩
  else if count = 0 ∨ 232 < count ∨ bs.length < count then ⟨s, ecSize, false, []⟩
  else if bad then ⟨s, ecValue, false, []⟩
  else if off = 0 then segWriteOpen r total (bs.take count) o s
  else segWriteNext r off (bs.take count) o s

/-- A SEG_ABORT: the requester's context for the object closes (R515, R518). -/
def segAbort (r : Req) (o : Obj) (s : State) : Served :=
  if copyObj o then ⟨s, ecReadOnly, false, []⟩
  else if s.modeCode o ≠ ecOk then ⟨s, s.modeCode o, false, []⟩
  else ⟨closeCtx r o s, ecOk, false, []⟩

/-- Codes of the rights and of the effect times in a descriptor (R513). -/
def Access.code : Access → Nat
  | .ro => 1 | .rw => 2 | .wo => 3 | .rwb => 4 | .rwl => 5 | .cmd => 6

def Effect.code : Effect → Nat
  | .immediate => 0 | .tide => 1 | .commit => 2 | .none => 3

/-- The descriptor of an object (R513). -/
def Obj.descriptor (o : Obj) : Nat :=
  let n := if o.ty.size = 0 then o.maxLen else o.ty.size
  n * 2 ^ 32 + b2n (decide (0 < o.ty.size) && decide (o.ty.size ≤ 8)) * 2 ^ 15 + b2n o.saved * 2 ^ 14 + Effect.code o.eff * 2 ^ 12 +
    Access.code o.acc * 2 ^ 8 + o.ty.code

/-- OBJ_INFO (R513). -/
def objInfo (o : Obj) (s : State) : Served :=
  if s.modeCode o ≠ ecOk then ⟨s, s.modeCode o, false, []⟩ else ⟨s, ecOk, false, bytesOf 8 o.descriptor⟩

/-- What a request does with its object. -/
def runOp (op : DictOp) (r : Req) (o : Obj) (s : State) : Served :=
  match op with
  | .read => readServed o s
  | .write bs bad => if bad then ⟨s, ecValue, false, []⟩ else written (writeObj r o bs s)
  | .segRead off count => segRead r off count o s
  | .segWrite total off count bs bad => segWrite r total off count bs bad o s
  | .segAbort => segAbort r o s
  | .info => objInfo o s

/-- A request of the dictionary served (R17, R519, R524, R533). -/
def dictServe (op : DictOp) (r : Req) (idx sub : Nat) (s : State) : Served := serve r idx sub (withObj idx sub (runOp op r)) s

/-- A context closes at the end of `SEG_TIMEOUT` with nothing written (R515). -/
def segTimeout (r : Req) (idx sub : Nat) (s : State) : State :=
  if s.dict.ctxs.any (fun c => c.req == r && c.idx == idx && c.sub == sub) then
    modCtxs (fun l => l.filter (fun c => !(c.req == r && c.idx == idx && c.sub == sub))) (s.bump Obj.segTimeoutCnt)
  else s

/-- The effect of `SEG_READ`. -/
def execSegRead (r : Req) (idx : BitVec 16) (sub : BitVec 8) (offset : BitVec 32) (count : BitVec 8) (s : State) :
    Host.Outcome State Fault Refusal :=
  .next (shown (dictServe (.segRead offset.toNat count.toNat) r idx.toNat sub.toNat s))

/-- The effect of `SEG_WRITE`. -/
def execSegWrite (r : Req) (idx : BitVec 16) (sub : BitVec 8) (total offset : BitVec 32) (v : List Byte) (s : State) :
    Host.Outcome State Fault Refusal :=
  .next (shown (dictServe (.segWrite total.toNat offset.toNat v.length v false) r idx.toNat sub.toNat s))

/-- The effect of `SEG_ABORT`. -/
def execSegAbort (r : Req) (idx : BitVec 16) (sub : BitVec 8) (s : State) : Host.Outcome State Fault Refusal :=
  .next (shown (dictServe .segAbort r idx.toNat sub.toNat s))

/-- The effect of `OBJ_INFO`. -/
def execObjInfo (r : Req) (idx : BitVec 16) (sub : BitVec 8) (s : State) : Host.Outcome State Fault Refusal :=
  .next (shown (dictServe .info r idx.toNat sub.toNat s))

/-- The effect of `SEG_TIMEOUT_EXPIRY`. -/
def execSegTimeoutExpiry (r : Req) (idx : BitVec 16) (sub : BitVec 8) (s : State) : Host.Outcome State Fault Refusal :=
  .next (segTimeout r idx.toNat sub.toNat s)

end Sys2Proof.Machine
end

