-- ==== Sys2Proof/Machine/BridgeTarget.lean ====
section
/-! DEFINITION. The bridge as a target: its checks, reads, writes, dictionary requests, posted writes and prefetch (R201 to R232). -/

namespace Sys2Proof.Machine

/-- Bytes of an element of a SIZE (R207); a cargo word counts as 8. -/
def elemBytes (size : Nat) : Nat := if 3 ≤ size then 8 else 2 ^ size

/-- Elements of n bytes packed into response words, byte 0 first (R210); a word with a poisoned element is poisoned (R9). -/
def packElems (n : Nat) (l : List PWord) : List PWord :=
  let per := 8 / n
  (List.range ((l.length + per - 1) / per)).map (fun i =>
    let g := (l.drop (per * i)).take per
    ⟨w64 (ofBytes (g.flatMap (fun v => bytesOf n v.data.toNat))), g.any (·.p)⟩)

/-- Cargo words packed in groups of up to 8, each behind its tag word (R210). -/
def packCargo (l : List Cargo) : List PWord :=
  (List.range ((l.length + 7) / 8)).flatMap (fun i =>
    let g := (l.drop (8 * i)).take 8
    pw (w64 (ofBytes (g.map (fun c => byte (Cargo.bits c / 2 ^ 64))))) :: payOf g)

/-- The NODE of an address names the chip, or the pair, that DNODE names (R202). -/
def nodeNamed (sp node dnode : Nat) : Bool :=
  node == dnode || (pairPort sp && node != 0 && node != 255 && dnode != 255 && pairOf node == pairOf dnode)

/-- NO_SUCH_SPACE, NOT_WORKING and MODE (R201, R202, R209); bsOk when the space is served. -/
def State.spaceCode (s : State) (h a : W64) : Nat :=
  let sp := aSpace a
  if !spaceExists sp ∨ sp ≠ hDport h ∨ !nodeNamed sp (aNode a) (hDnode h) then bsSpace
  else if s.serves sp ∨ sp = 0 then bsOk
  else if pairPort sp then bsNotWorking
  else bsMode

/-- The side on which a frame arrived (R216); none for a frame of this node. -/
def State.sideOf (s : State) (input : Nat) : Option Nat :=
  if input ≤ 1 then some input else if input = 2 then some s.twinSide else none

/-- A tick is later than another, counted mod 2^16 (R216). -/
def laterTick (t u : Nat) : Bool :=
  let d := (t + 2 ^ 16 - u) % 2 ^ 16
  decide (0 < d) && decide (d < 2 ^ 15)

/-- The order check of a request frame, with the records it keeps (R216): none when it was overtaken. -/
def orderTake (input node tick : Nat) (s : State) : Option State :=
  match s.sideOf input with
  | none => some s
  | some side =>
    match s.bridge.order.find? (fun r => r.1 == node) with
    | some r =>
      if r.2.1 ≠ side ∧ !laterTick tick r.2.2 then none
      else some (modBridge (fun b => { b with order := (node, side, tick) :: b.order.filter (fun x => x.1 != node) }) s)
    | none => some (modBridge (fun b => { b with order := (node, side, tick) :: b.order }) s)

/-- The checks of R209 from NO_SUCH_SPACE to OUT_OF_ORDER. -/
def admitReq (input tick : Nat) (h a : W64) (s : State) : Nat × State :=
  let c := s.spaceCode h a
  if c = bsNotWorking then (c, s.bump Obj.notWorkingCnt)
  else if c ≠ bsOk then (c, s)
  else
    match orderTake input (hSnode h) tick s with
    | none => (bsOrder, s.bump Obj.orderRefusedCnt)
    | some t => (bsOk, t)

/-- The checks of a READ of a window from ACCESS to SIZE (R209, R210, R217, R219). -/
def readCheck (w : Win) (off size count : Nat) : Nat :=
  let n := elemBytes size
  if !isPop w.kind ∧ w.stop < off + n * count then bsOffset
  else if !readKind w.kind then bsAccess
  else if isPop w.kind ∧ size ≠ 4 then bsWidth
  else if !isPop w.kind ∧ (size = 4 ∨ off % n ≠ 0 ∨ (n < w.width ∧ !partialKind w.kind)) then bsWidth
  else if count = 0 ∨ (if size = 4 then 24 else 240 / n) < count then bsSize
  else bsOk

/-- A WRITE is a way to write a window: push windows and the gateway queue take posted writes only (R204). -/
def takesWrite (k : Nat) : Bool := writeKind k && k != 9

/-- The checks of a WRITE to a window (R208, R209, R217, R219). -/
def writeCheck (w : Win) (off size count : Nat) (hasData : Bool) : Nat :=
  let n := elemBytes size
  if w.kind ≠ 4 ∧ w.stop < off + n * count then bsOffset
  else if !takesWrite w.kind then bsAccess
  else if w.kind = 4 ∨ size = 4 ∨ off % n ≠ 0 ∨ (n < w.width ∧ !partialKind w.kind) then bsWidth
  else if count = 0 ∨ 8 / n < count ∨ !hasData then bsSize
  else bsOk

/-- Prefetch streams of a requester and a window. -/
def State.streamOf (s : State) (node : Nat) (w : Win) : Option Stream := s.bridge.streams.find? (fun x => x.node == node && x.win == w)

/-- A stream put first, or taken away when it holds no word; the others stay. -/
def putStream (st : Stream) (s : State) : State :=
  modBridge (fun b =>
    let rest := b.streams.filter (fun x => !(x.node == st.node && x.win == st.win))
    { b with streams := if st.words.isEmpty then rest else st :: rest }) s

/-- k words of a stream consumed (R230, R231). -/
def takeStream (st : Stream) (k : Nat) (s : State) : State :=
  let n := Nat.min k st.words.length
  let s := putStream { st with words := st.words.drop n, tick := s.tide.beat } (s.addTo Obj.prefetchHitCnt n)
  if isPop st.win.kind then fifoCommit (winFifo st.win) n s else s

/-- A window's kind has its bit set in `PREFETCH_EN` (R229). -/
def State.prefetches (s : State) (w : Win) : Bool := bit (s.get Obj.prefetchEn) w.kind

/-- After a READ, a prefetch may go on from an offset (R229). -/
def setAhead (node : Nat) (w : Win) (off : Nat) (s : State) : State :=
  modBridge (fun b => { b with ahead := if s.prefetches w then some (node, w, off) else none }) s

/-- A READ of a pop window by a requester: its stream first, then the FIFO; it ends at the first empty element (R210, R230, R231). -/
def readPop (node : Nat) (w : Win) (k : Nat) (s : State) : List Cargo × State :=
  let f := winFifo w
  let s := dropStreams (fun st => isPop st.win.kind && winFifo st.win == f && st.node != node) s
  let held : List Cargo × State := match s.streamOf node w with
    | some st => ((st.words.map (fun x => x.2)).take k, takeStream st k s)
    | none => ([], s)
  let r := popWords f (k - held.1.length) held.2
  (held.1 ++ r.1, setAhead node w w.base r.2)

/-- Words as elements of n bytes. -/
def splitWords (n : Nat) (l : List PWord) : List PWord :=
  l.flatMap (fun v => (List.range (8 / n)).map (fun i => ⟨w64 (v.data.toNat / 2 ^ (8 * n * i) % 2 ^ (8 * n)), v.p⟩))

/-- The elements of n bytes of a READ that a stream gives: it goes on from the word after the last one served, and a word of which any element is
taken is consumed (R230). -/
def fromStream (node : Nat) (w : Win) (off n k : Nat) (s : State) : List PWord × State :=
  match s.streamOf node w with
  | some st =>
    if (st.words.map (·.1)).head? = some off then
      ((splitWords n (payOf (st.words.map (·.2)))).take k, takeStream st ((n * k + 7) / 8) s)
    else ([], dropStream st s)
  | none => ([], s)

/-- A READ of another window: its stream first, the rest live (R218, R230). -/
def readWindow (node : Nat) (w : Win) (off size k : Nat) (s : State) : List PWord × State :=
  let n := elemBytes size
  let a := fromStream node w off n k s
  let r := readElems w n (k - a.1.length) (off + n * a.1.length) a.2
  (a.1 ++ r.1, setAhead node w ((off + n * k + 7) / 8 * 8) r.2)

/-- A READ served (R210). -/
def serveRead (h : W64) (pay : List PWord) (w : Win) (off size count : Nat) (s : State) : State :=
  if isPop w.kind then
    let r := readPop (hSnode h) w count s
    answer h pay 3 size r.1.length bsOk r.1.length (packCargo r.1) r.2
  else
    let r := readWindow (hSnode h) w off size count s
    answer h pay 3 size count bsOk 0 (packElems (elemBytes size) r.1) r.2

/-- Elements of n bytes written one after another: the status, the part refused, and the state (R218, R220). -/
def writeElems (w : Win) (n : Nat) : Nat → Nat → List PWord → State → Nat × Nat × State
  | _, _, [], s => (bsOk, 0, s)
  | i, off, v :: t, s =>
    let r := writeElem w off n v s
    if r.1 = bsOk then writeElems w n (i + 1) (off + n) t r.2 else (r.1, i + 1, r.2)

/-- The elements that a WRITE's data word holds. -/
def unpackElems (n k : Nat) (v : PWord) : List PWord :=
  (List.range k).map (fun i => ⟨w64 (v.data.toNat / 2 ^ (8 * n * i) % 2 ^ (8 * n)), v.p⟩)

/-- A WRITE served (R208, R211). -/
def serveWrite (h : W64) (pay : List PWord) (w : Win) (off size count : Nat) (s : State) : State :=
  let n := elemBytes size
  let r := writeElems w n 0 off (unpackElems n count (pay.getD 2 ⟨0, false⟩)) s
  if r.1 = bsOk then answer h pay 4 0 0 bsOk 0 [pw (pay.getD 1 ⟨0, false⟩).data] r.2.2
  else refuseFrame r.1 r.2.1 h pay r.2.2

/-- A READ or WRITE of a window by its checks (R209). -/
def serveWindow (h : W64) (pay : List PWord) (op size count : Nat) (a : W64) (s : State) : State :=
  match winAt (aSpace a) (aOff a) with
  | none => refuseFrame bsOffset 0 h pay s
  | some w =>
    let c := if op = 1 then readCheck w (aOff a) size count else writeCheck w (aOff a) size count (decide (3 ≤ pay.length))
    if c ≠ bsOk then refuseFrame c 0 h pay s
    else if op = 1 then serveRead h pay w (aOff a) size count s
    else serveWrite h pay w (aOff a) size count s

/-- What the dictionary answers over the bridge: nothing, or a status with DETAIL, and SIZE, COUNT and data of a READ_RESPONSE. -/
structure DictReply where
  st : State
  silent : Bool
  status : Nat
  detail : Nat
  size : Nat
  count : Nat
  data : List PWord

/-- Bytes of data words. -/
def dataBytes (l : List PWord) : List Byte := l.flatMap (fun w => bytesOf 8 w.data.toNat)

/-- A COUNT or LEN that a request of an operation may not have (R207, R512, R513). -/
def countBad (op count len : Nat) : Bool :=
  match op with
  | 1 => count != 1
  | 2 => count != 1 || decide (len < 3)
  | 8 => count == 0 || decide (240 < count) || decide (len < 3)
  | 9 => count == 0 || decide (232 < count) || decide (len < 3 + wordCount count)
  | _ => false

/-- Size in bytes that an expedited transfer's SIZE states (R511). -/
def expSize (size : Nat) : Nat := if size = 4 then 9 else 2 ^ size

/-- An expedited transfer fits its object. -/
def expFits (op size : Nat) (o : Obj) : Bool := 2 < op || expSize size == o.ty.size

/-- The request of the dictionary that a payload spells (R512, R513). -/
def dictOpOf (op count : Nat) (pay : List PWord) : DictOp :=
  let ctl := (pay.getD 2 ⟨0, false⟩).data
  let bs := dataBytes (pay.drop 3)
  match op with
  | 1 => .read
  | 2 => .write (bytesOf 8 ctl.toNat) ((pay.drop 2).any (·.p))
  | 8 => .segRead (wfld ctl 0 32) count
  | 9 => .segWrite (wfld ctl 32 32) (wfld ctl 0 32) count bs ((pay.drop 2).any (·.p))
  | 10 => .segAbort
  | _ => .info

/-- That request run on its object; an expedited one of another size is refused (R217, R533). -/
def runRing (op size count : Nat) (pay : List PWord) (r : Req) (o : Obj) (s : State) : Served :=
  if !expFits op size o then ⟨s, ecSize, false, []⟩
  else
    match dictOpOf op count pay with
    | .write bs bad => runOp (.write (bs.take o.ty.size) bad) r o s
    | d => runOp d r o s

/-- Status and DETAIL of a code of R532 (R226, R533). -/
def dictStatus (op code : Nat) : Nat × Nat :=
  if code = ecOk then (bsOk, 0)
  else if code = ecPaused then (bsBusy, 0)
  else if code = ecNoObject then (bsOffset, 0)
  else if code = ecSize ∧ op ≤ 2 then (bsWidth, 0)
  else (bsDict, code)

/-- COUNT or LEN is refused with SIZE before the dictionary acts: after NO_SUCH_OFFSET and WIDTH (R209). -/
def State.sizeRefused (s : State) (idx sub op size count len : Nat) : Bool :=
  countBad op count len && s.serveCode idx sub == ecOk &&
    (match s.findObj idx sub with | some o => expFits op size o | none => false)

/-- A request of the dictionary by a requester (R512 to R519, R533). -/
def dictRequest (r : Req) (pay : List PWord) (s : State) : DictReply :=
  let c := (pay.getD 0 ⟨0, false⟩).data
  let off := aOff (pay.getD 1 ⟨0, false⟩).data
  let idx := off / 256
  let sub := off % 256
  let op := cOp c
  if s.sizeRefused idx sub op (cSize c) (cCount c) pay.length then ⟨s, false, bsSize, 0, 0, 0, []⟩
  else
    let x := serve r idx sub (withObj idx sub (runRing op (cSize c) (cCount c) pay r)) s
    let e := dictStatus op x.code
    let rd := decide (x.code = ecOk) && isReadOp op
    let detail := if rd && op == 8 then b2n x.last else e.2
    let n := x.data.length
    ⟨x.st, x.code == ecSilent, e.1, detail, if rd then (if op = 1 then cSize c else if op = 8 then 0 else 3) else 0,
      if rd then (if op = 8 then n else 1) else 0, if rd then (wordsOf (wordCount n) x.data).map pw else []⟩

/-- A dictionary request of a ring node served and answered. -/
def serveDict (h : W64) (pay : List PWord) (s : State) : State :=
  let x := dictRequest (.ring (BitVec.ofNat 8 (hSnode h))) pay s
  if x.silent then x.st
  else if x.status ≠ bsOk then refuseFrame x.status x.detail h pay x.st
  else if isReadOp (cOp (pay.getD 0 ⟨0, false⟩).data) then answer h pay 3 x.size x.count bsOk x.detail x.data x.st
  else answer h pay 4 0 0 bsOk 0 [pw (pay.getD 1 ⟨0, false⟩).data] x.st

/-- BAD_OP (R208, R209): a reserved operation or SIZE, or a dictionary transfer to another space. -/
def badOp (h c : W64) : Bool := !isReqOp (cOp c) || decide (4 < cSize c) || (decide (8 ≤ cOp c) && hDport h != 0)

/-- A class 10 frame that is no response, served at a port (R209). Poisoned command or address words, and a poisoned OFFSET of a
SEG_READ, name no request (R9), and class 10 frames to every node are none of the bridge's. -/
def serveRequest (input : Nat) (f : Frame) (s : State) : State :=
  let h := f.hdr
  match f.pay with
  | [] => s
  | c :: t =>
    if c.p ∨ hDnode h = 255 then s
    else if badOp h c.data then refuseFrame bsBadOp 0 h f.pay s
    else
      match t with
      | [] => refuseFrame bsSize 0 h f.pay s
      | a :: _ =>
        if a.p ∨ (cOp c.data = 8 ∧ (f.pay.getD 2 ⟨0, false⟩).p) then s
        else
          let x := admitReq input (tTick f.trl) h a.data s
          if x.1 ≠ bsOk then refuseFrame x.1 0 h f.pay x.2
          else if aSpace a.data = 0 then serveDict h f.pay x.2
          else serveWindow h f.pay (cOp c.data) (cSize c.data) (cCount c.data) a.data x.2

/-- The command word of a frame in the Hold. -/
def Job.cmd (j : Job) : W64 := match j.words with | _ :: c :: _ => c.data | _ => 0

/-- A class 10 frame for the bridge, by a test on its header and command word. -/
def Job.forBridge (p : W64 → W64 → Bool) (j : Job) : Bool :=
  hClass j.hdr == 2 && !hRelay j.hdr && decide (hDport j.hdr < 0xFB) && p j.hdr j.cmd

/-- A local port takes the next request that a test picks, and serves it (R225). -/
def takeRequest (q : Fin 5) (p : W64 → W64 → Bool) (s : State) : State :=
  match s.localNext (3 + q.val) (Job.forBridge p) with
  | none => s
  | some j =>
    match localFrame j s with
    | (some f, t) => serveRequest j.input f t
    | (none, t) => t

/-- The effect of `READ_REQUEST_RECEIVE` (R210): READ, SEG_READ or OBJ_INFO. -/
def execReadRequestReceive (q : Fin 5) (s : State) : Host.Outcome State Fault Refusal :=
  .next (takeRequest q (fun h c => !badOp h c && isReadOp (cOp c)) s)

/-- The effect of `WRITE_REQUEST_RECEIVE` (R208): WRITE, SEG_WRITE or SEG_ABORT. -/
def execWriteRequestReceive (q : Fin 5) (s : State) : Host.Outcome State Fault Refusal :=
  .next (takeRequest q (fun h c => !badOp h c && !isReadOp (cOp c)) s)

/-- The effect of `BAD_OP_REQUEST` (R208). -/
def execBadOpRequest (q : Fin 5) (s : State) : Host.Outcome State Fault Refusal :=
  .next (takeRequest q (fun h c => badOp h c && !isRespOp (cOp c)) s)

/-- The checks of a posted write of n data words from NO_SUCH_OFFSET to SIZE (R206, R209, R214, R217). -/
def State.postedCheck (s : State) (a : W64) (n : Nat) : Nat :=
  if aSpace a = 0 then bsAccess
  else
    match winAt (aSpace a) (aOff a) with
    | none => bsOffset
    | some w =>
      let whole := w.kind = 4 ∨ w.kind = 9
      if ¬whole ∧ w.stop < aOff a + 8 * n then bsOffset
      else if !writeKind w.kind then bsAccess
      else if ¬whole ∧ aOff a % 8 ≠ 0 then bsWidth
      else if n = 0 ∨ (w.kind = 4 ∧ s.depth (64 + w.unit) < n) then bsSize
      else bsOk

/-- The data of a posted write performed (R213, R214): status and part refused, or none while the window lacks room. -/
def performPosted (a : W64) (data : List PWord) (s : State) : Option (Nat × Nat × State) :=
  match winAt (aSpace a) (aOff a) with
  | none => some (bsOffset, 0, s)
  | some w =>
    if w.kind = 4 then (pushFrame (64 + w.unit) (aOff a) data s).map (fun t => (bsOk, 0, t))
    else if w.kind = 9 then
      match data with
      | m :: t => (gwStore w.unit m t s).map (fun r => (r.1, 0, r.2))
      | [] => some (bsSize, 0, s)
    else some (writeElems w 8 0 (aOff a) data s)

/-- A posted write ends: counted and acknowledged, or refused (R211, R215). -/
def endPosted (f : Frame) (st detail : Nat) (s : State) : State :=
  if st ≠ bsOk then refuseFrame st detail f.hdr f.pay s
  else
    let s := s.bump Obj.postedInCnt
    if hAck f.hdr ∧ hDnode f.hdr ≠ 255 then answer f.hdr f.pay 4 0 0 bsOk 0 [pw (Frame.word f 0)] s else s

/-- A posted write is tried (R213): done with, or none while it has to wait. A poisoned address names no place (R9). -/
def tryPosted (f : Frame) (s : State) : Option State :=
  match f.pay with
  | [] => some s
  | a :: data =>
    if a.p then some s
    else
      let c := s.spaceCode f.hdr a.data
      if c ≠ bsOk then some (endPosted f c 0 (if c = bsNotWorking then s.bump Obj.notWorkingCnt else s))
      else
        let d := s.postedCheck a.data data.length
        if d ≠ bsOk then some (endPosted f d 0 s)
        else (performPosted a.data data s).map (fun r => endPosted f r.1 r.2.1 r.2.2)

/-- A posted write frame as a local port reads it, with its checks (R209, R213): it waits where its window lacks room, in the Hold, or in the
inbound store when it holds a tag (R175, R225). -/
def arrivePosted (out : Nat) (j : Job) (f : Frame) (s : State) : State :=
  let gone := fun t => noteLeft j (leaveHold j t)
  let a := Frame.word f 0
  let x := if s.spaceCode f.hdr a ≠ bsOk ∨ (f.pay.getD 0 ⟨0, true⟩).p then (bsOk, s) else admitReq j.input (tTick f.trl) f.hdr a s
  if x.1 ≠ bsOk then endPosted f x.1 0 (gone x.2)
  else
    match tryPosted f (gone x.2) with
    | some t => t
    | none =>
      let tagged := hAck f.hdr && hDnode f.hdr != 255
      let w : PostWait := ⟨f, if tagged then none else some j.ser, out, s.tide.beat⟩
      modBridge (fun b => { b with postWait := b.postWait ++ [w] }) (if tagged then gone x.2 else x.2)

/-- A posted write waits at a local port. -/
def State.postWaits (s : State) (out : Nat) : Option PostWait := s.bridge.postWait.find? (fun w => w.out == out)

/-- A local port takes the next posted write, unless one waits there (R213). -/
def takePosted (out : Nat) (s : State) : State :=
  if (s.postWaits out).isSome then s
  else
    match s.localNext out (fun j => hClass j.hdr == 1) with
    | none => s
    | some j =>
      let r := readWords j.bays 0 j.words s
      match frameOf (if j.own then stampTrailer s.tide.tick r.1 else r.1) with
      | none => (noteLeft j (leaveHold j r.2)).bump Obj.payloadCrcCnt
      | some f => if Frame.crcOk f then arrivePosted out j f r.2 else (noteLeft j (leaveHold j r.2)).bump Obj.payloadCrcCnt

/-- The effect of `POSTED_WRITE_RECEIVE` (R213). -/
def execPostedWriteReceive (q : Fin 5) (s : State) : Host.Outcome State Fault Refusal := .next (takePosted (3 + q.val) s)

/-- A posted write waits no longer: out of the list, and out of the Hold. -/
def unwait (w : PostWait) (s : State) : State :=
  let s := modBridge (fun b => { b with postWait := b.postWait.filter (fun x => x.out != w.out) }) s
  match s.hold.jobs.find? (fun j => some j.ser == w.ser) with
  | some j => noteLeft j (leaveHold j s)
  | none => s

/-- The effect of `POSTED_WRITE_RESUME` (R213): the posted write that waits at a local port goes on when its window has room. -/
def execPostedWriteResume (q : Fin 5) (s : State) : Host.Outcome State Fault Refusal :=
  .next (
    match s.postWaits (3 + q.val) with
    | none => s
    | some w => (tryPosted w.frame (unwait w s)).getD s)

/-- The effect of `TARGET_WAIT_EXPIRY` (R213): the rest of the frame is refused once `TARGET_WAIT` ticks have passed. -/
def execTargetWaitExpiry (q : Fin 5) (s : State) : Host.Outcome State Fault Refusal :=
  .next (
    match s.postWaits (3 + q.val) with
    | none => s
    | some w =>
      if w.tick + s.get Obj.targetWait ≤ s.tide.beat then
        let c := s.spaceCode w.frame.hdr (Frame.word w.frame 0)
        if c ≠ bsOk then endPosted w.frame c 0 (unwait w s) else endPosted w.frame bsBusy 1 (unwait w s)
      else s)

/-- Words of a pop window read ahead: the prefetch stops at the first empty one (R229, R231). -/
def aheadPop (w : Win) : Nat → State → List (Nat × Cargo) × State
  | 0, s => ([], s)
  | n + 1, s =>
    let r := fifoSpecPop (winFifo w) s
    if r.1.v then let t := aheadPop w n r.2; ((w.base, r.1) :: t.1, t.2) else ([], s)

/-- Words of another window read ahead, up to its end (R229). -/
def aheadWords (w : Win) : Nat → Nat → State → List (Nat × Cargo) × State
  | 0, _, s => ([], s)
  | n + 1, off, s =>
    if w.stop < off + 8 then ([], s)
    else
      let r := readElem w off 8 s
      let t := aheadWords w n (off + 8) r.2
      ((off, ⟨true, .middle, 8, r.1.p, r.1.data⟩) :: t.1, t.2)

/-- A new stream replaces the one used least recently (R229). -/
def makeRoom (node : Nat) (w : Win) (s : State) : State :=
  if (s.streamOf node w).isNone ∧ 8 ≤ s.bridge.streams.length then
    match s.bridge.streams.getLast? with
    | some st => dropStream st s
    | none => s
  else s

/-- The prefetch after a READ of a requester in a window (R229): its stream filled up to `PREFETCH_DEPTH` words. -/
def readAhead (node : Nat) (w : Win) (off : Nat) (s : State) : State :=
  let s := if isPop w.kind then dropStreams (fun st => isPop st.win.kind && winFifo st.win == winFifo w && st.node != node) s else s
  let s := makeRoom node w s
  let old := (s.streamOf node w).getD ⟨node, w, [], s.tide.beat⟩
  let n := s.get Obj.prefetchDepth - old.words.length
  let from_ := match old.words.getLast? with | some x => x.1 + 8 | none => off
  let r := if isPop w.kind then aheadPop w n s else aheadWords w n from_ s
  putStream { old with words := old.words ++ r.1 } r.2

/-- The effect of `PREFETCH_READ_AHEAD` (R229): while the local bus is free, once after each READ served. -/
def execPrefetchReadAhead (s : State) : Host.Outcome State Fault Refusal :=
  .next (
    match s.bridge.ahead with
    | none => s
    | some (node, w, off) =>
      let s := modBridge (fun b => { b with ahead := none }) s
      if s.prefetches w ∧ s.serves w.space then readAhead node w off s else s)

/-- The effect of `PREFETCH_HOLD_EXPIRY` (R230): streams unused for `PREFETCH_HOLD` ticks are discarded. -/
def execPrefetchHoldExpiry (s : State) : Host.Outcome State Fault Refusal :=
  .next (dropStreams (fun st => decide (st.tick + s.get Obj.prefetchHold ≤ s.tide.beat)) s)

end Sys2Proof.Machine
end

