-- ==== Sys2Proof/Machine/BridgeSource.lean ====
section
/-! DEFINITION. The bridge as an origin: posted writes and requests of local sources, tags, responses, timeouts and aborts (R206 to R228), and
the replies to Gangplank (R520, R522). -/

namespace Sys2Proof.Machine

/-- A datagram of Gangplank (R520). -/
def gpBytes (xid kind status detail : Nat) (header : W64) (words : List W64) : List Byte :=
  bytesOf 2 1 ++ bytesOf 2 xid ++ [byte kind, byte status, byte detail, 0] ++ bytesOf 8 header.toNat ++ bytesOfWords words

/-- A reply leaves, to an address inside the mask only (R520, R538). -/
def gpReply (ip : Nat) (bs : List Byte) (s : State) : State :=
  if (ip ^^^ s.gpAddr) &&& s.gpMask = 0 then
    { s.bump Obj.gpTxCnt with dict := { s.dict with replies := s.dict.replies ++ [bs] } }
  else s

/-- A local source is told that its request ends without a response (R223, R522). -/
def tellFailure (src : Req) (xid status detail : Nat) (s : State) : State :=
  match src with
  | .core => tellCore xid status detail [] s
  | .gangplank ip _ => gpReply ip.toNat (gpBytes xid 0x83 status detail 0 []) s
  | .ring _ => s

/-- A local source is told of a response (R222, R228, R522). -/
def tellResponse (src : Req) (xid : Nat) (f : Frame) (s : State) : State :=
  match src with
  | .core =>
    let c := Frame.word f 0
    tellCore xid (cStatus c) (cDetail c) (if cOp c = 3 then f.pay.drop 1 else []) s
  | .gangplank ip _ => gpReply ip.toNat (gpBytes xid 0x82 0 0 f.hdr (f.pay.map (·.data))) s
  | .ring _ => s

/-- Why a frame of a local source cannot leave at all: NO_SUCH_SPACE, UNREACHABLE; bsOk when it can (R114, R202). -/
def State.issueCode (s : State) (r : LocalReq) : Nat :=
  if !spaceExists r.dport then bsSpace else if (s.outsFor r).isEmpty then bsUnreachable else bsOk

/-- A refusal of the own bridge, counted when no path is usable. -/
def refuseIssue (code : Nat) (r : LocalReq) (s : State) : State :=
  tellFailure r.src r.xid code 0 (if code = bsUnreachable then s.bump Obj.unreachableCnt else s)

/-- A data word list cut into pieces of 30 words (R212). -/
def cut30 : Nat → List W64 → List (List W64)
  | 0, _ => []
  | n + 1, l => if l.length ≤ 30 then [l] else l.take 30 :: cut30 n (l.drop 30)

/-- The frames of a posted write of a local source (R206, R212). -/
def postedFrames (addr : W64) (words : List W64) (ack : Bool) (src : Req) (xid : Nat) : List LocalReq :=
  let l := cut30 (words.length + 1) words
  (List.range l.length).map (fun i =>
    let a := w64 (addr.toNat / 2 ^ 48 * 2 ^ 48 + (aOff addr + 240 * i) % 2 ^ 48)
    ⟨7, 1, ack, aNode addr, aSpace addr, pw a :: (l.getD i []).map pw, src, xid, none, false, false⟩)

/-- Frames of a local source sent in turn, or waiting. -/
def issueFrames (l : List LocalReq) (s : State) : State := l.foldl (fun s r => sendOrWait r s) s

/-- Transfer x is not over: frames of it have not left, or a response to it is awaited. -/
def State.xferOpen (s : State) (x : Xfer) : Bool :=
  decide (0 < s.unsentOf x.id) || s.bridge.tags.any (fun t => t.use == .waiting && t.src == .core && t.xid == x.id && !t.msg)

/-- The core issues its next transfer: those that are over are forgotten (R228). -/
def beginXfer (plain : Bool) (s : State) : State :=
  modBridge (fun b => { b with
    nextXfer := b.nextXfer + 1, xfers := ⟨b.nextXfer, 0, plain, false⟩ :: b.xfers.filter s.xferOpen }) s

/-- The outbound queue has room for every frame of a posted write (R182, R212). -/
def State.roomForAll (s : State) (l : List LocalReq) : Bool :=
  decide (l.foldl (fun n r => n + s.baysFor r) 0 ≤ s.ownRoom 7 1)

/-- A posted write of the core accepted: the core is told at once (R212). -/
def acceptPosted (ack : Bool) (l : List LocalReq) (s : State) : State :=
  issueFrames l (modBridge (fun b => { b with accepted := s.bridge.nextXfer }) (beginXfer (!ack) s))

/-- The effect of `POSTED_WRITE_ISSUE` (R212) by the local core: accepted with room for the whole write; without room nothing changes. -/
def execPostedWriteIssue (addr : W64) (words : List W64) (ack : Bool) (s : State) : Host.Outcome State Fault Refusal :=
  .next (
    let l := postedFrames addr words ack .core s.bridge.nextXfer
    match l with
    | [] => s
    | r :: _ =>
      let c := s.issueCode r
      if c ≠ bsOk then refuseIssue c r (beginXfer (!ack) s)
      else if s.roomForAll l then acceptPosted ack l s
      else s)

/-- The effect of `REQUEST_ISSUE` (R222) by the local core: a class 10 request, sent with a tag or waiting for one. -/
def execRequestIssue (op : BitVec 4) (size : BitVec 4) (count : BitVec 8) (addr : W64) (words : List W64) (s : State) :
    Host.Outcome State Fault Refusal :=
  .next (
    let pay := pw (cmdWord op.toNat size.toNat count.toNat 0 0 0 0 0) :: pw addr :: words.map pw
    let r : LocalReq := ⟨7, 2, false, aNode addr, aSpace addr, pay, .core, s.bridge.nextXfer, none, false, false⟩
    let c := s.issueCode r
    let s := beginXfer false s
    if c ≠ bsOk then refuseIssue c r s
    else issueFrames [r] s)

/-- The effect of `TAG_WAIT_RESUME` (R222): the frame that waits longest gets its tag, and room, and goes out. -/
def execTagWaitResume (s : State) : Host.Outcome State Fault Refusal :=
  .next (
    match s.bridge.reqWait with
    | [] => s
    | r :: t =>
      (trySend r (modBridge (fun b => { b with reqWait := t }) s)).getD s)

/-- A tag's frame is the one that a response answers: CLASS, SEQ, and a chip that may answer it (R211, R224). -/
def Tag.answered (t : Tag) (f : Frame) : Bool :=
  let c := Frame.word f 0
  t.seq == cRseq c && t.cls == cRcls c &&
    (t.node == hSnode f.hdr || (pairPort t.dport && pairOf t.node == pairOf (hSnode f.hdr)))

/-- The tag whose frame a response answers, by its use; the answer to a posted write carries no TAG of its own. -/
def State.tagFor (s : State) (u : TagUse) (f : Frame) : Option Nat :=
  let c := Frame.word f 0
  (List.range 16).find? (fun i =>
    let t := s.bridge.tags.getD i Tag.zero
    t.use == u && Tag.answered t f && (t.posted || cTag c == i))

/-- A tag set. -/
def setTag (i : Nat) (t : Tag) (s : State) : State := modBridge (fun b => { b with tags := b.tags.set i t }) s

/-- A response at the origin (R211, R224): it completes its tag, or reports the refusal of a posted write that holds none, or is late. -/
def takeResponse (f : Frame) (s : State) : State :=
  let c := Frame.word f 0
  if (f.pay.getD 0 ⟨0, true⟩).p then s
  else
    match s.tagFor .waiting f with
    | some i =>
      let t := s.bridge.tags.getD i Tag.zero
      let s := setTag i Tag.zero (if cStatus c = bsOk then s else s.bump Obj.refusedOutCnt)
      if t.msg then s else tellResponse t.src t.xid f s
    | none =>
      if cRcls c = 1 ∧ cStatus c ≠ bsOk ∧ (s.tagFor .held f).isNone then
        tellCore 0 (cStatus c) (cDetail c) [] (s.bump Obj.refusedOutCnt)
      else s.bump Obj.lateResponseCnt

/-- Port 7 takes the next response of an operation (R222). -/
def nextResponse (op : Nat) (s : State) : State :=
  match s.localNext 7 (Job.forBridge (fun _ c => cOp c == op)) with
  | none => s
  | some j =>
    match localFrame j s with
    | (some f, t) => takeResponse f t
    | (none, t) => t

/-- The effect of `READ_RESPONSE_RECEIVE` (R224). -/
def execReadResponseReceive (s : State) : Host.Outcome State Fault Refusal := .next (nextResponse 3 s)

/-- The effect of `WRITE_RESPONSE_RECEIVE` (R211). -/
def execWriteResponseReceive (s : State) : Host.Outcome State Fault Refusal := .next (nextResponse 4 s)

/-- The frame of a tag has left: no copy of it is in the Hold (R223). -/
def State.tagLeft (s : State) (t : Tag) : Bool := !s.hold.jobs.any (fun j => j.own && Tag.stands t j.hdr)

/-- The effect of `READ_TIMEOUT` (R223, R224): no response within `READ_TIMEOUT` ticks of leaving. -/
def execReadTimeout (tag : Fin 16) (s : State) : Host.Outcome State Fault Refusal :=
  .next (
    let t := s.bridge.tags.getD tag.val Tag.zero
    if t.use = .waiting ∧ s.tagLeft t ∧ t.tick + s.get Obj.readTimeout ≤ s.tide.beat then
      let s := setTag tag.val { t with use := .held, tick := s.tide.beat } (s.bump Obj.timeoutCnt)
      if t.msg then s else tellFailure t.src t.xid (if t.posted then bsNoAck else bsTimeout) 0 s
    else s)

/-- The effect of `TAG_REISSUE_HOLD_END` (R224): a further `READ_TIMEOUT` ticks have passed. -/
def execTagReissueHoldEnd (tag : Fin 16) (s : State) : Host.Outcome State Fault Refusal :=
  .next (
    let t := s.bridge.tags.getD tag.val Tag.zero
    if t.use = .held ∧ t.tick + s.get Obj.readTimeout ≤ s.tide.beat then setTag tag.val Tag.zero s else s)

/-- A frame that has not begun to leave is not sent: it leaves the Hold, and its tag is free (R228). -/
def unsend (ser : Nat) (s : State) : State :=
  match s.hold.jobs.find? (fun j => j.ser == ser) with
  | none => s
  | some j =>
    let s := modBridge (fun b => { b with tags := b.tags.map (fun t => if Tag.stands t j.hdr then Tag.zero else t) }) s
    promote (removeJob j s)

/-- An abort of transfer n has come (R228). -/
def markAborted (n : Nat) (s : State) : State :=
  modBridge (fun b => { b with xfers := b.xfers.map (fun x => if x.id = n then { x with aborted := true } else x) }) s

/-- The frames of an aborted transfer that wait are not sent, and acknowledgements of those that have left report no more. -/
def hushXfer (n : Nat) (s : State) : State :=
  modBridge (fun b => { b with
    reqWait := b.reqWait.filter (fun r => (LocalReq.origin r).xfer != some n)
    tags := b.tags.map (fun t => if t.use = .waiting ∧ t.src = .core ∧ t.xid = n then { t with msg := true } else t) }) s

/-- An abort before the last frame has begun to leave: the others are not sent, and the transfer reads ABORTED with the frames sent (R228). -/
def abortTransfer (x : Xfer) (s : State) : State :=
  let mine := (s.hold.jobs.filter (fun j => j.xfer == some x.id)).map (·.ser)
  let s := hushXfer x.id (mine.foldl (fun s n => unsend n s) s)
  markAborted x.id (tellCore x.id bsAborted x.sent [] s)

/-- An abort after the last frame has left is late: what has been reported of the transfer shows it, or what will be (R228). -/
def abortLate (x : Xfer) (s : State) : State :=
  markAborted x.id
    (if s.bridge.report.xfer = x.id then modBridge (fun b => { b with report := { b.report with late := true } }) s else s)

/-- The effect of `TRANSFER_ABORT` (R228) by the local core: of its newest transfer that no abort has named yet, which is the model's choice where
the command names none (log entry 111); nothing when there is none. -/
def execTransferAbort (s : State) : Host.Outcome State Fault Refusal :=
  .next (
    match s.bridge.xfers.find? (fun x => !x.aborted) with
    | none => s
    | some x => if 0 < s.unsentOf x.id then abortTransfer x s else abortLate x s)

end Sys2Proof.Machine
end

