-- ==== Sys2Proof/Machine/DictCommands.lean ====
section
/-! DEFINITION. The commands that are one access of an object each (R17 to R19, R526), and the times of the owner lock (R529). -/

namespace Sys2Proof.Machine

/-- A write of a scalar value to an object by a requester, with what it answers. -/
def writeVal (r : Req) (o : Obj) (v : Nat) (s : State) : State := shown (dictWrite r o.idx o.sub (bytesOf o.ty.size v) s)

/-- A write of bytes to an object. -/
def writeBytes (r : Req) (o : Obj) (bs : List Byte) (s : State) : State := shown (dictWrite r o.idx o.sub bs s)

/-- A read of an object. -/
def readVal (r : Req) (o : Obj) (s : State) : State := shown (dictRead r o.idx o.sub s)

/-- The effect of `WATCHDOG_KICK`: a wrong value is refused. -/
def execWatchdogKick (r : Req) (v : BitVec 8) (s : State) : Host.Outcome State Fault Refusal := .next (writeVal r Obj.wdtKick v.toNat s)

/-- The effect of `WDT_PERIOD_WRITE`. -/
def execWdtPeriodWrite (r : Req) (v : BitVec 16) (s : State) : Host.Outcome State Fault Refusal := .next (writeVal r Obj.wdtPeriod v.toNat s)

/-- The effect of `RESET_CMD_WRITE`. -/
def execResetCmdWrite (r : Req) (v : BitVec 32) (s : State) : Host.Outcome State Fault Refusal := .next (writeVal r Obj.resetCmd v.toNat s)

/-- The effect of `SLIPWAY_KEY_WRITE`. -/
def execSlipwayKeyWrite (r : Req) (v : BitVec 64) (s : State) : Host.Outcome State Fault Refusal := .next (writeVal r Obj.slipwayKey v.toNat s)

/-- The effect of `BLOCK_RESET_WRITE`. -/
def execBlockResetWrite (r : Req) (v : BitVec 32) (s : State) : Host.Outcome State Fault Refusal := .next (writeVal r Obj.blockReset v.toNat s)

/-- The effect of `BLOCK_RESET_ABORT`. -/
def execBlockResetAbort (r : Req) (s : State) : Host.Outcome State Fault Refusal := .next (writeVal r Obj.blockReset (2 ^ 31) s)

/-- The effect of `TIDE_PLAN_COMMIT`. -/
def execTidePlanCommit (r : Req) (s : State) : Host.Outcome State Fault Refusal := .next (writeVal r Obj.tidePlanCommit 1 s)

/-- The effect of `OBJECT_WRITE`. -/
def execObjectWrite (r : Req) (idx : BitVec 16) (sub : BitVec 8) (v : List Byte) (s : State) : Host.Outcome State Fault Refusal :=
  .next (shown (dictWrite r idx.toNat sub.toNat v s))

/-- The effect of `LOOP_MODE_WRITE`. -/
def execLoopModeWrite (r : Req) (port : Fin 3) (v : BitVec 8) (s : State) : Host.Outcome State Fault Refusal :=
  .next (writeVal r (Obj.loopMode port.val) v.toNat s)

/-- The effect of `PRBS_GENERATE_SET`: a write of `PRBS_CTRL` with bit 0 set. -/
def execPrbsGenerateSet (r : Req) (port : Fin 3) (v : BitVec 8) (s : State) : Host.Outcome State Fault Refusal :=
  .next (writeVal r (Obj.prbsCtrl port.val) (v ||| 1).toNat s)

/-- The effect of `PRBS_CHECK_SET`: a write of `PRBS_CTRL` with bit 1 set. -/
def execPrbsCheckSet (r : Req) (port : Fin 3) (v : BitVec 8) (s : State) : Host.Outcome State Fault Refusal :=
  .next (writeVal r (Obj.prbsCtrl port.val) (v ||| 2).toNat s)

/-- The effect of `PRBS_COUNTERS_CLEAR`: a write of `PRBS_CTRL` with bit 2 set. -/
def execPrbsCountersClear (r : Req) (port : Fin 3) (v : BitVec 8) (s : State) : Host.Outcome State Fault Refusal :=
  .next (writeVal r (Obj.prbsCtrl port.val) (v ||| 4).toNat s)

/-- The effect of `LANE_RETRAIN`. -/
def execLaneRetrain (r : Req) (port : Fin 3) (lane : Fin 5) (s : State) : Host.Outcome State Fault Refusal :=
  .next (writeVal r (Obj.laneRetrain port.val lane.val) 1 s)

/-- The effect of `PORT_RETRAIN`. -/
def execPortRetrain (r : Req) (port : Fin 3) (s : State) : Host.Outcome State Fault Refusal :=
  .next (writeVal r (Obj.retrain port.val) 1 s)

/-- The effect of `SHARED_PEAK_READ`. -/
def execSharedPeakRead (r : Req) (s : State) : Host.Outcome State Fault Refusal := .next (readVal r Obj.sharedPeak s)

/-- The effect of `RESEQ_PEAK_READ`. -/
def execReseqPeakRead (r : Req) (port : Fin 8) (s : State) : Host.Outcome State Fault Refusal :=
  .next (readVal r (Obj.reseqPeak port.val) s)

/-- The effect of `MANIFEST_COMMIT`. -/
def execManifestCommit (r : Req) (s : State) : Host.Outcome State Fault Refusal := .next (writeVal r Obj.manifestCommit 1 s)

/-- The effect of `CRANE_HALT`. -/
def execCraneHalt (r : Req) (g : Fin 64) (s : State) : Host.Outcome State Fault Refusal := .next (writeVal r (Obj.craneCmd g.val) 1 s)

/-- The effect of `CRANE_RESTART`. -/
def execCraneRestart (r : Req) (g : Fin 64) (s : State) : Host.Outcome State Fault Refusal := .next (writeVal r (Obj.craneCmd g.val) 2 s)

/-- The effect of `CRANE_START`. -/
def execCraneStart (r : Req) (g : Fin 64) (s : State) : Host.Outcome State Fault Refusal := .next (writeVal r (Obj.craneCmd g.val) 3 s)

/-- The effect of `GANG_START`. -/
def execGangStart (r : Req) (mask : BitVec 64) (s : State) : Host.Outcome State Fault Refusal := .next (writeVal r Obj.gangStart mask.toNat s)

/-- The effect of `GANG_HALT`. -/
def execGangHalt (r : Req) (mask : BitVec 64) (s : State) : Host.Outcome State Fault Refusal := .next (writeVal r Obj.gangHalt mask.toNat s)

/-- The effect of `CLOCK_RESTART`. -/
def execClockRestart (r : Req) (mask : BitVec 64) (s : State) : Host.Outcome State Fault Refusal :=
  .next (writeVal r Obj.clockRestart mask.toNat s)

/-- The effect of `QUAY_COMMIT`. -/
def execQuayCommit (r : Req) (q : Fin 4) (s : State) : Host.Outcome State Fault Refusal := .next (writeVal r (Obj.quayCommit q.val) 1 s)

/-- The effect of `QUAY_FLAGS_WRITE`. -/
def execQuayFlagsWrite (r : Req) (q : Fin 4) (v : BitVec 16) (s : State) : Host.Outcome State Fault Refusal :=
  .next (writeVal r (Obj.quayFlags q.val) v.toNat s)

/-- The effect of `QUAY_IRQ_CLEAR`. -/
def execQuayIrqClear (r : Req) (q : Fin 4) (v : BitVec 8) (s : State) : Host.Outcome State Fault Refusal :=
  .next (writeVal r (Obj.quayIrq q.val) v.toNat s)

/-- The effect of `TALLY_LOAD`. -/
def execTallyLoad (r : Req) (v : List Byte) (s : State) : Host.Outcome State Fault Refusal := .next (writeBytes r Obj.tallyLoad v s)

/-- The effect of `TALLY_READ_DATA_READ`. -/
def execTallyReadDataRead (r : Req) (s : State) : Host.Outcome State Fault Refusal := .next (readVal r Obj.tallyReadData s)

/-- The effect of `STAGE_LOAD`. -/
def execStageLoad (r : Req) (v : List Byte) (s : State) : Host.Outcome State Fault Refusal := .next (writeBytes r Obj.stageLoad v s)

/-- The effect of `SWAP_ARM`. -/
def execSwapArm (r : Req) (s : State) : Host.Outcome State Fault Refusal := .next (writeVal r Obj.swapCmd 1 s)

/-- The effect of `SWAP_CANCEL`. -/
def execSwapCancel (r : Req) (s : State) : Host.Outcome State Fault Refusal := .next (writeVal r Obj.swapCmd 2 s)

/-- The effect of `FIFO_FLUSH`. -/
def execFifoFlush (r : Req) (g : Fin 64) (v : BitVec 8) (s : State) : Host.Outcome State Fault Refusal :=
  .next (writeVal r (Obj.fifoFlush g.val) v.toNat s)

/-- The effect of `NOTICE_PEND_CLEAR`. -/
def execNoticePendClear (r : Req) (g : Fin 64) (v : BitVec 8) (s : State) : Host.Outcome State Fault Refusal :=
  .next (writeVal r (Obj.noticePend g.val) v.toNat s)

/-- The effect of `CAN_RECOVER`. -/
def execCanRecover (r : Req) (k : Fin 8) (s : State) : Host.Outcome State Fault Refusal := .next (writeVal r (Obj.canCmd k.val) 1 s)

/-- The effect of `CAN_GW_QUEUE_EMPTY`. -/
def execCanGwQueueEmpty (r : Req) (k : Fin 8) (s : State) : Host.Outcome State Fault Refusal := .next (writeVal r (Obj.canCmd k.val) 2 s)

/-- The effect of `CAN_RX_QUEUE_EMPTY`. -/
def execCanRxQueueEmpty (r : Req) (k : Fin 8) (s : State) : Host.Outcome State Fault Refusal := .next (writeVal r (Obj.canCmd k.val) 3 s)

/-- The effect of `CAN_COMMIT`. -/
def execCanCommit (r : Req) (k : Fin 8) (s : State) : Host.Outcome State Fault Refusal := .next (writeVal r (Obj.canCommit k.val) 1 s)

/-- The effect of `CAN_IRQ_CLEAR`. -/
def execCanIrqClear (r : Req) (k : Fin 8) (v : BitVec 16) (s : State) : Host.Outcome State Fault Refusal :=
  .next (writeVal r (Obj.canIrq k.val) v.toNat s)

/-- The effect of `TIME_SET_WRITE`. -/
def execTimeSetWrite (r : Req) (v : BitVec 80) (s : State) : Host.Outcome State Fault Refusal := .next (writeVal r Obj.timeSet v.toNat s)

/-- The effect of `DOMAIN_SWITCH_WRITE`. -/
def execDomainSwitchWrite (r : Req) (v : BitVec 64) (s : State) : Host.Outcome State Fault Refusal :=
  .next (writeVal r Obj.domainSwitch v.toNat s)

/-- CONTROL of a generator written by a requester at a known time (R402, R403). -/
def pulseWrite (r : Req) (v : Nat) (now : Int) (n : Nat) (s : State) : State :=
  let o := Obj.pgControl n
  shown (serve r o.idx o.sub (withObj o.idx o.sub (fun o s =>
    let g := s.gateCode r o (bytesOf 8 v)
    if g ≠ ecOk then ⟨s, g, false, []⟩ else ⟨lockRestart o (pgControlWrite n v now s), ecOk, false, []⟩)) s)

/-- The effect of `PULSE_ARM`: CONTROL written with ARM, the given time after the last boundary. -/
def execPulseArm (r : Req) (n : Fin 16) (v : W64) (ns : BitVec 32) (s : State) : Host.Outcome State Fault Refusal :=
  .next (pulseWrite r (v ||| 0x10000).toNat (s.time.w + (ns.toNat * nsUnits : Nat)) n.val s)

/-- The effect of `PULSE_STOP`: CONTROL written with STOP and without ARM. -/
def execPulseStop (r : Req) (n : Fin 16) (v : W64) (s : State) : Host.Outcome State Fault Refusal :=
  .next (pulseWrite r (clearBits (v ||| 0x20000).toNat 0x10000) s.time.w n.val s)

/-- The effect of `PULSE_TARGET_RELEASE`: CONTROL written with another TARGET, its other fields as they stand. -/
def execPulseTargetRelease (r : Req) (n : Fin 16) (target : BitVec 9) (s : State) : Host.Outcome State Fault Refusal :=
  .next (pulseWrite r (s.get (Obj.pgControl n.val) / 2 ^ 9 * 2 ^ 9 + target.toNat) s.time.w n.val s)

/-- The effect of `HANDOVER`. -/
def execHandover (r : Req) (s : State) : Host.Outcome State Fault Refusal := .next (writeVal r Obj.handover 1 s)

/-- The effect of `HANDOVER_ABORT`: an abort that is refused stops nothing. -/
def execHandoverAbort (r : Req) (s : State) : Host.Outcome State Fault Refusal := .next (handOn (writeVal r Obj.handover 2 s))

/-- The effect of `STATE_SAVE`. -/
def execStateSave (r : Req) (s : State) : Host.Outcome State Fault Refusal := .next (writeVal r Obj.stateSave 1 s)

/-- The effect of `FAULT_LIST_READ`. -/
def execFaultListRead (r : Req) (s : State) : Host.Outcome State Fault Refusal := .next (readVal r Obj.faultList s)

/-- The effect of `FAULT_CLEAR_ONE`. -/
def execFaultClearOne (r : Req) (seq : BitVec 16) (reps : BitVec 8) (s : State) : Host.Outcome State Fault Refusal :=
  .next (writeVal r Obj.faultClear (seq.toNat * 2 ^ 16 + reps.toNat * 2 ^ 8 + 1) s)

/-- The effect of `FAULT_CLEAR_CORRECTED`. -/
def execFaultClearCorrected (r : Req) (s : State) : Host.Outcome State Fault Refusal := .next (writeVal r Obj.faultClear 2 s)

/-- The effect of `FAULT_CLEAR_CONTAINED`. -/
def execFaultClearContained (r : Req) (s : State) : Host.Outcome State Fault Refusal := .next (writeVal r Obj.faultClear 3 s)

/-- A value of `FAULT_INJECT` (R487). -/
def injectValue (m src inst bt arg : Nat) : Nat := src * 2 ^ 56 + inst * 2 ^ 48 + m * 2 ^ 46 + bt * 2 ^ 39 + arg

/-- The effect of `FAULT_INJECT_RECORD`. -/
def execFaultInjectRecord (r : Req) (src inst : BitVec 8) (arg : BitVec 32) (s : State) : Host.Outcome State Fault Refusal :=
  .next (writeVal r Obj.faultInject (injectValue 1 src.toNat inst.toNat 0 arg.toNat) s)

/-- The effect of `FAULT_INJECT_SINGLE_BIT`. -/
def execFaultInjectSingleBit (r : Req) (src inst : BitVec 8) (bit : BitVec 7) (arg : BitVec 32) (s : State) :
    Host.Outcome State Fault Refusal :=
  .next (writeVal r Obj.faultInject (injectValue 2 src.toNat inst.toNat bit.toNat arg.toNat) s)

/-- The effect of `FAULT_INJECT_DOUBLE_BIT`. -/
def execFaultInjectDoubleBit (r : Req) (src inst : BitVec 8) (bit : BitVec 7) (arg : BitVec 32) (s : State) :
    Host.Outcome State Fault Refusal :=
  .next (writeVal r Obj.faultInject (injectValue 3 src.toNat inst.toNat bit.toNat arg.toNat) s)

/-- The effect of `GW_PEAK_T_READ`. -/
def execGwPeakTRead (r : Req) (s : State) : Host.Outcome State Fault Refusal := .next (readVal r Obj.gwPeakT s)

/-- The effect of `LOCK_OPEN`. -/
def execLockOpen (r : Req) (key : BitVec 32) (s : State) : Host.Outcome State Fault Refusal :=
  .next (writeVal r Obj.ownerLock (1 * 2 ^ 56 + key.toNat) s)

/-- The effect of `LOCK_CLOSE`. -/
def execLockClose (r : Req) (s : State) : Host.Outcome State Fault Refusal := .next (writeVal r Obj.ownerLock (2 * 2 ^ 56) s)

/-- The effect of `LOCK_TIMEOUT_EXPIRY` (R529): nothing while the lock is closed. -/
def execLockTimeoutExpiry (s : State) : Host.Outcome State Fault Refusal := .next (lockClose s)

/-- The effect of `LOCK_LOCKOUT_END` (R529). -/
def execLockLockoutEnd (s : State) : Host.Outcome State Fault Refusal :=
  .next { s with dict := { s.dict with lockout := false } }

/-- The effect of `UPD_OPEN`. -/
def execUpdOpen (r : Req) (s : State) : Host.Outcome State Fault Refusal := .next (writeVal r Obj.updCmd 1 s)

/-- The effect of `UPD_OPEN_RESUME`. -/
def execUpdOpenResume (r : Req) (s : State) : Host.Outcome State Fault Refusal := .next (writeVal r Obj.updCmd 2 s)

/-- The effect of `UPD_CHUNK_WRITE`. -/
def execUpdChunkWrite (r : Req) (v : List Byte) (s : State) : Host.Outcome State Fault Refusal := .next (writeBytes r Obj.updChunk v s)

/-- The effect of `UPD_VERIFY`. -/
def execUpdVerify (r : Req) (s : State) : Host.Outcome State Fault Refusal := .next (writeVal r Obj.updCmd 3 s)

/-- The effect of `UPD_ACTIVATE`. -/
def execUpdActivate (r : Req) (s : State) : Host.Outcome State Fault Refusal := .next (writeVal r Obj.updCmd 4 s)

/-- The effect of `UPD_CONFIRM`. -/
def execUpdConfirm (r : Req) (s : State) : Host.Outcome State Fault Refusal := .next (writeVal r Obj.updCmd 5 s)

/-- The effect of `UPD_CLOSE`. -/
def execUpdClose (r : Req) (s : State) : Host.Outcome State Fault Refusal := .next (writeVal r Obj.updCmd 6 s)

/-- The effect of `UPD_ABORT`. -/
def execUpdAbort (r : Req) (s : State) : Host.Outcome State Fault Refusal := .next (writeVal r Obj.updCmd 7 s)

end Sys2Proof.Machine
end

