-- ==== Sys2Proof/Machine/Gangplank.lean ====
section
/-! DEFINITION. Gangplank: datagrams, their roles and replies (R520 to R524). -/

namespace Sys2Proof.Machine

/-- The ring frame header that a datagram carries, and its payload words. -/
def Datagram.header (d : Datagram) : W64 := w64 (num d.bytes 8 8)
def Datagram.payload (d : Datagram) : List W64 := wordsOf (hLen (Datagram.header d)) (d.bytes.drop 16)
def Datagram.xid (d : Datagram) : Nat := num d.bytes 2 2

/-- The bits of a header that a request may use: DNODE, DPORT, CLASS, LEN and FLAGS bit 10. -/
def gpHeader (h : W64) : Nat :=
  hDnode h * 2 ^ 56 + hDport h * 2 ^ 40 + hClass h * 2 ^ 38 + hLen h * 2 ^ 20 + b2n (hAck h) * 2 ^ 10

/-- A datagram has the form of R520, and is a request. -/
def Datagram.good (d : Datagram) : Bool :=
  let h := Datagram.header d
  !d.bad && decide (24 ≤ d.bytes.length) && d.bytes.length == 16 + 8 * hLen h && num d.bytes 0 2 == 1 && num d.bytes 4 1 == 1 &&
    num d.bytes 5 3 == 0 && h.toNat == gpHeader h

/-- The requester that a datagram stands for (R515). -/
def Datagram.req (d : Datagram) : Req := .gangplank d.srcIp d.srcPort

/-- A datagram carries an operation of the dictionary to the node's own number. -/
def State.gpOwn (s : State) (d : Datagram) : Bool :=
  let h := Datagram.header d
  hClass h == 2 && hDport h == 0 && hDnode h == s.nodeNumber && isReqOp (cOp ((Datagram.payload d).getD 0 0))

/-- A datagram carries a posted write or an operation of R208 or R513, in spaces 0x00 to 0x40. -/
def Datagram.hostOp (d : Datagram) : Bool :=
  let h := Datagram.header d
  decide (hDport h ≤ 0x40) && (hClass h == 1 || (hClass h == 2 && isReqOp (cOp ((Datagram.payload d).getD 0 0))))

/-- A datagram lies within the role of its UDP port (R521). -/
def State.gpRole (s : State) (d : Datagram) : Bool :=
  if d.dstPort.toNat = 47270 then s.get Obj.gpHostAddr != 0 && d.srcIp.toNat == s.get Obj.gpHostAddr && Datagram.hostOp d
  else s.gpOwn d

/-- A datagram dropped (R520, R522). -/
def gpDrop (s : State) : State := s.bump Obj.gpDropCnt

/-- A refusal that the node sends for a datagram (R522). -/
def gpRefuse (d : Datagram) (status detail : Nat) (s : State) : State :=
  gpReply d.srcIp.toNat (gpBytes (Datagram.xid d) 0x83 status detail 0 []) s

/-- The response frame of the node's own dictionary (R208, R522): header and payload, with the SEQ of the request it stands for. -/
def ownResponse (c : W64) (x : DictReply) (a : W64) (s : State) : W64 × List W64 × State :=
  let q := nextSeqOf 2 s
  let r := nextSeqOf 2 q.2
  let rd := isReadOp (cOp c)
  let data := if rd then x.data.map (·.data) else [a]
  let pay := cmdWord (if rd then 3 else 4) x.size x.count (cTag c) bsOk x.detail q.1 2 :: data
  (mkHdr s.nodeNumber s.nodeNumber 0 2 r.1 pay.length s.ttl 0, pay, r.2)

/-- A request to the node's own dictionary, served at once and answered: a refusal with its status and code (R532). -/
def gpServe (d : Datagram) (s : State) : State :=
  let ws := Datagram.payload d
  let c := ws.getD 0 0
  if badOp (Datagram.header d) c then gpRefuse d bsBadOp 0 s
  else if ws.length < 2 then gpRefuse d bsSize 0 s
  else if aSpace (ws.getD 1 0) ≠ 0 ∨ aNode (ws.getD 1 0) ≠ s.nodeNumber then gpRefuse d bsSpace 0 s
  else
    let x := dictRequest (Datagram.req d) (ws.map pw) s
    if x.silent then x.st
    else if x.status ≠ bsOk then gpRefuse d x.status x.detail x.st
    else
      let r := ownResponse c x (ws.getD 1 0) x.st
      gpReply d.srcIp.toNat (gpBytes (Datagram.xid d) 0x82 0 0 r.1 r.2.1) r.2.2

/-- The frame that a datagram hands to the bridge. -/
def Datagram.frame (d : Datagram) : LocalReq :=
  let h := Datagram.header d
  ⟨7, hClass h, hAck h, hDnode h, hDport h, (Datagram.payload d).map pw, Datagram.req d, Datagram.xid d, none, false, false⟩

/-- Datagrams that wait for a tag (R522). -/
def State.gpWaits (s : State) : Nat :=
  (s.bridge.reqWait.filter (fun r => match r.src with | .gangplank _ _ => true | _ => false)).length

/-- A frame of Gangplank taken by the bridge: sent, waiting, or dropped when 16 wait (R522). -/
def gpIssue (r : LocalReq) (s : State) : State :=
  match if s.bridge.reqWait.isEmpty then trySend r s else none with
  | some t => t
  | none => if 16 ≤ s.gpWaits then gpDrop s else modBridge (fun b => { b with reqWait := b.reqWait ++ [r] }) s

/-- A posted write or operation that goes by the bridge (R521, R522): a posted write is accepted when there is room for it (R212). -/
def gpBridge (d : Datagram) (s : State) : State :=
  let r := Datagram.frame d
  let c := s.issueCode r
  if c ≠ bsOk then refuseIssue c r s
  else if r.cls = 1 then
    if s.roomFor r then gpReply d.srcIp.toNat (gpBytes r.xid 0x81 0 0 0 []) (gpIssue r s) else gpDrop s
  else gpIssue r s

/-- A datagram of a role judged and acted on (R520 to R522). -/
def gpTake (d : Datagram) (s : State) : State :=
  if !Datagram.good d then gpDrop s
  else if !s.gpRole d then gpRefuse d bsAccess ecRole (s.bump Obj.gpRoleRefusedCnt)
  else
    let s := s.bump Obj.gpRxCnt
    if s.gpOwn d then gpServe d s else gpBridge d s

/-- An ACTIVATE pause lasts (R524, R549, R550). -/
def State.paused (s : State) : Bool := s.upd.pause || decide (0 < s.tide.pause)

/-- The datagrams that waited for the end of a pause, served in the order in which they came (R524). -/
def gpWaiting (s : State) : State :=
  if s.paused then s
  else s.dict.waiting.foldl (fun s d => gpTake d s) { s with dict := { s.dict with waiting := [] } }

/-- A datagram at the port (R524): it waits during a pause, at most 16 at a time. -/
def gpReceive (d : Datagram) (s : State) : State :=
  if s.paused then
    if 16 ≤ s.dict.waiting.length then gpDrop s else { s with dict := { s.dict with waiting := s.dict.waiting ++ [d] } }
  else gpTake d (gpWaiting s)

/-- The effect of `GANGPLANK_DATAGRAM` (R520): to one of the two ports of R521, while the harbourmaster core runs. -/
def execGangplankDatagram (d : Datagram) (s : State) : Host.Outcome State Fault Refusal :=
  .next (
    if s.released 5 ∧ s.node.mode ≠ .approach ∧ (d.dstPort.toNat = 47270 ∨ d.dstPort.toNat = 47271) then gpReceive d s else s)

/-- The effect of `ARP_REQUEST` (R520): a request for the node's address is answered. -/
def execArpRequest (target : BitVec 32) (s : State) : Host.Outcome State Fault Refusal :=
  .next (
    if s.released 5 ∧ s.node.mode ≠ .approach ∧ target.toNat = s.gpAddr then { s with dict := { s.dict with arps := s.dict.arps + 1 } }
    else s)

end Sys2Proof.Machine
end

