-- ==== Sys2Proof/Machine/Relay.lean ====
section
/-! DEFINITION. The relay path of an update: requests of a ring node at port 7 and their replies (R547). -/

namespace Sys2Proof.Machine

/-- Fields of a relay frame's first word (R547). -/
def rKind (w : W64) : Nat := wfld w 56 8
def rSeq (w : W64) : Nat := wfld w 40 8
def rCount (w : W64) : Nat := wfld w 32 8
def rOffset (w : W64) : Nat := wfld w 0 32

/-- The requester of a relay frame. -/
def relayReq (f : Frame) : Req := .ring (BitVec.ofNat 8 (hSnode f.hdr))

/-- The REPLY to a relay frame at once. -/
def relayAnswer (f : Frame) (code : Nat) (s : State) : State := relayReply (hSnode f.hdr) (rSeq (Frame.word f 0)) code s

/-- A relay command run by its code and state: refused, completed, or its REPLY due when it completes. -/
def relayResult (f : Frame) (r : Nat × State) : State :=
  if r.1 ≠ 0 then relayAnswer f r.1 (updResult r.1 r.2)
  else if r.2.get Obj.updCmd = stBusy then modUpd (fun u => { u with relay := some (hSnode f.hdr, rSeq (Frame.word f 0)) }) r.2
  else relayAnswer f 0 r.2

/-- A command by SNODE as the writer (R543): LOCK unless it holds the lock; a command in progress refuses it (log entry 44). -/
def relayCommand (f : Frame) (cmd : State → Nat × State) (s : State) : State :=
  if !s.holds (relayReq f) then relayAnswer f 0x12 (updResult 0x12 s)
  else if s.get Obj.updCmd = stBusy then let c := freeCode s; relayAnswer f c.1 (updResult c.1 c.2)
  else relayResult f (cmd s)

/-- OPEN: the owner lock first, as OP 0x01 of R528 with KEY would, then the session (R547). -/
def relayOpen (f : Frame) (s : State) : State :=
  let k := Frame.word f 1
  let l := lockWrite (relayReq f) (1 * 2 ^ 56 + wfld k 0 32) s
  if l.2 ≠ ecOk then relayAnswer f 0x12 (updResult 0x12 l.1)
  else relayResult f (updOpen (bit k.toNat 32) true l.1)

/-- BLOCK: COUNT bytes from word 1 on (R545, R547). -/
def relayBlock (f : Frame) (s : State) : State :=
  let w := Frame.word f 0
  let n := rCount w
  let bad := n = 0 ∨ 240 < n ∨ f.pay.length ≠ 1 + wordCount n
  let r := if !s.holds (relayReq f) then (0x12, s) else if bad then (0x15, s)
    else chunkWrite (rOffset w) ((dataBytes (f.pay.drop 1)).take n) s
  relayAnswer f r.1 (if r.1 = 0 then r.2 else updResult r.1 r.2)

/-- A relay request taken: PAUSED during a pause; a poisoned word makes it no request (R9). -/
def relayTake (act : Frame → State → State) (f : Frame) (s : State) : State :=
  if f.pay.any (·.p) then s
  else
    let s := s.bump Obj.relayFrameCnt
    if s.upd.pause ∨ 0 < s.tide.pause then relayAnswer f 0x18 s else act f s

/-- A relay frame at port 7. -/
def Job.relayed (p : Nat → Bool) (j : Job) : Bool := hClass j.hdr == 2 && hRelay j.hdr && p (rKind j.cmd)

/-- Port 7 takes the next relay frame of an RKIND. -/
def relayNext (p : Nat → Bool) (act : Frame → State → State) (s : State) : State :=
  match s.localNext 7 (Job.relayed p) with
  | none => s
  | some j =>
    match localFrame j s with
    | (some f, t) => act f t
    | (none, t) => t

/-- The effect of `RELAY_OPEN`. -/
def execRelayOpen (s : State) : Host.Outcome State Fault Refusal := .next (relayNext (· == 1) (relayTake relayOpen) s)

/-- The effect of `RELAY_BLOCK`. -/
def execRelayBlock (s : State) : Host.Outcome State Fault Refusal := .next (relayNext (· == 2) (relayTake relayBlock) s)

/-- The effect of `RELAY_VERIFY`. -/
def execRelayVerify (s : State) : Host.Outcome State Fault Refusal :=
  .next (relayNext (· == 3) (relayTake (fun f => relayCommand f updVerify)) s)

/-- The effect of `RELAY_ACTIVATE`. -/
def execRelayActivate (s : State) : Host.Outcome State Fault Refusal :=
  .next (relayNext (· == 4) (relayTake (fun f => relayCommand f updActivate)) s)

/-- The effect of `RELAY_CONFIRM`. -/
def execRelayConfirm (s : State) : Host.Outcome State Fault Refusal :=
  .next (relayNext (· == 5) (relayTake (fun f => relayCommand f updConfirm)) s)

/-- The effect of `RELAY_CLOSE`. -/
def execRelayClose (s : State) : Host.Outcome State Fault Refusal :=
  .next (relayNext (· == 6) (relayTake (fun f => relayCommand f updClose)) s)

/-- A relay frame of another RKIND is dropped, and counted unless it is a REPLY. -/
def relayDrop (f : Frame) (s : State) : State := if rKind (Frame.word f 0) = 0x81 then s else s.bump Obj.relayErrCnt

/-- The effect of `RELAY_FRAME_DROP`. -/
def execRelayFrameDrop (s : State) : Host.Outcome State Fault Refusal :=
  .next (relayNext (fun k => k == 0 || decide (6 < k)) relayDrop s)

end Sys2Proof.Machine
end

