-- ==== Sys2Proof/Machine/Header.lean ====
section
/-! DEFINITION. The tide header that leaves each port at a boundary: TICK blocks, time and echo words, credits, doorbells and the ring state (R48 to
R51, R68 step 8, R80, R82, R108, R178, R384 to R388). -/

namespace Sys2Proof.Machine

/-- A header word (R384): V = 1, KIND only, BYTES 8 and P = 0. -/
def tideWord (d : W64) : Sym := .word ⟨true, .only, 8, false, d⟩

/-- Seven words and the CHECK over them (R384, R386). -/
def sealEight (ws : List W64) : List Sym := (ws ++ [w64 (crc32c (bytesOfWords ws))]).map tideWord

/-- The time words of domain d at the boundary that has just been placed (R384, R385). -/
def State.timeWords (s : State) (d : Nat) : List W64 :=
  let x := s.domain d
  let t := s.time.w + x.off
  [w64 (s.get (Obj.domHops d) * 2 ^ 56 + 2 ^ 52 + s.get (Obj.domQuality d) * 2 ^ 49 + d * 2 ^ 48 + timeSec t),
   w64 (timeFrac t * 2 ^ 32 + timeNs t),
   w64 (x.utc * 2 ^ 48 + s.get (Obj.domGmTick d) % 2 ^ 48),
   w64 (x.master * 2 ^ 16 + x.leap * 2 ^ 4 + b2n (s.domGood d) * 2 ^ 3 + b2n (s.time.slew != 0) * 2 ^ 2 + b2n s.time.stepped * 2 + s.workDom),
   0, 0, 0]

/-- The echo words of port p (R386, R388): the TICK measured is the previous tick. -/
def State.echoWords (s : State) (p : Nat) : List W64 :=
  let q := s.port p
  let walk := match s.time.walk with
    | some (o, h, n) => if p = 0 then o * 2 ^ 56 + h * 2 ^ 48 + n % 2 ^ 48 else 0
    | none => 0
  let tr := s.time.transit
  [w64 ((s.tide.tick + 2 ^ 48 - 1) % 2 ^ 48), w64 (ofSigned 64 (q.lastStamp.getD 0)), w64 (b2n s.time.wasJumped * 2 + b2n q.lastStamp.isSome),
   w64 walk, w64 (tr.1 * 2 ^ 56 + tr.2.1 * 2 ^ 48 + tr.2.2 % 2 ^ 32), 0, 0]

/-- Word 0 of the ring-state slot (R50). -/
def State.ringStateWord (s : State) : W64 :=
  w64 (s.get Obj.tideGenActive + (match s.tide.active with | some p => p.sEnd | none => 31) * 2 ^ 32)

/-- The words of R50 after the TICK of an Active ring port, in order: time words A and B, echo words, credits, doorbell map, ring state. -/
def State.headerWords (s : State) (p : Nat) : List Sym :=
  let bells := s.tide.bellOut.getD p 0
  sealEight (s.timeWords 0) ++ sealEight (s.timeWords 1) ++ sealEight (s.echoWords p) ++
    List.replicate 4 (.ctrl tyIdle (s.creditWord p)) ++
    (List.range 4).map (fun i => tideWord (w64 (bells / 2 ^ (64 * i)))) ++
    [tideWord s.ringStateWord, tideWord 0, tideWord 0, tideWord 0]

/-- Transmit lanes on which port p sends its TICK blocks (R80, R88): its set, or the lanes that are up before a set is known, and an idle spare that
is not in Ebb. -/
def State.tickLanes (s : State) (p : Nat) : Nat :=
  let d := s.tx p
  if s.faults.lanesIdle ∨ !(d = dBlock ∨ d = dHarbour ∨ d = dActive ∨ d = dLoop) then 0
  else
    let set := if s.get (Obj.txSet p) = 0 then chooseSet (s.upLanes p) else s.get (Obj.txSet p)
    set ||| clearBits (if d = dActive then s.txSpare p else 0) (s.port p).txEbb

/-- Port p sends its tide header (R68 step 8): TICK on each lane, and on an Active ring port the words of R50 and idle words that carry credits. A
near-end loop brings it back (R102). -/
def sendHeader (p : Nat) (s : State) : State :=
  let lanes := s.tickLanes p
  let set := if s.get (Obj.txSet p) = 0 then chooseSet (s.upLanes p) else s.get (Obj.txSet p)
  let full := decide (p < 2) && s.tx p == dActive
  let ticks := (bitsOf 5 lanes).map (fun l => (l, tickContent set l s.tide.tick))
  let words := if full then s.headerWords p else []
  let s := if s.nearLoop p then turnBack p (ticks.map (fun e => .ctrl tyTick e.2) ++ words) s else s
  modPort p (fun q => { q with
    ticks := ticks
    header := words
    idle := if full then s.creditWord p else 0
    freedSent := if full then q.freed else q.freedSent
    txScr := ticks.foldl (fun x e => x.set e.1 (seedOf e.1)) q.txScr }) s

/-- The blocks of the tide header as they leave on lane l of port p, scrambled: the TICK, then the words striped over the set, then idle words (R42,
R50, R78, R83, R108). -/
def State.wire (s : State) (p l slots : Nat) : List Line :=
  let q := s.port p
  let set := bitsOf 5 (s.get (Obj.txSet p))
  let k := set.findIdx (· == l)
  let body := (List.range slots).map (fun i => (q.header.getD (i * set.length + k) (.ctrl tyIdle q.idle)).line)
  match q.ticks.find? (fun e => e.1 == l) with
  | some (_, t) => (sentLines l (seedOf l) ((Sym.ctrl tyTick t).line :: body)).1
  | none => []

end Sys2Proof.Machine
end

