-- ==== Sys2Proof/Machine/Tick.lean ====
section
/-! DEFINITION. The tick boundary (R68): its ordered steps, and what each block does once per tick. The sender of `TICK_BOUNDARY` puts it at
the instant of the boundary; what the surroundings show there comes with it. -/

namespace Sys2Proof.Machine

/-- Quay q is in a quay reset, and does not resume at this boundary (R465). -/
def State.quayStopped (s : State) (q : Nat) : Bool := bit s.pins.quayRst q && !bit s.pins.quayResume q

/-- Quays whose inputs are sampled: their input buffers are on (R465, R468). -/
def State.sampledQuays (s : State) : List Nat := (List.range 4).filter (fun q => bit s.pins.inBuf q && !s.isolated q && !s.quayStopped q)

/-- Step 1 of R68: the field inputs of a quay sampled into the input image; a pin whose input buffer is off keeps its bit (log entry 94). -/
def sampleQuay (q : Nat) (s : State) : State :=
  { s with pins := { s.pins with
      inImg := clearBits s.pins.inImg (clearBits (quayMask q) s.pins.bufOff) +
        clearBits (s.pinLevels (64 * q) 64 * 2 ^ (64 * q)) s.pins.bufOff } }

/-- Step 1 of R68. -/
def sampleInputs (s : State) : State := s.sampledQuays.foldl (fun s q => sampleQuay q s) s

/-- The image now readable was sampled at the boundary of the tick in progress (R205). -/
def imageTick (s : State) : State :=
  if s.sampledQuays.isEmpty then s else { s with pins := { s.pins with imgTick := s.tide.tick } }

/-- A change of the period reduces `SLEW_MAX` to the limit of the new one (R393). -/
def periodStep (oldCode : Nat) (s : State) : State := if s.tide.code = oldCode then s else reduceSlew s

/-- The node places its boundaries by its own time unit: locked or Master, with a ring port Active (R49). -/
def State.ownPlaced (s : State) : Bool :=
  s.timeLocked && [0, 1].any (fun p => s.rx p == dActive || s.tx p == dActive)

/-- Step 2 of R68: the next tick begins, and an armed plan takes effect (R65). -/
def tickAdvance (s : State) : State :=
  let old := s.tide.code
  periodStep old (planBoundary (modTide (fun d => { d with tick := (d.tick + 1) % 2 ^ 48, beat := d.beat + 1, clock := d.clock + 2 ^ old,
                                                           placed := d.placed || s.ownPlaced }) s))

/-- A tide-applied write takes effect: a commit of a quay or a controller, a divider that restarts (R249), or a value. `SPARE_EBB` and `ASYM_FIXED`
of the mooring link keep no value: they read 0 (R120, R154). -/
def tideApply (e : Nat × List Byte) (s : State) : State :=
  let i := e.1 / 256
  let sub := e.1 % 256
  if 0x4100 ≤ i ∧ i < 0x4104 ∧ sub = 1 then quayApply (i - 0x4100) s
  else if 0x6000 ≤ i ∧ i < 0x6008 ∧ sub = 6 then canApply (i - 0x6000) s
  else
    match objAt i sub with
    | none => s
    | some o =>
      let s := if e.1 = 0x2200 * 256 + 0x08 ∨ e.1 = 0x2600 * 256 + 0x0E then s else storeObj o e.2 s
      if 0x4200 ≤ i ∧ i < 0x4240 ∧ sub = 4 then restartDivider (i - 0x4200) s else s

/-- Step 3 of R68: the queue is taken out whole, and its writes take effect in the order of their acceptance (R70). -/
def tideWrites (s : State) : State :=
  s.tide.queue.foldl (fun s e => tideApply e s) (modTide (fun d => { d with queue := [] }) s)

/-- The chip that comes out of Berthing as Anchored, or changes for Dry dock or Reduced draught: the first of R37 that applies (R32, R38). -/
def modeBoundary (s : State) : State :=
  let n := s.node
  if n.toAnchored ∧ n.mode = .berthing then enterAnchored s
  else if n.leaveDryDock ∧ n.mode = .dryDock then
    let s := { s with node := { s.node with leaveDryDock := false } }
    if n.origin = .working ∨ n.origin = .reduced then setMode (if s.degraded then .reduced else .working) s else setMode n.origin s
  else if n.toDryDock ∧ (n.owns ∨ s.twin.pick = .none) ∧ (n.mode = .anchored ∨ n.mode = .working ∨ n.mode = .reduced) then
    setMode .dryDock { s with node := { s.node with toDryDock := false } }
  else if n.mode = .working ∧ s.degraded then setMode .reduced s
  else if n.mode = .reduced ∧ !s.degraded then setMode .working s
  else s

/-- The pins of a quay are let go by its keepers (R40, R433). -/
def keepersPass (q : Nat) (s : State) : State := { s with pins := { s.pins with keep := clearBits s.pins.keep (quayMask q) } }

/-- The pins of quay q that no crane and no generator owns take their places under `PAD_CFG` (R252). -/
def applyImage (q : Nat) (s : State) : State := (List.range 64).foldl (fun s p => imageOrInput (64 * q + p) s) s

/-- Every output of quay q takes its configured state, as at the first boundary in Working (R253, R465, R468). -/
def applyQuay (q : Nat) (s : State) : State :=
  keepersPass q (applyImage q ((quayCranes q).foldl (fun s g => applyPinInit g s) s))

/-- Quays to which outputs are applied: powered and not in a quay reset. -/
def State.liveQuays (s : State) : List Nat := (List.range 4).filter (fun q => !s.isolated q && !bit s.pins.quayRst q)

/-- `LAST_GAP_US` and `TAKEOVER_CNT` of a takeover whose step 8 this boundary is (R437); the gap is a free value when the outgoing chip's last
applied tick is not known. -/
def takeoverDone (s : State) : State :=
  let t := modTwin (fun t => { t with pick := .none, gapFrom := none }) s
  match s.twin.gapFrom with
  | none => t
  | some (some a) => (t.put Obj.lastGapUs ((s.tide.tick - a) * 25 * s.period25)).bump Obj.takeoverCnt
  | some none =>
    let d := t.draw
    (d.2.put Obj.lastGapUs d.1.toNat).bump Obj.takeoverCnt

/-- The first boundary at which outputs are applied in Working: outputs take their states, cranes with AUTOSTART start, and generators re-arm
(R32, R253, R286, R406, R434 step 8, R550). After a warm reset, a kept pin that the chip does not drive has its input buffer off from then
on (R40). -/
def firstOutputs (s : State) : State :=
  let kept := if s.twin.pick = .claimed then 0 else s.pins.keep
  let s := s.liveQuays.foldl (fun s q => applyQuay q s) s
  let s := ((List.range 4).filter (fun q => !bit s.pins.quayRst q)).foldl (fun s q => autostart q s) (gensRearm s)
  takeoverDone { s with
    node := { s.node with resume := false }
    pins := { s.pins with keep := 0, bufOff := s.pins.bufOff ||| clearBits kept s.pins.drive }
    rst := { s.rst with vio := s.rst.vio.map (fun v => { v with apply := false }) } }

/-- A quay that has been released from its reset resumes (R465). -/
def resumeQuay (q : Nat) (s : State) : State :=
  let s := { s with pins := { s.pins with quayRst := setBit s.pins.quayRst q false, quayResume := setBit s.pins.quayResume q false } }
  autostart q (if s.isolated q then s else applyQuay q s)

/-- The outputs of a bank whose supply has come back (R468). -/
def restoreBank (q : Nat) (s : State) : State :=
  let v := s.rst.vio.getD q ⟨0, true, false⟩
  if v.apply then applyQuay q { s with rst := { s.rst with vio := s.rst.vio.set q { v with apply := false } } } else s

/-- Step 5 of R68 at an owner past its first boundary. -/
def laterOutputs (s : State) : State :=
  let s := ((List.range 4).filter (fun q => bit s.pins.quayResume q)).foldl (fun s q => resumeQuay q s) s
  let s := s.liveQuays.foldl (fun s q => restoreBank q s) s
  s.liveQuays.foldl (fun s q => applyImage q s) s

/-- Step 5 of R68: outputs are applied by the chip that owns the pins; after a takeover not before every quay clock is good (R434 step 8), and
not in the pause of a configuration switch (R550). -/
def applyOutputs (clocksGood : Bool) (s : State) : State :=
  if !s.node.owns ∨ 0 < s.tide.pause ∨ (s.node.resume ∧ s.twin.pick = .claimed ∧ !clocksGood) then s
  else
    let s := if s.node.resume then firstOutputs s else laterOutputs s
    modTwin (fun t => { t with applied := s.tide.tick }) s

/-- A crane that waits for the tick boundary wakes (R259). -/
def tickWake (g : Nat) (s : State) : State :=
  inPhase g .waiting (fun w s => if opc w = 0 ∧ fld (operand w) 13 3 = 4 then wakeWait g w s else s) s

/-- After step 5: cranes that wait for the boundary wake, and gang commands across quays go ahead (R68, R259, R283). -/
def craneEdge (s : State) : State := pendingGangs ((List.range 64).foldl (fun s g => tickWake g s) s)

/-- Streams that end at a boundary: those of kinds 1 to 3, and those of a space that is served no longer (R230). -/
def endStreams (s : State) : State := dropStreams (fun st => decide (st.win.kind ≤ 3) || !s.serves st.win.space) s

/-- An output's count of boundaries at which it held a frame and lacked credit, and what is left of its linger time (R183, R185). -/
def outputBoundary (p : Nat) (s : State) : State :=
  let lacks := s.txUp p && s.get (Obj.outState p) == 0 && !(s.turns p).isEmpty && !s.hasCredit p
  modPort p (fun q => { q with starved := if lacks then q.starved + 1 else 0,
                               linger := if s.get (Obj.outState p) = 1 then q.linger - 1 else q.linger }) s

/-- The elastic buffer of a receive direction lies off its centre by a number of words: beyond its depth of 8 it overflows, and else it is
re-centred by deleting idle words, or repeating them with their credit content. A boundary counts once in `ELASTIC_ADJ_CNT`, however many words it
takes, which is the model's choice (log entry 102) (R87, R111). -/
def elasticStep (p : Nat) (off : Int) (s : State) : State :=
  let s := modPort p (fun q => { q with fill := off, adjusted := 0 }) s
  if s.rx p ≠ dActive ∨ off = 0 then s
  else if 8 < off.natAbs then rxDown p 3 s
  else modPort p (fun q => { q with adjusted := -off }) (s.bump (Obj.elasticAdjCnt p))

/-- What a port kept of the tick that ends: its own TICK stamp becomes the one that the echo words name (R386). -/
def portClear (p : Nat) (s : State) : State :=
  let s := modPort p (fun q => { q with
    blocks := [], laneSent := [], looped := [], errs := [0, 0, 0, 0, 0], lastStamp := q.stamp, stamp := none, farTick := none }) s
  modCal p (fun c => { c with ref := none, heads := [] }) s

/-- A port at a boundary: directions that go Active, its lane set, taps, spare and sleep (R68 step 7, R88, R97, R99, R107). Taps of a transmitter
in training wait for its next training frame (R96). -/
def portBoundary (p : Nat) (off : Int) (us : Nat) (s : State) : State :=
  let s := outputBoundary p (elasticStep p off (portClear p s))
  let s := txSetApply p (portActivate p us s)
  let s := if s.tx p = dPilot ∨ s.tx p = dBit then s else tapsApply p s
  sendHarbour p (portEbbStep p (spareEbbStep p (lanemapRepeat p s)))

/-- The three ports, and what one tick has relayed (R113). -/
def portsBoundary (e : TickEnv) (s : State) : State :=
  [0, 1, 2].foldl (fun s p => portBoundary p (e.elastic.getD p 0) (e.bringup.getD p 0).toNat s) (modRing (fun r => { r with relayed := [] }) s)

/-- The doorbell maps of the tick (R51): the own bit ORed with the map that came in on the other ring port in the tick before. -/
def bellStep (s : State) : State :=
  let own := if s.bell ∧ s.nodeNumber ≠ 0 then 2 ^ s.nodeNumber else 0
  modTide (fun d => { d with bellOut := [own ||| d.bellIn.getD 1 0, own ||| d.bellIn.getD 0 0], bellIn := [0, 0] }) s

/-- A bay is leaked (R189): its OWNER is reserved, its SERIAL lies outside its list, or its number outside its resequencer's window. A bay that its
resequencer has released has left the window in order, and a bay that no list owns has to be on the free list (log entry 14). -/
def State.leaked (s : State) (b : Nat) : Bool :=
  let t := s.bayTag b
  let l := mapGet BayList.zero s.hold.lists t.owner
  if t.owner = 0 then !s.bayFree b
  else if t.owner < 0x40 then decide (2 < t.owner)
  else if BayTag.arrived t then !t.released && decide (16 ≤ (t.bsn + 256 - mapGet 0 s.hold.expects (BayTag.key t)) % 256)
  else decide ((l.tail + 2 ^ 16 - l.head) % 2 ^ 16 ≤ (t.serial + 2 ^ 16 - l.head) % 2 ^ 16)

/-- A leaked bay goes back to the free list and out of its owner's count; it is written to `LAST_LEAK`, counted and recorded (R190). -/
def returnLeak (b : Nat) (s : State) : State :=
  let t := s.bayTag b
  let s := s.put Obj.lastLeak (s.tide.tick % 2 ^ 16 * 2 ^ 48 + t.owner * 2 ^ 40 + t.serial * 2 ^ 24 + b)
  raise 0x10 0 b ((listBay b s).bump Obj.leakCnt)

/-- One bay of the auditor's walk (R189): retiring and retired bays are exempt. -/
def auditBay (s : State) : State :=
  let b := s.get Obj.auditPos
  let s := s.put Obj.auditPos ((b + 1) % 2048)
  if s.hold.retiring.contains b ∨ s.hold.retired.contains b then s
  else
    let s := readTag b s
    if s.leaked b then returnLeak b s else s

/-- The figures at the end of a pass (R191); the counts of a pass start afresh (R192, R333, R334). -/
def auditEnd (s : State) : State :=
  let owners := s.hold.lists.foldl (fun n e => n + e.2.count) 0
  let out := s.hold.retiring.length + s.hold.retired.length
  let sum := s.freeBays + owners + out
  let s := (s.bump Obj.auditPassCnt).put Obj.auditLastSum (out * 2 ^ 32 + owners * 2 ^ 16 + s.freeBays)
  let s := if sum = 2048 then s else raise 0x14 0 sum (s.bump Obj.auditMismatchCnt)
  let s := modHold (fun h => { h with rowCe := [] }) s
  dropCriterion 4 (modTwin (fun t => { t with fifoUe := 0 })
    { s with fifos := mapValues Fifo.empty (fun x => { x with ce := 0, warned := false }) s.fifos })

/-- The auditor's two bays of a tick (R72, R189). -/
def auditStep (s : State) : State :=
  let s := auditBay (auditBay s)
  if s.get Obj.auditPos = 0 then auditEnd s else s

/-- The last n bays of the free list. -/
def tailBays (n : Nat) (free : List (Nat × Nat)) : List Nat :=
  ((free.reverse.take n).flatMap (fun r => (List.range (Nat.min n r.2)).map (fun i => r.1 + r.2 - 1 - i))).take n

/-- The Hold march of an Anchored chip: two bays at the tail of the free list are written over (R72, R422). -/
def holdMarch (s : State) : State :=
  if s.anchored then
    let l := tailBays 2 s.hold.free
    modHold (fun h => { h with inv := h.inv.filter (fun e => !l.contains (e.1 / 8)) }) s
  else s

/-- What the asymmetry computation must know of the window in progress and of the one before (R151). -/
def windowBoundary (s : State) : State :=
  let bad := !s.ringClosed || s.downDirs != 0
  if s.tide.tick % 64 = 0 then { s with cal := { s.cal with broken := bad, brokenWas := s.cal.broken || bad } }
  else { s with cal := { s.cal with broken := s.cal.broken || bad } }

/-- Criterion 3 of R423: a quay clock that was good is so no longer, on the chip that owns the pins. -/
def clockCriterion (good : Nat) (s : State) : State :=
  let was := if s.node.owns then (s.pins.clkGood ||| good) &&& s.pins.clocks else 0
  let s := { s with pins := { s.pins with clkGood := was } }
  if clearBits was good &&& clearBits 15 s.pins.quayRst = 0 then dropCriterion 3 s else holdCriterion 3 s

/-- Criterion 6 of R423: 16 ticks in a row. -/
def refCriterion (bad : Bool) (s : State) : State :=
  let n := if bad then s.twin.refBad + 1 else 0
  let s := modTwin (fun t => { t with refBad := Nat.min n 16 }) s
  if 16 ≤ n then holdCriterion 6 s else dropCriterion 6 s

/-- Ages of what the twin last sent, and the heartbeats that an Anchored chip misses (R417). -/
def twinAges (s : State) : State :=
  let miss := s.node.mode == .anchored && !s.ownLine && !s.twin.hbNow
  modTwin (fun t => { t with hbAge := capAt 0xFFFF (t.hbAge + 1), healthAge := capAt 0xFFFF (t.healthAge + 1), hbNow := false })
    (if miss then s.bump Obj.hbMissCnt else s)

/-- What the twin is sent in every tick by the owner, and every 16 ticks by an Anchored chip (R416, R418). -/
def twinSend (s : State) : State :=
  let s := modTwin (fun t => { t with sent := [] }) s
  if s.node.owns then sendTwin s.heartbeatWords s
  else if s.anchored ∧ s.tide.tick % 16 = 0 then sendTwin s.healthWords s
  else s

/-- The twin logic at a boundary (R417, R421, R423). -/
def twinBoundary (e : TickEnv) (s : State) : State :=
  let s := (bitsOf 6 e.stFail.toNat).foldl (fun s i => selfTestFail i s) (twinAges s)
  twinSend (refCriterion e.refBad (clockCriterion e.quaysGood.toNat s))

/-- The update at a boundary: the guards, and what a configuration switch or a commit waits for (R428, R543, R544, R550). -/
def updBoundary (e : TickEnv) (s : State) : State :=
  let s := modUpd (fun u => { u with mnv := e.mnv, batt := e.batt }) s
  saveBoundary (cfgWrite (guardBoundary s))

/-- What was sent on Gangplank in the tick is gone, and what waited for a pause is served (R524). -/
def gpBoundary (s : State) : State := gpWaiting { s with dict := { s.dict with replies := [], arps := 0 } }

/-- Steps 1 to 4 of R68; the mode changes that fall due come with step 2. -/
def boundaryFirst (s : State) : State :=
  swapBoundary (cfgApply (tideWrites (modeBoundary (imageTick (tickAdvance (sampleInputs s))))))

/-- The output image at the boundary, which the entries of the tick send (R59). -/
def latchOutputs (s : State) : State := { s with pins := { s.pins with outSent := s.pins.outImg } }

/-- Steps 5 and 6 of R68 for the tick n that ends under a plan. A configuration switch that ends here applies its outputs here (R550). -/
def boundarySecond (e : TickEnv) (p : Option Plan) (n : Nat) (paused : Bool) (s : State) : State :=
  latchOutputs (discardStale (settleTick p n (craneEdge (applyOutputs (e.quaysGood == 15) (if paused then cfgResume s else s)))))

/-- Step 8 of R68: the tide header leaves every port. A walk that it carries is passed on once (R388). -/
def headersLeave (s : State) : State :=
  let s := sendHeader 2 (sendHeader 1 (sendHeader 0 s))
  { s with time := { s.time with walk := none } }

/-- What follows step 6: lanes, time, checks, the twin, saved state, and the tide headers that leave (R68 steps 7 and 8). -/
def boundaryThird (e : TickEnv) (gen code : Nat) (s : State) : State :=
  let s := portsBoundary e (endStreams s)
  let s := windowBoundary (bellStep (timeBoundary code (genCheck gen s)))
  let s := copyBoundary (holdMarch (auditStep s))
  headersLeave (periodStep code (gpBoundary (updBoundary e (twinBoundary e s))))

/-- The effect of `TICK_BOUNDARY` (R68): none while D4 is in reset (R49). -/
def execTickBoundary (env : TickEnv) (s : State) : Host.Outcome State Fault Refusal :=
  .next (
    if s.released 4 then
      boundaryThird env (s.get Obj.tideGenActive) s.tide.code
        (boundarySecond env s.tide.active s.tide.tick (decide (0 < s.tide.pause)) (boundaryFirst s))
    else s)

/-- The tick that a marker carries, taken by a node that is not locked: its numbering and the ring's period (R49). -/
def adoptTick (p tick : Nat) (s : State) : State :=
  let h := s.get (Obj.farHarbour p)
  let old := s.tide.code
  let code := if !s.tide.placed ∧ bit h 28 then fld h 29 2 else old
  periodStep old (planBoundary (modTide (fun d => { d with placed := true, code := code, tick := tick }) s))

/-- A lane of the set without a TICK at a boundary, or with one that its CHECK makes void: at two in a row it fails (R81, R105). -/
def tickMissed (p l : Nat) (s : State) : State :=
  let s := modPort p (fun q => { q with tickMiss := modifyAt q.tickMiss l (· + 1) }) s
  if bit (s.get (Obj.rxSet p)) l ∧ 2 ≤ (s.port p).tickMiss.getD l 0 then laneFail p l 5 s else s

/-- A TICK on lane l, or its want (R76, R81 to R83, R105). -/
def tickLane (p l : Nat) (t : Option W64) (s : State) : State :=
  match t with
  | none => tickMissed p l s
  | some w =>
    if !blockOk w then tickMissed p l (badBlock p s)
    else
      let s := modPort p (fun q => { q with tickMiss := q.tickMiss.set l 0, rxScr := q.rxScr.set l (seedOf l) }) s
      if wfld w 48 3 ≠ l then laneFail p l 6 s else s

/-- The TICK blocks with a good CHECK, by lane. -/
def goodTicks (m : TickMark) : List W64 := (m.ticks.filterMap id).filter blockOk

/-- The ring's tick and the header slots of an Active ring port (R49 to R51, R66). -/
def headerTake (p tick : Nat) (m : TickMark) (s : State) : State :=
  let s := modTide (fun d => { d with gens := d.gens.set p (some (wfld m.ring 0 32)), bellIn := d.bellIn.set p m.bells.toNat }) s
  if s.timeLocked ∨ (s.tide.placed ∧ s.tide.tick = tick) then s else adoptTick p tick s

/-- The stamp of a TICK, corrected for the moves of the stamp lane (R135, R389). -/
def noteStamp (p tick : Nat) (stamp : Int) (s : State) : State :=
  let v := stamp - s.stepUnits p
  modPort p (fun q => { q with farTick := some tick, stamp := some v }) s

/-- A tick marker ordered set on port p: its blocks lane by lane, then the set and the number that they carry (R82). -/
def tickReceive (p : Nat) (m : TickMark) (s : State) : State :=
  let s := (lanesOf p).foldl (fun s l => tickLane p l (m.ticks.getD l none) s) s
  match goodTicks m with
  | [] => s
  | w :: _ =>
    let tick := wfld w 0 48
    let s := match majoritySet ((goodTicks m).map (fun w => wfld w 51 5)) with
      | some set => adoptSet p set tick s
      | none => s
    let s := noteStamp p tick m.stamp s
    if p < 2 ∧ s.rxOpen p then headerTake p tick m s else s

/-- The effect of `TICK_MARKER_RECEIVE` (R49, R51, R66, R82): a receiver with block lock reads TICK blocks. -/
def execTickMarkerReceive (port : Fin 3) (m : TickMark) (s : State) : Host.Outcome State Fault Refusal :=
  .next (
    let p := port.val
    if s.listens p ∧ dBlock ≤ s.rx p ∧ s.rx p ≤ dActive then
      tickReceive p m (returned p (m.ticks.filterMap (fun t => t.map (.ctrl tyTick))) s)
    else s)

end Sys2Proof.Machine
end

