-- ==== Sys2Proof/Machine/Dispatch.lean ====
section
/-! DEFINITION. The effect of each command on everything but the queue: one arm for each constructor of Instr. -/

namespace Sys2Proof.Machine

/-- The effect of a command on everything but the queue. -/
def exec (i : Instr) (s : State) : Host.Outcome State Fault Refusal :=
  match i with
  | .powerOn roleB boot slipLow diode => Sys2Proof.Machine.execPowerOn roleB boot slipLow diode s
  | .resetNAssert roleB boot => Sys2Proof.Machine.execResetNAssert roleB boot s
  | .resetNRelease => Sys2Proof.Machine.execResetNRelease s
  | .watchdogKick r v => Sys2Proof.Machine.execWatchdogKick r v s
  | .wdtPeriodWrite r v => Sys2Proof.Machine.execWdtPeriodWrite r v s
  | .watchdogExpiry => Sys2Proof.Machine.execWatchdogExpiry s
  | .resetCmdWrite r v => Sys2Proof.Machine.execResetCmdWrite r v s
  | .resetCmdAssert => Sys2Proof.Machine.execResetCmdAssert s
  | .criticalStateError unit bay => Sys2Proof.Machine.execCriticalStateError unit bay s
  | .criticalResetTimer => Sys2Proof.Machine.execCriticalResetTimer s
  | .resetAssertionEnd => Sys2Proof.Machine.execResetAssertionEnd s
  | .domainRelease us refEdges => Sys2Proof.Machine.execDomainRelease us refEdges s
  | .domainClockTimeout => Sys2Proof.Machine.execDomainClockTimeout s
  | .optionLoadComplete word => Sys2Proof.Machine.execOptionLoadComplete word s
  | .savedStateLoad => Sys2Proof.Machine.execSavedStateLoad s
  | .berthingComplete lineLow => Sys2Proof.Machine.execBerthingComplete lineLow s
  | .positionBClaimTimeout => Sys2Proof.Machine.execPositionBClaimTimeout s
  | .slipwayKeyWrite r v => Sys2Proof.Machine.execSlipwayKeyWrite r v s
  | .slipwayKeyWindowEnd => Sys2Proof.Machine.execSlipwayKeyWindowEnd s
  | .blockResetWrite r v => Sys2Proof.Machine.execBlockResetWrite r v s
  | .blockQuiesceEnd b forced => Sys2Proof.Machine.execBlockQuiesceEnd b forced s
  | .blockResetRelease b clockGood => Sys2Proof.Machine.execBlockResetRelease b clockGood s
  | .blockClockTimeout b => Sys2Proof.Machine.execBlockClockTimeout b s
  | .blockResetAbort r => Sys2Proof.Machine.execBlockResetAbort r s
  | .vioOutOfRange q => Sys2Proof.Machine.execVioOutOfRange q s
  | .vioRestore q high => Sys2Proof.Machine.execVioRestore q high s
  | .supplyMonitorBad => Sys2Proof.Machine.execSupplyMonitorBad s
  | .supplyMonitorGood => Sys2Proof.Machine.execSupplyMonitorGood s
  | .tapReset => Sys2Proof.Machine.execTapReset s
  | .tapIdcode => Sys2Proof.Machine.execTapIdcode s
  | .tapSamplePreload => Sys2Proof.Machine.execTapSamplePreload s
  | .tapExtest => Sys2Proof.Machine.execTapExtest s
  | .tapClamp => Sys2Proof.Machine.execTapClamp s
  | .tapHighz => Sys2Proof.Machine.execTapHighz s
  | .tapBypass code => Sys2Proof.Machine.execTapBypass code s
  | .tickBoundary env => Sys2Proof.Machine.execTickBoundary env s
  | .scheduledEntryDue entry => Sys2Proof.Machine.execScheduledEntryDue entry s
  | .schedFrameReceive q => Sys2Proof.Machine.execSchedFrameReceive q s
  | .tickMarkerReceive port m => Sys2Proof.Machine.execTickMarkerReceive port m s
  | .tidePlanCommit r => Sys2Proof.Machine.execTidePlanCommit r s
  | .tidePlanCheckComplete => Sys2Proof.Machine.execTidePlanCheckComplete s
  | .objectWrite r idx sub v => Sys2Proof.Machine.execObjectWrite r idx sub v s
  | .detectProbe port present clock => Sys2Proof.Machine.execDetectProbe port present clock s
  | .pilotTimeout port tx => Sys2Proof.Machine.execPilotTimeout port tx s
  | .bitLockCheckComplete port errFree => Sys2Proof.Machine.execBitLockCheckComplete port errFree s
  | .bitLockTimeout port tx => Sys2Proof.Machine.execBitLockTimeout port tx s
  | .blockLockAchieved port => Sys2Proof.Machine.execBlockLockAchieved port s
  | .blockLockTimeout port tx => Sys2Proof.Machine.execBlockLockTimeout port tx s
  | .harbourBlockReceive port h => Sys2Proof.Machine.execHarbourBlockReceive port h s
  | .harbourTimeout port tx => Sys2Proof.Machine.execHarbourTimeout port tx s
  | .bringupTimeout port tx => Sys2Proof.Machine.execBringupTimeout port tx s
  | .trainingMarkReceive port lane f => Sys2Proof.Machine.execTrainingMarkReceive port lane f s
  | .syncError port b => Sys2Proof.Machine.execSyncError port b s
  | .controlBlockCheckFail port => Sys2Proof.Machine.execControlBlockCheckFail port s
  | .clockLaneLoss port => Sys2Proof.Machine.execClockLaneLoss port s
  | .elasticBufferOverflow port => Sys2Proof.Machine.execElasticBufferOverflow port s
  | .spanNoticeReceive port n => Sys2Proof.Machine.execSpanNoticeReceive port n s
  | .returnHoldExpiry port => Sys2Proof.Machine.execReturnHoldExpiry port s
  | .laneFail port lane cause => Sys2Proof.Machine.execLaneFail port lane cause s
  | .lanemapReceive port m ready => Sys2Proof.Machine.execLanemapReceive port m ready s
  | .ebbBlockReceive port m => Sys2Proof.Machine.execEbbBlockReceive port m s
  | .mooringNoReceiverTimeout => Sys2Proof.Machine.execMooringNoReceiverTimeout s
  | .ebbExitLockResult port lane locked => Sys2Proof.Machine.execEbbExitLockResult port lane locked s
  | .loopModeWrite r port v => Sys2Proof.Machine.execLoopModeWrite r port v s
  | .loopRequestReceive port m => Sys2Proof.Machine.execLoopRequestReceive port m s
  | .farLoopTickTimeout port => Sys2Proof.Machine.execFarLoopTickTimeout port s
  | .prbsGenerateSet r port v => Sys2Proof.Machine.execPrbsGenerateSet r port v s
  | .prbsCheckSet r port v => Sys2Proof.Machine.execPrbsCheckSet r port v s
  | .prbsCountersClear r port v => Sys2Proof.Machine.execPrbsCountersClear r port v s
  | .laneRetrain r port lane => Sys2Proof.Machine.execLaneRetrain r port lane s
  | .laneRetrainComplete port lane passed => Sys2Proof.Machine.execLaneRetrainComplete port lane passed s
  | .portRetrain r port => Sys2Proof.Machine.execPortRetrain r port s
  | .surveyNoticeSend => Sys2Proof.Machine.execSurveyNoticeSend s
  | .surveyNoticeReceive => Sys2Proof.Machine.execSurveyNoticeReceive s
  | .surveyNodeExpiry node => Sys2Proof.Machine.execSurveyNodeExpiry node s
  | .axisScanComplete port lane mid left right down up => Sys2Proof.Machine.execAxisScanComplete port lane mid left right down up s
  | .eyeMapComplete port lane points => Sys2Proof.Machine.execEyeMapComplete port lane points s
  | .dfeUpdate port lane up down => Sys2Proof.Machine.execDfeUpdate port lane up down s
  | .slackWaterStart port txOff => Sys2Proof.Machine.execSlackWaterStart port txOff s
  | .slackWaterReceive port idles taps steps calRef calRep => Sys2Proof.Machine.execSlackWaterReceive port idles taps steps calRef calRep s
  | .trialAnswerTimeout port lane => Sys2Proof.Machine.execTrialAnswerTimeout port lane s
  | .asymWindowEnd port => Sys2Proof.Machine.execAsymWindowEnd port s
  | .asymSurveySend => Sys2Proof.Machine.execAsymSurveySend s
  | .asymSurveyReceive => Sys2Proof.Machine.execAsymSurveyReceive s
  | .asymCompute => Sys2Proof.Machine.execAsymCompute s
  | .ringFrameReceive port f => Sys2Proof.Machine.execRingFrameReceive port f s
  | .orphanWordDrop port w => Sys2Proof.Machine.execOrphanWordDrop port w s
  | .outputFrameStart out asyncRegion room => Sys2Proof.Machine.execOutputFrameStart out asyncRegion room s
  | .creditWordReceive port w => Sys2Proof.Machine.execCreditWordReceive port w s
  | .creditWordInsert port => Sys2Proof.Machine.execCreditWordInsert port s
  | .outputStall port => Sys2Proof.Machine.execOutputStall port s
  | .lingerExpiry port => Sys2Proof.Machine.execLingerExpiry port s
  | .sharedPeakRead r => Sys2Proof.Machine.execSharedPeakRead r s
  | .reseqPeakRead r port => Sys2Proof.Machine.execReseqPeakRead r port s
  | .postedWriteIssue addr words ack => Sys2Proof.Machine.execPostedWriteIssue addr words ack s
  | .postedWriteReceive q => Sys2Proof.Machine.execPostedWriteReceive q s
  | .postedWriteResume q => Sys2Proof.Machine.execPostedWriteResume q s
  | .targetWaitExpiry q => Sys2Proof.Machine.execTargetWaitExpiry q s
  | .requestIssue op size count addr words => Sys2Proof.Machine.execRequestIssue op size count addr words s
  | .tagWaitResume => Sys2Proof.Machine.execTagWaitResume s
  | .readRequestReceive q => Sys2Proof.Machine.execReadRequestReceive q s
  | .writeRequestReceive q => Sys2Proof.Machine.execWriteRequestReceive q s
  | .badOpRequest q => Sys2Proof.Machine.execBadOpRequest q s
  | .readResponseReceive => Sys2Proof.Machine.execReadResponseReceive s
  | .writeResponseReceive => Sys2Proof.Machine.execWriteResponseReceive s
  | .readTimeout tag => Sys2Proof.Machine.execReadTimeout tag s
  | .tagReissueHoldEnd tag => Sys2Proof.Machine.execTagReissueHoldEnd tag s
  | .responseRoomWaitEnd => Sys2Proof.Machine.execResponseRoomWaitEnd s
  | .transferAbort => Sys2Proof.Machine.execTransferAbort s
  | .prefetchReadAhead => Sys2Proof.Machine.execPrefetchReadAhead s
  | .prefetchHoldExpiry => Sys2Proof.Machine.execPrefetchHoldExpiry s
  | .popWindowRead f n => Sys2Proof.Machine.execPopWindowRead f n s
  | .userWindowRead g w => Sys2Proof.Machine.execUserWindowRead g w s
  | .userWindowWrite g w v => Sys2Proof.Machine.execUserWindowWrite g w v s
  | .workTimeWindowRead second => Sys2Proof.Machine.execWorkTimeWindowRead second s
  | .manifestCommit r => Sys2Proof.Machine.execManifestCommit r s
  | .manifestCommitComplete => Sys2Proof.Machine.execManifestCommitComplete s
  | .craneWait g => Sys2Proof.Machine.execCraneWait g s
  | .waitWake g edge toff => Sys2Proof.Machine.execWaitWake g edge toff s
  | .craneShin g => Sys2Proof.Machine.execCraneShin g s
  | .craneShout g => Sys2Proof.Machine.execCraneShout g s
  | .shiftEnd g periods lead samples => Sys2Proof.Machine.execShiftEnd g periods lead samples s
  | .cranePush g => Sys2Proof.Machine.execCranePush g s
  | .pushRoomWake g => Sys2Proof.Machine.execPushRoomWake g s
  | .cranePull g => Sys2Proof.Machine.execCranePull g s
  | .pullWordWake g => Sys2Proof.Machine.execPullWordWake g s
  | .craneSet g => Sys2Proof.Machine.execCraneSet g s
  | .craneMov g toff => Sys2Proof.Machine.execCraneMov g toff s
  | .craneJmp g => Sys2Proof.Machine.execCraneJmp g s
  | .craneLoop g => Sys2Proof.Machine.execCraneLoop g s
  | .sigFlagSet g => Sys2Proof.Machine.execSigFlagSet g s
  | .sigFlagClear g setToo => Sys2Proof.Machine.execSigFlagClear g setToo s
  | .sigIrq g => Sys2Proof.Machine.execSigIrq g s
  | .sigNote g => Sys2Proof.Machine.execSigNote g s
  | .craneStamp g => Sys2Proof.Machine.execCraneStamp g s
  | .craneSync g => Sys2Proof.Machine.execCraneSync g s
  | .syncRelease gang => Sys2Proof.Machine.execSyncRelease gang s
  | .craneChk g busy => Sys2Proof.Machine.execCraneChk g busy s
  | .chkUnitWake g => Sys2Proof.Machine.execChkUnitWake g s
  | .instructionDelayEnd g => Sys2Proof.Machine.execInstructionDelayEnd g s
  | .tallyFetchError g upset => Sys2Proof.Machine.execTallyFetchError g upset s
  | .craneHalt r g => Sys2Proof.Machine.execCraneHalt r g s
  | .craneRestart r g => Sys2Proof.Machine.execCraneRestart r g s
  | .craneStart r g => Sys2Proof.Machine.execCraneStart r g s
  | .gangStart r mask => Sys2Proof.Machine.execGangStart r mask s
  | .gangHalt r mask => Sys2Proof.Machine.execGangHalt r mask s
  | .clockRestart r mask => Sys2Proof.Machine.execClockRestart r mask s
  | .quayCommit r q => Sys2Proof.Machine.execQuayCommit r q s
  | .quayFlagsWrite r q v => Sys2Proof.Machine.execQuayFlagsWrite r q v s
  | .quayIrqClear r q v => Sys2Proof.Machine.execQuayIrqClear r q v s
  | .tallyLoad r v => Sys2Proof.Machine.execTallyLoad r v s
  | .tallyReadDataRead r => Sys2Proof.Machine.execTallyReadDataRead r s
  | .stageLoad r v => Sys2Proof.Machine.execStageLoad r v s
  | .swapArm r => Sys2Proof.Machine.execSwapArm r s
  | .swapCancel r => Sys2Proof.Machine.execSwapCancel r s
  | .swapCopyComplete => Sys2Proof.Machine.execSwapCopyComplete s
  | .scrubRead upset => Sys2Proof.Machine.execScrubRead upset s
  | .fifoParityError f => Sys2Proof.Machine.execFifoParityError f s
  | .fifoFlush r g v => Sys2Proof.Machine.execFifoFlush r g v s
  | .noticePendClear r g v => Sys2Proof.Machine.execNoticePendClear r g v s
  | .checkFeed u width data poisoned busy => Sys2Proof.Machine.execCheckFeed u width data poisoned busy s
  | .checkAccessWaitEnd u => Sys2Proof.Machine.execCheckAccessWaitEnd u s
  | .checkResultWrite u v => Sys2Proof.Machine.execCheckResultWrite u v s
  | .checkUnitInit u => Sys2Proof.Machine.execCheckUnitInit u s
  | .checkPolyChange u poly => Sys2Proof.Machine.execCheckPolyChange u poly s
  | .checkParityError u => Sys2Proof.Machine.execCheckParityError u s
  | .canFrameReceive k f sof => Sys2Proof.Machine.execCanFrameReceive k f sof s
  | .canRxError k kind pos heavy => Sys2Proof.Machine.execCanRxError k kind pos heavy s
  | .canTxChoose k => Sys2Proof.Machine.execCanTxChoose k s
  | .canArbLost k => Sys2Proof.Machine.execCanArbLost k s
  | .canTxComplete k tdc sof => Sys2Proof.Machine.execCanTxComplete k tdc sof s
  | .canTxError k kind pos past counts => Sys2Proof.Machine.execCanTxError k kind pos past counts s
  | .canRecover r k => Sys2Proof.Machine.execCanRecover r k s
  | .canRecoveryComplete k => Sys2Proof.Machine.execCanRecoveryComplete k s
  | .canBufferTransmit k b retry => Sys2Proof.Machine.execCanBufferTransmit k b retry s
  | .canBufferAbort k b => Sys2Proof.Machine.execCanBufferAbort k b s
  | .canBufferRelease k b => Sys2Proof.Machine.execCanBufferRelease k b s
  | .canGwQueueEmpty r k => Sys2Proof.Machine.execCanGwQueueEmpty r k s
  | .canRxQueueEmpty r k => Sys2Proof.Machine.execCanRxQueueEmpty r k s
  | .canCommit r k => Sys2Proof.Machine.execCanCommit r k s
  | .canConfigApply k => Sys2Proof.Machine.execCanConfigApply k s
  | .canIrqClear r k v => Sys2Proof.Machine.execCanIrqClear r k v s
  | .canBusJoin k => Sys2Proof.Machine.execCanBusJoin k s
  | .timeWordsReceive port fields rest check => Sys2Proof.Machine.execTimeWordsReceive port fields rest check s
  | .echoWordsReceive port fields walk rest check => Sys2Proof.Machine.execEchoWordsReceive port fields walk rest check s
  | .ppsEdge off => Sys2Proof.Machine.execPpsEdge off s
  | .ppsMissTimeout => Sys2Proof.Machine.execPpsMissTimeout s
  | .timeSetWrite r v => Sys2Proof.Machine.execTimeSetWrite r v s
  | .domainSwitchWrite r v => Sys2Proof.Machine.execDomainSwitchWrite r v s
  | .pinEdge pin level ns fine => Sys2Proof.Machine.execPinEdge pin level ns fine s
  | .pulseArm r n v ns => Sys2Proof.Machine.execPulseArm r n v ns s
  | .pulseStop r n v => Sys2Proof.Machine.execPulseStop r n v s
  | .pulseEdge n => Sys2Proof.Machine.execPulseEdge n s
  | .pulseTargetRelease r n target => Sys2Proof.Machine.execPulseTargetRelease r n target s
  | .heartbeatReceive f => Sys2Proof.Machine.execHeartbeatReceive f s
  | .healthReportReceive f => Sys2Proof.Machine.execHealthReportReceive f s
  | .twinFrameDrop f => Sys2Proof.Machine.execTwinFrameDrop f s
  | .selftestCycleEnd => Sys2Proof.Machine.execSelftestCycleEnd s
  | .giveUp => Sys2Proof.Machine.execGiveUp s
  | .handover r => Sys2Proof.Machine.execHandover r s
  | .handoverAbort r => Sys2Proof.Machine.execHandoverAbort r s
  | .stateSave r => Sys2Proof.Machine.execStateSave r s
  | .savedStateWriteComplete verified => Sys2Proof.Machine.execSavedStateWriteComplete verified s
  | .stateCopyReceive f verified => Sys2Proof.Machine.execStateCopyReceive f verified s
  | .copyAckReceive f => Sys2Proof.Machine.execCopyAckReceive f s
  | .copyRetryTimer => Sys2Proof.Machine.execCopyRetryTimer s
  | .takeoverStart => Sys2Proof.Machine.execTakeoverStart s
  | .pickupSample levels => Sys2Proof.Machine.execPickupSample levels s
  | .ownershipClaim lineLow => Sys2Proof.Machine.execOwnershipClaim lineLow s
  | .keeperRelease => Sys2Proof.Machine.execKeeperRelease s
  | .claimWaitExpiry => Sys2Proof.Machine.execClaimWaitExpiry s
  | .faultEvent e => Sys2Proof.Machine.execFaultEvent e s
  | .recordStoreParity place => Sys2Proof.Machine.execRecordStoreParity place s
  | .faultListRead r => Sys2Proof.Machine.execFaultListRead r s
  | .faultClearOne r seq reps => Sys2Proof.Machine.execFaultClearOne r seq reps s
  | .faultClearCorrected r => Sys2Proof.Machine.execFaultClearCorrected r s
  | .faultClearContained r => Sys2Proof.Machine.execFaultClearContained r s
  | .faultInjectRecord r src inst arg => Sys2Proof.Machine.execFaultInjectRecord r src inst arg s
  | .faultInjectSingleBit r src inst bit arg => Sys2Proof.Machine.execFaultInjectSingleBit r src inst bit arg s
  | .faultInjectDoubleBit r src inst bit arg => Sys2Proof.Machine.execFaultInjectDoubleBit r src inst bit arg s
  | .gwSample vin vout vgs vsns => Sys2Proof.Machine.execGwSample vin vout vgs vsns s
  | .gwEnHigh => Sys2Proof.Machine.execGwEnHigh s
  | .gwEnLowDrop => Sys2Proof.Machine.execGwEnLowDrop s
  | .gwInsertDelayEnd => Sys2Proof.Machine.execGwInsertDelayEnd s
  | .gwFastTrip vsns => Sys2Proof.Machine.execGwFastTrip vsns s
  | .gwRampTimeout => Sys2Proof.Machine.execGwRampTimeout s
  | .gwFaultTimerExpiry => Sys2Proof.Machine.execGwFaultTimerExpiry s
  | .gwDiodeReading t => Sys2Proof.Machine.execGwDiodeReading t s
  | .gwCooldownEnd => Sys2Proof.Machine.execGwCooldownEnd s
  | .gwPowerGood => Sys2Proof.Machine.execGwPowerGood s
  | .gwUndervoltageDrop => Sys2Proof.Machine.execGwUndervoltageDrop s
  | .gwOvervoltageDrop => Sys2Proof.Machine.execGwOvervoltageDrop s
  | .gwPeakTRead r => Sys2Proof.Machine.execGwPeakTRead r s
  | .segRead r idx sub offset count => Sys2Proof.Machine.execSegRead r idx sub offset count s
  | .segWrite r idx sub total offset v => Sys2Proof.Machine.execSegWrite r idx sub total offset v s
  | .segAbort r idx sub => Sys2Proof.Machine.execSegAbort r idx sub s
  | .objInfo r idx sub => Sys2Proof.Machine.execObjInfo r idx sub s
  | .segTimeoutExpiry r idx sub => Sys2Proof.Machine.execSegTimeoutExpiry r idx sub s
  | .gangplankDatagram d => Sys2Proof.Machine.execGangplankDatagram d s
  | .arpRequest target => Sys2Proof.Machine.execArpRequest target s
  | .lockOpen r key => Sys2Proof.Machine.execLockOpen r key s
  | .lockClose r => Sys2Proof.Machine.execLockClose r s
  | .lockTimeoutExpiry => Sys2Proof.Machine.execLockTimeoutExpiry s
  | .lockLockoutEnd => Sys2Proof.Machine.execLockLockoutEnd s
  | .updOpen r => Sys2Proof.Machine.execUpdOpen r s
  | .updOpenResume r => Sys2Proof.Machine.execUpdOpenResume r s
  | .updEraseComplete => Sys2Proof.Machine.execUpdEraseComplete s
  | .updChunkWrite r v => Sys2Proof.Machine.execUpdChunkWrite r v s
  | .updVerify r => Sys2Proof.Machine.execUpdVerify r s
  | .updVerifyComplete => Sys2Proof.Machine.execUpdVerifyComplete s
  | .updActivate r => Sys2Proof.Machine.execUpdActivate r s
  | .activateRecordVerified => Sys2Proof.Machine.execActivateRecordVerified s
  | .activateLoadComplete => Sys2Proof.Machine.execActivateLoadComplete s
  | .updConfirm r => Sys2Proof.Machine.execUpdConfirm r s
  | .updClose r => Sys2Proof.Machine.execUpdClose r s
  | .updAbort r => Sys2Proof.Machine.execUpdAbort r s
  | .updTrialExpiry => Sys2Proof.Machine.execUpdTrialExpiry s
  | .relayOpen => Sys2Proof.Machine.execRelayOpen s
  | .relayBlock => Sys2Proof.Machine.execRelayBlock s
  | .relayVerify => Sys2Proof.Machine.execRelayVerify s
  | .relayActivate => Sys2Proof.Machine.execRelayActivate s
  | .relayConfirm => Sys2Proof.Machine.execRelayConfirm s
  | .relayClose => Sys2Proof.Machine.execRelayClose s
  | .relayFrameDrop => Sys2Proof.Machine.execRelayFrameDrop s
  | .vaonInvalid => Sys2Proof.Machine.execVaonInvalid s
  | .dieTempUpdate t => Sys2Proof.Machine.execDieTempUpdate t s

end Sys2Proof.Machine
end

