-- ==== Sys2Proof/Safety.lean ====
section
/-! DEFINITION. What a safe run is: no step of it ends in a fault or a refusal; and the form of the state that every command keeps. -/

namespace Sys2Proof

/-- The outcome of a step is a next state. -/
def isNext {α β γ : Type} : Host.Outcome α β γ → Bool
  | .next _ => true
  | _ => false

/-- n steps from a state all answer a next state. -/
def safeFor (n : Nat) (s : Machine.State) : Bool := isNext (core.run n s)

namespace Machine

/-- Modes in which a chip may own the field pins (R31). -/
def Mode.mayOwn : Mode → Bool
  | .working | .reduced | .dryDock | .slipway => true
  | _ => false

/-- The record store keeps at most one record a place, of 64 (R475). -/
def recsWf (l : List FaultRec) : Prop := (l.map (·.place)).Nodup ∧ ∀ r ∈ l, r.place < 64

/-- The form that every command keeps: the queue is q; the stores are in their canonical form; a place of the record store holds at most one
record; there are four check units; a chip that owns the field pins claims `TWIN_OWN_N`, and is in a mode, or in Dry dock from a mode, in which
it may own them (R31, R413, R475). -/
structure State.Wf (q : List Instr) (s : State) : Prop where
  queue : s.pending = q
  objs : keysFrom 0 s.objs
  blobs : keysFrom 0 s.blobs
  cranes : mapWf Crane.zero s.cranes
  fifos : mapWf Fifo.empty s.fifos
  users : mapWf 0 s.users
  words : mapWf 0 s.tally.words
  stage : mapWf 0 s.tally.stage
  recs : recsWf s.faults.recs
  chk : s.chk.length = 4
  claims : s.node.owns → s.node.claim
  owner : s.node.owns → s.node.mode.mayOwn
  origin : s.node.owns → s.node.mode = .dryDock → s.node.origin.mayOwn

/-- What a reset asserted leaves (R40, R448, R454, R456): D1 to D7 in reset and at their reset values, the field pins not owned, the mode by the
kind of reset; D0, the flash, the outside and the queue as they were. `c` says whether the reset in progress is cold, `keep` whether the claim of
`TWIN_OWN_N` is kept. -/
structure ResetTaken (src : Nat) (cold c keep : Bool) (s t : State) : Prop where
  asserted : t.rst.asserted
  coldNow : t.rst.cold = c
  domains : t.rst.doms = [.released, .inReset, .inReset, .inReset, .inReset, .inReset, .inReset, .inReset]
  history : t.rst.history = (histEntry s.tide.tick cold 0xF src :: s.rst.history).take 8
  mode : t.node.mode = if c then .approach else .berthing
  owns : t.node.owns = false
  claim : t.node.claim = keep
  unnumbered : t.node.pair = 0
  pads : c → t.pins.drive = 0 ∧ t.pins.keep = 0 ∧ t.pins.inBuf = 0
  cleared : t.blobs = [] ∧ t.staged = [] ∧ t.cranes = [] ∧ t.fifos = [] ∧ t.users = [] ∧ t.chk = chkReset ∧ t.tally = tallyReset ∧
    t.quay = quayReset ∧ t.twin = twinReset ∧ t.dict = dictReset ∧ t.ring = ringReset ∧ t.hold = holdReset ∧ t.bridge = bridgeReset ∧
    t.man = manReset ∧ t.can = canReset ∧ t.cal = calReset ∧ t.time = timeReset
  faults : t.faults = { faultReset with cause := s.faults.cause }
  tide : t.tide = { tideReset with clock := s.tide.clock }
  kept : t.flash = s.flash ∧ t.gw = s.gw ∧ t.tap = s.tap ∧ t.freeCount = s.freeCount ∧ t.pending = s.pending
  objects : ∀ o : Obj, !keptKey o.key → t.get o = o.dflt

/-- The dictionary serves a requester and takes the bytes bs for an object: it is present, served in this mode, writable by the requester, not
busy, and the bytes are a value of it (R17, R511, R524, R526, R528, R532). -/
structure Taken (r : Req) (o : Obj) (bs : List Byte) (s : State) : Prop where
  served : s.serveCode o.idx o.sub = ecOk
  present : s.findObj o.idx o.sub = some o
  gate : s.gateCode r o bs = ecOk
  value : s.valueOk o bs

/-- A requester may write the value v to a scalar object. -/
def TakenVal (r : Req) (o : Obj) (v : Nat) (s : State) : Prop := Taken r o (bytesOf o.ty.size v) s

/-- A requester may read an object. -/
structure Readable (o : Obj) (s : State) : Prop where
  served : s.serveCode o.idx o.sub = ecOk
  present : s.findObj o.idx o.sub = some o
  mode : s.modeCode o = ecOk
  right : o.acc ≠ .wo

/-- The state after an accepted write of an object whose effect left t: `LOCK_TIMEOUT` restarted for an object of the owner lock, the request
counted, OK answered. -/
def accepted (r : Req) (o : Obj) (t : State) : State := shown ⟨settle r o.idx o.sub ecOk (lockRestart o t), ecOk, false, []⟩

/-- The state after a served read that returned bs and left t. -/
def answered (r : Req) (o : Obj) (bs : List Byte) (t : State) : State := shown ⟨settle r o.idx o.sub ecOk t, ecOk, true, bs⟩

/-- The event of a source and an instance has an open record. -/
def State.openRec (s : State) (src inst : Nat) : Bool := s.faults.recs.any (fun r => r.src == src && r.inst == inst % 256)

/-- The state after a write of an object that was refused with a code, having left t. -/
def refusedWith (r : Req) (o : Obj) (code : Nat) (t : State) : State := shown ⟨settle r o.idx o.sub code t, code, false, []⟩

/-- The Gangway turned its gate off for a cause (R495, R500, R503, R506): the state it went to, the last event recorded, and with `GW_PG` high the
supplies of D1 to D7 gone; otherwise nothing else changed but the counter o. -/
structure GateOff (cause : Nat) (to_ : GwSt) (o : Obj) (s t : State) : Prop where
  state : t.gw.st = to_
  cleared : t.gw.timer = 0 ∧ t.gw.clean = 0 ∧ t.gw.under = 0 ∧ t.gw.above = 0 ∧ t.gw.delayDone = false ∧ t.gw.limiting = false
  event : t.get Obj.gwLastEvent = (capAt 0xFFFF (s.gw.cur / 10) * 2 ^ 16 + s.gw.st.code * 2 ^ 8 + cause) % 2 ^ 32
  counted : t.get o = (s.get o + 1) % 2 ^ 32
  power : s.gw.st = .good → s.node.mode ≠ .approach → t.node.mode = .approach ∧ t.rst.reinsert ∧ t.rst.asserted ∧ t.node.claim = false ∧ t.pins.drive = 0
  frame : s.gw.st ≠ .good → { t with gw := s.gw, objs := s.objs } = s ∧
    ∀ p : Obj, p.key ≠ o.key → p.key ≠ Obj.gwLastEvent.key → t.get p = s.get p
  kept : t.flash = s.flash ∧ t.gw.dt1 = s.gw.dt1 ∧ t.gw.dt2 = s.gw.dt2 ∧ t.pending = s.pending

/-- Crane g stands before the instruction word w, inside its range, with no stored bit inverted, and w meets no fault (R256, R291, R312). -/
structure Fetches (g w : Nat) (s : State) : Prop where
  ready : s.atInstr g
  inRange : (s.crane g).pc < s.get (Obj.tallyLen g)
  word : s.tallyWord (s.get (Obj.tallyBase g) + (s.crane g).pc) = w
  clean : popCount 24 (s.tallyInv (s.get (Obj.tallyBase g) + (s.crane g).pc)) = 0
  legal : s.insCause g w = none

/-- Crane g with its instruction w ended: Running, PC at the target, or at the next word or `WRAP`, its delay begun (R257, R273). -/
def State.ended (s : State) (g w : Nat) (target : Option Nat) : Crane :=
  { s.crane g with st := .running, pc := s.nextPc g target, phase := if s.delayOf g w = 0 then .ready else .delay (s.delayOf g w) }

/-- Crane g became c; the other cranes, and everything but the field pins' levels and directions, are as they were. -/
structure Stepped (g : Nat) (c : Crane) (s t : State) : Prop where
  crane : t.crane g = c
  others : ∀ k, k ≠ g → t.crane k = s.crane k
  frame : { t with cranes := s.cranes, pins := s.pins } = s


end Machine

end Sys2Proof
end

