-- ==== Sys2Proof/Certificates/Slice0/Obligations.lean ====
section
/-! DEFINITION. The statements for the provers. -/

section

open Sys2Proof Sys2Proof.Machine

/-- A step with the command c at the front of the queue is `exec` of c on the state with the rest of the queue. A step on an empty queue answers a
next state: one training frame leaves each port that trains, and where no port trains the state stays as it is (the model's choice, log entries 10
and 105). -/
def Obligations.StepRunsFront : Prop :=
  (∀ (c : Instr) (q : List Instr) (s : State), step { s with pending := c :: q } = exec c { s with pending := q }) ∧
  (∀ s : State, s.pending = [] → step s = .next (trainPorts s)) ∧
  (∀ s : State, s.pending = [] → (∀ p, p < 3 → s.trainLanes p = 0) → step s = .next s)

/-- The state at reset: Approach with reset asserted, D0 released and D1 to D7 in reset; no field pin owned, driven, kept or read, `TWIN_OWN_N` not
claimed; node number 0; no fault record, no frame in the Hold, no request waiting, no lock holder, no transfer context and no command waiting; every
crane and FIFO empty; every object at its default, eight of which are written out. (The defaults of objects without a reset column, and of state
that is no object, are the model's choice, log entries 4 to 6.) -/
def Obligations.ResetValues : Prop :=
  let s := State.reset
  s.node.mode = .approach ∧ s.rst.asserted ∧
  s.rst.doms = [.released, .inReset, .inReset, .inReset, .inReset, .inReset, .inReset, .inReset] ∧
  s.node.owns = false ∧ s.node.claim = false ∧ s.nodeNumber = 0 ∧ s.pins.drive = 0 ∧ s.pins.keep = 0 ∧ s.pins.inBuf = 0 ∧
  s.faults.recs = [] ∧ s.faults.seq = 0 ∧ s.hold.jobs = [] ∧ s.bridge.reqWait = [] ∧ s.dict.holder = none ∧ s.dict.ctxs = [] ∧ s.pending = [] ∧
  (∀ g, s.crane g = Crane.zero) ∧ (∀ f, s.fifo f = Fifo.empty) ∧ (∀ o, s.get o = o.dflt) ∧
  (∀ e ∈ [(Obj.wdtPeriod, 1000), (Obj.resetCause, 0x8001), (Obj.lingerTicks, 2), (Obj.stallTicks, 32), (Obj.outShareMax, 256), (Obj.readTimeout, 8),
      (Obj.targetWait, 1), (Obj.segTimeout, 100)],
    s.get e.1 = e.2)

/-- The state after reset has the form that every step keeps (`State.Wf`). -/
def Obligations.ResetKeepsForm : Prop := State.reset.Wf []

/-- Every step keeps the form of the state (`State.Wf`), from every state of that form: the stores stay canonical, a place of the record store holds
at most one record, there are four check units, a chip that owns the field pins claims `TWIN_OWN_N` and is in a mode that may own them; and the queue
after the step is the queue without its first command. -/
def Obligations.StepKeepsForm : Prop :=
  ∀ (s t : State), s.Wf s.pending → step s = .next t → t.Wf s.pending.tail

/-- Every command completes in every state: `exec` answers a next state, and so do any number of steps from any state (`safeFor`): none ends in a
fault or a refusal. -/
def Obligations.EveryCommandCompletes : Prop :=
  (∀ (c : Instr) (s : State), ∃ t, exec c s = .next t) ∧ (∀ (n : Nat) (s : State), safeFor n s)

/-- `RESET_N_ASSERT` (source 3, warm with option bit 0, else cold), `WATCHDOG_EXPIRY` (4), `RESET_CMD_ASSERT` (the source of the accepted command)
and `CRITICAL_RESET_TIMER` (8), these three warm, each under its condition, answer a next state that a reset of their source leaves (`ResetTaken`):
reset asserted, D1 to D7 in reset and at their reset values, the entry of the history, mode Approach where the reset in progress is cold and Berthing
where it is warm, no field pin owned, `TWIN_OWN_N` claimed only where a warm reset keeps the claim, the pads off in a cold one, and flash, Gangway,
test port, tick clock and queue as they were. A reset over another one in progress is cold when either is. -/
def Obligations.ResetSources : Prop :=
  ∀ (q : List Instr) (s : State), s.Wf q →
    let both := fun cold => if s.resetting && s.rst.source != 0 then s.rst.cold || cold else cold
    let taken := fun src cold t => ResetTaken src cold (both cold) (s.keepsClaim && !both cold) s t
    (∀ roleB boot, s.rst.vaon → !s.rst.pinLow →
      ∃ t, exec (.resetNAssert roleB boot) s = .next t ∧ taken 3 (!s.rst.opts.testBit 0) t ∧ t.rst.pinLow ∧ t.rst.strapRole = roleB ∧
        t.rst.strapBoot = boot.toNat) ∧
    (s.rst.wdt → ∃ t, exec .watchdogExpiry s = .next t ∧ taken 4 false t) ∧
    (∀ src, s.rst.cmd = some src → ∃ t, exec .resetCmdAssert s = .next t ∧ taken src false t) ∧
    (s.rst.crit = .running → ∃ t, exec .criticalResetTimer s = .next t ∧ taken 8 false t)

/-- `POWER_ON` and `VAON_INVALID` answer a next state in Approach with reset asserted and D1 to D7 in reset, no field pin owned, driven, kept or read,
`TWIN_OWN_N` not claimed, no crane and no FIFO in use, the fault collector, dictionary, Hold and Tally at their reset values, the test port at IDCODE, and the
flash, the levels of the field lines and the queue as they were. After `POWER_ON` the Gangway is at its value after power-on, `SLIPWAY_N` as the board has it,
`VAON` valid, the reset cold and of source 1, the history empty, `POR_CNT` 1, `RESET_CAUSE` 0x8001, every other object at its default. After `VAON_INVALID`,
`VAON` is not valid, the Gangway at its value after power-on and every object at its default. -/
def Obligations.PowerOnAndOff : Prop :=
  ∀ (s : State) (roleB : Bool) (boot : BitVec 2) (slipLow diode : Bool),
    let cold := fun t : State => t.node.mode = .approach ∧ t.node.owns = false ∧ t.node.claim = false ∧ t.rst.asserted ∧
      t.rst.doms = [.released, .inReset, .inReset, .inReset, .inReset, .inReset, .inReset, .inReset] ∧
      t.pins.drive = 0 ∧ t.pins.keep = 0 ∧ t.pins.inBuf = 0 ∧ t.cranes = [] ∧ t.fifos = [] ∧ t.faults = faultReset ∧ t.dict = dictReset ∧
      t.hold = holdReset ∧ t.tally = tallyReset ∧ t.flash = s.flash ∧ t.pins.line = s.pins.line ∧ t.pending = s.pending ∧
      t.tap = ⟨.idcode, .idcode, false, false⟩
    (∃ t, exec (.powerOn roleB boot slipLow diode) s = .next t ∧ cold t ∧ t.gw = gwPowerOn diode ∧ t.node.slipLow = slipLow ∧ t.rst.vaon ∧
      t.rst.strapRole = roleB ∧ t.rst.strapBoot = boot.toNat ∧
      t.rst.cold ∧ t.rst.source = 1 ∧ t.rst.history = List.replicate 8 0 ∧ t.get Obj.porCnt = 1 ∧
      t.get Obj.resetCause = 0x8001 ∧
      ∀ o : Obj, o.key ≠ Obj.porCnt.key → o.key ≠ Obj.resetCause.key → t.get o = o.dflt) ∧
    (∃ t, exec .vaonInvalid s = .next t ∧ cold t ∧ t.rst.vaon = false ∧ t.gw = gwPowerOn false ∧ ∀ o : Obj, t.get o = o.dflt)

/-- The release sequence. `RESET_N_RELEASE` answers the state with `RESET_N` high, left for Berthing where Approach may end (`tryBerthing`; it changes
nothing where the node is not in Approach, `GW_PG` is low, a supply is bad or `VAON` is not valid). `RESET_ASSERTION_END` ends the assertion.
`DOMAIN_RELEASE` releases the domain due, with what its release starts (`domainEffect`, written out for each domain), and leaves the time in `RELEASE_US`.
`DOMAIN_CLOCK_TIMEOUT` makes the domain due held, puts an entry into the history and counts in `CLOCK_FAIL_CNT`. `OPTION_LOAD_COMPLETE` ends option loading:
an accepted word brings its options, any other, or `BOOT_SEL` 2, the built-in ones. -/
def Obligations.ReleaseSequence : Prop :=
  ∀ (q : List Instr) (s : State), s.Wf q →
    (s.rst.pinLow → exec .resetNRelease s = .next (tryBerthing { s with rst := { s.rst with pinLow := false } })) ∧
    (∀ u : State, (u.node.mode ≠ .approach ∨ !u.gwPg ∨ !u.rst.supplies ∨ u.rst.pinLow ∨ !u.rst.vaon) → tryBerthing u = u) ∧
    (s.rst.asserted → !s.rst.pinLow → s.node.mode ≠ .approach →
      exec .resetAssertionEnd s = .next { s with rst := { s.rst with asserted := false } }) ∧
    (∀ us edges d, s.dueDomain = some d →
      exec (.domainRelease us edges) s = .next ((domainEffect d edges (setDomain d .released s)).put Obj.releaseUs us.toNat) ∧
      ((domainEffect d edges (setDomain d .released s)).put Obj.releaseUs us.toNat).get Obj.releaseUs = us.toNat) ∧
    (∀ edges u, domainEffect 1 edges u = { u with rst := { u.rst with refClk := some edges } } ∧ domainEffect 3 edges u = portsStart u ∧
      domainEffect 4 edges u = raiseLate u ∧ domainEffect 6 edges u = u ∧ domainEffect 7 edges u = u ∧
      (let v := if u.rst.cold then { u with rst := { u.rst with loading := true, bootSel := u.rst.strapBoot }, node := { u.node with posB := u.rst.strapRole } }
        else { u with rst := { u.rst with loading := true } }
       domainEffect 2 edges u = if v.rst.bootSel = 3 then raiseOrDelay 0x3B 0 0 v else v) ∧
      (let v := bootSelect { u with rst := { u.rst with wdt := true } }
       domainEffect 5 edges u = { v with node := { v.node with keyWindow := v.node.slipLow && v.rst.source == 1 && v.node.mode == .berthing } })) ∧
    (∀ d, s.dueDomain = some d → ∃ t, exec .domainClockTimeout s = .next t ∧ t.rst.doms = s.rst.doms.set d .held ∧
      t.rst.history = (histEntry s.tide.tick s.rst.cold d s.rst.source :: s.rst.history).take 8 ∧
      t.get Obj.clockFailCnt = (s.get Obj.clockFailCnt + 1) % 2 ^ 32) ∧
    (∀ w : BitVec 128, s.rst.loading → ∃ t, exec (.optionLoadComplete w) s = .next t ∧ t.rst.loading = false ∧ t.rst.optEnded ∧
      t.rst.opts = if s.rst.bootSel = 2 ∨ optError w.toNat ≠ 0 then 0x0000000100403000 else w.toNat % 2 ^ 64)

/-- `SAVED_STATE_LOAD` in Berthing with D5 released loads the later valid slot and its node number, after the event of source 0x33 where the slot
not taken ranks higher. `BERTHING_COMPLETE`, where Berthing may end, marks the node for Anchored beside a line found low without a kept claim or a heartbeat
seen, else takes it into Working in position A or with the claim kept, else sets its wait in position B; `POSITION_B_CLAIM_TIMEOUT` takes a
waiting chip into Working where the line is high and no heartbeat was seen. Entering Working claims `TWIN_OWN_N`, owns the field pins, starts the input buffers
and clocks, empties the send areas and leaves cranes, fault records and Tally. `SLIPWAY_KEY_WINDOW_END` ends the window with the event of source 0x09. -/
def Obligations.BerthingEnds : Prop :=
  ∀ (s : State),
    (∀ i, s.node.mode = .berthing → s.released 5 → s.latestSlot = some i →
      let bs := s.savedSlot i
      exec .savedStateLoad s = .next (takePair (slPair bs) (loadSlot 1 bs
        (if slotRank bs < slotRank (s.savedSlot (1 - i)) then raise 0x33 0 (slSeq bs) s else s)))) ∧
    (∀ n bs, (takePair n (loadSlot 1 bs s)).node.pair = n ∧ (takePair n (loadSlot 1 bs s)).node.loaded) ∧
    (∀ line : Bool, let u := { s with node := { s.node with twinLow := line } }
      u.berthed →
        ((line = true ∧ !s.node.claim) ∨ s.hbSeen → exec (.berthingComplete line) s = .next { u with node := { u.node with toAnchored := true } }) ∧
        (¬ ((line = true ∧ !s.node.claim) ∨ s.hbSeen) → (s.node.keptOwn ∨ !s.node.posB) → exec (.berthingComplete line) s = .next (enterWorking u)) ∧
        (¬ ((line = true ∧ !s.node.claim) ∨ s.hbSeen) → !s.node.keptOwn → s.node.posB →
          exec (.berthingComplete line) s = .next { u with node := { u.node with waitB := true } })) ∧
    (s.berthed → s.node.waitB → !s.node.twinLow → !s.hbSeen → exec .positionBClaimTimeout s = .next (enterWorking s)) ∧
    ((enterWorking s).node.mode = .working ∧ (enterWorking s).node.owns ∧ (enterWorking s).node.claim ∧ (enterWorking s).node.resume ∧
      (enterWorking s).pins.inBuf = 15 ∧ (enterWorking s).pins.clocks = 15 ∧ (enterWorking s).tide.area = [] ∧
      (enterWorking s).cranes = s.cranes ∧ (enterWorking s).faults = s.faults ∧ (enterWorking s).tally = s.tally) ∧
    (s.node.keyWindow → exec .slipwayKeyWindowEnd s = .next (raise 0x09 0 0 { s with node := { s.node with keyWindow := false } }))

/-- `VIO_OUT_OF_RANGE` of a bank with a level answers the state with the bank isolated (its level gone, its pads neither driven nor kept, its input
buffers off), `VIO_DROP_CNT` one higher and the event of source 0x27 for the bank raised, and leaves the cranes, the node and the Tally. `VIO_RESTORE`
gives the bank its level, marks its outputs for the next boundary and turns its input buffers on at an owner or in a takeover.
`SUPPLY_MONITOR_BAD` outside Approach leaves the node in Approach with the supplies bad, D1 to D7 in reset, no claim and the pads off; in Approach it
leaves the supplies bad. `SUPPLY_MONITOR_GOOD` leaves the supplies good, and takes a node that may leave Approach into Berthing, through a cold reset of source 2 where its supplies had gone. -/
def Obligations.Supplies : Prop :=
  ∀ (q : List Instr) (s : State), s.Wf q →
    (∀ b : Fin 4, (s.rst.vio.getD b.val ⟨0, true, false⟩).level ≠ 0 →
      exec (.vioOutOfRange b) s = .next (raise 0x27 b.val 0 ((isolateBank b.val s).bump Obj.vioDropCnt)) ∧
      let t := raise 0x27 b.val 0 ((isolateBank b.val s).bump Obj.vioDropCnt)
      t.rst.vio = s.rst.vio.set b.val ⟨0, true, false⟩ ∧ t.pins.drive = clearBits s.pins.drive (quayMask b.val) ∧
      t.pins.keep = clearBits s.pins.keep (quayMask b.val) ∧
      t.pins.inBuf = setBit s.pins.inBuf b.val false ∧ t.get Obj.vioDropCnt = (s.get Obj.vioDropCnt + 1) % 2 ^ 32 ∧
      t.cranes = s.cranes ∧ t.node = s.node ∧ t.tally = s.tally) ∧
    (∀ (b : Fin 4) high, exec (.vioRestore b high) s = .next { s with
      rst := { s.rst with vio := s.rst.vio.set b.val ⟨if high then 2 else 1, false, true⟩ }
      pins := { s.pins with
        inBuf := setBit s.pins.inBuf b.val (s.node.owns || s.twin.pick != .none)
        bufOff := clearBits s.pins.bufOff (quayMask b.val) } }) ∧
    (s.node.mode ≠ .approach → ∃ t, exec .supplyMonitorBad s = .next t ∧ t.rst.supplies = false ∧ t.rst.asserted ∧ t.rst.reinsert ∧
      t.rst.doms = [.released, .inReset, .inReset, .inReset, .inReset, .inReset, .inReset, .inReset] ∧ t.node.mode = .approach ∧
      t.node.owns = false ∧ t.node.claim = false ∧ t.pins.drive = 0 ∧ t.pins.keep = 0 ∧ t.pins.inBuf = 0 ∧ t.cranes = [] ∧ t.tally = tallyReset) ∧
    (s.node.mode = .approach → exec .supplyMonitorBad s = .next { s with rst := { s.rst with supplies := false } }) ∧
    (let u := { s with rst := { s.rst with supplies := true } };
      ((s.node.mode ≠ .approach ∨ !s.gwPg ∨ s.rst.pinLow ∨ !s.rst.vaon) → exec .supplyMonitorGood s = .next u) ∧
      (s.node.mode = .approach → s.gwPg → !s.rst.pinLow → s.rst.vaon → s.rst.reinsert = false →
        exec .supplyMonitorGood s = .next { u with node := { u.node with mode := .berthing, origin := .berthing } }) ∧
      (s.node.mode = .approach → s.gwPg → !s.rst.pinLow → s.rst.vaon → s.rst.reinsert →
        ∃ t, exec .supplyMonitorGood s = .next t ∧ t.node.mode = .berthing ∧ t.rst.asserted ∧ t.rst.supplies ∧ t.rst.reinsert = false ∧
          t.node.owns = false ∧ t.cranes = [] ∧ t.tally = tallyReset ∧
          t.rst.history = (histEntry s.tide.tick true 0xF 2 :: s.rst.history).take 8))

/-- The test access port: `TAP_RESET` and each instruction answers the state with the instruction and the register it selects and nothing else
changed; EXTEST, CLAMP and HIGHZ only with the Slipway strap, else they act as BYPASS, and so does each code without an instruction. -/
def Obligations.TestAccessPort : Prop :=
  ∀ (s : State),
    let only := fun x : TapState => Host.Outcome.next { s with tap := x }
    let strapped := fun x : TapState => only (if s.node.slipLow then x else ⟨.bypass, .bypass, false, false⟩)
    exec .tapReset s = only ⟨.idcode, .idcode, false, false⟩ ∧ exec .tapIdcode s = only ⟨.idcode, .idcode, false, false⟩ ∧
    exec .tapSamplePreload s = only ⟨.sample, .boundary, false, false⟩ ∧ exec .tapExtest s = strapped ⟨.extest, .boundary, true, false⟩ ∧
    exec .tapClamp s = strapped ⟨.clamp, .bypass, true, false⟩ ∧ exec .tapHighz s = strapped ⟨.highz, .bypass, false, true⟩ ∧
    (∀ code : BitVec 8, ¬ (1 ≤ code.toNat ∧ code.toNat ≤ 5) → exec (.tapBypass code) s = only ⟨.bypass, .bypass, false, false⟩)

/-- `DIE_TEMP_UPDATE` with D4 released puts the reading into `DIE_TEMP` and the greater of the two into `DIE_TEMP_MAX`, and changes nothing else.
`BLOCK_QUIESCE_END` of a quiescing block (forced: no sooner than `QUIESCE_TICKS` boundaries after it was asked) puts it into its reset and clears it
(`blockClear`), a forced one counted. `BLOCK_RESET_RELEASE` of a block in reset makes it idle and resumes it where its clock is good, and else
counts in `CLOCK_DEFER_CNT`. `BLOCK_CLOCK_TIMEOUT` of a block in reset makes it held, counts in `CLOCK_FAIL_CNT` and raises the event of source 0x39.
The clear of a quay leaves its cranes and their FIFOs at their reset values. -/
def Obligations.BlockResetsAndDie : Prop :=
  ∀ (q : List Instr) (s : State), s.Wf q →
    (∀ v : BitVec 16, s.released 4 → ∃ t, exec (.dieTempUpdate v) s = .next t ∧ t.getI Obj.dieTemp = v.toInt ∧
      t.getI Obj.dieTempMax = max (s.getI Obj.dieTempMax) v.toInt ∧ { t with objs := s.objs } = s ∧
      ∀ o : Obj, o.key ≠ Obj.dieTemp.key → o.key ≠ Obj.dieTempMax.key → t.get o = s.get o) ∧
    (∀ (b : Fin 22) forced, s.block b.val = .quiescing → (!forced ∨ s.rst.blkAsked + s.get Obj.quiesceTicks ≤ s.tide.beat) →
      exec (.blockQuiesceEnd b forced) s = .next (
      let u := setBlock b.val .inReset { s with rst := { s.rst with blkDone := true } }
      blockClear b.val (if forced then u.bump Obj.forcedResetCnt else u))) ∧
    (∀ (b : Fin 22), s.block b.val = .inReset →
      exec (.blockResetRelease b true) s = .next (blockStatus (blockResume b.val (setBlock b.val .idle s))) ∧
      exec (.blockResetRelease b false) s = .next (s.bump Obj.clockDeferCnt)) ∧
    (∀ (b : Fin 22), s.block b.val = .inReset → exec (.blockClockTimeout b) s = .next (blockStatus (raise 0x39 b.val 0
      ((setBlock b.val .held { s with rst := { s.rst with blkClock := true } }).bump Obj.clockFailCnt)))) ∧
    (∀ g, g < 64 → (blockClear (3 + g / 16) s).crane g = Crane.zero ∧ (blockClear (3 + g / 16) s).fifo g = Fifo.empty ∧
      (blockClear (3 + g / 16) s).fifo (64 + g) = Fifo.empty)

/-- `OBJECT_WRITE` of an object that the dictionary takes and that has no effect of its own answers the state after an accepted request with the value: in
the object where it takes effect at once or none, in the staging of a commit, or last in the tide queue in place of an older write of the object; with 64 other
objects in the queue it is refused with code 9. One that does not pass the checks of a write is refused with their code, and one of an object that is not there with code 1.
An accepted request answers code 0, counts in `DICT_REQ_CNT`, restarts the lock's time where the lock protects the object, and changes nothing else; a refused one answers its code, counts in
`DICT_REFUSED_CNT` and changes no object but those two counts and the last error. -/
def Obligations.ObjectWrites : Prop :=
  ∀ (r : Req) (idx : BitVec 16) (sub : BitVec 8) (bs : List Byte) (o : Obj) (q : List Instr) (s : State), s.Wf q → idx.toNat = o.idx → sub.toNat = o.sub →
    (Taken r o bs s → writeSpecial r o (ofBytes bs) bs s = none →
      ((o.eff = .immediate ∨ o.eff = .none) → o.ty.size ≠ 0 → exec (.objectWrite r idx sub bs) s = .next (accepted r o (s.put o (ofBytes bs)))) ∧
      ((o.eff = .immediate ∨ o.eff = .none) → o.ty.size = 0 → exec (.objectWrite r idx sub bs) s = .next (accepted r o (s.putBlob o bs))) ∧
      (o.eff = .commit → exec (.objectWrite r idx sub bs) s = .next (accepted r o (s.stage o bs))) ∧
      (o.eff = .tide → (s.tide.queue.filter (fun e => e.1 != o.key)).length < 64 → exec (.objectWrite r idx sub bs) s = .next (accepted r o
        { s with tide := { s.tide with queue := s.tide.queue.filter (fun e => e.1 != o.key) ++ [(o.key, bs)] } })) ∧
      (o.eff = .tide → 64 ≤ (s.tide.queue.filter (fun e => e.1 != o.key)).length →
        exec (.objectWrite r idx sub bs) s = .next (refusedWith r o 9 s))) ∧
    (s.serveCode o.idx o.sub = 0 → s.findObj o.idx o.sub = some o → s.gateCode r o bs ≠ 0 → o ≠ Obj.swapCmd → o ≠ Obj.updCmd →
      exec (.objectWrite r idx sub bs) s = .next (refusedWith r o (s.gateCode r o bs) s)) ∧
    (s.serveCode o.idx o.sub = 0 → s.findObj o.idx o.sub = none → exec (.objectWrite r idx sub bs) s = .next (refusedWith r o 1 s)) ∧
    ((accepted r o s).dict = { s.dict with
        answer := ⟨0, false, []⟩
        lockAt := if o.acc = .rwl then s.tide.clock else s.dict.lockAt } ∧
      (accepted r o s).get Obj.dictReqCnt = (s.get Obj.dictReqCnt + 1) % 2 ^ 32 ∧
      { accepted r o s with objs := s.objs, dict := s.dict } = s ∧
      ∀ p : Obj, p.key ≠ Obj.dictReqCnt.key → (accepted r o s).get p = s.get p) ∧
    (∀ code, code ≠ 0 → (refusedWith r o code s).dict = { s.dict with answer := ⟨code, false, []⟩ } ∧
      (refusedWith r o code s).get Obj.dictRefusedCnt = (s.get Obj.dictRefusedCnt + 1) % 2 ^ 32 ∧
      { refusedWith r o code s with objs := s.objs, dict := s.dict } = s ∧
      ∀ p : Obj, p.key ≠ Obj.dictReqCnt.key → p.key ≠ Obj.dictRefusedCnt.key → p.key ≠ Obj.dictLastErr.key →
        (refusedWith r o code s).get p = s.get p)

/-- The owner lock. `LOCK_OPEN` with the key makes the requester the holder and starts the lock's time; with a wrong key it is refused with code 5 and counted in
`LOCK_REFUSED_CNT`, and the eighth wrong one within 2,400,000 periods of 25 us begins the lock-out; where another requester holds the lock it is refused with code 7.
`LOCK_CLOSE` by the holder or with no holder leaves no holder. `LOCK_TIMEOUT_EXPIRY` leaves no holder. `LOCK_LOCKOUT_END` ends the lock-out. -/
def Obligations.OwnerLock : Prop :=
  ∀ (r : Req) (s : State),
    (∀ key : BitVec 32, TakenVal r Obj.ownerLock (2 ^ 56 + key.toNat) s → (s.dict.holder = none ∨ s.dict.holder = some r) → s.dict.lockout = false →
      (key.toNat = s.get Obj.ownerKey → exec (.lockOpen r key) s = .next (accepted r Obj.ownerLock
        { s.put Obj.ownerLock 1 with dict := { s.dict with holder := some r, lockAt := s.tide.clock } })) ∧
      (key.toNat ≠ s.get Obj.ownerKey →
        let w := s.tide.clock :: s.dict.wrong.filter (fun t => decide (s.tide.clock < t + 2400000))
        exec (.lockOpen r key) s = .next (refusedWith r Obj.ownerLock 5 { s.bump Obj.lockRefusedCnt with
          dict := { s.dict with wrong := if 8 ≤ w.length then [] else w, lockout := decide (8 ≤ w.length) } }))) ∧
    (∀ key : BitVec 32, TakenVal r Obj.ownerLock (2 ^ 56 + key.toNat) s → (∃ h, s.dict.holder = some h ∧ h ≠ r) →
      exec (.lockOpen r key) s = .next (refusedWith r Obj.ownerLock 7 s)) ∧
    (TakenVal r Obj.ownerLock (2 * 2 ^ 56) s → (s.dict.holder = none ∨ s.dict.holder = some r) →
      exec (.lockClose r) s = .next (accepted r Obj.ownerLock ({ s with dict := { s.dict with holder := none } }.put Obj.ownerLock 1))) ∧
    exec .lockTimeoutExpiry s = .next { s with dict := { s.dict with holder := none } } ∧
    exec .lockLockoutEnd s = .next { s with dict := { s.dict with lockout := false } }

/-- Commands of the reset controller by the dictionary. `WATCHDOG_KICK` is accepted with 0xA5 and refused with code 5 with another value. `WDT_PERIOD_WRITE` leaves its value in
`WDT_PERIOD`. `RESET_CMD_WRITE` with its key accepts a reset of the requester's source, and is refused with code 5 without it. `SLIPWAY_KEY_WRITE` with the key of this chip enters
Slipway, owning the pins and claiming the line where the line is high, and is refused with code 5 without it. `BLOCK_RESET_WRITE` of blocks whose domains are released, while no block reset runs, makes
the status BUSY and quiesces every named block that is not held. `BLOCK_RESET_ABORT` changes nothing where no block reset runs; where one runs and no block has gone into reset, it leaves no block
quiescing and the status ABORTED. -/
def Obligations.ResetCommands : Prop :=
  ∀ (r : Req) (s : State),
    (TakenVal r Obj.wdtKick 0xA5 s → exec (.watchdogKick r 0xA5) s = .next (accepted r Obj.wdtKick s)) ∧
    (∀ v : BitVec 8, v ≠ 0xA5 → TakenVal r Obj.wdtKick v.toNat s → exec (.watchdogKick r v) s = .next (refusedWith r Obj.wdtKick 5 s)) ∧
    (∀ v : BitVec 16, TakenVal r Obj.wdtPeriod v.toNat s → exec (.wdtPeriodWrite r v) s = .next (accepted r Obj.wdtPeriod (s.put Obj.wdtPeriod v.toNat))) ∧
    (TakenVal r Obj.resetCmd 0x5AFE0001 s → s.rst.cmd = none → exec (.resetCmdWrite r 0x5AFE0001) s =
      .next (accepted r Obj.resetCmd { s with rst := { s.rst with cmd := some (s.resetSource r) } })) ∧
    (∀ v : BitVec 32, v ≠ 0x5AFE0001 → TakenVal r Obj.resetCmd v.toNat s → exec (.resetCmdWrite r v) s = .next (refusedWith r Obj.resetCmd 5 s)) ∧
    (∀ v : BitVec 64, TakenVal r Obj.slipwayKey v.toNat s →
      exec (.slipwayKeyWrite r v) s = .next (if v.toNat = 0x51F00072 * 2 ^ 32 + Config.serialNumber.toNat % 2 ^ 32
        then accepted r Obj.slipwayKey (enterSlipway s) else refusedWith r Obj.slipwayKey 5 s)) ∧
    ((enterSlipway s).node.mode = .slipway ∧ (enterSlipway s).node.owns = s.ownLine ∧ (enterSlipway s).node.claim = s.ownLine) ∧
    (∀ v : BitVec 32, TakenVal r Obj.blockReset v.toNat s → v.toNat < 2 ^ 22 → s.get Obj.blockReset ≠ 2 →
      (∀ b ∈ bitsOf 22 v.toNat, s.released (blockDomain b)) →
      let u := { s.put Obj.blockReset 2 with rst := { s.rst with blkDone := false, blkLate := false, blkClock := false, blkAsked := s.tide.beat } }
      exec (.blockResetWrite r v) s = .next (accepted r Obj.blockReset
        (blockStatus ((bitsOf 22 v.toNat).foldl (fun s b => if s.block b == .held then s else blockQuiesce b s) u)))) ∧
    (TakenVal r Obj.blockReset (2 ^ 31) s → s.get Obj.blockReset ≠ 2 → exec (.blockResetAbort r) s = .next (accepted r Obj.blockReset s)) ∧
    (TakenVal r Obj.blockReset (2 ^ 31) s → s.get Obj.blockReset = 2 → s.rst.blkDone = false → s.rst.blocks.any (· == .inReset) = false →
      ∃ u : State, exec (.blockResetAbort r) s = .next (accepted r Obj.blockReset (u.put Obj.blockReset 3)) ∧ ∀ b, b < 22 → u.block b ≠ .quiescing)

/-- `FAULT_EVENT` of a source of the table answers the state with the event counted in its block counter (`countBlock`) and raised (`raise`), and with
give-up criterion 5 held for source 0x35; of another source it changes nothing. `CRITICAL_STATE_ERROR` of a unit raises the event of source 0x3C and instance
unit + 1, with the bay for unit 2, and for unit 4 brings the built-in options back. Raising an event changes nothing while D4 is in reset. Otherwise an event that
is not fatal counts in the source's counter and in `FAULT_EVENT_CNT`; where the source and instance have an open record it raises the record's REPEAT, else it stores a new record in the lowest free place
of the 60, and with none free a corrected one is counted as lost; nothing but objects and fault records changes. A fatal one outside Approach and Quarantine takes
the node into Quarantine: no field pin owned, `TWIN_OWN_N` not claimed, no lock holder, the watchdog stopped, the cause noted, the lanes idle for units 0 to 3 of
source 0x3C; flash, Gangway and tick state stay. -/
def Obligations.FaultEvents : Prop :=
  (∀ (q : List Instr) (s : State) (e : Event), s.Wf q →
    (faultCodes.contains e.src.toNat = false → exec (.faultEvent e) s = .next s) ∧
    (faultCodes.contains e.src.toNat → e.src.toNat ≠ 0x35 → exec (.faultEvent e) s = .next (raise e.src.toNat e.inst.toNat e.detail.toNat (countBlock e s))) ∧
    (e.src.toNat = 0x35 → exec (.faultEvent e) s = .next (holdCriterion 5 (raise 0x35 e.inst.toNat e.detail.toNat s))) ∧
    { countBlock e s with objs := s.objs } = s ∧
    (∀ o, blockCounter e.src.toNat e.inst.toNat = some o → (objAt o.idx o.sub).isSome → s.released (objDomain o.idx) →
      (countBlock e s).get o = (s.get o + if e.src.toNat = 0x25 then e.detail.toNat % 256 else 1) % 2 ^ (8 * o.ty.size))) ∧
  (∀ (s : State) (unit : Fin 5) (bay : Fin 2048), exec (.criticalStateError unit bay) s = .next (raise 0x3C (unit.val + 1) (if unit.val = 2 then bay.val else 0)
    (if unit.val = 4 then { s with rst := { s.rst with opts := 0x0000000100403000 } } else s))) ∧
  (∀ (q : List Instr) (s : State) (src inst detail : Nat), s.Wf q → inst < 256 → detail < 2 ^ 32 →
    let t := raise src inst detail s
    (s.released 4 = false → t = s) ∧
    (s.released 4 → srcClass src ≠ .fatal →
      t.get (Obj.srcCnt src) = (s.get (Obj.srcCnt src) + 1) % 2 ^ 32 ∧
      t.get Obj.faultEventCnt = (s.get Obj.faultEventCnt + 1) % 2 ^ 32 ∧
      (∀ p, s.openRec src inst = false → freePlace s.faults.recs 0 60 = some p →
        t.faults.recs = s.faults.recs ++ [⟨p, nextSeq s.faults.seq, s.tide.tick, src, srcClass src, false, src == 0x38,
          true, 0, inst, detail⟩] ∧ t.faults.seq = nextSeq s.faults.seq) ∧
      (s.openRec src inst → t.faults.seq = s.faults.seq ∧ t.faults.recs = s.faults.recs.map (fun r =>
        if r.src == src && r.inst == inst then { r with reps := capAt 255 (r.reps + 1), updated := true } else r)) ∧
      (s.openRec src inst = false → freePlace s.faults.recs 0 60 = none → srcClass src = .corrected →
        t.faults.recs = s.faults.recs ∧ t.faults.overflow ∧ t.get Obj.faultLostCnt = (s.get Obj.faultLostCnt + 1) % 2 ^ 32) ∧
      { t with objs := s.objs, faults := s.faults } = s) ∧
    (s.released 4 → srcClass src = .fatal → s.node.mode ≠ .approach → s.node.mode ≠ .quarantine →
      t.node.mode = .quarantine ∧ t.node.owns = false ∧ t.node.claim = false ∧ t.dict.holder = none ∧ t.rst.wdt = false ∧
      (src = 0x3C → t.rst.crit = .waitKeepers) ∧ t.faults.cause = src * 2 ^ 56 + inst * 2 ^ 48 + s.tide.tick ∧
      (src = 0x3C → 1 ≤ inst → inst ≤ 4 → t.faults.lanesIdle) ∧ t.flash = s.flash ∧ t.gw = s.gw ∧ t.tide = s.tide))

/-- `RECORD_STORE_PARITY` with D4 released empties the place and raises the event of source 0x3F for it. `FAULT_LIST_READ` answers the open records, keeps the copy and
clears UPDATED in each. `FAULT_CLEAR_ONE` is accepted and leaves its result: 8 where no record has the SEQ, 0x0A where the record is fatal, 0x0B where it is sticky,
9 where its REPEAT differs, else 1 with the record gone. `FAULT_CLEAR_CORRECTED` and `FAULT_CLEAR_CONTAINED` are accepted and leave only the records of other classes
(the first: not corrected), fatal, sticky, or updated since they were read, with no overflow mark and the result 1. -/
def Obligations.FaultListAndClear : Prop :=
  ∀ (r : Req) (s : State),
    let del := fun f : FaultRec → Bool => { s with faults := { s.faults with recs := s.faults.recs.filter f } }
    let many := fun pick : FClass → Bool => { s with faults := { s.faults with overflow := false, recs := s.faults.recs.filter (fun x : FaultRec =>
      !pick x.cls || x.cls == FClass.fatal || x.sticky || x.updated) } }
    (∀ place : Fin 64, s.released 4 → exec (.recordStoreParity place) s = .next (raise 0x3F place.val 0 (del (fun x => x.place != place.val)))) ∧
    (Readable Obj.faultList s → exec (.faultListRead r) s = .next (answered r Obj.faultList (s.faults.recs.flatMap (fun x => bytesOf 16 x.bits))
      { s with faults := { s.faults with copy := s.faultList, recs := s.faults.recs.map (fun x => { x with updated := false }) } })) ∧
    (∀ (seq : BitVec 16) (reps : BitVec 8), TakenVal r Obj.faultClear (seq.toNat * 2 ^ 16 + reps.toNat * 2 ^ 8 + 1) s →
      exec (.faultClearOne r seq reps) s = .next (accepted r Obj.faultClear (match s.faults.recs.find? (fun x => x.seq == seq.toNat) with
        | none => s.put Obj.faultClear 8
        | some x => if x.cls = .fatal then s.put Obj.faultClear 0xA else if x.sticky then s.put Obj.faultClear 0xB
          else if x.reps ≠ reps.toNat then s.put Obj.faultClear 9 else (del (fun y => y.seq != seq.toNat)).put Obj.faultClear 1))) ∧
    (TakenVal r Obj.faultClear 2 s → exec (.faultClearCorrected r) s = .next (accepted r Obj.faultClear ((many (· == FClass.corrected)).put Obj.faultClear 1))) ∧
    (TakenVal r Obj.faultClear 3 s → exec (.faultClearContained r) s = .next (accepted r Obj.faultClear ((many (fun _ => true)).put Obj.faultClear 1)))

/-- Fault injection. `FAULT_INJECT_RECORD` that no check refuses is accepted, counted in `INJECT_CNT` and raises an injected event; `FAULT_INJECT_SINGLE_BIT` and
`FAULT_INJECT_DOUBLE_BIT` that no check refuses are accepted, counted and invert one or two stored bits of the location that ARG names (`injectBits`; for a Hold word:
one bit or two bits of its 72, and nothing else); a refused `FAULT_INJECT_RECORD` leaves its code in `INJECT_RESULT` and the status REFUSED. -/
def Obligations.FaultInjection : Prop :=
  ∀ (r : Req) (s : State) (src inst : BitVec 8) (bit : BitVec 7) (arg : BitVec 32),
    let done := ((s.put Obj.injectResult 0).bump Obj.injectCnt).put Obj.faultInject 1
    let v := fun m b => injectValue m src.toNat inst.toNat b arg.toNat
    (TakenVal r Obj.faultInject (v 1 0) s → s.injectCode (v 1 0) = 0 →
      exec (.faultInjectRecord r src inst arg) s = .next (accepted r Obj.faultInject (raiseAs true src.toNat inst.toNat arg.toNat done))) ∧
    (TakenVal r Obj.faultInject (v 2 bit.toNat) s → s.injectCode (v 2 bit.toNat) = 0 →
      exec (.faultInjectSingleBit r src inst bit arg) s = .next (accepted r Obj.faultInject (injectBits (v 2 bit.toNat) done))) ∧
    (TakenVal r Obj.faultInject (v 3 bit.toNat) s → s.injectCode (v 3 bit.toNat) = 0 →
      exec (.faultInjectDoubleBit r src inst bit arg) s = .next (accepted r Obj.faultInject (injectBits (v 3 bit.toNat) done))) ∧
    (TakenVal r Obj.faultInject (v 1 0) s → s.injectCode (v 1 0) ≠ 0 → exec (.faultInjectRecord r src inst arg) s =
      .next (accepted r Obj.faultInject ((s.put Obj.injectResult (s.injectCode (v 1 0))).put Obj.faultInject 4))) ∧
    (∀ n : Nat, fiSrc n = 0x12 → 2 ≤ fiMethod n → injectBits n s = modHold (fun h =>
      let k := fld (fiArg n) 0 11 * 8 + fld (fiArg n) 11 3
      let b := fiBit n
      { h with inv := mapSet 0 h.inv k (mapGet 0 h.inv k ^^^ (if fiMethod n = 3 then 2 ^ (b % 72) ^^^ 2 ^ ((b + 1) % 72) else 2 ^ (b % 72))) }) s)

/-- The Gangway. With the gate on and `VAON` valid: `GW_FAST_TRIP` at twice `GW_VCL`, `GW_RAMP_TIMEOUT` in RAMP and `GW_FAULT_TIMER_EXPIRY` with the timer at
`GW_FAULT_TIME` turn the gate off (`GateOff`) into LATCHED with a cooldown, counted in `GW_TRIP_CNT`; `GW_EN_LOW_DROP`, `GW_UNDERVOLTAGE_DROP` after 100 samples and
`GW_OVERVOLTAGE_DROP` after 2 turn it off into DISABLED or, with `GW_EN` high, QUALIFY, counted in `GW_DROP_CNT`. `GW_EN_HIGH` takes DISABLED, and LATCHED after its cooldown and a low `GW_EN`,
to QUALIFY. `GW_INSERT_DELAY_END` in the start window takes QUALIFY to RAMP. `GW_SAMPLE` keeps the measures, advances the thermal terms, the fault timer and the window counts, and decides by the
state: QUALIFY goes to RAMP or waits anew, a T_EST at `GW_T_TRIP` trips, RAMP goes to SETTLE at a gate voltage of 10 V, SETTLE counts clean samples, and every other state stays. `GW_DIODE_READING`
keeps the reading and sets the slow term by it. `GW_COOLDOWN_END` ends the cooldown, and LATCHED where `GW_EN` was low. `GW_POWER_GOOD` after 1,000 clean samples enters GOOD, and takes the node
out of Approach where it may leave it. `GW_PEAK_T_READ` answers the peak and sets it to the present value. (The fixed point of the thermal model is the model's choice, log entry 9.) -/
def Obligations.GangwayStates : Prop :=
  (∀ (q : List Instr) (s : State), s.Wf q → s.rst.vaon → s.gw.st.gateOn →
    let again := if s.gw.en then GwSt.qualify else GwSt.disabled
    let trip := fun cause t => GateOff cause .latched Obj.gwTripCnt s t ∧ t.gw.cooling ∧ t.gw.enLow = false
    (∀ vsns : BitVec 32, 2 * s.get Obj.gwVcl * 1000 ≤ vsns.toNat → ∃ t, exec (.gwFastTrip vsns) s = .next t ∧
      GateOff 5 .latched Obj.gwTripCnt { s with gw := { s.gw with cur := vsns.toNat * 1000 / s.get Obj.gwRsns } } t ∧ t.gw.cooling ∧ t.gw.enLow = false) ∧
    (s.gw.st = .ramp → ∃ t, exec .gwRampTimeout s = .next t ∧ trip 7 t) ∧
    (s.get Obj.gwFaultTime ≤ s.gw.timer → ∃ t, exec .gwFaultTimerExpiry s = .next t ∧ trip 4 t) ∧
    (∃ t, exec .gwEnLowDrop s = .next t ∧ GateOff 1 .disabled Obj.gwDropCnt { s with gw := { s.gw with en := false, enLow := true } } t) ∧
    (100 ≤ s.gw.under → ∃ t, exec .gwUndervoltageDrop s = .next t ∧ GateOff 2 again Obj.gwDropCnt s t) ∧
    (2 ≤ s.gw.above → ∃ t, exec .gwOvervoltageDrop s = .next t ∧ GateOff 3 again Obj.gwDropCnt s t)) ∧
  (∀ (r : Req) (s : State),
    (s.rst.vaon → s.gw.st = .disabled → exec .gwEnHigh s = .next { s with gw := { s.gw with en := true, st := .qualify, delayDone := false } }) ∧
    (s.rst.vaon → s.gw.st = .latched → !s.gw.cooling → s.gw.enLow → exec .gwEnHigh s = .next { s with gw := { s.gw with
      en := true, st := .qualify, delayDone := false } }) ∧
    (s.gw.st = .qualify → s.startWindow s.gw.vin → s.gw.en → !s.gw.cooling → exec .gwInsertDelayEnd s = .next { s with gw := { s.gw with
      delayDone := true, st := .ramp, timer := 0, calm := 0, limiting := false } }) ∧
    (∀ vin vout vgs vsns : BitVec 32, s.rst.vaon →
      let v := vin.toNat * s.get Obj.gwVinRatio / 100000
      let m := peakStep (thermalStep { s with gw := { s.gw with vin := v, vout := vout.toNat, cur := vsns.toNat * 1000 / s.get Obj.gwRsns } })
      exec (.gwSample vin vout vgs vsns) s = .next (gwDecide vgs.toNat (if m.gw.st.gateOn then { m with gw := { timerStep (decide (m.get Obj.gwVcl * 1000 ≤ vsns.toNat)) m.gw with
        under := if m.belowRun v then m.gw.under + 1 else 0
        above := if m.aboveRun v then m.gw.above + 1 else 0 } } else m))) ∧
    (∀ x : State, x.get Obj.gwTau1 ≠ 0 → x.get Obj.gwTau2 ≠ 0 →
      let p := ((x.gw.vin : Int) - x.gw.vout) * x.gw.cur
      thermalStep x = { x with gw := { x.gw with
        dt1 := x.gw.dt1 + (p * x.get Obj.gwRth1 - x.gw.dt1) / x.get Obj.gwTau1
        dt2 := x.gw.dt2 + (p * x.get Obj.gwRth2 - x.gw.dt2) / x.get Obj.gwTau2 } }) ∧
    (∀ (n : Nat) (x : State),
      ((x.gw.st = .disabled ∨ x.gw.st = .latched) → gwDecide n x = x) ∧
      (x.gw.st = .qualify → x.startWindow x.gw.vin = false → gwDecide n x = { x with gw := { x.gw with delayDone := false } }) ∧
      (x.gw.st = .qualify → x.startWindow x.gw.vin → gwDecide n x = if x.gw.en ∧ x.gw.delayDone ∧ !x.gw.cooling
        then { x with gw := { x.gw with st := .ramp, timer := 0, calm := 0, limiting := false } } else x) ∧
      (x.gw.st.gateOn → x.gw.timer < x.get Obj.gwFaultTime → x.degrees Obj.gwTTrip ≤ x.tEst → gwDecide n x = gwTrip 6 x) ∧
      (x.gw.st.gateOn → x.gw.timer < x.get Obj.gwFaultTime → x.tEst < x.degrees Obj.gwTTrip →
        (x.gw.st = .ramp → gwDecide n x = if 10000 ≤ n then { x with gw := { x.gw with st := .settle, clean := 0 } } else x) ∧
        (x.gw.st = .settle → gwDecide n x = { x with gw := { x.gw with clean :=
          if 10000 ≤ n ∧ x.gw.timer = 0 ∧ x.gw.limiting = false ∧ x.belowRun x.gw.vin = false ∧ x.aboveRun x.gw.vin = false then capAt 1000 (x.gw.clean + 1) else 0 } }) ∧
        (x.gw.st = .good → gwDecide n x = x))) ∧
    (∀ v : BitVec 16, s.gw.diode → s.rst.vaon → ∃ t, exec (.gwDiodeReading v) s = .next t ∧ t.gw = { s.gw with
      reading := some v.toInt, dt2 := v.toInt * 100000000 - (s.put Obj.gwTDiode v.toNat).getI Obj.gwTBase * 1000000000 } ∧
      { t with gw := s.gw, objs := s.objs } = s) ∧
    (s.gw.cooling → s.coolEnough → exec .gwCooldownEnd s = .next (if s.gw.st = .latched ∧ s.gw.enLow
      then { s with gw := { s.gw with cooling := false, st := if s.gw.en then .qualify else .disabled, delayDone := false } }
      else { s with gw := { s.gw with cooling := false } })) ∧
    (s.gw.st = .settle → s.gw.clean = 1000 → exec .gwPowerGood s = .next (tryBerthing { s with gw := { s.gw with st := .good } })) ∧
    (s.gw.st = .settle → s.gw.clean = 1000 → (s.node.mode ≠ .approach ∨ !s.rst.supplies) →
      exec .gwPowerGood s = .next { s with gw := { s.gw with st := .good } }) ∧
    (Readable Obj.gwPeakT s → exec (.gwPeakTRead r) s = .next (answered r Obj.gwPeakT (bytesOf 2 (s.get Obj.gwPeakT)) (s.putI Obj.gwPeakT s.tEstObj))))

/-- SET, MOV, JMP and LOOP of a crane that fetches the word without a fault, on the state u with its side levels applied. `CRANE_SET` answers the end of the instruction after
`setTarget`: for targets 0 to 2 nothing but the pins' levels and directions changes besides the end of the instruction (the OUT group's levels for 0, the side pins' for 2), for 3 to 7 X, Y or LC takes the
immediate or X or Y is shifted left by 13 with the immediate below. `CRANE_MOV` with its value in range answers the end of the instruction after `movWrite`: X, Y, LC, SOR (with OP 0), the
high half of SOR, SC (SIR cut to it) or OP takes the value; a value above 64 for SC or OP faults the crane with cause 2 and nothing applied. `CRANE_JMP` ends the instruction at its
target where the condition holds, else after itself. `CRANE_LOOP` decrements LC and ends at its target unless LC was 1. Where a statement says `Stepped`, the crane is
as written and the other cranes and everything but the field pins' levels and directions are as they were. -/
def Obligations.CraneRegisters : Prop :=
  ∀ (q : List Instr) (s : State) (g : Fin 64) (w : Nat), s.Wf q → Fetches g.val w s →
    let c := s.ended g.val w none
    let imm := fld (operand w) 0 13
    let dst := fld (operand w) 12 4
    let u := applySides g.val w s
    (opc w = 5 → exec (.craneSet g) s = .next (finish g.val w (setTarget g.val w u)) ∧
      let t := finish g.val w (setTarget g.val w u)
      (fld (operand w) 13 3 < 3 → Stepped g.val c s t) ∧
      (fld (operand w) 13 3 = 0 → t.pins = (setOuts g.val imm u).pins) ∧
      (fld (operand w) 13 3 = 2 → t.pins = (setSides g.val imm 4 u).pins) ∧
      (fld (operand w) 13 3 = 3 → Stepped g.val { c with x := BitVec.ofNat 32 imm } s t) ∧
      (fld (operand w) 13 3 = 4 → Stepped g.val { c with y := BitVec.ofNat 32 imm } s t) ∧
      (fld (operand w) 13 3 = 5 → Stepped g.val { c with lc := BitVec.ofNat 16 imm } s t) ∧
      (fld (operand w) 13 3 = 6 → Stepped g.val { c with x := (c.x <<< 13) ||| BitVec.ofNat 32 imm } s t) ∧
      (fld (operand w) 13 3 = 7 → Stepped g.val { c with y := (c.y <<< 13) ||| BitVec.ofNat 32 imm } s t)) ∧
    (∀ toff : BitVec 32, opc w = 6 →
      let v := u.movValue g.val w toff.toNat
      let t := finish g.val w (movWrite g.val dst v u)
      (¬ ((dst = 9 ∨ dst = 10) ∧ 64 < v.toNat) → exec (.craneMov g toff) s = .next t) ∧
      ((dst = 9 ∨ dst = 10) → 64 < v.toNat → exec (.craneMov g toff) s = .next (craneFault g.val 2 s)) ∧
      (dst = 0 → Stepped g.val { c with x := v } s t) ∧ (dst = 1 → Stepped g.val { c with y := v } s t) ∧
      (dst = 2 → Stepped g.val { c with lc := v.setWidth 16 } s t) ∧
      (dst = 5 → Stepped g.val { c with sor := v.setWidth 64, op := 0 } s t) ∧
      (dst = 6 → Stepped g.val { c with sor := w64 (c.sor.toNat % 2 ^ 32 + v.toNat * 2 ^ 32) } s t) ∧
      (dst = 9 → Stepped g.val { c with sc := v.toNat, sir := w64 (c.sir.toNat % 2 ^ v.toNat) } s t) ∧
      (dst = 10 → Stepped g.val { c with op := v.toNat } s t)) ∧
    (opc w = 7 → ∃ t, exec (.craneJmp g) s = .next t ∧
      Stepped g.val (s.ended g.val w (if u.jmpHolds g.val (fld (operand w) 12 4) then some (fld (operand w) 0 10) else none)) s t) ∧
    (opc w = 8 → ∃ t, exec (.craneLoop g) s = .next t ∧
      Stepped g.val { s.ended g.val w (if (s.crane g.val).lc = 1 then none else some (fld (operand w) 0 10)) with lc := (s.crane g.val).lc - 1 } s t)

/-- WAIT and SYNC, their wakes, and the end of an instruction's delay. `CRANE_WAIT` of a fetched WAIT makes the crane wait. `WAIT_WAKE` of a waiting crane whose condition is seen ends the instruction, clears
the user flag it waited for and counts a restart of the divider with ALIGN; with the condition not seen it changes nothing. `CRANE_SYNC` of a fetched SYNC ends it for a crane of no gang, and else
makes the crane wait in the barrier. `SYNC_RELEASE` of a gang whose members all wait in it, on one quay, or across quays with a boundary since each arrived, ends the SYNC of each member and
changes nothing else; across quays with a member that arrived in this tick it changes nothing. `INSTRUCTION_DELAY_END` of a crane in a delay makes it ready. Where a statement says `Stepped`, the other cranes
and everything but the field pins' levels and directions are as they were. -/
def Obligations.CraneWaits : Prop :=
  ∀ (q : List Instr) (s : State) (g : Fin 64) (w : Nat), s.Wf q →
    let c := s.crane g.val
    (Fetches g.val w s → opc w = 0 → ∃ t, exec (.craneWait g) s = .next t ∧ Stepped g.val { c with st := .stalled, phase := .waiting } s t) ∧
    (∀ edge (toff : BitVec 32), c.active → c.phase = .waiting → s.insWord g.val = w → s.waitSeen g.val w edge toff.toNat →
      ∃ t, exec (.waitWake g edge toff) s = .next t ∧
      let src := fld (operand w) 13 3
      let ix := fld (operand w) 6 5
      Stepped g.val { s.ended g.val w none with
        usrRd := if src = 2 ∧ ix = 16 then false else c.usrRd
        usrWr := if src = 2 ∧ ix = 17 then false else c.usrWr
        divRestarts := c.divRestarts + (if bit (operand w) 11 then 1 else 0)
        leads := c.leads } s t) ∧
    (∀ edge (toff : BitVec 32), c.active → c.phase = .waiting → s.insWord g.val = w → s.waitSeen g.val w edge toff.toNat = false →
      exec (.waitWake g edge toff) s = .next s) ∧
    (Fetches g.val w s → opc w = 11 → s.gangOf g.val = 0 → ∃ t, exec (.craneSync g) s = .next t ∧ Stepped g.val (s.ended g.val w none) s t) ∧
    (Fetches g.val w s → opc w = 11 → s.gangOf g.val ≠ 0 → ∃ t, exec (.craneSync g) s = .next t ∧
      Stepped g.val { c with st := .stalled, phase := .sync, syncBeat := s.tide.beat } s t) ∧
    (∀ n : Fin 64, n.val ≠ 0 → s.gangMembers n.val ≠ [] → (∀ k ∈ s.gangMembers n.val, s.inSync k) →
      ((∀ k ∈ s.gangMembers n.val, ∀ j ∈ s.gangMembers n.val, k / 16 = j / 16) ∨ (∀ k ∈ s.gangMembers n.val, (s.crane k).syncBeat < s.tide.beat) →
        ∃ t, exec (.syncRelease n) s = .next t ∧
        (∀ k ∈ s.gangMembers n.val, t.crane k = s.ended k (s.insWord k) none) ∧ (∀ k, k ∉ s.gangMembers n.val → t.crane k = s.crane k) ∧
        { t with cranes := s.cranes } = s) ∧
      ((∃ k ∈ s.gangMembers n.val, ∃ j ∈ s.gangMembers n.val, k / 16 ≠ j / 16) → (∃ k ∈ s.gangMembers n.val, s.tide.beat ≤ (s.crane k).syncBeat) →
        exec (.syncRelease n) s = .next s)) ∧
    (∀ d, c.active → c.phase = .delay d → exec (.instructionDelayEnd g) s = .next (s.setCrane g.val { c with phase := .ready }))

/-- `CRANE_SHIN` and `CRANE_SHOUT` of a fetched word begin a shift with nothing shifted, and a clocked one claims its clock pin. `SHIFT_END` of a shifting crane answers the state after the bit periods that have
passed (`bitPeriod`), at most those left; with none left an unclocked shift ends (`endShift`), a clocked one where the strobe after the last has passed; with some left and that strobe passed the next lead strobe
drives. A trail strobe of an unframed SHIN takes its symbol into its place. The end of an unframed shift with no late halt ends the instruction, puts the symbols into SIR and counts them in SC for a SHIN or a duplex SHOUT, and
counts them in OP for a SHOUT. -/
def Obligations.CraneShifts : Prop :=
  ∀ (q : List Instr) (s : State) (g : Fin 64) (w : Nat), s.Wf q →
    let h := shiftOf w
    let begun := { s.crane g.val with clkPin := if fld (operand w) 11 2 ≠ 0 then some (s.clkSide g.val) else (s.crane g.val).clkPin
                                      phase := .shifting, shiftDone := 0, shiftPart := 0, leads := 0, frStart := false, frStop := false }
    (Fetches g.val w s → opc w = 1 → ∃ t, exec (.craneShin g) s = .next t ∧ Stepped g.val begun s t) ∧
    (Fetches g.val w s → opc w = 2 → ∃ t, exec (.craneShout g) s = .next t ∧ Stepped g.val begun s t) ∧
    (∀ (n : BitVec 7) lead samples, (s.crane g.val).active → (s.crane g.val).phase = .shifting → s.insWord g.val = w →
      let v := (List.range (Nat.min n.toNat (h.periods - (s.crane g.val).shiftDone))).foldl (fun s i => bitPeriod g.val h (samples.map BitVec.toNat) i s) s
      exec (.shiftEnd g n lead samples) s = .next (
        if h.periods ≤ (v.crane g.val).shiftDone then (if h.clk = 0 ∨ lead then endShift g.val w h v else v)
        else if lead ∧ (v.crane g.val).leads = (v.crane g.val).shiftDone then leadStrobe g.val h (v.crane g.val).shiftDone v
        else v)) ∧
    (∀ levels, h.out = false → h.frame = false →
      let c := s.crane g.val
      Stepped g.val { c with shiftDone := c.shiftDone + 1
                             shiftPart := c.shiftPart ||| w64 (levels % 2 ^ h.lanes * 2 ^ h.place c.shiftDone) } s
        (trailStrobe g.val h c.shiftDone levels s)) ∧
    (h.frame = false → (s.crane g.val).lateHalt = false →
      let c := s.ended g.val w none
      let u := endShift g.val w h s
      (h.out = false → Stepped g.val { c with sir := c.sir ||| w64 (c.shiftPart.toNat * 2 ^ c.sc), sc := c.sc + h.count
                                              shiftDone := 0, shiftPart := 0, leads := 0 } s u) ∧
      (h.out = true → h.duplex = true → Stepped g.val { c with sir := c.sir ||| w64 (c.shiftPart.toNat * 2 ^ c.sc), sc := c.sc + h.count
                                                               op := c.op + h.count, shiftDone := 0, shiftPart := 0, leads := 0 } s u) ∧
      (h.out = true → h.duplex = false → Stepped g.val { c with op := c.op + h.count, shiftDone := 0, shiftPart := 0, leads := 0 } s u))

/-- PUSH, PULL and STAMP. `CRANE_PUSH` of a fetched PUSH: where its piece finds room (`pushTry`) it is stored, SIR consumed and the instruction ended; a blocking one without room stalls the crane; any other
consumes SIR, counts in `PUSH_DROP_CNT` and ends. `PUSH_ROOM_WAKE` of a crane that stalls for it, with room now, does what the PUSH or the STAMP does with room. `CRANE_PULL`: where a word without poison stands in the transmit FIFO (`pullWord`) the crane takes it
and the instruction ends; a blocking one with the FIFO empty stalls the crane; any other leaves OP 0, marks PSTAT, counts in `STALE_CNT` and ends. `PULL_WORD_WAKE` of a crane that stalls for it takes the word that arrived. A clean first word without poison leaves the FIFO
whole into SOR, with OP 0 and its KIND and BYTES in PSTAT. `CRANE_STAMP` is stored with room (`stampTry`), stalls the crane without it when it blocks, and else counts in `PUSH_DROP_CNT`. -/
def Obligations.CraneFifos : Prop :=
  ∀ (q : List Instr) (s : State) (g : Fin 64) (w : Nat), s.Wf q →
    let u := applySides g.val w s
    let block := bit (operand w) 15
    let c := s.crane g.val
    (Fetches g.val w s → opc w = 3 →
      (∀ v, pushTry g.val w u = some v → exec (.cranePush g) s = .next (finish g.val w (afterPush g.val (consumeSir g.val (pieceBits w) v)))) ∧
      (pushTry g.val w u = none → block → ∃ t, exec (.cranePush g) s = .next t ∧ Stepped g.val { c with st := .stalled, phase := .pushWait } s t) ∧
      (pushTry g.val w u = none → !block → exec (.cranePush g) s =
        .next (finish g.val w (consumeSir g.val (pieceBits w) (u.bump (Obj.pushDropCnt g.val)))))) ∧
    (c.active → c.phase = .pushWait → s.insWord g.val = w → ∀ v, pushTry g.val w s = some v →
      exec (.pushRoomWake g) s = .next (finish g.val w (afterPush g.val (consumeSir g.val (pieceBits w) v)))) ∧
    (c.active → c.phase = .stampWait → s.insWord g.val = w → ∀ v, stampTry g.val w s = some v →
      exec (.pushRoomWake g) s = .next (finish g.val w (afterPush g.val v))) ∧
    (Fetches g.val w s → opc w = 4 →
      (∀ v t, pullWord g.val (u.fifo (64 + g.val)).words.length u = (some v, t) →
        exec (.cranePull g) s = .next (finish g.val w (takeWord g.val v t))) ∧
      ((u.fifo (64 + g.val)).words = [] → block → ∃ t, exec (.cranePull g) s = .next t ∧
        Stepped g.val { c with st := .stalled, phase := .pullWait } s t) ∧
      ((u.fifo (64 + g.val)).words = [] → !block → ∃ t, exec (.cranePull g) s = .next t ∧
        t.crane g.val = { s.ended g.val w none with op := 0, pstat := setBit c.pstat 6 true } ∧
        t.get (Obj.staleCnt g.val) = (s.get (Obj.staleCnt g.val) + 1) % 2 ^ 32)) ∧
    (c.active → c.phase = .pullWait → s.insWord g.val = w → ∀ v t, pullWord g.val (s.fifo (64 + g.val)).words.length s = (some v, t) →
      exec (.pullWordWake g) s = .next (finish g.val w (takeWord g.val v t))) ∧
    (∀ v l, v.p = false → (s.fifo (64 + g.val)).words = v :: l →
      popCount 72 (s.fifoInv (64 + g.val) (s.fifoPlace (64 + g.val) (s.fifo (64 + g.val)).pend.length)) = 0 →
      let x := pullWord g.val (l.length + 1) s
      x.1 = some v ∧ (x.2.fifo (64 + g.val)).words = l ∧
        (takeWord g.val v x.2).crane g.val = { c with sor := v.data, op := 0, pstat := kindCode v.kind * 16 + v.bytes.toNat }) ∧
    (Fetches g.val w s → opc w = 10 →
      (∀ v, stampTry g.val w u = some v → exec (.craneStamp g) s = .next (finish g.val w (afterPush g.val v))) ∧
      (stampTry g.val w u = none → block → ∃ t, exec (.craneStamp g) s = .next t ∧ Stepped g.val { c with st := .stalled, phase := .stampWait } s t) ∧
      (stampTry g.val w u = none → !block → exec (.craneStamp g) s = .next (finish g.val w (u.bump (Obj.pushDropCnt g.val)))))

/-- SIG and CHK of a crane that fetches the word without a fault, on the state u with its side levels applied. `SIG_FLAG_SET` sets the flag of the quay that the word names and `SIG_FLAG_CLEAR` clears it, unless a set comes on
the same edge; `SIG_IRQ` makes the interrupt line pending; `SIG_NOTE` counts in `NOTICE_CNT` and marks the crane's notice; each ends the instruction. `CRANE_CHK` feeds SIR to the crane's check unit (`chkFeed`) and ends the instruction where the
unit is free and nothing waits for it; on a busy unit, or behind others, the crane stalls, its feed waits last and `CHK_WAIT_CNT` counts. `CHK_UNIT_WAKE` of the crane whose feed waits first feeds the unit and ends its CHK. -/
def Obligations.CraneSignals : Prop :=
  ∀ (q : List Instr) (s : State) (g : Fin 64) (w : Nat), s.Wf q →
    let u := applySides g.val w s
    let flags := fun b => { u with quay := { u.quay with flags := modifyAt u.quay.flags (g.val / 16) (fun m => setBit m (sigIndex w) b) } }
    let data := fun x : State => (⟨2 ^ fld (operand w) 14 2, (x.crane g.val).sir, false, some g.val⟩ : ChkFeed)
    (Fetches g.val w s →
      (sigFn 0 w → exec (.sigFlagSet g) s = .next (finish g.val w (flags true))) ∧
      (sigFn 1 w → exec (.sigFlagClear g false) s = .next (finish g.val w (flags false)) ∧ exec (.sigFlagClear g true) s = .next (finish g.val w u)) ∧
      (sigFn 2 w → exec (.sigIrq g) s = .next (finish g.val w
        { u with quay := { u.quay with irq := modifyAt u.quay.irq (g.val / 16) (fun m => setBit m (sigIndex w) true) } })) ∧
      (sigFn 3 w → ∃ t, exec (.sigNote g) s = .next t ∧ t.get (Obj.noticeCnt g.val) = (s.get (Obj.noticeCnt g.val) + 1) % 2 ^ 32 ∧
        t.quay.notices = setBit s.quay.notices g.val true ∧ t.crane g.val = s.ended g.val w none) ∧
      (opc w = 12 →
        (u.chkQueue (u.chkUnit g.val) = [] → exec (.craneChk g false) s = .next (finish g.val w (chkFeed (u.chkUnit g.val) (data u) u))) ∧
        (∀ busy, busy = true ∨ u.chkQueue (u.chkUnit g.val) ≠ [] → exec (.craneChk g busy) s = .next
          (chkWaitFor (u.chkUnit g.val) (data u) (stall g.val .chkWait u))) ∧
        (let t := chkWaitFor (u.chkUnit g.val) (data u) (stall g.val .chkWait u);
          t.crane g.val = { s.crane g.val with st := .stalled, phase := .chkWait } ∧
          t.get (Obj.chkWaitCnt (s.chkUnit g.val)) = (s.get (Obj.chkWaitCnt (s.chkUnit g.val)) + 1) % 2 ^ 32))) ∧
    (∀ (f : ChkFeed) (l : List ChkFeed), s.chkQueue (s.chkUnit g.val) = f :: l → f.crane = some g.val → s.insWord g.val = w →
      let x := s.setUnit (s.chkUnit g.val) { s.unit (s.chkUnit g.val) with waiting := l }
      exec (.chkUnitWake g) s = .next (finish g.val w (chkFeed (s.chkUnit g.val) (data x) x)))

/-- The checks of a fetch. A word with no bit inverted that the crane cannot run makes it fault with its cause (`craneFault`), for each command of an instruction but SIG and CHK that names its opcode, and for each of them where the opcode is reserved (cause 1). With PC
past the program, `CRANE_JMP` faults the crane with cause 3. `TALLY_FETCH_ERROR` corrects a word with one bit inverted and writes it back, and with two or more faults the crane with cause 9. A crane that faults is stopped with its cause in
`FAULT_CAUSE`; for causes other than 9 the pins, FIFOs, Tally and other cranes are as they were. -/
def Obligations.CraneFetchFaults : Prop :=
  ∀ (q : List Instr) (s : State) (g : Fin 64), s.Wf q →
    let a := s.get (Obj.tallyBase g.val) + (s.crane g.val).pc
    let w := s.tallyWord a
    (∀ cause toff n c, s.atInstr g.val → (s.crane g.val).pc < s.get (Obj.tallyLen g.val) → popCount 24 (s.tallyInv a) = 0 → s.insCause g.val w = some cause →
      (n, c) ∈ [(0, Instr.craneWait g), (1, .craneShin g), (2, .craneShout g), (3, .cranePush g), (4, .cranePull g), (5, .craneSet g), (6, .craneMov g toff),
        (7, .craneJmp g), (8, .craneLoop g), (10, .craneStamp g), (11, .craneSync g)] → (opc w = n ∨ cause = 1) → exec c s = .next (craneFault g.val cause s)) ∧
    (s.atInstr g.val → s.get (Obj.tallyLen g.val) ≤ (s.crane g.val).pc → exec (.craneJmp g) s = .next (craneFault g.val 3 s)) ∧
    (∀ upset : BitVec 24, s.atInstr g.val → (s.crane g.val).pc < s.get (Obj.tallyLen g.val) →
      let u := tallyUpset a upset.toNat s
      (popCount 24 (u.tallyInv a) = 1 → exec (.tallyFetchError g upset) s = .next (tallyCorrected a true u)) ∧
      (2 ≤ popCount 24 (u.tallyInv a) → exec (.tallyFetchError g upset) s = .next (craneFault g.val 9 (tallyUncorrected a true u)))) ∧
    (∀ cause, cause ≠ 9 → (craneFault g.val cause s).crane g.val = { s.crane g.val with st := .faulted, phase := .ready, lateHalt := false } ∧
      (craneFault g.val cause s).get (Obj.faultCause g.val) = cause % 256 ∧ (craneFault g.val cause s).pins = s.pins ∧
      (craneFault g.val cause s).fifos = s.fifos ∧ (craneFault g.val cause s).tally = s.tally ∧ ∀ k, k ≠ g.val → (craneFault g.val cause s).crane k = s.crane k)

/-- HALT, RESTART and START of a crane, and the gang commands. `CRANE_HALT` is accepted and halts the crane (`haltOne`), status BUSY where the halt waits for a SHOUT past its point of no return; a crane not in a shift halts at once, and an
active one is halted with its phase in `HALT_INFO`. `CRANE_START` at an owner starts an idle or stopped crane: running at `ENTRY` with its registers cleared; an active one is refused with code 8 and named in `GANG_REFUSED`. `CRANE_RESTART` of a halted or faulted
crane at an owner is accepted (`cmdRestart`); one halted outside a shift, with nothing changed, runs on with its divider restarted. `GANG_START` with no member active starts every member at once on one quay, and across quays marks every
member for the boundary with status BUSY. `GANG_HALT` halts every member. `CLOCK_RESTART` restarts the dividers of the active members at once on one quay, and across quays marks them for the boundary with status BUSY. -/
def Obligations.CraneCommands : Prop :=
  ∀ (q : List Instr) (r : Req) (s : State), s.Wf q →
    let none_ := s.put Obj.gangRefused 0
    (∀ g : Fin 64, let o := Obj.craneCmd g.val
      let c := s.crane g.val
      (TakenVal r o 1 s → exec (.craneHalt r g) s = .next (accepted r o ((haltOne g.val s).put o (if ((haltOne g.val s).crane g.val).lateHalt then 2 else 1)))) ∧
      (c.phase ≠ .shifting → haltOne g.val s = haltCrane g.val s) ∧
      (c.active → (haltCrane g.val s).crane g.val = { c with st := .halted, changed := false, lateHalt := false, pendStart := false, pendClk := false } ∧
        (haltCrane g.val s).get (Obj.haltInfo g.val) = c.phase.haltInfo) ∧
      (TakenVal r o 3 s → s.node.owns → !s.craneActive g.val → exec (.craneStart r g) s = .next (accepted r o ((startCrane g.val none_).put o 1))) ∧
      (TakenVal r o 3 s → s.node.owns → s.craneActive g.val →
        exec (.craneStart r g) s = .next (refusedWith r o 8 (s.put Obj.gangRefused (maskOf [g.val])))) ∧
      (TakenVal r o 2 s → s.node.owns → c.st = .halted → !c.changed → c.phase ≠ .shifting → exec (.craneRestart r g) s = .next (accepted r o
        ((settleCauseNine (s.setCrane g.val { c with st := .running, changed := false, lateHalt := false, divRestarts := c.divRestarts + 1, phase := .ready })).put o 1))) ∧
      (TakenVal r o 2 s → s.node.owns → (c.st = .halted ∨ c.st = .faulted) → exec (.craneRestart r g) s = .next (accepted r o (cmdRestart g.val s).1)) ∧
      (startCrane g.val s).crane g.val = { Crane.zero with st := .running, pc := s.get (Obj.entry g.val), pendStart := c.pendStart, divRestarts := c.divRestarts + 1 }) ∧
    (∀ m : BitVec 64, let l := masked m.toNat
      (TakenVal r Obj.gangStart m.toNat s → s.node.owns → (∀ g ∈ l, !s.craneActive g) → oneQuay m.toNat → exec (.gangStart r m) s =
        .next (accepted r Obj.gangStart ((l.foldl (fun s g => startCrane g s) none_).put Obj.gangStart 1))) ∧
      (TakenVal r Obj.gangStart m.toNat s → s.node.owns → (∀ g ∈ l, !s.craneActive g) → !oneQuay m.toNat → exec (.gangStart r m) s =
        .next (accepted r Obj.gangStart ((l.foldl (fun s g => modCrane g (fun c => { c with pendStart := true }) s) none_).put Obj.gangStart 2))) ∧
      (TakenVal r Obj.gangHalt m.toNat s → exec (.gangHalt r m) s =
        .next (accepted r Obj.gangHalt ((l.foldl (fun s g => haltOne g s) none_).put Obj.gangHalt 1))) ∧
      (TakenVal r Obj.clockRestart m.toNat s → s.node.owns → oneQuay m.toNat → exec (.clockRestart r m) s = .next (accepted r Obj.clockRestart
        (((l.filter s.craneActive).foldl (fun s g => restartDivider g s) none_).put Obj.clockRestart 1))) ∧
      (TakenVal r Obj.clockRestart m.toNat s → s.node.owns → !oneQuay m.toNat → exec (.clockRestart r m) s = .next (accepted r Obj.clockRestart
        (((l.filter s.craneActive).foldl (fun s g => modCrane g (fun c => { c with pendClk := true }) s) none_).put Obj.clockRestart 2))))

/-- A quay by the dictionary. `QUAY_COMMIT` without a fault takes the staged writes of the quay for the next boundary, with the result 0xFFFF0000 and status BUSY and a place in the tide queue; with a fault it leaves its code and the crane or pin in the
result and the status REFUSED. `QUAY_FLAGS_WRITE` writes the flags; `QUAY_IRQ_CLEAR` clears the lines written 1. `FIFO_FLUSH` of a crane that is not active flushes the FIFOs that it names; of an active crane it is refused with code 8.
`NOTICE_PEND_CLEAR` clears the pending notices written 1. -/
def Obligations.QuayCommands : Prop :=
  ∀ (q : List Instr) (r : Req) (s : State), s.Wf q →
    (∀ u : Fin 4, let o := Obj.quayCommit u.val
      TakenVal r o 1 s → ∀ t, queueTide o.key [1] s = some t →
        (s.quayFault u.val = none →
          let mine := s.staged.filter (fun e => keyQuay e.1 == some u.val)
          let v := { s with staged := s.staged.filter (fun e => keyQuay e.1 != some u.val), quay := { s.quay with commits := s.quay.commits ++ mine } }
          let w := configCommit ((v.put (Obj.quayResult u.val) 0xFFFF0000).put o 2)
          exec (.quayCommit r u) s = .next (accepted r o { w with tide := { w.tide with queue := t.tide.queue } })) ∧
        (∀ code what, s.quayFault u.val = some (code, what) →
          let w := ((if code = 0x22 ∨ code = 0x23 then tallyResult (u.val * 16 + what) code s else s).put (Obj.quayResult u.val) (what * 2 ^ 16 + code)).put o 4
          exec (.quayCommit r u) s = .next (accepted r o w))) ∧
    (∀ (u : Fin 4) (v : BitVec 16), TakenVal r (Obj.quayFlags u.val) v.toNat s → exec (.quayFlagsWrite r u v) s =
      .next (accepted r (Obj.quayFlags u.val) { s with quay := { s.quay with flags := modifyAt s.quay.flags u.val (fun _ => v.toNat) } })) ∧
    (∀ (u : Fin 4) (v : BitVec 8), TakenVal r (Obj.quayIrq u.val) v.toNat s → exec (.quayIrqClear r u v) s =
      .next (accepted r (Obj.quayIrq u.val) { s with quay := { s.quay with irq := modifyAt s.quay.irq u.val (fun m => clearBits m v.toNat) } })) ∧
    (∀ g : Fin 64, let o := Obj.fifoFlush g.val
      (TakenVal r o 1 s → !s.craneActive g.val → exec (.fifoFlush r g 1) s = .next (accepted r o ((flushFifo g.val s).put o 1))) ∧
      (TakenVal r o 2 s → !s.craneActive g.val → exec (.fifoFlush r g 2) s = .next (accepted r o ((flushFifo (64 + g.val) s).put o 1))) ∧
      (TakenVal r o 3 s → !s.craneActive g.val → exec (.fifoFlush r g 3) s =
        .next (accepted r o ((flushFifo (64 + g.val) (flushFifo g.val s)).put o 1))) ∧
      (TakenVal r o 3 s → s.craneActive g.val → exec (.fifoFlush r g 3) s = .next (refusedWith r o 8 s))) ∧
    (∀ (g : Fin 64) (v : BitVec 8), v.toNat < 8 → TakenVal r (Obj.noticePend g.val) v.toNat s → exec (.noticePendClear r g v) s =
      .next (accepted r (Obj.noticePend g.val) (s.put (Obj.noticePend g.val) (clearBits (s.get (Obj.noticePend g.val)) v.toNat))))

/-- Check units. `CHECK_FEED` of a free unit for which nothing waits passes its bytes through the running CRC in order, adds them to the bytes fed, keeps a poison mark and counts in `CHK_FEED_CNT`, and in `CHK_POISON_CNT` when poisoned; of a busy unit, or behind others,
the feed waits last and counts in `CHK_WAIT_CNT`. `CHECK_ACCESS_WAIT_END` feeds the unit the feed that waits first, and ends the CHK of the crane whose feed it is. `CHECK_RESULT_WRITE` sets the running CRC by the value and clears PARITY. `CHECK_UNIT_INIT` sets the
running CRC to the polynomial's initial value and clears bytes fed, poison and PARITY. `CHECK_POLY_CHANGE` to another polynomial takes it and initialises the unit; to the same one it changes nothing. `CHECK_PARITY_ERROR` sets PARITY, leaves one bit of the
running CRC wrong (which one is a free value, log entry 3), counts in `CHK_PARITY_CNT` and raises the event of source 0x26 for the unit. -/
def Obligations.CheckUnits : Prop :=
  ∀ (s : State) (u : Fin 4), u.val < s.chk.length →
    let x := s.unit u.val
    let only := fun y : ChkUnit => { s with chk := s.chk.set u.val y }
    (∀ (width : Fin 4) (data : W64) (p : Bool),
      let fed := { x with reg := crcFeed x.par x.reg (bytesOf (2 ^ width.val) data.toNat), fed := (x.fed + 2 ^ width.val) % 2 ^ 32, poison := x.poison || p }
      (s.chkQueue u.val = [] → exec (.checkFeed u width data p false) s = .next (if p then ((only fed).bump (Obj.chkFeedCnt u.val)).bump (Obj.chkPoisonCnt u.val)
        else (only fed).bump (Obj.chkFeedCnt u.val))) ∧
      (∀ busy, busy = true ∨ s.chkQueue u.val ≠ [] → exec (.checkFeed u width data p busy) s =
        .next ((only { x with waiting := s.chkQueue u.val ++ [⟨2 ^ width.val, data, p, none⟩] }).bump (Obj.chkWaitCnt u.val)))) ∧
    (∀ f t, s.chkQueue u.val = f :: t → f.crane = none → ∃ v, exec (.checkAccessWaitEnd u) s = .next v ∧
      v.unit u.val = ({ x with waiting := t } : ChkUnit).feed f ∧ { v with chk := s.chk, objs := s.objs } = s) ∧
    (∀ f t g, s.chkQueue u.val = f :: t → f.crane = some g → exec (.checkAccessWaitEnd u) s =
      .next (chkFeeds g (s.insWord g) (only { x with waiting := t }))) ∧
    (∀ v : W64, exec (.checkResultWrite u v) s = .next (only { x with reg := (v.toNat % 2 ^ x.par.width) ^^^ x.par.xorOut, parity := false })) ∧
    (exec (.checkUnitInit u) s = .next (only { x with reg := x.par.init, fed := 0, poison := false, parity := false })) ∧
    (∀ poly : Fin 5, poly.val ≠ x.poly → exec (.checkPolyChange u poly) s = .next (only (x.init poly.val))) ∧
    (∀ poly : Fin 5, poly.val = x.poly → exec (.checkPolyChange u poly) s = .next s) ∧
    (exec (.checkParityError u) s = .next (raise 0x26 u.val 0 (({ only { x with reg := x.reg ^^^ 2 ^ (s.draw.1.toNat % x.par.width), parity := true } with
      freeCount := s.freeCount + 1 }).bump (Obj.chkParityCnt u.val))))

/-- The Tally and its staging window. `TALLY_LOAD` of a good record on pages that no swap waits for and no active crane covers writes its words and marks every crane that covers one of its pages; a bad record is refused with code 0x0A and 0xFFFF0020 in `TALLY_RESULT`, a busy
page with 0x0A and its word and code 0x21. `STAGE_LOAD` of a good record with no swap waiting writes its words into the window. A word written reads back, with no bit inverted, and leaves every other word and all but the Tally as it was. `TALLY_READ_DATA_READ` answers the words from
`TALLY_READ_ADDR` on. `SCRUB_READ` while no swap copies goes on to the next word, and counts a pass after the last: a clean word ends its run of corrected errors; a corrected one is written back and counted, and wears its page at `TALLY_CE_PASSES` runs; an uncorrected one fails item 2 of
the self-test, is counted and wears its page. While a swap copies `SCRUB_READ` changes nothing. -/
def Obligations.TallyMemory : Prop :=
  ∀ (q : List Instr) (r : Req) (s : State), s.Wf q →
    (∀ bs a ws, Taken r Obj.tallyLoad bs s → tallyRecord 1024 bs = some (a, ws) →
      (∀ i, i < ws.length → !s.swapPending ((a + i) / 16) ∧ !s.pageBusy ((a + i) / 16)) →
      exec (.tallyLoad r bs) s = .next (accepted r Obj.tallyLoad ((((List.range 64).filter (fun g => (List.range 64).any (fun p =>
        inPages a ws.length p && s.covers g p))).foldl (fun s g => markChanged g s) (setTallyWords a ws s)).putBlob Obj.tallyLoad bs))) ∧
    (∀ bs, Taken r Obj.tallyLoad bs s → tallyRecord 1024 bs = none →
      exec (.tallyLoad r bs) s = .next (refusedWith r Obj.tallyLoad 0xA (s.put Obj.tallyResult 0xFFFF0020))) ∧
    (∀ bs a ws i, Taken r Obj.tallyLoad bs s → tallyRecord 1024 bs = some (a, ws) → (∀ k, k < ws.length → !s.swapPending ((a + k) / 16)) →
      i < ws.length → s.pageBusy ((a + i) / 16) → (∀ k, k < i → !s.pageBusy ((a + k) / 16)) →
      exec (.tallyLoad r bs) s = .next (refusedWith r Obj.tallyLoad 0xA (s.put Obj.tallyResult ((a + i) * 2 ^ 16 + 0x21)))) ∧
    (∀ bs a ws, Taken r Obj.stageLoad bs s → tallyRecord 64 bs = some (a, ws) → s.tally.swap = .idle →
      exec (.stageLoad r bs) s = .next (accepted r Obj.stageLoad ((setTallyWords (1024 + a) ws s).putBlob Obj.stageLoad bs))) ∧
    (∀ k v, (k < 1024 → (setTallyWord k v s).tallyWord k = v) ∧ (1024 ≤ k → (setTallyWord k v s).stageWord (k - 1024) = v) ∧
      (setTallyWord k v s).tally.inv = mapSet 0 s.tally.inv k 0 ∧ (∀ j, j ≠ k → (setTallyWord k v s).tallyWord j = s.tallyWord j) ∧
      { setTallyWord k v s with tally := s.tally } = s) ∧
    (Readable Obj.tallyReadData s → exec (.tallyReadDataRead r) s =
      .next (answered r Obj.tallyReadData (tallyReadWords 64 (s.get Obj.tallyReadAddr) s).1 (tallyReadWords 64 (s.get Obj.tallyReadAddr) s).2)) ∧
    (∀ upset : BitVec 24, (∀ late, s.tally.swap ≠ .copying late) →
      let k := s.tally.scrub
      let u := tallyUpset k upset.toNat s
      let pass := fun n (x : State) => { x with tally := { x.tally with cePass := mapSet 0 x.tally.cePass k n } }
      let on := fun x : State => let y := if k = 1087 then x.bump Obj.scrubPassCnt else x
        { y with tally := { y.tally with scrub := if k = 1087 then 0 else k + 1 } }
      let runs := mapGet 0 s.tally.cePass k + 1
      (popCount 24 (u.tallyInv k) = 0 → exec (.scrubRead upset) s = .next (on (pass 0 u))) ∧
      (popCount 24 (u.tallyInv k) = 1 → runs < s.get Obj.tallyCePasses → exec (.scrubRead upset) s = .next (on (pass runs (tallyCorrected k false u)))) ∧
      (popCount 24 (u.tallyInv k) = 1 → s.get Obj.tallyCePasses ≤ runs →
        exec (.scrubRead upset) s = .next (on (wearPage 0x21 k (pass runs (tallyCorrected k false u))))) ∧
      (2 ≤ popCount 24 (u.tallyInv k) → exec (.scrubRead upset) s = .next (on (pass 0 (tallyUncorrected k false (selfTestFail 2 u)))))) ∧
    (∀ late (upset : BitVec 24), s.tally.swap = .copying late → exec (.scrubRead upset) s = .next s)

/-- The tide swap. `SWAP_ARM` with no swap waiting and a descriptor that passes every rule arms the swap with status BUSY; one that fails leaves what is at fault with its code in `TALLY_RESULT` and the status REFUSED. `SWAP_CANCEL` of an armed swap ends it with status ABORTED; of one that copies it marks
the cancel late; with none waiting it changes nothing. `SWAP_COPY_COMPLETE` of a copying swap ends it, DONE or DONE and late, as a configuration commit. A configuration commit of an owner, or in Berthing, takes the next generation and marks a save as due. -/
def Obligations.TideSwap : Prop :=
  ∀ (r : Req) (s : State),
    let d := num (s.blob Obj.swapReq) 0 16
    (TakenVal r Obj.swapCmd 1 s → s.tally.swap = .idle → s.swapFault d = none →
      exec (.swapArm r) s = .next (accepted r Obj.swapCmd (({ s with tally := { s.tally with swap := .armed, desc := d } }).put Obj.swapCmd 2))) ∧
    (TakenVal r Obj.swapCmd 1 s → s.tally.swap = .idle → ∀ code what, s.swapFault d = some (code, what) →
      exec (.swapArm r) s = .next (accepted r Obj.swapCmd ((s.put Obj.tallyResult (what * 2 ^ 16 + code)).put Obj.swapCmd 4))) ∧
    (TakenVal r Obj.swapCmd 2 s → s.tally.swap = .armed →
      exec (.swapCancel r) s = .next (accepted r Obj.swapCmd (({ s with tally := { s.tally with swap := .idle } }).put Obj.swapCmd 3))) ∧
    (∀ late, TakenVal r Obj.swapCmd 2 s → s.tally.swap = .copying late →
      exec (.swapCancel r) s = .next (accepted r Obj.swapCmd { s with tally := { s.tally with swap := .copying true } })) ∧
    (TakenVal r Obj.swapCmd 2 s → s.tally.swap = .idle → exec (.swapCancel r) s = .next (accepted r Obj.swapCmd s)) ∧
    (∀ late, s.tally.swap = .copying late → exec .swapCopyComplete s =
      .next (configCommit (({ s with tally := { s.tally with swap := .idle } }).put Obj.swapCmd (1 + (if late then 128 else 0))))) ∧
    (∀ u : State, (u.node.owns ∨ u.node.mode = .berthing) → configCommit u = { u.put Obj.savedGen (Nat.max (u.get Obj.savedGen) u.twinSavedGen + 1) with
      twin := { u.twin with saveDue := true } })

/-- Tide plans. `TIDE_PLAN_COMMIT` takes the staged plan for the check, with status BUSY and the result 0xFFFF0000 (model's choice, log entry 22). `TIDE_PLAN_CHECK_COMPLETE` of a plan that a check fails leaves the status REFUSED and the code of `planFail`; of a plan that passes it arms the plan, keeps it as
the staged one, leaves the status DONE and the result 0xFFFF0000, and commits the configuration. Arming a plan changes nothing but the armed plan and objects. At a boundary (`planBoundary`) of a placed node an armed plan whose activation tick has come takes effect with its period, and the tick is counted
anew; before that tick, or with none armed, nothing changes. A plan of another format or length fails with code 1, one of the right form with a bad CRC with code 2. -/
def Obligations.TidePlans : Prop :=
  ∀ (r : Req) (s : State),
    (TakenVal r Obj.tidePlanCommit 1 s → exec (.tidePlanCommit r) s = .next (accepted r Obj.tidePlanCommit (
      let u := (s.put Obj.tidePlanCommit 2).put Obj.tidePlanResult 0xFFFF0000
      { u with tide := { s.tide with checking := some ((s.stagedOf Obj.tidePlanStage).getD (s.blob Obj.tidePlanStage)) } }))) ∧
    (∀ bs, s.tide.checking = some bs →
      let u := { s with tide := { s.tide with checking := none } }
      (∀ code, s.planFail bs = some code → exec .tidePlanCheckComplete s =
        .next ((u.put Obj.tidePlanCommit 4).put Obj.tidePlanResult code)) ∧
      (s.planFail bs = none → exec .tidePlanCheckComplete s = .next (
        let v := if s.stagedOf Obj.tidePlanStage = some bs then u.unstage Obj.tidePlanStage else u
        configCommit (((armPlan (some (planOf bs)) (v.putBlob Obj.tidePlanStage bs)).put Obj.tidePlanCommit 1).put Obj.tidePlanResult 0xFFFF0000)))) ∧
    (∀ a, let t := armPlan (some a) s
      t.tide = { s.tide with armed := some a } ∧ { t with tide := s.tide, objs := s.objs } = s) ∧
    (∀ a, s.tide.armed = some a → s.tide.placed → a.actTick ≤ s.tide.tick →
      (planBoundary s).tide = { s.tide with
        armed := none, active := some a, stale := [], code := a.code, tick := s.tide.tick * 2 ^ s.tide.code / 2 ^ a.code % 2 ^ 48 }) ∧
    (∀ a, s.tide.armed = some a → s.tide.tick < a.actTick → planBoundary s = s) ∧ (s.tide.armed = none → planBoundary s = s) ∧
    (∀ bs, let p := planOf bs
      (p.format ≠ 1 ∨ bs.length ≠ 32 + 16 * p.count → s.planFail bs = some 0xFFFF0001) ∧
      (p.format = 1 → bs.length = 32 + 16 * p.count → p.crc ≠ crc32c (slice bs 0 28 ++ bs.drop 32) → s.planFail bs = some 0xFFFF0002))

/-- The tick boundary and tick markers. `TICK_BOUNDARY` with D4 released answers the state after its steps in this order: inputs sampled, the next tick, mode changes, tide-applied writes, a configuration switch, an armed swap, outputs, cranes that wait for the boundary, the settling of the tick's scheduled
frames, the output image latched, and the rest (`boundaryThird`); in reset it changes nothing. With no plan armed the next tick adds one to the tick and the beat and its period to the clock (the clock of 25-us units is the model's, log entry 8), and places a node that its own time unit places. Sampling changes
nothing but the pins' images. Tide-applied writes are taken in the order of the queue; one of an object below 0x4000 other than `SPARE_EBB` and `ASYM_FIXED` of the mooring link stores its value. `TICK_MARKER_RECEIVE` on a port that listens with block lock answers the state after its TICK blocks lane by lane
and, where one has a good CHECK, after the set that two of them carry, the stamp noted, and on an Active ring port the header: the plan generation and the doorbells kept, and the tick taken by a node that is not locked and has another; a direction that does not listen takes nothing. -/
def Obligations.TickBoundary : Prop :=
  (∀ (env : TickEnv) (s : State),
    (s.released 4 → exec (.tickBoundary env) s = .next (
      let first := swapBoundary (cfgApply (tideWrites (modeBoundary (imageTick (tickAdvance (sampleInputs s))))))
      let outputs := applyOutputs (env.quaysGood == 15) (if 0 < s.tide.pause then cfgResume first else first)
      let settled := discardStale (settleTick s.tide.active s.tide.tick (craneEdge outputs))
      boundaryThird env (s.get Obj.tideGenActive) s.tide.code { settled with pins := { settled.pins with outSent := settled.pins.outImg } })) ∧
    (s.released 4 = false → exec (.tickBoundary env) s = .next s) ∧
    (s.tide.armed = none → tickAdvance s = { s with tide := { s.tide with
      tick := (s.tide.tick + 1) % 2 ^ 48, beat := s.tide.beat + 1, clock := s.tide.clock + 2 ^ s.tide.code, placed := s.tide.placed || s.ownPlaced } }) ∧
    { sampleInputs s with pins := s.pins } = s ∧
    (tideWrites s = s.tide.queue.foldl (fun s e => tideApply e s) { s with tide := { s.tide with queue := [] } }) ∧
    (∀ o : Obj, o.idx < 0x4000 → objAt o.idx o.sub = some o → o.sub < 256 → o.key ≠ 0x220008 → o.key ≠ 0x26000E → ∀ bs,
      tideApply (o.key, bs) s = (if o.ty.size = 0 then s.putBlob o bs else s.put o (ofBytes bs)))) ∧
  (∀ (port : Fin 3) (m : TickMark) (s : State),
    let p := port.val
    (s.listens p = false ∨ s.rx p < dBlock ∨ dActive < s.rx p → exec (.tickMarkerReceive port m) s = .next s) ∧
    (s.listens p → dBlock ≤ s.rx p → s.rx p ≤ dActive →
      let u := (lanesOf p).foldl (fun s l => tickLane p l (m.ticks.getD l none) s) (returned p (m.ticks.filterMap (fun t => t.map (.ctrl tyTick))) s)
      (goodTicks m = [] → exec (.tickMarkerReceive port m) s = .next u) ∧
      (∀ w l, goodTicks m = w :: l →
        let tick := wfld w 0 48
        let v := noteStamp p tick m.stamp (match majoritySet ((goodTicks m).map (fun w => wfld w 51 5)) with
          | some set => adoptSet p set tick u
          | none => u)
        let h := { v with tide := { v.tide with gens := v.tide.gens.set p (some (wfld m.ring 0 32)), bellIn := v.tide.bellIn.set p m.bells.toNat } }
        (p = 2 ∨ v.rxOpen p = false → exec (.tickMarkerReceive port m) s = .next v) ∧
        (p < 2 → v.rxOpen p → h.timeLocked ∨ (v.tide.placed ∧ v.tide.tick = tick) → exec (.tickMarkerReceive port m) s = .next h) ∧
        (p < 2 → v.rxOpen p → h.timeLocked = false → v.tide.tick ≠ tick → exec (.tickMarkerReceive port m) s = .next (adoptTick p tick h)))) ∧
    (∀ n, s.tide.placed → s.tide.armed = none → (adoptTick p n s) = { s with tide := { s.tide with tick := n } }))

/-- Scheduled frames. `SCHEDULED_ENTRY_DUE` of an own entry that is due, at a node that sends, reads its source (`schedSource`), forms one frame with the entry's destination, SEQ and length and a trailer of the current tick, and puts one copy to East and one to West, each into the Hold where
the node's part has room and no copy waits, else behind those that wait. `SCHED_FRAME_RECEIVE` takes the next scheduled frame of its local port out of the Hold: one with a trailer of the current tick is a copy (`schedTake`), one of another tick is discarded as stale tide, one without a readable
trailer is a bad copy; with none there it changes nothing. A good copy of no due entry counts in `SCHED_UNKNOWN_CNT`; a further copy of a delivered entry counts in `SCHED_ABSORBED_CNT`; the first good one is delivered to its entry's target; a bad one is kept as the candidate where there is none, and
else counts in `SCHED_ABSORBED_CNT`. -/
def Obligations.ScheduledFrames : Prop :=
  ∀ (s : State),
    (∀ (n : Fin 2048) p e, s.tide.active = some p → p.entries[n.val]? = some e → s.sends → e.snode = s.node.pair → s.node.pair ≠ 0 → e.due s.tide.tick →
      exec (.scheduledEntryDue n) s = .next (
        let x := schedSource e s
        let h := mkHdr e.dnode e.snode e.dport 0 (p.seqOf s.tide.tick n.val e) x.1.length x.2.ttl (setBit 8 1 (x.1.any (·.p)))
        let f : Frame := ⟨h, x.1, mkTrl s.tide.tick x.1⟩
        schedCopy 1 f (schedCopy 0 f x.2))) ∧
    (∀ o f, (s.tide.waits = [] → bayCount f.pay.length ≤ s.ownRoom 7 0 → schedCopy o f s = enqueue 7 o .node (Frame.words f) s) ∧
      ((s.tide.waits ≠ [] ∨ s.ownRoom 7 0 < bayCount f.pay.length) → schedCopy o f s = { s with tide := { s.tide with waits := s.tide.waits ++ [(o, f)] } })) ∧
    (∀ i : Fin 5, s.localNext (3 + i.val) (fun j => j.sched) = none → exec (.schedFrameReceive i) s = .next s) ∧
    (∀ (i : Fin 5) j, s.localNext (3 + i.val) (fun j => j.sched) = some j →
      let x := departJob j s
      (∀ f, frameOf x.1 = some f → tTick f.trl = s.tide.tick % 2 ^ 16 → exec (.schedFrameReceive i) s = .next (schedTake (Frame.sound f) f x.2)) ∧
      (∀ f, frameOf x.1 = some f → tTick f.trl ≠ s.tide.tick % 2 ^ 16 → exec (.schedFrameReceive i) s = .next (countDiscard 1 j.input x.2)) ∧
      (frameOf x.1 = none → exec (.schedFrameReceive i) s = .next (schedTake false (brokenCopy x.1) x.2))) ∧
    (∀ f, s.schedEntry f.hdr = none → schedTake true f s = s.bump Obj.schedUnknownCnt) ∧
    (∀ ok f i e, s.schedEntry f.hdr = some (i, e) →
      (i ∈ s.tide.delivered → schedTake ok f s = s.bump Obj.schedAbsorbedCnt) ∧
      (i ∉ s.tide.delivered → schedTake true f s = schedDeliver e f.pay { s with tide := { s.tide with
        delivered := s.tide.delivered ++ [i], candidates := s.tide.candidates.filter (fun c => c.entry != i) } }) ∧
      (i ∉ s.tide.delivered → (∀ c ∈ s.tide.candidates, c.entry ≠ i) →
        schedTake false f s = { s with tide := { s.tide with candidates := s.tide.candidates ++ [⟨i, f⟩] } }) ∧
      (i ∉ s.tide.delivered → (∃ c ∈ s.tide.candidates, c.entry = i) → schedTake false f s = s.bump Obj.schedAbsorbedCnt))

/-- Bring-up of a direction of a port. `DETECT_PROBE` after the release of D3 answers the state after `detectProbe`, which on a receiver in Detect without clock lane or
without enough lanes, the transmitter being elsewhere, only notes what is present, and with both directions in Detect and enough present begins Pilot on both. The Pilot
and Harbour timeouts take their direction back to Detect and count `RETRAIN_CNT`, Harbour's only while `HARBOUR_RESULT` reads 0; the Bit lock and Block lock timeouts take it back
to Pilot; each of the four changes nothing when its direction is in another state. `BIT_LOCK_CHECK_COMPLETE` in Bit lock fails the lanes with errors with cause 2 and goes on to Block lock
with RX_READY when enough lanes are left, else back to Pilot; in another state it answers `laneBitLock`. `BLOCK_LOCK_ACHIEVED` goes on to Harbour as `toHarbour` says. A HARBOUR block heard in Harbour or
Active is judged by `harbourBlock` when its CHECK is good, and else counted in `CONTROL_ERR_CNT`; a code other than 0 is written to `HARBOUR_RESULT` and raised as event 0x05. `BRINGUP_TIMEOUT` sets bit 7 or 6 of `DIR_STATUS` for a
direction that is not Active. `MOORING_NO_RECEIVER_TIMEOUT` puts the mooring transmitter, if in Detect, into Ebb. A training frame that is heard answers `frameReceive`; one whose first block reads MARK with
straight wires answers `markReceive`, which counts a bad CHECK and fails a lane that the MARK misnames with cause 6. -/
def Obligations.PortBringUp : Prop :=
  ∀ (port : Fin 3) (s : State),
    let p := port.val
    (∀ present clock, s.released 3 → exec (.detectProbe port present clock) s = .next (detectProbe p present clock s)) ∧
    (∀ present clock, s.released 3 = false → exec (.detectProbe port present clock) s = .next s) ∧
    (∀ present clock, s.rx p = dDetect → s.tx p ≠ dDetect → s.tx p ≠ dEbb → (clock = false ∨
        ((lanesOf p).filter (fun l => present.getD l false)).length < lanesNeeded p) →
      detectProbe p present clock s = notePresent p present clock s) ∧
    (∀ present, s.rx p = dDetect → s.tx p = dDetect → lanesNeeded p ≤ ((lanesOf p).filter (fun l => present.getD l false)).length →
      detectProbe p present true s = rxPilot p (txPilot p (notePresent p present true s))) ∧
    (s.tx p = dPilot → exec (.pilotTimeout port true) s = .next ((txLeave p dDetect s).bump (Obj.retrainCnt p))) ∧
    (s.tx p ≠ dPilot → exec (.pilotTimeout port true) s = .next s) ∧
    (s.rx p = dPilot → exec (.pilotTimeout port false) s = .next ((rxLeave p dDetect s).bump (Obj.retrainCnt p))) ∧
    (s.rx p ≠ dPilot → exec (.pilotTimeout port false) s = .next s) ∧
    (∀ errFree, s.rx p = dBit →
      let t := (bitsOf 5 (s.upLanes p)).foldl (fun s l => if errFree.getD l false then s else failLane p l 2 s) s
      (lanesNeeded p ≤ laneNum (t.upLanes p) → exec (.bitLockCheckComplete port errFree) s = .next (
        settleSet p (modPort p (fun x => { x with rxReady := true, blockLocked := false }) (setRx p dBlock t)))) ∧
      (laneNum (t.upLanes p) < lanesNeeded p → exec (.bitLockCheckComplete port errFree) s = .next (rxPilot p t))) ∧
    (∀ errFree, s.rx p ≠ dBit → exec (.bitLockCheckComplete port errFree) s = .next (laneBitLock p errFree s)) ∧
    (s.tx p = dBit → exec (.bitLockTimeout port true) s = .next (txPilot p s)) ∧
    (s.tx p ≠ dBit → exec (.bitLockTimeout port true) s = .next s) ∧
    (s.rx p = dBit → exec (.bitLockTimeout port false) s = .next (rxPilot p s)) ∧
    (s.rx p ≠ dBit → exec (.bitLockTimeout port false) s = .next s) ∧
    (s.rx p = dBlock → exec (.blockLockAchieved port) s =
      .next (toHarbour p ((modPort p (fun x => { x with blockLocked := true }) s).put (Obj.clkState p) 2))) ∧
    (s.tx p = dBlock → exec (.blockLockTimeout port true) s = .next (txPilot p s)) ∧
    (s.tx p ≠ dBlock → exec (.blockLockTimeout port true) s = .next s) ∧
    (s.rx p = dBlock → exec (.blockLockTimeout port false) s = .next (rxPilot p s)) ∧
    (s.rx p ≠ dBlock → exec (.blockLockTimeout port false) s = .next s) ∧
    (∀ h : W64, s.listens p → (s.rx p = dHarbour ∨ s.rx p = dActive) →
      let u := returned p [.ctrl tyHarbour h] s
      let v := harbourAdopt p h (u.put (Obj.farHarbour p) h.toNat)
      (blockOk h → exec (.harbourBlockReceive port h) s = .next (harbourBlock p h u)) ∧
      (blockOk h = false → exec (.harbourBlockReceive port h) s = .next (u.bump (Obj.controlErrCnt p))) ∧
      (v.harbourCode p h ≠ 0 → harbourBlock p h u = raise 0x05 p (v.harbourCode p h)
        (modPort p (fun x => { x with rxGo := false }) (v.put (Obj.harbourResult p) (v.harbourCode p h))))) ∧
    (s.get (Obj.harbourResult p) = 0 → s.tx p = dHarbour → exec (.harbourTimeout port true) s =
      .next ((txLeave p dDetect s).bump (Obj.retrainCnt p))) ∧
    (s.get (Obj.harbourResult p) = 0 → s.rx p = dHarbour → exec (.harbourTimeout port false) s =
      .next ((rxLeave p dDetect s).bump (Obj.retrainCnt p))) ∧
    (∀ tx, s.get (Obj.harbourResult p) ≠ 0 ∨ (if tx then s.tx p else s.rx p) ≠ dHarbour → exec (.harbourTimeout port tx) s = .next s) ∧
    (s.released 3 → s.tx p ≠ dActive → exec (.bringupTimeout port true) s =
      .next (s.put (Obj.dirStatus p) (setBit (s.get (Obj.dirStatus p)) 7 true))) ∧
    (s.released 3 → s.rx p ≠ dActive → exec (.bringupTimeout port false) s =
      .next (s.put (Obj.dirStatus p) (setBit (s.get (Obj.dirStatus p)) 6 true))) ∧
    (s.tx 2 = dDetect → exec .mooringNoReceiverTimeout s = .next ((sleepLanes 2 1 s).put (Obj.txState 2) dEbb)) ∧
    (∀ (lane : Fin 5) (f : TrainFrame), s.listens p → dPilot ≤ s.rx p → lane.val < laneCount p →
      let b : Line := ⟨f.hdr.toNat, f.body.toNat⟩
      let m := w64 b.body
      let u := prbsCheck p lane.val f.trains (returned p (.ctrl tyMark m :: f.trains.map (fun _ => .ctrl tyTrain 0)) s)
      exec (.trainingMarkReceive port lane f) s = .next (frameReceive p lane.val b f.trains s) ∧
      (s.get (Obj.rxPolarity p lane.val) = 0 → b.isMark → frameReceive p lane.val b f.trains s = markReceive p lane.val m u) ∧
      (blockOk m = false → markReceive p lane.val m u = u.bump (Obj.controlErrCnt p)) ∧
      (blockOk m → wfld m 6 3 ≠ lane.val → markReceive p lane.val m u = laneFail p lane.val 6 u))

/-- Lanes of a port that fail and come back. `LANE_FAIL` of a lane of the port with causes 3 to 8 answers `laneFail`, with cause 4 only when the errors of the tick pass `LANE_ERR_LIMIT`, and nothing changes otherwise: a lane
absent or failed already changes nothing; a lane of an Active direction's set is marked as failing and the set with the spare, or without one the lanes left, is asked for; `requestSet` takes the direction down when it is
the mooring link or fewer than three lanes are left, and else keeps the request and sends LANEMAP when its transmitter is Active. `SYNC_ERROR` of a block that reads bad is counted, and leaves its word when its place is inside the frame in progress.
`CONTROL_BLOCK_CHECK_FAIL` counts `CONTROL_ERR_CNT`; a lost clock lane from Pilot on is counted and takes the direction down with detail 1, an elastic overflow in Active with detail 3. A lane in Ebb whose
fast-exit burst locks within 100 ms is ready, and one that does not goes back through Pilot with cause 8. `LANE_RETRAIN` of a failed lane outside the set begins in Pilot, and of a lane that has not failed is refused as STATE_BUSY;
`LANE_RETRAIN_COMPLETE` not passed fails the lane again, and passed after Block lock takes it back (a ring port's as the spare), makes a busy `LANE_RETRAIN` read DONE, and asks a ring port's lane into the set of an Active direction on three lanes. `RETRAIN` of a port out of
service or with a direction down restarts the port, and of another one is refused as STATE_BUSY. -/
def Obligations.LaneFailures : Prop :=
  ∀ (port : Fin 3) (lane : Fin 5) (r : Req) (s : State),
    let p := port.val
    let l := lane.val
    let set := s.get (Obj.rxSet p)
    (∀ cause : BitVec 8, 3 ≤ cause.toNat → cause.toNat ≤ 8 → cause.toNat ≠ 4 → l < laneCount p →
      exec (.laneFail port lane cause) s = .next (laneFail p l cause.toNat s)) ∧
    (l < laneCount p → s.get (Obj.laneErrLimit p) < (s.port p).errs.getD l 0 → exec (.laneFail port lane 4) s = .next (laneFail p l 4 s)) ∧
    ((s.port p).errs.getD l 0 ≤ s.get (Obj.laneErrLimit p) → exec (.laneFail port lane 4) s = .next s) ∧
    (∀ cause : BitVec 8, cause.toNat < 3 ∨ 8 < cause.toNat ∨ laneCount p ≤ l → exec (.laneFail port lane cause) s = .next s) ∧
    (∀ cause, s.get (Obj.laneState p l) = 0 ∨ s.get (Obj.laneState p l) = 5 → laneFail p l cause s = s) ∧
    (∀ cause k, s.get (Obj.laneState p l) ≠ 0 → s.get (Obj.laneState p l) ≠ 5 → s.get (Obj.laneState p l) ≠ 6 → bit set l →
      (failLane p l cause s).rx p = dActive →
      let u := modPort p (fun x => { x with failing := setBit x.failing l true }) (failLane p l cause s)
      (u.spareLane p = some k → laneFail p l cause s = requestSet p (setBit (u.lanesLeft p) k true) u) ∧
      (u.spareLane p = none → laneFail p l cause s = requestSet p (u.lanesLeft p) u)) ∧
    (∀ new, p = 2 ∨ laneNum new < 3 → requestSet p new s = rxDown p 2 s) ∧
    (∀ new, p < 2 → 3 ≤ laneNum new →
      let u := modPort p (fun x => { x with reqSet := new }) s
      requestSet p new s = if s.tx p = dActive then sendBlock p tyLanemap (sealBlock (new * 2 ^ 51)) u else u) ∧
    (∀ (b : BadBlock) c, s.listens p → b.lane.val < laneCount p → readLine ⟨b.hdr.toNat, b.body.toNat⟩ = .bad c →
      let u := modPort p (fun x => { x with errs := modifyAt x.errs b.lane.val (· + 1) }) (s.bump (Obj.syncErrCnt p b.lane.val))
      (b.place = none ∨ b.place = some 0 → exec (.syncError port b) s = .next u) ∧
      (∀ i : Fin 34, i.val ≠ 0 → b.place = some i →
        exec (.syncError port b) s = .next (modPort p (fun x => { x with repl := x.repl ++ [(i.val, c)] }) u))) ∧
    (exec (.controlBlockCheckFail port) s = .next (s.bump (Obj.controlErrCnt p))) ∧
    (s.listens p → dPilot ≤ s.rx p → exec (.clockLaneLoss port) s = .next (rxDown p 1 ((s.put (Obj.clkState p) 0).bump (Obj.clkLossCnt p)))) ∧
    (s.rx p = dActive → exec (.elasticBufferOverflow port) s = .next (rxDown p 3 s)) ∧
    (s.rx p ≠ dEbb → s.get (Obj.laneState p l) = 4 → s.longAgo (s.laneCal p l).ebbAt = false →
      exec (.ebbExitLockResult port lane true) s = .next (s.put (Obj.laneState p l) 3)) ∧
    (s.rx p ≠ dEbb → s.get (Obj.laneState p l) = 4 →
      let u := modLane p l (fun c => { c with retrain := dPilot }) (laneChanged p l ((s.put (Obj.laneState p l) 6).put (Obj.failCause p l) 8))
      (bit (u.port p).reqSet l = false → exec (.ebbExitLockResult port lane false) s = .next u) ∧
      (bit (u.port p).reqSet l → exec (.ebbExitLockResult port lane false) s = .next (requestSet p (u.lanesLeft p) u))) ∧
    (TakenVal r (Obj.laneRetrain p l) 1 s → s.get (Obj.laneState p l) = 5 → bit set l = false → exec (.laneRetrain r port lane) s =
      .next (accepted r (Obj.laneRetrain p l) (modLane p l (fun c => { c with retrain := dPilot })
        (laneChanged p l ((s.put (Obj.laneState p l) 6).put (Obj.laneRetrain p l) 2))))) ∧
    (TakenVal r (Obj.laneRetrain p l) 1 s → s.get (Obj.laneState p l) ≠ 5 →
      exec (.laneRetrain r port lane) s = .next (refusedWith r (Obj.laneRetrain p l) 8 s)) ∧
    (s.get (Obj.laneState p l) = 6 →
      exec (.laneRetrainComplete port lane false) s = .next (retrainFailed p l (s.get (Obj.failCause p l)) s) ∧
      ((s.laneCal p l).retrain = dBlock →
        let u0 := modLane p l (fun c => { c with retrain := 0 }) ((s.put (Obj.laneState p l) (if p = 2 then 1 else 3)).put (Obj.failCause p l) 0)
        let u := if u0.get (Obj.laneRetrain p l) = 2 then u0.put (Obj.laneRetrain p l) 1 else u0
        (p = 2 ∨ u.rx p ≠ dActive ∨ laneNum (u.get (Obj.rxSet p)) ≠ 3 → exec (.laneRetrainComplete port lane true) s = .next u) ∧
        (p ≠ 2 → u.rx p = dActive → laneNum (u.get (Obj.rxSet p)) = 3 →
          exec (.laneRetrainComplete port lane true) s = .next (requestSet p (setBit (u.get (Obj.rxSet p)) l true) u)))) ∧
    (TakenVal r (Obj.retrain p) 1 s → (s.get (Obj.admin p) = 1 ∨ s.rx p ≠ dActive ∨ s.tx p ≠ dActive) →
      exec (.portRetrain r port) s = .next (accepted r (Obj.retrain p) ((portRestart p s).put (Obj.retrain p) 1))) ∧
    (TakenVal r (Obj.retrain p) 1 s → s.get (Obj.admin p) ≠ 1 → s.rx p = dActive → s.tx p = dActive →
      exec (.portRetrain r port) s = .next (refusedWith r (Obj.retrain p) 8 s))

/-- Control blocks, Ebb and test loops of a port. A SPAN notice heard on an open ring port answers `spanNotice` when its CHECK is good, which puts the direction into the ring map (a new entry with the tick,
on hold when it comes up), counts it, and relays it from the other port when that is Active, once, and not its own. `RETURN_HOLD_EXPIRY` ends the hold of the directions of the port's side that came back
`RETURN_HOLD` ticks ago. A LANEMAP of at least three lanes is taken as the next set, the lanes of it in Ebb are woken. An EBB block puts the idle spares it names into Ebb, and the
direction when it names its whole set. A block of each of these kinds with a bad CHECK is counted in `CONTROL_ERR_CNT`. The own LOOP start coming back puts the receiver into Loop, one for this node with `FAR_LOOP_ACCEPT` set where a loop is
allowed makes the port return what it receives, and a stop or four ticks without TICK end that. `LOOP_MODE` 1 or 2 written to a port without a loop puts both directions into Loop, and is refused as MODE on a ring port to which no
loop is open. The three PRBS writes leave their bits in `PRBS_CTRL`, the last with the error counters of the lanes at 0. -/
def Obligations.PortControl : Prop :=
  ∀ (port : Fin 3) (r : Req) (s : State),
    let p := port.val
    (∀ n : W64, p < 2 → s.listens p → s.rxOpen p →
      let u := returned p [.ctrl tySpan n] s
      (blockOk n → exec (.spanNoticeReceive port n) s = .next (spanNotice p n u)) ∧
      (blockOk n = false → exec (.spanNoticeReceive port n) s = .next (u.bump (Obj.controlErrCnt p)))) ∧
    (∀ n : W64, wfld n 40 8 ≠ s.nodeNumber ∨ wfld n 40 8 = 0 →
      let u := (applySpan (wfld n 48 8) (wfld n 40 8) (bit n.toNat 39) s).bump Obj.spanNoticeCnt
      let key := (wfld n 48 8, wfld n 32 4)
      (wfld n 48 8 = s.nodeNumber ∨ s.ring.relayed.contains key ∨ u.tx (1 - p) ≠ dActive → spanNotice p n s = u) ∧
      (wfld n 48 8 ≠ s.nodeNumber → s.ring.relayed.contains key = false → u.tx (1 - p) = dActive →
        spanNotice p n s = modRing (fun x => { x with relayed := key :: x.relayed }) (sendBlock (1 - p) tySpan n u))) ∧
    (∀ origin far up, (applySpan origin far up s).ring.spans =
      s.ring.spans.filter (fun d => !(d.origin == origin && d.far == far)) ++ [⟨origin, far, up, s.tide.beat, up⟩]) ∧
    (exec (.returnHoldExpiry port) s = .next { s with ring := { s.ring with
      spans := s.ring.spans.map (fun d => if s.onSide p d ∧ d.tick + s.get (Obj.returnHold p) ≤ s.tide.beat then { d with hold := false } else d) } }) ∧
    (∀ (m : W64) ready, p < 2 → s.tx p = dActive → s.listens p → s.rxOpen p →
      let u := returned p [.ctrl tyLanemap m] s
      (blockOk m → 3 ≤ laneNum (wfld m 51 5) → exec (.lanemapReceive port m ready) s =
        .next (modPort p (fun x => { x with nextSet := wfld m 51 5, nextLater := !ready }) (wakeLanes p ((u.port p).txEbb &&& wfld m 51 5) u))) ∧
      (blockOk m → laneNum (wfld m 51 5) < 3 → exec (.lanemapReceive port m ready) s = .next u) ∧
      (blockOk m = false → exec (.lanemapReceive port m ready) s = .next (u.bump (Obj.controlErrCnt p)))) ∧
    (∀ m : W64, s.listens p → (dHarbour ≤ s.rx p ∧ s.rx p ≤ dActive ∨ p = 2) →
      let u := returned p [.ctrl tyEbb m] s
      let v := (bitsOf 5 (wfld m 51 5)).foldl (fun s l =>
        let s := modLane p l (fun c => { c with ebbAt := s.tide.clock, retrain := 0 }) s
        if s.get (Obj.laneState p l) = 3 then s.put (Obj.laneState p l) 4 else s) u
      (blockOk m = false → exec (.ebbBlockReceive port m) s = .next (u.bump (Obj.controlErrCnt p))) ∧
      (blockOk m → v.get (Obj.rxSet p) ≠ 0 → v.get (Obj.rxSet p) &&& wfld m 51 5 = v.get (Obj.rxSet p) →
        exec (.ebbBlockReceive port m) s = .next (keepSets p (rxLeave p dEbb) v)) ∧
      (blockOk m → v.get (Obj.rxSet p) = 0 ∨ v.get (Obj.rxSet p) &&& wfld m 51 5 ≠ v.get (Obj.rxSet p) → exec (.ebbBlockReceive port m) s = .next v)) ∧
    (∀ m : W64, s.listens p → dHarbour ≤ s.rx p →
      let u := returned p [.ctrl tyLoop m] s
      (blockOk m = false → exec (.loopRequestReceive port m) s = .next (u.bump (Obj.controlErrCnt p))) ∧
      (blockOk m → exec (.loopRequestReceive port m) s = .next (loopReceive p m u))) ∧
    (∀ m : W64, wfld m 48 8 = s.nodeNumber → (s.port p).asked → wfld m 38 2 = 1 → loopReceive p m s = keepSets p (rxLeave p dLoop) s) ∧
    (∀ m : W64, wfld m 48 8 ≠ s.nodeNumber → wfld m 40 8 = s.nodeNumber → s.nodeNumber ≠ 0 →
      (wfld m 38 2 = 1 → s.get (Obj.farLoopAccept p) = 1 → s.loopAllowed p →
        loopReceive p m s = modPort p (fun x => { x with returning := true }) (keepSets p (txLeave p dLoop) (wakePort p s))) ∧
      (wfld m 38 2 = 2 → (s.port p).returning → loopReceive p m s = loopEnd p s)) ∧
    ((s.port p).returning → exec (.farLoopTickTimeout port) s = .next (loopEnd p s)) ∧
    ((s.port p).returning = false → exec (.farLoopTickTimeout port) s = .next s) ∧
    (∀ v : BitVec 8, v = 1 ∨ v = 2 → TakenVal r (Obj.loopMode p) v.toNat s → (s.loopAllowed p ∨ p = 2) → s.get (Obj.loopMode p) = 0 →
      exec (.loopModeWrite r port v) s = .next (accepted r (Obj.loopMode p)
        (keepSets p (fun s => txLeave p dLoop (rxLeave p dLoop s)) (wakePort p (s.put (Obj.loopMode p) v.toNat))))) ∧
    (∀ v : BitVec 8, v.toNat ≤ 3 → TakenVal r (Obj.loopMode p) v.toNat s → s.loopAllowed p = false → p < 2 →
      exec (.loopModeWrite r port v) s = .next (refusedWith r (Obj.loopMode p) 6 s)) ∧
    (∀ v : BitVec 8, let g := (v ||| 1).toNat
      g ≤ 3 → TakenVal r (Obj.prbsCtrl p) g s → exec (.prbsGenerateSet r port v) s = .next (accepted r (Obj.prbsCtrl p) (wakePort p (s.put (Obj.prbsCtrl p) g)))) ∧
    (∀ v : BitVec 8, let g := (v ||| 2).toNat
      g ≤ 3 → TakenVal r (Obj.prbsCtrl p) g s → exec (.prbsCheckSet r port v) s = .next (accepted r (Obj.prbsCtrl p) (wakePort p (s.put (Obj.prbsCtrl p) g)))) ∧
    (∀ v : BitVec 8, let g := (v ||| 4).toNat
      g ≤ 7 → TakenVal r (Obj.prbsCtrl p) g s →
      let u := s.put (Obj.prbsCtrl p) (g % 4)
      exec (.prbsCountersClear r port v) s = .next (accepted r (Obj.prbsCtrl p)
        ((lanesOf p).foldl (fun s l => s.put (Obj.prbsErr p l) 0) (if g % 4 = 0 then u else wakePort p u))))

/-- Calibration in live traffic. `handleReq` answers a request with status 1, 2 or 3, keeps the coefficients unless it answers 1, and then gives coefficients within their limits; the eight presets lie within the limits with the sum 32;
`tapsAfter` gives coefficients within the limits. `SLACK_WATER_START` on an Active transmitter answers `slackStart`, and the word positions that a ring port sends are 21: eight IDLE, the TAPREQ word of each of the five lanes, six positions for PSTEP words, two CAL words.
`SLACK_WATER_RECEIVE` heard on an open port answers `slackReceive` of the state after what a returning port sends back; neither changes anything otherwise. `TRIAL_ANSWER_TIMEOUT` of a trial whose request has been sent 8 times without an answer goes on to its scan when the far coefficients
differ from those before the request, and else abandons and counts the trial. `AXIS_SCAN_COMPLETE` of a monitored lane, once in a map, answers `axisScan`; with the middle point open H is 2 and V 5 times the open points in a row to both sides, and the centre is the right run less the left.
`EYE_MAP_COMPLETE` after it keeps the map, its points on the axes those of the scan, and begins the next map. `DFE_UPDATE` of a monitored lane moves the taps by `dfeStep`, and changes nothing while the equalisers are frozen. -/
def Obligations.LaneCalibration : Prop :=
  ((∀ taps req, let x := handleReq taps req
    (x.2 = 1 ∨ x.2 = 2 ∨ x.2 = 3) ∧ (x.2 ≠ 1 → x.1 = taps) ∧
    (x.2 = 1 → tapPre x.1 ≤ 6 ∧ 16 ≤ tapMain x.1 ∧ tapMain x.1 ≤ 32 ∧ tapPost x.1 ≤ 12 ∧ tapPre x.1 + tapMain x.1 + tapPost x.1 ≤ 32)) ∧
  (∀ n, n < 8 → let t := presetTaps n
    tapPre t ≤ 6 ∧ 16 ≤ tapMain t ∧ tapMain t ≤ 32 ∧ tapPost t ≤ 12 ∧ tapPre t + tapMain t + tapPost t = 32) ∧
  (∀ taps action t, tapsAfter taps action = some t → tapPre t ≤ 6 ∧ 16 ≤ tapMain t ∧ tapMain t ≤ 32 ∧ tapPost t ≤ 12)) ∧
  (∀ (port : Fin 3) (lane : Fin 5) (s : State),
    let p := port.val
    let l := lane.val
    (∀ txOff : BitVec 32, (s.tx p = dActive → exec (.slackWaterStart port txOff) s = .next (slackStart p txOff.toNat s)) ∧
      (s.tx p ≠ dActive → exec (.slackWaterStart port txOff) s = .next s)) ∧
    (∀ off, p < 2 → let w := s.slackWords p off
      w.length = 21 ∧ w.take 8 = List.replicate 8 (Sym.ctrl tyIdle 0) ∧
      (w.drop 8).take 5 = [0, 1, 2, 3, 4].map (fun l => Sym.ctrl tyTapreq (s.reqWord p l 0)) ∧
      w.drop 19 = (s.calWords p s.boundaryMoved off).map (Sym.ctrl tyCal)) ∧
    (∀ idles taps steps calRef calRep,
      let u := returned p (idles.map (.ctrl tyIdle) ++ taps.map (.ctrl tyTapreq) ++ steps.map (.ctrl tyPstep) ++ (calRef ++ calRep).map (.ctrl tyCal)) s
      (s.listens p → s.rxOpen p →
        exec (.slackWaterReceive port idles taps steps calRef calRep) s = .next (slackReceive p taps steps (calRef ++ calRep) u)) ∧
      (s.listens p = false ∨ s.rxOpen p = false → exec (.slackWaterReceive port idles taps steps calRef calRep) s = .next s)) ∧
    (∀ t, (s.calPort p).trial = some t → t.lane = l → t.action ≤ 6 → 8 ≤ t.sent → (t.st = .requested ∨ t.st = .reverting) →
      ((s.laneCal p l).farTaps ≠ t.taps0 → exec (.trialAnswerTimeout port lane) s = .next (trialApplied p t s)) ∧
      ((s.laneCal p l).farTaps = t.taps0 → exec (.trialAnswerTimeout port lane) s = .next ((endTrial p s).bump (Obj.calAbandonCnt p)))) ∧
    (∀ mid left right down up, s.monitored p l → (s.laneCal p l).axis = false →
      exec (.axisScanComplete port lane mid left right down up) s = .next (axisScan p l ⟨mid, left, right, down, up⟩ s)) ∧
    (∀ mid left right down up, s.monitored p l = false ∨ (s.laneCal p l).axis →
      exec (.axisScanComplete port lane mid left right down up) s = .next s) ∧
    (∀ left right down up, eyeOf ⟨0, left, right, down, up⟩ s =
      (⟨2 * (openRun (left.take 16) + openRun (right.take 16)), 5 * (openRun (down.take 30) + openRun (up.take 30)),
        (openRun (right.take 16) : Int) - openRun (left.take 16)⟩, s)) ∧
    (∀ points, s.monitored p l → (s.laneCal p l).axis → ∃ t, exec (.eyeMapComplete port lane points) s = .next t ∧
      let b := mapBytes (s.laneCal p l).phase (s.laneCal p l).volt points
      b.length = 2013 ∧ t.blobs = (s.putBlob (Obj.eyeMap p l) b).blobs ∧
      t.get (Obj.mapCnt p l) = ((s.putBlob (Obj.eyeMap p l) b).bump (Obj.mapCnt p l)).get (Obj.mapCnt p l) ∧
      { t with blobs := s.blobs, objs := s.objs, cal := s.cal } = s) ∧
    (∀ up down : BitVec 5, s.monitored p l → s.eqFrozen p = false → exec (.dfeUpdate port lane up down) s = .next (s.put (Obj.dfeTaps p l)
      ((List.range 5).foldl (fun t i => dfeStep t i (bit up.toNat i) (bit down.toNat i)) (s.get (Obj.dfeTaps p l))))) ∧
    (∀ up down : BitVec 5, s.eqFrozen p → exec (.dfeUpdate port lane up down) s = .next s))

/-- The asymmetry of the spans and the surveys. `ASYM_WINDOW_END` at the end of a window puts the rounded mean of its samples (0 without one, which is the model's choice, log entry 109) and their number into their objects and begins the next window; `ASYM_SURVEY_SEND` in the tick after it, with room
for both frames, keeps the own survey, the latest of each node, and sends it both ways; `ASYM_COMPUTE` eight ticks after it answers `asymCompute`, which with a survey missing only notes the window, counts a freeze and puts state 2 into `ASYM_STATE`. A received asymmetry survey or
survey notice of the right length without a poisoned word is taken, or kept in the ring map. `SURVEY_NOTICE_SEND` with room sends and keeps a notice when a field has changed or 1,024 ticks have passed, and changes nothing when neither holds. `SURVEY_NODE_EXPIRY` takes the
notices of the node that are 3,072 ticks old out of the ring map. -/
def Obligations.SpanSurveys : Prop :=
  ∀ (s : State),
    (∀ port : Fin 3, port.val < 2 → s.tide.tick % 64 = 0 → 64 ≤ s.tide.tick →
      let p := port.val
      let c := s.calPort p
      exec (.asymWindowEnd port) s = .next (modCal p (fun c => { c with sum := 0, count := 0, win := s.tide.tick / 64 - 1, valid := decide (16 ≤ c.count) })
        ((s.putI (Obj.qMean p) (if c.count = 0 then 0 else roundDiv c.sum c.count)).put (Obj.asymSamples p) c.count))) ∧
    (s.released 4 → s.tide.tick % 64 = 1 → 65 ≤ s.tide.tick → 4 ≤ s.ownRoom 7 2 →
      exec .asymSurveySend s = .next (sendBoth 0xFD s.ownSurvey.words (keepSurvey s.ownSurvey s))) ∧
    (∀ v, (keepSurvey v s).cal.surveys = s.cal.surveys.filter (fun e => e.node != v.node) ++ [v]) ∧
    (s.tide.tick % 64 = 8 → 72 ≤ s.tide.tick → exec .asymCompute s = .next (asymCompute s)) ∧
    (let win := s.tide.tick / 64 - 1;
      ((s.mapNodes.map (s.surveyFor (win % 16))).filterMap id).length ≠ s.mapNodes.length →
      asymCompute s = ((((s.put Obj.asymWindow win).bump Obj.asymFrozenCnt).put (Obj.asymState 0) 2).put (Obj.asymState 1) 2)) ∧
    (∀ j f t, s.mgmtNext 0xFD = some j → localFrame j s = (some f, t) → f.pay.length = 2 → (∀ w ∈ f.pay, w.p = false) →
      exec .asymSurveyReceive s = .next (asymSurveyTake f t)) ∧
    (s.released 4 → s.nodeNumber ≠ 0 → 2 ≤ s.ownRoom 7 2 →
      (s.ring.lastSurvey.toNat / 2 ^ 16 ≠ s.surveyWord / 2 ^ 16 ∨ s.ring.surveyTick + 1024 ≤ s.tide.beat) →
      exec .surveyNoticeSend s = .next (
        let w := w64 (s.surveyWord + (wfld s.ring.lastSurvey 0 16 + 1) % 2 ^ 16)
        sendBoth 0xFE [pw w] (keepNode w { s with ring := { s.ring with lastSurvey := w, surveyTick := s.tide.beat } }))) ∧
    (s.ring.lastSurvey.toNat / 2 ^ 16 = s.surveyWord / 2 ^ 16 → s.tide.beat < s.ring.surveyTick + 1024 → exec .surveyNoticeSend s = .next s) ∧
    (∀ j f t, s.mgmtNext 0xFE = some j → localFrame j s = (some f, t) → f.pay.length = 1 → (∀ w ∈ f.pay, w.p = false) →
      exec .surveyNoticeReceive s = .next (keepNode (Frame.word f 0) t)) ∧
    (∀ node : BitVec 8, exec (.surveyNodeExpiry node) s = .next { s with ring := { s.ring with
      map := s.ring.map.filter (fun e => wfld e.word 56 8 != node.toNat || decide (s.tide.beat < e.tick + 3072))
      spans := s.ring.spans.filter (fun d => d.origin != node.toNat || decide (s.tide.beat < d.tick + 3072)) } })

/-- What a port does with what arrives. `RING_FRAME_RECEIVE` heard on an open port reads the words off its lanes, sends them back when the port returns what it receives, keeps the header of a class 00 frame, and takes the words by `ringReceive`: a whole frame
with a good header and the length it names is counted and routed as it stands, the twin frames of the mooring link apart; a first word that is poisoned, does not begin a frame or has a bad header costs the frame as discard cause 2. `ORPHAN_WORD_DROP` of a word that begins no frame is
counted. A unicast frame from a ring port for another pair goes on by the other ring port, its TTL one less when it came from another pair, and a TTL of 0 stops it then; a broadcast goes on and is delivered to a Working chip that is not its consumer; a
chip-addressed frame for this node is delivered; a pair-addressed frame for this pair from the twin's side is refused as NOT_WORKING by a chip that is not Working. -/
def Obligations.FramesArrive : Prop :=
  ∀ (port : Fin 3) (s : State),
    let p := port.val
    (∀ f : FrameIn, s.listens p → s.rxOpen p →
      let ws := s.wordsAt p f.first.val 0 f.words
      exec (.ringFrameReceive port f) s = .next (ringReceive p ws
        (noteHead p f.stamp ws (returned p (ws.map .word) (modPort p (fun q => { q with repl := [] }) s))))) ∧
    (∀ f : FrameIn, s.listens p = false ∨ s.rxOpen p = false → exec (.ringFrameReceive port f) s = .next s) ∧
    (∀ f : Frame, hdrOk f.hdr → hLen f.hdr = f.pay.length → ¬ (p = 2 ∧ hClass f.hdr = 2 ∧ hDport f.hdr = 0xFB) →
      ringReceive p (Frame.words f) s = routeFrame p f.hdr (Frame.words f) ((tagErrors p (Frame.words f) s).bump (Obj.framesInCnt p))) ∧
    (∀ (w : Cargo) (t : List Cargo), w.v → (w.p ∨ 8 < w.bytes.toNat ∨ beginsFrame w = false ∨ hdrOk w.data = false) →
      ringReceive p (w :: t) s = countDiscard 2 p (tagErrors p (w :: t) s)) ∧
    (∀ w : Cargo, s.listens p → s.rxOpen p → w.v → beginsFrame w = false →
      exec (.orphanWordDrop port w) s = .next ((returned p [.word w] s).bump Obj.orphanWordCnt)) ∧
    (∀ h : W64, p < 2 → hDnode h ≠ 255 → hDnode h ≠ s.nodeNumber → s.inPair (hDnode h) = false →
      s.route p h = ⟨[1 - p], false, none⟩ ∧ (p ≠ s.twinSide → hTtl h ≠ 0 → s.ttlOut p h (s.route p h) = false ∧
        s.sentOn p h (s.route p h) = setTtl h (hTtl h - 1)) ∧ (p ≠ s.twinSide → hTtl h = 0 → s.ttlOut p h (s.route p h))) ∧
    (∀ h : W64, p < 2 → hDnode h = 255 → s.consumes h = false → s.workingChip → s.route p h = ⟨[1 - p], true, none⟩) ∧
    (∀ h : W64, hDnode h = s.nodeNumber → s.nodeNumber ≠ 255 → chipPort (hDport h) → s.route p h = ⟨[], true, none⟩) ∧
    (∀ h : W64, hDnode h ≠ 255 → chipPort (hDport h) = false → s.inPair (hDnode h) → pairPort (hDport h) → s.workingChip = false → p = 2 ∨ p = s.twinSide →
      s.route p h = ⟨[], false, some bsNotWorking⟩)

/-- Outputs, credit and the peaks. `OUTPUT_FRAME_START` first lets waiting scheduled copies into the Hold; at an output that is up, the first frame in turn that may start is sent, or discarded with cause 4 when its destination has been disabled since.
A credit word heard on an open port is counted in `CONTROL_ERR_CNT` when its CHECK fails, and with version 1 its LIMIT and FREED are kept, and an EPOCH other than the last one makes the port's credit fresh; `CREDIT_WORD_INSERT` on an Active transmitter with a changed FREED sends a credit
word. `OUTPUT_STALL` after `STALL_TICKS` starved boundaries is counted, raises event 0x15, and takes the output down, which begins its linger; `LINGER_EXPIRY` with no boundary of it left discards every frame of the output with cause 5. A read of
`SHARED_PEAK` answers the peak and leaves the bays in use now; a read of `RESEQ_PEAK` answers the peak and leaves 0. -/
def Obligations.OutputsAndCredit : Prop :=
  ∀ (port : Fin 3) (r : Req) (s : State),
    let p := port.val
    (∀ async (room : BitVec 16) j,
      let u := schedGo s
      u.txUp p → u.get (Obj.outState p) = 0 → u.faults.lanesIdle = false → (u.turns p).find? (u.mayStart p async room.toNat) = some j →
      (u.manifestStale j = false → exec (.outputFrameStart port async room) s = .next (startFrame p j u)) ∧
      (u.manifestStale j → exec (.outputFrameStart port async room) s = .next (promote (discardJob 4 j u)))) ∧
    (∀ w : W64, s.listens p → s.rxOpen p → w ≠ 0 → blockOk w = false →
      exec (.creditWordReceive port w) s = .next ((returned p [.ctrl tyIdle w] s).bump (Obj.controlErrCnt p))) ∧
    (∀ w : W64, s.listens p → s.rxOpen p → w ≠ 0 → blockOk w → wfld w 52 4 = 1 → s.ring.ports.length = 3 →
      ∃ t, exec (.creditWordReceive port w) s = .next t ∧ (t.port p).farLimit = wfld w 40 10 ∧ (t.port p).farFreed = wfld w 0 16 ∧
        ((t.port p).fresh ↔ (s.port p).fresh ∨ (s.port p).lastEpoch ≠ wfld w 50 2) ∧ t.hold = s.hold) ∧
    (s.tx p = dActive → s.faults.lanesIdle = false → (s.port p).freed ≠ (s.port p).freedSent → exec (.creditWordInsert port) s = .next (
      modPort p (fun q => { q with freedSent := q.freed }) (sendBlock p tyIdle (sealBlock
        (2 ^ 52 + (s.port p).epoch % 4 * 2 ^ 50 + partSize p * 2 ^ 40 + (s.port p).freed % 2 ^ 16)) s))) ∧
    (s.txUp p → s.get (Obj.outState p) = 0 → (s.port p).stalled = false → s.get Obj.stallTicks ≤ (s.port p).starved → exec (.outputStall port) s =
      .next (outputDown p (raise 0x15 p 0 ((modPort p (fun q => { q with stalled := true, need := s.leastNeed p }) s).bump (Obj.stallCnt p))))) ∧
    (∀ q, s.Wf q → s.get (Obj.outState p) = 0 → s.get Obj.lingerTicks ≠ 0 → outputDown p s =
      modPort p (fun q => { q with linger := s.get Obj.lingerTicks }) ((s.put (Obj.outState p) 1).bump (Obj.lingerCnt p))) ∧
    (s.get (Obj.outState p) = 1 → (s.port p).linger = 0 → exec (.lingerExpiry port) s =
      .next (promote ((s.hold.jobs.filter (fun j => j.output == p)).foldl (fun s j => discardJob 5 j s) (s.put (Obj.outState p) 2)))) ∧
    (Readable Obj.sharedPeak s → exec (.sharedPeakRead r) s =
      .next (answered r Obj.sharedPeak (bytesOf 2 (s.get Obj.sharedPeak)) (s.put Obj.sharedPeak s.sharedNow))) ∧
    (∀ out : Fin 8, let o := Obj.reseqPeak out.val
      Readable o s → exec (.reseqPeakRead r out) s = .next (answered r o (bytesOf 1 (s.get o)) (s.put o 0)))

/-- The bridge as an origin. `POSTED_WRITE_ISSUE` of the core numbers a transfer; to a space that does not exist, or that no path reaches, it is told to the core with that status (the second counted in `UNREACHABLE_CNT`); with a path and room for
every frame the core is told at once that it is accepted and the frames go out in turn; without room nothing changes. Its frames are of class 01 to the node and space of the address, with the acknowledgement bit asked for and at most 30 words after the address. `REQUEST_ISSUE` is
told the same two refusals, and otherwise its frame goes out or waits. A class 10 frame with room, a free tag and none waiting before it goes out and takes the lowest free tag; without a free tag a frame that needs one waits last. `TAG_WAIT_RESUME` sends the frame that has waited longest
when it can be sent, and changes nothing otherwise. -/
def Obligations.BridgeIssues : Prop :=
  ∀ (addr : W64) (words : List W64) (s : State),
    let n := s.bridge.nextXfer
    (∀ ack, let l := postedFrames addr words ack .core n
      let v := beginXfer (!ack) s
      (spaceExists (aSpace addr) = false → exec (.postedWriteIssue addr words ack) s = .next (tellCore n bsSpace 0 [] v)) ∧
      (spaceExists (aSpace addr) → (∀ r ∈ l, (s.outsFor r).isEmpty) →
        exec (.postedWriteIssue addr words ack) s = .next (tellCore n bsUnreachable 0 [] (v.bump Obj.unreachableCnt))) ∧
      (spaceExists (aSpace addr) → (∀ r ∈ l, (s.outsFor r).isEmpty = false) → s.roomForAll l →
        exec (.postedWriteIssue addr words ack) s = .next (l.foldl (fun s r => sendOrWait r s) (modBridge (fun b => { b with accepted := n }) v))) ∧
      (spaceExists (aSpace addr) → (∀ r ∈ l, (s.outsFor r).isEmpty = false) → s.roomForAll l = false →
        exec (.postedWriteIssue addr words ack) s = .next s) ∧
      (v.bridge.nextXfer = n + 1 ∧ v.bridge.xfers.head? = some ⟨n, 0, !ack, false⟩) ∧
      (∀ r ∈ l, r.dport = aSpace addr ∧ r.dnode = aNode addr ∧ r.cls = 1 ∧ r.ack = ack ∧ r.pay.length ≤ 31)) ∧
    (∀ op size count, let r : LocalReq := ⟨7, 2, false, aNode addr, aSpace addr,
        pw (cmdWord op.toNat size.toNat count.toNat 0 0 0 0 0) :: pw addr :: words.map pw, .core, n, none, false, false⟩
      let v := beginXfer false s
      (spaceExists (aSpace addr) = false → exec (.requestIssue op size count addr words) s = .next (tellCore n bsSpace 0 [] v)) ∧
      (spaceExists (aSpace addr) → (s.outsFor r).isEmpty →
        exec (.requestIssue op size count addr words) s = .next (tellCore n bsUnreachable 0 [] (v.bump Obj.unreachableCnt))) ∧
      (spaceExists (aSpace addr) → (s.outsFor r).isEmpty = false → exec (.requestIssue op size count addr words) s = .next (sendOrWait r v))) ∧
    (∀ r tag, r.cls = 2 → s.roomFor r → s.freeTag = some tag → s.bridge.reqWait = [] →
      let q := sendLocal (withTag tag r) s
      sendOrWait r s = modBridge (fun b => { b with
        tags := b.tags.set tag ⟨.waiting, r.dnode, r.dport, q.1, 2, false, r.src, r.xid, r.mdest.isSome, s.tide.beat⟩ }) q.2) ∧
    (∀ r, r.cls = 2 ∨ r.ack → s.freeTag = none → sendOrWait r s = modBridge (fun b => { b with reqWait := b.reqWait ++ [r] }) s) ∧
    (∀ r t u, s.bridge.reqWait = r :: t → trySend r (modBridge (fun b => { b with reqWait := t }) s) = some u →
      exec .tagWaitResume s = .next u) ∧
    (∀ r t, s.bridge.reqWait = r :: t → trySend r (modBridge (fun b => { b with reqWait := t }) s) = none → exec .tagWaitResume s = .next s) ∧
    (s.bridge.reqWait = [] → exec .tagWaitResume s = .next s)

/-- Answers at the origin, and what comes instead of them. A response of its kind that port 7 takes, its command word not poisoned, frees the tag that it answers and is told to its source, counted in `REFUSED_OUT_CNT` unless its status is OK; with no tag waiting for it, it is
counted in `LATE_RESPONSE_CNT` when it answers a class 10 frame. `READ_TIMEOUT` of a tag that has waited so many ticks since its frame left is counted, told to the source as NO_ACK or TIMEOUT, and holds the tag; `TAG_REISSUE_HOLD_END` as many ticks later frees it. `TRANSFER_ABORT` (which
transfer it means is the model's choice, log entry 111) of a transfer with frames that have not begun to leave reports it as ABORTED with the frames sent, and of another one answers `abortLate`; with no transfer left it changes nothing. `RESPONSE_ROOM_WAIT_END` sends the response, or with none waiting the
refusal, that has waited longest, when there is room for it. -/
def Obligations.BridgeAnswers : Prop :=
  ∀ (tag : Fin 16) (s : State),
    let x := s.bridge.tags.getD tag.val Tag.zero
    (∀ (c : Instr) op j f t, (c = .readResponseReceive ∧ op = 3) ∨ (c = .writeResponseReceive ∧ op = 4) →
      s.localNext 7 (Job.forBridge (fun _ w => cOp w == op)) = some j → localFrame j s = (some f, t) → (f.pay.getD 0 ⟨0, true⟩).p = false →
      (∀ i, t.tagFor .waiting f = some i → cStatus (Frame.word f 0) = bsOk → (t.bridge.tags.getD i Tag.zero).msg = false → exec c s =
        .next (tellResponse (t.bridge.tags.getD i Tag.zero).src (t.bridge.tags.getD i Tag.zero).xid f (setTag i Tag.zero t))) ∧
      (∀ i, t.tagFor .waiting f = some i → cStatus (Frame.word f 0) ≠ bsOk → (t.bridge.tags.getD i Tag.zero).msg = false → exec c s =
        .next (tellResponse (t.bridge.tags.getD i Tag.zero).src (t.bridge.tags.getD i Tag.zero).xid f (setTag i Tag.zero (t.bump Obj.refusedOutCnt)))) ∧
      (t.tagFor .waiting f = none → cRcls (Frame.word f 0) = 2 → exec c s = .next (t.bump Obj.lateResponseCnt))) ∧
    (x.use = .waiting → s.tagLeft x → x.tick + s.get Obj.readTimeout ≤ s.tide.beat → x.msg = false → exec (.readTimeout tag) s =
      .next (tellFailure x.src x.xid (if x.posted then bsNoAck else bsTimeout) 0
        (setTag tag.val { x with use := .held, tick := s.tide.beat } (s.bump Obj.timeoutCnt)))) ∧
    (x.use = .waiting → s.tagLeft x → x.tick + s.get Obj.readTimeout ≤ s.tide.beat → x.msg → exec (.readTimeout tag) s =
      .next (setTag tag.val { x with use := .held, tick := s.tide.beat } (s.bump Obj.timeoutCnt))) ∧
    (x.use = .held → x.tick + s.get Obj.readTimeout ≤ s.tide.beat → exec (.tagReissueHoldEnd tag) s = .next (setTag tag.val Tag.zero s)) ∧
    (∀ y, s.bridge.xfers.find? (fun x => !x.aborted) = some y →
      (s.unsentOf y.id ≠ 0 → ∃ t, exec .transferAbort s = .next t ∧ t.bridge.report.xfer = y.id ∧ t.bridge.report.status = bsAborted ∧
        t.bridge.report.detail = y.sent) ∧
      (s.unsentOf y.id = 0 → exec .transferAbort s = .next (abortLate y s))) ∧
    (s.bridge.xfers.find? (fun x => !x.aborted) = none → exec .transferAbort s = .next s) ∧
    (∀ r t, s.bridge.respWait = r :: t → s.roomFor r →
      exec .responseRoomWaitEnd s = .next (sendLocal r (modBridge (fun b => { b with respWait := t }) s)).2) ∧
    (∀ r t, s.bridge.respWait = [] → s.bridge.refusals = r :: t → s.roomFor r →
      exec .responseRoomWaitEnd s = .next (sendLocal r (modBridge (fun b => { b with refusals := t }) s)).2)

/-- Requests at a target. Each of the three commands takes the next request of its kind at local port 3 + q, reads it, and serves it by `serveRequest`; with none there it changes nothing. A frame with its command and address words, not sent to every node, with neither word poisoned, nor the OFFSET word of a SEG_READ: with a bad
operation it is refused as BAD_OP; when the space is not served, or the frame was overtaken, it is refused as that (counted in `NOT_WORKING_CNT` and `ORDER_REFUSED_CNT`); else the dictionary serves space 0x00 and `serveWindow` the others. `serveWindow` refuses an offset of no window as NO_SUCH_OFFSET; a READ that passes `readCheck` is answered with its
elements packed, or at a pop window with the words there are, and a WRITE that passes `writeCheck` with the address, or refused with the first element's status and its number. -/
def Obligations.RequestsServed : Prop :=
  ∀ (q : Fin 5) (s : State),
    (∀ c test j f t, (c = Instr.readRequestReceive q ∧ test = fun h w => !badOp h w && isReadOp (cOp w)) ∨
        (c = .writeRequestReceive q ∧ test = fun h w => !badOp h w && !isReadOp (cOp w)) ∨
        (c = .badOpRequest q ∧ test = fun h w => badOp h w && !isRespOp (cOp w)) →
      s.localNext (3 + q.val) (Job.forBridge test) = some j → localFrame j s = (some f, t) → exec c s = .next (serveRequest j.input f t)) ∧
    (∀ c test, (c = Instr.readRequestReceive q ∧ test = fun h w => !badOp h w && isReadOp (cOp w)) ∨
        (c = .writeRequestReceive q ∧ test = fun h w => !badOp h w && !isReadOp (cOp w)) ∨
        (c = .badOpRequest q ∧ test = fun h w => badOp h w && !isRespOp (cOp w)) →
      s.localNext (3 + q.val) (Job.forBridge test) = none → exec c s = .next s) ∧
    (∀ input (f : Frame) c a rest, f.pay = c :: a :: rest → c.p = false → a.p = false → ¬ (cOp c.data = 8 ∧ (rest.getD 0 ⟨0, false⟩).p) → hDnode f.hdr ≠ 255 →
      let x := admitReq input (tTick f.trl) f.hdr a.data s
      (badOp f.hdr c.data → serveRequest input f s = refuseFrame bsBadOp 0 f.hdr f.pay s) ∧
      (badOp f.hdr c.data = false → x.1 ≠ bsOk → serveRequest input f s = refuseFrame x.1 0 f.hdr f.pay x.2) ∧
      (badOp f.hdr c.data = false → x.1 = bsOk → aSpace a.data = 0 → serveRequest input f s = serveDict f.hdr f.pay x.2) ∧
      (badOp f.hdr c.data = false → x.1 = bsOk → aSpace a.data ≠ 0 →
        serveRequest input f s = serveWindow f.hdr f.pay (cOp c.data) (cSize c.data) (cCount c.data) a.data x.2) ∧
      (s.spaceCode f.hdr a.data = bsNotWorking → x = (bsNotWorking, s.bump Obj.notWorkingCnt)) ∧
      (s.spaceCode f.hdr a.data = bsOk → orderTake input (hSnode f.hdr) (tTick f.trl) s = none → x = (bsOrder, s.bump Obj.orderRefusedCnt)) ∧
      (s.spaceCode f.hdr a.data = bsOk → ∀ u, orderTake input (hSnode f.hdr) (tTick f.trl) s = some u → x = (bsOk, u))) ∧
    (∀ h pay a size count, winAt (aSpace a) (aOff a) = none → serveWindow h pay 1 size count a s = refuseFrame bsOffset 0 h pay s) ∧
    (∀ h pay a size count w, winAt (aSpace a) (aOff a) = some w → isPop w.kind = false → readCheck w (aOff a) size count = bsOk →
      let r := readWindow (hSnode h) w (aOff a) size count s
      serveWindow h pay 1 size count a s = answer h pay 3 size count bsOk 0 (packElems (elemBytes size) r.1) r.2) ∧
    (∀ h pay a size count w, winAt (aSpace a) (aOff a) = some w → isPop w.kind → readCheck w (aOff a) size count = bsOk →
      let r := readPop (hSnode h) w count s
      serveWindow h pay 1 size count a s = answer h pay 3 size r.1.length bsOk r.1.length (packCargo r.1) r.2) ∧
    (∀ h pay a size count w, winAt (aSpace a) (aOff a) = some w → writeCheck w (aOff a) size count (decide (3 ≤ pay.length)) = bsOk →
      let r := writeElems w (elemBytes size) 0 (aOff a) (unpackElems (elemBytes size) count (pay.getD 2 ⟨0, false⟩)) s
      (r.1 = bsOk → serveWindow h pay 2 size count a s = answer h pay 4 0 0 bsOk 0 [pw (pay.getD 1 ⟨0, false⟩).data] r.2.2) ∧
      (r.1 ≠ bsOk → serveWindow h pay 2 size count a s = refuseFrame r.1 r.2.1 h pay r.2.2))

/-- Posted writes at a target, and prefetch. `POSTED_WRITE_RECEIVE` at a port with none waiting takes the next posted write of another node, and with a good trailer CRC hands it to `arrivePosted`. There a write to a served space, in order, that passes its checks ends as its window performs it, or waits when the window lacks room: in the Hold, or out of it when it has an acknowledgement to give. One that ends OK is counted and, when FLAGS asks for it, acknowledged. `POSTED_WRITE_RESUME` ends the waiting one when its window has room now, and `TARGET_WAIT_EXPIRY` after `TARGET_WAIT` ticks refuses it as BUSY with part 1. `PREFETCH_READ_AHEAD` after a READ of a window that is prefetched
and served reads ahead, `PREFETCH_HOLD_EXPIRY` discards the streams unused for `PREFETCH_HOLD` ticks; a stream discarded counts its words, and a pop window's gives them back. -/
def Obligations.PostedWritesAndPrefetch : Prop :=
  ∀ (q : Fin 5) (s : State),
    let out := 3 + q.val
    (∀ j f u t, s.postWaits out = none → s.localNext out (fun j => hClass j.hdr == 1) = some j → readWords j.bays 0 j.words s = (u, t) → j.own = false →
      frameOf u = some f → Frame.crcOk f → exec (.postedWriteReceive q) s = .next (arrivePosted out j f t)) ∧
    ((s.postWaits out).isSome ∨ s.localNext out (fun j => hClass j.hdr == 1) = none → exec (.postedWriteReceive q) s = .next s) ∧
    (∀ (j : Job) (f : Frame) a data x, f.pay = a :: data → a.p = false → s.spaceCode f.hdr a.data = bsOk →
      admitReq j.input (tTick f.trl) f.hdr a.data s = (bsOk, x) → (noteLeft j (leaveHold j x)).spaceCode f.hdr a.data = bsOk →
      (noteLeft j (leaveHold j x)).postedCheck a.data data.length = bsOk →
      (∀ st d t, performPosted a.data data (noteLeft j (leaveHold j x)) = some (st, d, t) → arrivePosted out j f s = endPosted f st d t) ∧
      (performPosted a.data data (noteLeft j (leaveHold j x)) = none → hAck f.hdr = false → arrivePosted out j f s =
        modBridge (fun b => { b with postWait := b.postWait ++ [⟨f, some j.ser, out, s.tide.beat⟩] }) x) ∧
      (performPosted a.data data (noteLeft j (leaveHold j x)) = none → hAck f.hdr → hDnode f.hdr ≠ 255 → arrivePosted out j f s =
        modBridge (fun b => { b with postWait := b.postWait ++ [⟨f, none, out, s.tide.beat⟩] }) (noteLeft j (leaveHold j x)))) ∧
    (∀ f : Frame, hAck f.hdr = false → endPosted f bsOk 0 s = s.bump Obj.postedInCnt) ∧
    (∀ f : Frame, hAck f.hdr → hDnode f.hdr ≠ 255 →
      endPosted f bsOk 0 s = answer f.hdr f.pay 4 0 0 bsOk 0 [pw (Frame.word f 0)] (s.bump Obj.postedInCnt)) ∧
    (∀ w t, s.postWaits out = some w → tryPosted w.frame (unwait w s) = some t → exec (.postedWriteResume q) s = .next t) ∧
    (∀ w, s.postWaits out = some w → s.spaceCode w.frame.hdr (Frame.word w.frame 0) = bsOk → w.tick + s.get Obj.targetWait ≤ s.tide.beat →
      exec (.targetWaitExpiry q) s = .next (refuseFrame bsBusy 1 w.frame.hdr w.frame.pay (unwait w s))) ∧
    (∀ node w off, s.bridge.ahead = some (node, w, off) → s.prefetches w → s.serves w.space →
      exec .prefetchReadAhead s = .next (readAhead node w off (modBridge (fun b => { b with ahead := none }) s))) ∧
    (exec .prefetchHoldExpiry s = .next ((s.bridge.streams.filter (fun st => decide (st.tick + s.get Obj.prefetchHold ≤ s.tide.beat))).foldl
      (fun s st => dropStream st s) s)) ∧
    (∀ st : Stream, st.words ≠ [] → isPop st.win.kind → dropStream st s = fifoRollback (winFifo st.win) ((State.addTo (modBridge (fun b => { b with
      streams := b.streams.filter (fun x => !(x.node == st.node && x.win == st.win)) }) s) Obj.prefetchDiscardCnt st.words.length).bump Obj.rollbackCnt))

/-- Messages of a CAN controller while the node serves space 0x20. A transmit command on a transmit buffer with STATUS 0, 3, 4, 6 or 9 sets STATUS to 9 when its head is not allowed, else 5 in bus-off or recovery, else 1, with the attempts at 0; an abort of a pending or held one, or of one whose attempt was cut off, sets STATUS 4 and marks an attempt in progress, and
a release of a buffer with STATUS 3, 4 or 6 to 9 sets STATUS 0. `CAN_TX_CHOOSE` of a controller on the bus in normal mode with no transmission and no settings waiting takes the least candidate of `candidates`, a list's least entry being one that no other is below: a buffer that can be read is being sent with STATUS 2. Arbitration lost is counted and makes a buffer pending
again, or aborted; the head of the gateway queue stays in it then, unless a flush waits for it; a transmission completed counts, sets STATUS 3 of the buffer with its attempts one more and its stamp (counted as late after an abort, with bit 3 of `CAN_IRQ` for the pilot buffer), and takes the gateway queue's message out of the queue; an error answers `canTxError`; each of the three changes nothing without a transmission. A valid frame received on the bus, in a format the controller has enabled,
answers `canReceive`; the filter that decides is the lowest that matches, and a frame stored in a buffer without an unreleased message replaces it with STATUS 7. -/
def Obligations.CanMessages : Prop :=
  ∀ (k : Fin 8) (b : Fin 65) (s : State),
    let x := s.canBuf k b
    let c := s.ctl k
    (∀ retry : BitVec 4, s.servesPair → s.canTxBuf k b → x.status ∈ [0, 3, 4, 6, 9] → exec (.canBufferTransmit k b retry) s =
      .next (modBuf k b (fun y => { y with
        status := if headRejected (ccFd c.ctrl) (CanBuf.head x) then 9 else if c.st = .busOff ∨ c.st = .recovering then 5 else 1,
        retry := retry.toNat, attempts := 0, late := false }) s)) ∧
    (s.servesPair → x.status = 1 ∨ x.status = 5 ∨ (x.status = 2 ∧ s.sending k b = false) → exec (.canBufferAbort k b) s = .next (setBufStatus k b 4 s)) ∧
    (s.servesPair → x.status = 2 → s.sending k b →
      exec (.canBufferAbort k b) s = .next (modCtl k (fun c => { c with tx := c.tx.map (fun t => { t with abort := true }) }) s)) ∧
    (s.servesPair → x.status ∈ [3, 4, 6, 7, 8, 9] → exec (.canBufferRelease k b) s = .next (setBufStatus k b 0 s)) ∧
    (c.st = .on → c.tx = none → c.applyDue = false → ccMode c.ctrl = 0 →
      (s.candidates k = [] → exec (.canTxChoose k) s = .next s) ∧
      (∀ n key, least (s.candidates k) = some (n, key) → n ≠ 65 → (bufBad k n s).1 = false → exec (.canTxChoose k) s =
        .next (modCtl k (fun c => { c with tx := some ((bufBad k n s).2.txBuf k n) }) (setBufStatus k n 2 (bufBad k n s).2))) ∧
      (∀ key, least (s.candidates k) = some (65, key) → s.gwBad k = false → exec (.canTxChoose k) s =
        .next (modCtl k (fun c => { c with tx := some (s.txQueue k) }) s))) ∧
    (∀ l : List (Nat × Nat), ∀ a, least l = some a → a ∈ l ∧ ∀ e ∈ l, a.2 ≤ e.2) ∧
    (c.tx = none → ∀ tdc sof kind pos past counts, exec (.canArbLost k) s = .next s ∧ exec (.canTxComplete k tdc sof) s = .next s ∧
      exec (.canTxError k kind pos past counts) s = .next s) ∧
    (∀ t, c.tx = some t →
      (t.src ≠ 65 → exec (.canArbLost k) s = .next (setBufStatus k t.src (if t.abort then 4 else 1) (endTx k (s.bump (Obj.arbLostCnt k))))) ∧
      (t.src = 65 →
        let u := endTx k (s.bump (Obj.arbLostCnt k))
        exec (.canArbLost k) s = .next (if (u.ctl k).gwFlush = 1 then gwFlushHead k u else u)) ∧
      (∀ (tdc : BitVec 8) (sof : W64),
        let u := endTx k (canIrqSet k 0 (s.bump (Obj.txOkCnt k)))
        let v := setCounters k ((u.ctl k).txErr - 1) (u.ctl k).rxErr u
        (t.src = 65 → exec (.canTxComplete k tdc sof) s = .next (queueDrop k (noteTdc k tdc.toNat
          (match (v.fifo (gwQueue k)).words with | w :: _ => w.data | [] => 0) v))) ∧
        (t.src ≠ 65 →
          let w := modBuf k t.src (fun x => { x with
            status := 3, attempts := capAt 255 (x.attempts + 1), late := t.abort, stamp := sof })
            (noteTdc k tdc.toNat (CanBuf.head (v.canBuf k t.src)) v)
          let y := if t.abort then w.bump (Obj.lateAbortCnt k) else w
          exec (.canTxComplete k tdc sof) s = .next (if t.src = 64 then canIrqSet k 3 y else y))) ∧
      (∀ (kind : Fin 5) (pos : BitVec 8) past counts, exec (.canTxError k kind pos past counts) s =
        .next (canTxError k kind pos.toNat past counts t s))) ∧
    (∀ (f : CanFrame) (sof : W64), c.st = .on → CanFrame.valid f → f.fdf = false ∨ ccFd c.ctrl →
      exec (.canFrameReceive k f sof) s = .next (canReceive k f sof s)) ∧
    (∀ (f : CanFrame) i, s.filterFor k f = some i → filterHit (filterAt (s.blob (Obj.canFilters k)) i) f ∧
      ∀ j, j < i → filterHit (filterAt (s.blob (Obj.canFilters k)) j) f = false) ∧
    (∀ (f : CanFrame) (sof : W64) i, x.status ≠ 7 → x.status ≠ 8 →
      storeInBuffer k b i f sof s = modBuf k b (fun _ => ⟨7, CanFrame.head k f :: wordsOf 8 f.data, 0, 0, false, i, sof, 0⟩)
        (modCtl k (fun c => { c with inv := c.inv.filter (fun e => e.1 / 16 != b.val) }) s))

/-- Control of a CAN controller. A receive error of a controller on the bus is noted, and in normal mode adds 8 or 1 to the receive error counter; it changes nothing off the bus. RECOVER in bus-off begins recovery and in normal operation is refused; the two other commands of `CAN_CMD` empty the gateway and the receive queue and read DONE. Recovery complete puts the controller on the bus with both counters 0, the held
buffers pending and bit 7 of `CAN_IRQ` set; a joining controller joins; settings that wait are taken into use once no transmission runs; a write to `CAN_IRQ` clears the bits written 1. An accepted commit, with room in the tide queue, queues the staged values of the controller and reads BUSY with code 0; one whose check fails reads REFUSED with the code and what failed. -/
def Obligations.CanControl : Prop :=
  ∀ (r : Req) (k : Fin 8) (s : State),
    let c := s.ctl k
    let cmd := Obj.canCmd k
    (∀ (kind : Fin 5) (pos : BitVec 8) heavy, c.st = .on → ccMode c.ctrl = 0 → exec (.canRxError k kind pos heavy) s =
      .next (setCounters k c.txErr (c.rxErr + if heavy then 8 else 1) (noteErr k kind pos.toNat s))) ∧
    (∀ (kind : Fin 5) (pos : BitVec 8) heavy, c.st = .on → ccMode c.ctrl ≠ 0 → exec (.canRxError k kind pos heavy) s =
      .next (noteErr k kind pos.toNat s)) ∧
    (∀ (kind : Fin 5) (pos : BitVec 8) heavy, c.st ≠ .on → exec (.canRxError k kind pos heavy) s = .next s) ∧
    (TakenVal r cmd 1 s → c.st = .busOff → exec (.canRecover r k) s =
      .next (accepted r cmd ((modCtl k (fun c => { c with st := .recovering }) s).put cmd 1))) ∧
    (TakenVal r cmd 1 s → c.st = .on → exec (.canRecover r k) s = .next (accepted r cmd (s.put cmd 4))) ∧
    (TakenVal r cmd 2 s → exec (.canGwQueueEmpty r k) s = .next (accepted r cmd ((canGwEmpty k s).put cmd 1))) ∧
    (TakenVal r cmd 3 s → exec (.canRxQueueEmpty r k) s =
      .next (accepted r cmd ((flushFifo (rxQueue k) s).put cmd 1))) ∧
    (c.st = .recovering → exec (.canRecoveryComplete k) s = .next (canIrqSet k 7 ((List.range 65).foldl
      (fun s b => if (s.canBuf k b).status = 5 then setBufStatus k b 1 s else s) (modCtl k (fun c => { c with st := .on, txErr := 0, rxErr := 0 }) s)))) ∧
    (c.st = .joining → exec (.canBusJoin k) s = .next (modCtl k (fun c => { c with st := .on }) s)) ∧
    (c.applyDue → c.tx = none → exec (.canConfigApply k) s = .next (modCtl k (fun c => { c with
      ctrl := s.canCtl k, nom := s.get (Obj.bitNom k), dat := s.get (Obj.bitData k), applyDue := false, st := if c.st = .on ∨ c.st = .off then .joining else c.st }) s)) ∧
    (∀ v : BitVec 16, v.toNat < 0x200 → TakenVal r (Obj.canIrq k) v.toNat s → exec (.canIrqClear r k v) s =
      .next (accepted r (Obj.canIrq k) (s.put (Obj.canIrq k) (clearBits (s.get (Obj.canIrq k)) v.toNat)))) ∧
    (∀ q, s.Wf q → let o := Obj.canCommit k
      TakenVal r o 1 s → ∀ t, queueTide o.key [1] s = some t →
        (s.canFault k = none →
          let mine := s.staged.filter (fun e => canKey k e.1)
          let v := { s with staged := s.staged.filter (fun e => !canKey k e.1), can := { s.can with commits := s.can.commits ++ mine } }
          let w := configCommit ((v.put (Obj.canResult k) 0xFFFF0000).put o 2)
          exec (.canCommit r k) s = .next (accepted r o { w with tide := { w.tide with queue := t.tide.queue } })) ∧
        (∀ code what, s.canFault k = some (code, what) →
          exec (.canCommit r k) s = .next (accepted r o ((s.put (Obj.canResult k) (what * 2 ^ 16 + code)).put o 4))))

/-- The time unit's inputs. Time words heard on an open port whose CHECK fails are counted in `DOM_WORDS_BAD_CNT` of the domain they name; with a good CHECK they are kept for the boundary with the time, the grandmaster's tick, the hops and the master that they carry and the port's stamp of the TICK, usable when no word is poisoned, VALID is set, QUALITY is not 3, the TICK has a
stamp and the delay of the port is known. Echo words with a good CHECK and no poisoned word give their sample, if they have one, to the round trip, are else counted in `ECHO_INVALID_CNT`, and take the walk on; those with a bad CHECK or a poisoned word are counted alone. A PPS edge more than 1 ms away from 1 s after the last accepted one is counted as rejected;
another one is accepted, and gives a domain that the node masters from PPS its phase error to the next whole second. `PPS_MISS_TIMEOUT` counts when a mastered domain takes PPS. `TIME_SET` of a node that masters a domain is kept for each domain it masters, and is refused as VALUE with too many nanoseconds, and as MODE when it masters none. `DOMAIN_SWITCH` is armed and reads BUSY when its code is 0,
and is refused with its code else, which leaves an armed one in place. -/
def Obligations.TimesReceived : Prop :=
  ∀ (port : Fin 2) (r : Req) (s : State),
    let p := port.val
    (∀ fields rest check,
      let words := fields ++ rest ++ [check]
      let u := returned p (words.map .word) s
      let d := b2n (bit (dat words 0).toNat 48)
      u.listens p → u.rxOpen p →
      (checkEight words = false → exec (.timeWordsReceive port fields rest check) s = .next (u.bump (Obj.domWordsBadCnt d))) ∧
      (checkEight words → ∃ w : TimeWords, exec (.timeWordsReceive port fields rest check) s =
          .next { u with time := { u.time with words := u.time.words.set (p * 2 + d) (some w) } } ∧
        w.time = timeOf (wfld (dat words 0) 0 48) (wfld (dat words 1) 0 32) (wfld (dat words 1) 32 16) ∧ w.tRx = (u.port p).stamp.getD 0 ∧
        w.gmTick = wfld (dat words 2) 0 48 ∧ w.hops = wfld (dat words 0) 56 8 ∧ w.master = wfld (dat words 3) 16 8 ∧
        (w.usable ↔ words.any (·.p) = false ∧ bit (dat words 3).toNat 3 ∧ wfld (dat words 0) 49 3 ≠ 3 ∧ (u.port p).stamp.isSome ∧
          (u.delayIn p).isSome))) ∧
    (∀ fields walk rest check,
      let words := fields ++ [walk] ++ rest ++ [check]
      let u := returned p (words.map .word) s
      u.listens p → u.rxOpen p →
      (checkEight words → words.any (·.p) = false →
        (∀ v, u.echoSample p words = some v → exec (.echoWordsReceive port fields walk rest check) s = .next (walkStep p words (rtSample p v u))) ∧
        (u.echoSample p words = none → exec (.echoWordsReceive port fields walk rest check) s = .next (walkStep p words (u.bump (Obj.echoInvalidCnt p))))) ∧
      (checkEight words = false ∨ words.any (·.p) → exec (.echoWordsReceive port fields walk rest check) s = .next (u.bump (Obj.echoInvalidCnt p)))) ∧
    (∀ off : BitVec 32, s.released 7 →
      let t : Int := s.time.w + (off.toNat * 8192 : Nat)
      let u := (modTime (fun x => { x with pps := some t }) (s.put Obj.ppsState 1)).put Obj.ppsLast (time96 t)
      (∀ l, s.time.pps = some l → 1000000 * 65536 < (t - l - (secUnits : Int)).natAbs → exec (.ppsEdge off) s = .next (s.bump Obj.ppsRejectCnt)) ∧
      ((∀ l, s.time.pps = some l → (t - l - (secUnits : Int)).natAbs ≤ 1000000 * 65536) → u.masters 1 = false →
        (u.masters 0 = false → exec (.ppsEdge off) s = .next u) ∧
        (u.masters 0 → bit (u.get Obj.masterSrc) 0 → (u.domain 0).setTo = none →
          let here := u.time.w + (t - psInt (u.getI Obj.ppsDelay) - u.time.w) + (u.domain 0).off
          let v := modDomain 0 (fun x => { x with
            pps := some ((here + (secUnits / 2 : Nat)) / (secUnits : Int) * (secUnits : Int) - here) }) u
          v.masters 1 = false → exec (.ppsEdge off) s = .next v))) ∧
    (s.released 7 → s.get Obj.ppsState = 1 →
      let u := modTime (fun t => { t with pps := none }) (s.put Obj.ppsState 2)
      ((s.masters 0 && bit (s.get Obj.masterSrc) 0 || s.masters 1 && bit (s.get Obj.masterSrc) 4) = false → exec .ppsMissTimeout s = .next u) ∧
      ((s.masters 0 && bit (s.get Obj.masterSrc) 0 || s.masters 1 && bit (s.get Obj.masterSrc) 4) →
        exec .ppsMissTimeout s = .next (u.bump Obj.ppsMissCnt))) ∧
    (∀ v : BitVec 80, TakenVal r Obj.timeSet v.toNat s → s.masters 0 ∨ s.masters 1 →
      (fld v.toNat 0 32 < 1000000000 →
        let take := fun (d : Nat) (s : State) =>
          if s.masters d then modDomain d (fun x => { x with setTo := some (timeOf (fld v.toNat 32 48) (fld v.toNat 0 32) 0) }) s else s
        exec (.timeSetWrite r v) s = .next (accepted r Obj.timeSet (take 1 (take 0 (s.put Obj.timeSet v.toNat))))) ∧
      (1000000000 ≤ fld v.toNat 0 32 → exec (.timeSetWrite r v) s = .next (refusedWith r Obj.timeSet 5 s))) ∧
    (∀ v : BitVec 80, TakenVal r Obj.timeSet v.toNat s → s.masters 0 = false → s.masters 1 = false →
      exec (.timeSetWrite r v) s = .next (refusedWith r Obj.timeSet 6 s)) ∧
    (∀ v : BitVec 64, let o := Obj.domainSwitch
      TakenVal r o v.toNat s → (s.switchCode v.toNat = 0 → exec (.domainSwitchWrite r v) s = .next (accepted r o (modTime (fun t => { t with
          armed := some ⟨fld v.toNat 16 48, bit v.toNat 1, fld v.toNat 0 1, none⟩ }) ((s.put Obj.switchResult 0).put o 2)))) ∧
        (s.switchCode v.toNat ≠ 0 →
          let u := s.put Obj.switchResult (s.switchCode v.toNat)
          exec (.domainSwitchWrite r v) s = .next (accepted r o (if s.time.armed.isSome then u else u.put o 4))))

/-- Edges of pins and pulse generators. `PIN_EDGE` of a CAN receive pin sets its level, and of a field pin the level outside; with D7 released, and for a field pin its input buffer on, the edge is captured, and that of a field pin logged and offered to the 32 fine-capture units; a coarse capture changes that of its pin and level alone. `PULSE_EDGE` of an armed or
running generator begins a pulse, or ends it and counts it: it then is stopped, done or running on; another generator stays as it is. The three writes of CONTROL with the bit they name answer `pgControlWrite`. There a STOP of an armed generator stops it; an ARM is taken with code 0, and otherwise only its code is kept; a generator that is armed or running has code 1; the inversion of the target follows CONTROL in each case. -/
def Obligations.PinsAndPulses : Prop :=
  ∀ (r : Req) (n : Fin 16) (s : State),
    let g := s.gen n
    let o := Obj.pgControl n.val
    (∀ (pin : Fin 264) level (ns fine : BitVec 32),
      let t := ((s.time.w + (ns.toNat * nsUnits : Nat)) / (nsUnits : Int)).toNat - 8
      let c := { s with pins := { s.pins with canRx := setBit s.pins.canRx (pin - 256) level } }
      let u := { s with pins := { s.pins with line := setBit s.pins.line pin level } }
      (256 ≤ pin.val → s.released 7 → exec (.pinEdge pin level ns fine) s = .next (coarseCapture pin level t c)) ∧
      (256 ≤ pin.val → s.released 7 = false → exec (.pinEdge pin level ns fine) s = .next c) ∧
      (pin.val < 256 → s.hears pin = false ∨ s.released 7 = false → exec (.pinEdge pin level ns fine) s = .next u) ∧
      (pin.val < 256 → s.hears pin → s.released 7 → exec (.pinEdge pin level ns fine) s =
        .next ((List.range 32).foldl (fun v f => fineCapture f pin level (v.time.w + (fine.toNat * 8192 : Nat)) v) (coarseLog pin level t
          (coarseCapture pin level t u))))) ∧
    (∀ pin level t, (coarseCapture pin level t s).capture level pin = some t ∧
      (∀ q b, q ≠ pin ∨ b ≠ level → (coarseCapture pin level t s).capture b q = s.capture b q)) ∧
    (g.st = 1 ∨ g.st = 2 →
      (g.active = false → exec (.pulseEdge n) s = .next (genDrive n (setGen n { g with st := 2, active := true } s))) ∧
      (g.active → exec (.pulseEdge n) s = .next (genDrive n (setGen n { g with
        st := if g.stopping then 4 else if g.period = 0 ∨ (g.count ≠ 0 ∧ g.count ≤ g.emitted + 1) then 3 else 2,
        active := false, emitted := (g.emitted + 1) % 2 ^ 32, k := g.k + 1, stopping := false } s)))) ∧
    (g.st ≠ 1 → g.st ≠ 2 → exec (.pulseEdge n) s = .next s) ∧
    (∀ (v : W64) (ns : BitVec 32), let w := (v ||| 0x10000).toNat
      TakenVal r o w s → exec (.pulseArm r n v ns) s = .next (accepted r o (pgControlWrite n w (s.time.w + (ns.toNat * nsUnits : Nat)) s))) ∧
    (∀ v : W64, let w := clearBits (v ||| 0x20000).toNat 0x10000
      TakenVal r o w s → exec (.pulseStop r n v) s = .next (accepted r o (pgControlWrite n w s.time.w s))) ∧
    (∀ t : BitVec 9, let w := s.get o / 2 ^ 9 * 2 ^ 9 + t.toNat
      TakenVal r o w s → exec (.pulseTargetRelease r n t) s = .next (accepted r o (pgControlWrite n w s.time.w s))) ∧
    (∀ (v : Nat) (now : Int), bit v 16 = false → bit v 17 → g.st = 1 →
      let u := genStop n s
      pgControlWrite n v now s = (genDrive n (setGen n { u.gen n with invert := bit v 9 } u)).put o (v % 2 ^ 11)) ∧
    (∀ v now, bit v 16 → bit v 17 = false →
      let a := genRelease n (fld v 0 9) s
      let u := genDrive n (setGen n { a.gen n with invert := bit v 9 } a)
      let w := u.put o (v % 2 ^ 11)
      (u.armCode n v = 0 → pgControlWrite n v now s = genArm n v now w) ∧
      (u.armCode n v ≠ 0 → pgControlWrite n v now s = setGen n { w.gen n with code := u.armCode n v } w)) ∧
    (g.st = 1 ∨ g.st = 2 → ∀ v, s.armCode n v = 1)

/-- Frames from the twin on the mooring link. A heartbeat that is taken is kept, with the generation and tick that it carries and its drive map, and a health report that is taken is kept; a twin frame with a bad trailer CRC, a poisoned word or a kind other than 1 to 4 is counted in `TWIN_FRAME_ERR_CNT`, and any frame that is none of these leaves the state as it is. A segment of a copy for a chip that takes copies is added to those
received, after a segment 0 has given an earlier copy up, and marks the copy bad when it has another number or generation than the next one of this copy; the last one has the whole copy checked. A bad copy is acknowledged with 1, one for another pair with 3 unless a chip in Berthing has no number yet, one whose slot does not verify with 2 and an erased spare slot, and another one is written to the spare slot with the chip's own
section, to be loaded. An acknowledgement of the copy being sent with result 0 ends it and is counted in `COPY_OK_CNT`; with 1 or 2 it has the copy wait for another try or, after three more tries, ends it with record 0x32 and a count in `COPY_ERR_CNT`; with another result it ends it. Without a copy being sent, or from another frame, it changes nothing. The retry timer sends a copy that waits for it again and otherwise changes nothing. -/
def Obligations.TwinFrames : Prop :=
  ∀ (f : Frame) (s : State),
    let w := Frame.word f 0
    let done := fun (u : State) => modTwin (fun t => { t with sending := none, retryWait := false }) (u.put Obj.saveState 0)
    (s.takesTwin f 1 6 → ∃ h : Heartbeat, exec (.heartbeatReceive f) s =
        .next { s with twin := { s.twin with hb := some h, hbAge := 0, hbNow := true, hbSince := true } } ∧
      h.savedGen = wfld w 0 32 ∧ h.applied = wfld (Frame.word f 1) 0 48 ∧
      h.drive = (Frame.word f 2).toNat + (Frame.word f 3).toNat * 2 ^ 64 + (Frame.word f 4).toNat * 2 ^ 128 + (Frame.word f 5).toNat * 2 ^ 192) ∧
    (s.takesTwin f 1 6 = false → exec (.heartbeatReceive f) s = .next s) ∧
    (s.takesTwin f 2 4 → exec (.healthReportReceive f) s =
      .next { s with twin := { s.twin with health := some (f.pay.map (·.data)), healthAge := 0 } }) ∧
    (s.takesTwin f 2 4 = false → exec (.healthReportReceive f) s = .next s) ∧
    (s.isTwinFrame f → (Frame.crcOk f = false ∨ f.pay.any (·.p) ∨ twinKind f = 0 ∨ 4 < twinKind f) →
      exec (.twinFrameDrop f) s = .next (s.bump Obj.twinFrameErrCnt)) ∧
    (s.isTwinFrame f = false → exec (.twinFrameDrop f) s = .next s) ∧
    (Frame.crcOk f → f.pay.any (·.p) = false → twinKind f ≠ 0 → twinKind f ≤ 4 → exec (.twinFrameDrop f) s = .next s) ∧
    (∀ v, s.takesTwin f 3 32 → s.takesCopy →
      let a := if wfld w 0 16 = 0 then modTwin (fun t => { t with rxGen := wfld w 16 32 }) (dropCopy s) else s
      let b := modTwin (fun t => { t with
        rxSegs := t.rxSegs ++ [bytesOfWords ((f.pay.drop 1).map (·.data))]
        rxBad := t.rxBad || !(wfld w 0 16 == a.twin.rxSegs.length && wfld w 16 32 == a.twin.rxGen) }) a
      (bit w.toNat 55 = false → exec (.stateCopyReceive f v) s = .next b) ∧
      (bit w.toNat 55 → exec (.stateCopyReceive f v) s = .next (takeCopy b.twin.rxSegs.flatten v b))) ∧
    (∀ v, s.takesTwin f 3 32 = false ∨ s.takesCopy = false → exec (.stateCopyReceive f v) s = .next s) ∧
    (∀ bs v,
      let u := modTwin (fun t => { t with rxSegs := [], rxBad := false }) s
      let fresh := s.node.mode = .berthing ∧ s.node.pair = 0
      let slot := u.mixedSlot (slPair bs) bs
      (s.twin.rxBad ∨ slotValid bs = false → takeCopy bs v s = sendAck s.twin.rxGen 1 u) ∧
      (s.twin.rxBad = false → slotValid bs →
        (slPair bs ≠ s.node.pair → ¬ fresh → takeCopy bs v s = sendAck s.twin.rxGen 3 u) ∧
        (slPair bs = s.node.pair ∨ fresh →
          takeCopy bs false s = sendAck s.twin.rxGen 2 (setSlot u.spareSlot [] u) ∧
          takeCopy bs true s = modTwin (fun t => { t with toLoad := some slot }) ((setSlot u.spareSlot slot u).put Obj.slotSeq (slSeq slot))))) ∧
    (∀ bs, s.twin.sending = some bs → s.takesTwin f 4 1 → wfld w 16 32 = slGen bs →
      let r := wfld w 8 8
      (r = 0 → exec (.copyAckReceive f) s = .next (done (s.bump Obj.copyOkCnt))) ∧
      (r = 1 ∨ r = 2 → s.twin.tries < 3 → exec (.copyAckReceive f) s = .next { s with twin := { s.twin with retryWait := true } }) ∧
      (r = 1 ∨ r = 2 → 3 ≤ s.twin.tries → exec (.copyAckReceive f) s = .next (done (raise 0x32 0 r (s.bump Obj.copyErrCnt)))) ∧
      (2 < r → exec (.copyAckReceive f) s = .next (done s))) ∧
    (∀ bs, s.twin.sending = some bs → s.takesTwin f 4 1 = false ∨ wfld w 16 32 ≠ slGen bs → exec (.copyAckReceive f) s = .next s) ∧
    (∀ bs, s.twin.sending = some bs → s.twin.retryWait → exec .copyRetryTimer s =
      .next (sendCopy bs (modTwin (fun t => { t with retryWait := false, tries := t.tries + 1 }) s))) ∧
    (s.twin.sending = none → exec (.copyAckReceive f) s = .next s ∧ exec .copyRetryTimer s = .next s) ∧
    (s.twin.retryWait = false → exec .copyRetryTimer s = .next s)

/-- How ownership passes (acceptance and release in one step: log entry 46). `GIVE_UP` of an owner in Working or Reduced draught with a criterion and a ready twin counts and records the criterion with the tick, and passes ownership on, as does a write of 1 to `HANDOVER`, which reads BUSY from then on; a chip that may not release refuses it as MODE, and an unready twin as CHECK with code 5 left in `HANDOVER`. Ownership passed on leaves the chip
Anchored, claiming and owning nothing, and waiting for the claim. Where an abort waits next in the queue the hand-over waits for it, and the abort stops it, which reads ABORTED; while the node waits for the claim of a hand-over an abort is kept as late, and at other times it is answered with no effect. `TAKEOVER_START` of a healthy Anchored chip with a loaded state, no pick-up, no wait for a claim and no activated session or relay in its way gives up an open copy and session, and begins the pick-up: quay buffers and clocks on, no pin driven yet. Each `PICKUP_SAMPLE` takes the outside levels
as given and the pick-up's next sample. `OWNERSHIP_CLAIM` of a chip that drives the mapped pins makes it the working owner when the line is high; with the line low it stops driving them and stays. `KEEPER_RELEASE`, while this chip claims nothing, picks nothing up and is not in Approach, lets the keepers and input buffers go and ends the wait for the claim; a hand-over that was BUSY reads DONE, and 0x81 after
a late abort, and a critical stop that waited for the keepers runs on. `CLAIM_WAIT_EXPIRY` with the line high counts, gives up an open copy and session, and picks the lines up on the keepers' own pins; a hand-over that was BUSY reads NO_CLAIM. Where the chip is not in such a state, each of these events changes nothing. -/
def Obligations.OwnershipPasses : Prop :=
  ∀ (r : Req) (s : State),
    let o := Obj.handover
    let low := { s with node := { s.node with twinLow := true } }
    (∀ c, s.giveUpCode = some c → s.mayRelease → s.twinReady → exec .giveUp s = .next (passOn false (raise 0x31 0 c
      (((releaseOwnership s).put Obj.lastGiveup ((releaseOwnership s).tide.tick % 2 ^ 16 * 2 ^ 16 + c)).bump Obj.giveupCnt)))) ∧
    (s.giveUpCode = none ∨ s.mayRelease = false ∨ s.twinReady = false → exec .giveUp s = .next s) ∧
    (∀ h, (passOn h s).twin.claimWait ∧ (passOn h s).twin.handed = h ∧ (passOn h s).node.claim = false ∧ (passOn h s).node.owns = false ∧
      (passOn h s).node.mode = .anchored) ∧
    (TakenVal r o 1 s → s.get o ≠ stBusy →
      (s.mayRelease → s.twinReady → s.abortNext = false →
        exec (.handover r) s = .next (accepted r o (passOn true ((s.put o 2).bump Obj.releaseCnt)))) ∧
      (s.mayRelease → s.twinReady → s.abortNext →
        exec (.handover r) s = .next (accepted r o (modTwin (fun t => { t with handPend := true }) (s.put o 2)))) ∧
      (s.mayRelease = false → exec (.handover r) s = .next (refusedWith r o 6 s)) ∧
      (s.mayRelease → s.twinReady = false → exec (.handover r) s = .next (refusedWith r o 0xA (s.put o 5)))) ∧
    (TakenVal r o 2 s → s.twin.handPend →
      exec (.handoverAbort r) s = .next (accepted r o (modTwin (fun t => { t with handPend := false }) (s.put o 3)))) ∧
    (TakenVal r o 2 s → s.twin.handPend = false →
      (s.twin.handed → s.twin.claimWait → exec (.handoverAbort r) s = .next (accepted r o (modTwin (fun t => { t with lateAbort := true }) s))) ∧
      (s.twin.handed = false ∨ s.twin.claimWait = false → exec (.handoverAbort r) s = .next (accepted r o s))) ∧
    (s.anchored → s.healthGood → s.node.loaded → s.twin.claimWait = false → s.twin.pick = .none → s.upd.state ≠ 3 → s.upd.state ≠ 5 →
      s.node.claim = false →
      let u := abandonSession (abandonCopy { s with node := { s.node with twinLow := false } })
      exec .takeoverStart s = .next (modTwin (fun t => { t with gapFrom := some (s.twin.hb.map (·.applied)) }) (beginPickup u.pickMap u))) ∧
    (s.anchored = false ∨ s.healthGood = false ∨ s.node.loaded = false ∨ s.twin.claimWait ∨ s.twin.pick ≠ .none ∨ s.upd.state = 3 ∨
      s.upd.state = 5 ∨ s.node.claim → exec .takeoverStart s = .next s) ∧
    (∀ map, (beginPickup map s).pins.inBuf = 15 ∧ (beginPickup map s).pins.clocks = 15 ∧ (beginPickup map s).twin.pick = .started ∧
      (beginPickup map s).twin.map = map ∧ (beginPickup map s).pins.drive = s.pins.drive) ∧
    (∀ levels : BitVec 256, let t := { s with pins := { s.pins with line := levels.toNat } }
      (s.twin.pick = .started → exec (.pickupSample levels) s = .next (pickSample 0 t)) ∧
      (∀ n, s.twin.pick = .sampling n → exec (.pickupSample levels) s = .next (pickSample n t)) ∧
      (s.twin.pick ≠ .started → (∀ n, s.twin.pick ≠ .sampling n) → exec (.pickupSample levels) s = .next s)) ∧
    (s.twin.pick = .driven → s.anchored → exec (.ownershipClaim false) s =
        .next (modTwin (fun t => { t with pick := .claimed, claimWait := false, handed := false }) (enterWorking s)) ∧
      (enterWorking s).node.owns ∧ (enterWorking s).node.claim ∧ (enterWorking s).node.mode = .working ∧
      exec (.ownershipClaim true) s = .next (pickLost s) ∧ (pickLost s).pins.drive = clearBits s.pins.drive s.twin.map ∧
      (pickLost s).twin.pick = .none ∧ (pickLost s).node = low.node) ∧
    (∀ b, s.twin.pick ≠ .driven ∨ s.anchored = false → exec (.ownershipClaim b) s = .next s) ∧
    (s.node.claim = false → s.twin.pick = .none → s.node.mode ≠ .approach →
      let k := if s.twin.handed ∧ s.get o = stBusy then (keepersRelease low).put o (if s.twin.lateAbort then 0x81 else 1) else keepersRelease low
      let u := modTwin (fun t => { t with claimWait := false, handed := false }) k
      (s.rst.crit ≠ .waitKeepers → exec .keeperRelease s = .next u) ∧
      (s.rst.crit = .waitKeepers → exec .keeperRelease s = .next { u with rst := { u.rst with crit := .running } })) ∧
    ((keepersRelease low).pins.keep = 0 ∧ (keepersRelease low).pins.inBuf = 0 ∧ (keepersRelease low).pins.drive = s.pins.drive) ∧
    (s.node.claim ∨ s.twin.pick ≠ .none ∨ s.node.mode = .approach → exec .keeperRelease s = .next s) ∧
    (s.twin.claimWait → s.anchored → s.ownLine → s.upd.state ≠ 3 → s.upd.state ≠ 5 →
      let a := abandonSession (abandonCopy (s.bump Obj.noClaimCnt))
      let b := if a.twin.handed ∧ a.get o = stBusy then a.put o stNoClaim else a
      let c := modTwin (fun t => { t with claimWait := false, handed := false, gapFrom := none }) b
      exec .claimWaitExpiry s = .next (beginPickup c.pins.keep c)) ∧
    (s.twin.claimWait = false ∨ s.anchored = false ∨ s.ownLine = false ∨ s.upd.state = 3 ∨ s.upd.state = 5 → exec .claimWaitExpiry s = .next s)

/-- Health and the saved state. A self-test cycle that ends on an Anchored chip is counted, and its failures and smallest eye openings become those of the last cycle; elsewhere it changes nothing. SELFTEST_OK holds when a cycle has ended and the last one had no failure, and READY when the mode is Anchored and SELFTEST_OK, SAVED_OK and TIME_OK hold. `STATE_SAVE` of an owner or a chip in Berthing commits a staged pair number, reads BUSY and commits the configuration, which raises `SAVED_GEN` past both chips' and has the state saved at a boundary; of
an Anchored chip it begins the write of a slot with the latest valid slot's content, or else its own; while it reads BUSY it is refused as STATE_BUSY, and in other modes as MODE. A write that ends verified leaves its slot, its number, tick and length, and loads a chip in Berthing; an owner then sends the copy to its twin; one that fails verification leaves `SAVE_STATE` 3 and record 0x37; `STATE_SAVE` that was BUSY becomes DONE or
REFUSED unless another save is due, and a configuration of the update unit that waited for this write is told. With no write under way the event changes nothing. -/
def Obligations.SavedState : Prop :=
  ∀ (r : Req) (s : State),
    let o := Obj.stateSave
    (s.anchored → exec .selftestCycleEnd s = .next (modTwin (fun t => { t with
      stLast := t.stFail, stDone := true, stFail := 0, eyeHLast := t.eyeHMin, eyeVLast := t.eyeVMin, eyeHMin := 255, eyeVMin := 255 }) (s.bump Obj.selftestCycles))) ∧
    (s.anchored = false → exec .selftestCycleEnd s = .next s) ∧
    (s.selfTestOk ↔ s.twin.stDone ∧ s.twin.stLast = 0) ∧
    (s.readyNow ↔ s.node.mode = .anchored ∧ s.selfTestOk ∧ s.savedOk ∧ s.timeOk) ∧
    (TakenVal r o 1 s → s.get o ≠ stBusy →
      let t := (commitPair s).put o 2
      (s.node.owns ∨ s.node.mode = .berthing → exec (.stateSave r) s = .next (accepted r o (configCommit t))) ∧
      (s.node.owns = false → s.node.mode ≠ .berthing → s.anchored →
        (∀ i, t.latestSlot = some i → exec (.stateSave r) s =
          .next (accepted r o (beginWrite (t.mixedSlot (t.get Obj.pairNode) (t.savedSlot i)) t))) ∧
        (t.latestSlot = none → exec (.stateSave r) s = .next (accepted r o (beginWrite t.ownSlot t)))) ∧
      (s.node.owns = false → s.node.mode ≠ .berthing → s.anchored = false → exec (.stateSave r) s = .next (refusedWith r o 6 s))) ∧
    (s.serveCode o.idx o.sub = ecOk → s.findObj o.idx o.sub = some o → s.modeCode o = ecOk → s.rightCode r o = ecOk → s.get o = stBusy →
      exec (.stateSave r) s = .next (refusedWith r o 8 s)) ∧
    (s.node.owns ∨ s.node.mode = .berthing → configCommit s =
      let t := s.put Obj.savedGen (Nat.max (s.get Obj.savedGen) s.twinSavedGen + 1)
      { t with twin := { t.twin with saveDue := true } }) ∧
    (∀ bs, s.twin.writing = some bs →
      let u := modTwin (fun t => { t with writing := none }) s
      let told := fun (st : Nat) (u : State) => if u.get o = stBusy ∧ s.twin.saveDue = false then u.put o st else u
      let a := told 1 ((((setSlot s.spareSlot bs u).put Obj.slotSeq (slSeq bs)).put Obj.savedTick (slTick bs)).put Obj.savedLen (slLength bs))
      let b := if a.node.mode = .berthing then { a.put Obj.savedSource 3 with node := { a.node with loaded := true } } else a
      let c := if s.cfgWriting then cfgWritten true b else b
      let d := raise 0x37 0 ecInternal (told 4 (u.put Obj.saveState 3))
      (c.node.owns → exec (.savedStateWriteComplete true) s =
        .next (sendCopy (copyBytes bs) (modTwin (fun t => { t with sending := some (copyBytes bs), tries := 0 }) c))) ∧
      (c.node.owns = false → exec (.savedStateWriteComplete true) s = .next (c.put Obj.saveState 0)) ∧
      exec (.savedStateWriteComplete false) s = .next (if s.cfgWriting then cfgWritten false d else d)) ∧
    (∀ v, s.twin.writing = none → exec (.savedStateWriteComplete v) s = .next s)

/-- An update session. OPEN and OPEN with RESUME are taken when the mode is Anchored, Working or Reduced draught, no session is open, the pairing guard is good and the supply is good: `updOpen` then leaves the session open and erasing, the node on its way to Dry dock and the spare slot empty, or, where RESUME finds a session that may be resumed, the flash as it is and nothing to erase; otherwise they are refused as CHECK with the code of the first guard
that fails in `UPD_RESULT`. The end of an erase reads DONE and answers a waiting relay with 0. A chunk for an open session that is not erasing is appended when it continues the bytes received and the whole fits 524,288 bytes, changes none when it repeats bytes received, and is refused as CHECK with 0x16 when it would go past that end, else with 0x15. VERIFY of a session with delivery open is BUSY; at its end `UPD_RESULT` takes the code of
`State.verifyCode`, which is 0 only for an image whose header is good, of this device, under a key that is not blank and whose signature holds; `UPD_CMD` then reads DONE for 0 and REFUSED for another code, a waiting relay gets the code, and the session ends where a guard failed meanwhile. CLOSE before activation ends the session with DONE, keeps the flash, and lets a RESUME follow. VERIFY and CLOSE at
other times are refused as CHECK with a free code that is not 0. The ends of an erase and of a check that are not under way change nothing. -/
def Obligations.UpdateSession : Prop :=
  ∀ (r : Req) (s : State),
    let o := Obj.updCmd
    let free := freeCode s
    (TakenVal r o 1 s → s.openCode true = 0 → exec (.updOpen r) s = .next (accepted r o (updOpen false true s).2) ∧
      (updOpen false true s).2.upd.isOpen ∧ (updOpen false true s).2.upd.erasing ∧ (updOpen false true s).2.node.toDryDock ∧
      (updOpen false true s).2.image s.spareImage = []) ∧
    (TakenVal r o 1 s → s.openCode true ≠ 0 →
      exec (.updOpen r) s = .next (refusedWith r o ecCheck ((s.put Obj.updResult (s.openCode true)).put Obj.updResult (s.openCode true)))) ∧
    (TakenVal r o 2 s → s.openCode true = 0 → s.upd.resumable → exec (.updOpenResume r) s = .next (accepted r o (updOpen true true s).2) ∧
      (updOpen true true s).2.flash = s.flash ∧ (updOpen true true s).2.upd.erasing = false) ∧
    (TakenVal r o 2 s → s.openCode true = 0 → s.upd.resumable = false →
      exec (.updOpenResume r) s = .next (accepted r o (updOpen false true s).2)) ∧
    (TakenVal r o 2 s → s.openCode true ≠ 0 →
      exec (.updOpenResume r) s = .next (refusedWith r o ecCheck ((s.put Obj.updResult (s.openCode true)).put Obj.updResult (s.openCode true)))) ∧
    (s.openCode true = 0 ↔ (s.node.mode = .anchored ∨ s.node.mode = .working ∨ s.node.mode = .reduced) ∧ s.upd.isOpen = false ∧ s.upd.mnv ∧
      s.upd.batt = false ∧ 21600 ≤ s.gw.vin) ∧
    (s.upd.erasing → exec .updEraseComplete s = .next (relayDone 0 ((modUpd (fun u => { u with erasing := false }) s).put o stDone))) ∧
    (s.upd.erasing = false → exec .updEraseComplete s = .next s) ∧
    (∀ bs, Taken r Obj.updChunk bs s → 5 ≤ bs.length → s.upd.isOpen → s.upd.erasing = false → s.upd.state = 1 ∨ s.upd.state = 2 →
      let off := num bs 0 4
      let n := bs.length - 4
      let got := s.get Obj.updReceived
      (off = got → off + n ≤ 524288 → exec (.updChunkWrite r bs) s = .next (accepted r Obj.updChunk (modUpd (fun u => { u with state := 1 })
        ((setImage s.spareImage (s.image s.spareImage ++ bs.drop 4) s).put Obj.updReceived (got + n))))) ∧
      (off + n ≤ got → slice (s.image s.spareImage) off n = bs.drop 4 → off ≠ got →
        exec (.updChunkWrite r bs) s = .next (accepted r Obj.updChunk (modUpd (fun u => { u with state := 1 }) s))) ∧
      (off ≠ got → (got < off + n ∨ slice (s.image s.spareImage) off n ≠ bs.drop 4) → off + n ≤ 524288 →
        exec (.updChunkWrite r bs) s = .next (refusedWith r Obj.updChunk ecCheck (updResult 0x15 s))) ∧
      (524288 < off + n → (got < off + n ∨ slice (s.image s.spareImage) off n ≠ bs.drop 4) →
        exec (.updChunkWrite r bs) s = .next (refusedWith r Obj.updChunk ecCheck (updResult 0x16 s)))) ∧
    (TakenVal r o 3 s → s.upd.isOpen → s.upd.state = 1 ∨ s.upd.state = 2 → exec (.updVerify r) s =
      .next (accepted r o ((modUpd (fun u => { u with verifying := true }) s).put o stBusy))) ∧
    (TakenVal r o 3 s → s.upd.isOpen = false ∨ (s.upd.state ≠ 1 ∧ s.upd.state ≠ 2) →
      exec (.updVerify r) s = .next (refusedWith r o ecCheck (updResult free.1 free.2))) ∧
    (s.upd.verifying →
      let c := s.verifyCode
      let u := relayDone c ((updResult c (modUpd (fun u => { u with verifying := false, state := if c = 0 then 2 else 1 }) s)).put o
        (if c = 0 then stDone else stRefused))
      (u.upd.guardEnd = false → exec .updVerifyComplete s = .next u) ∧
      (u.upd.guardEnd → exec .updVerifyComplete s = .next (closeSession (u.get Obj.updEndCause) u))) ∧
    (s.upd.verifying = false → exec .updVerifyComplete s = .next s) ∧
    (let bs := s.image s.spareImage
     s.verifyCode ≠ 0 ∨
        imBad bs = false ∧ imDevice bs = 0x72 ∧ Config.keyBlank (imKey bs) = false ∧ Config.signatureOk (imKey bs) (bs.take s.updTotal)) ∧
    (TakenVal r o 6 s → s.upd.isOpen → s.upd.state < 3 → exec (.updClose r) s = .next (accepted r o ((closeSession 0 s).put o stDone)) ∧
      (closeSession 0 s).upd.resumable ∧ (closeSession 0 s).upd.isOpen = false ∧ (closeSession 0 s).flash = s.flash) ∧
    (TakenVal r o 6 s → s.upd.isOpen = false ∨ 3 ≤ s.upd.state →
      exec (.updClose r) s = .next (refusedWith r o ecCheck (updResult free.1 free.2))) ∧ free.1 ≠ 0

/-- Activation of an update. ACTIVATE of a verified image whose guards hold writes the boot record of a firmware image and is counted, or starts a configuration switch; with a failing guard it is refused as CHECK with that guard's code, and without a verified image with a free code that is not 0. The verified boot record of an activation or a revert of firmware begins the pause, in which dictionary contexts are closed and the watchdog is
off, and the load's end swaps the image slots, clears the buffer memory, starts the watchdog, and begins the trial, or ends the session after a revert. The trial reads state 4 since the present tick. CONFIRM in the trial clears the trial mark of firmware, ends the session and reads DONE; at other times it is refused as CHECK with a free code that is not 0. The end of the trial time writes the old image's boot record, or
starts the switch back of a configuration, and is counted. ABORT outside an activation does nothing; in one it is kept as late, but for a configuration that is not ready and not applied, whose write stops, which reads ABORTED and is back at verified, with a free code to a waiting relay. Events that find no such state change nothing. -/
def Obligations.UpdateActivation : Prop :=
  ∀ (r : Req) (s : State),
    let o := Obj.updCmd
    let u := s.upd
    let free := freeCode s
    (TakenVal r o 4 s → u.isOpen → u.state = 2 → u.verifying = false → s.guardCode = 0 → imKind (s.image s.spareImage) ≠ 2 →
      let t := modUpd (fun u => { u with state := 3, config := false, late := false, oldState := [] }) (s.put o stBusy)
      exec (.updActivate r) s = .next (accepted r o ((writeBoot t.spareImage true t).bump Obj.updActivateCnt))) ∧
    (TakenVal r o 4 s → u.isOpen → u.state = 2 → u.verifying = false → s.guardCode = 0 → imKind (s.image s.spareImage) = 2 →
      ∃ old, exec (.updActivate r) s = .next (accepted r o
        (cfgStart (modUpd (fun u => { u with state := 3, config := true, late := false, oldState := old }) (s.put o stBusy))))) ∧
    (TakenVal r o 4 s → u.isOpen → u.state = 2 → u.verifying = false → s.guardCode ≠ 0 → exec (.updActivate r) s =
      .next (refusedWith r o ecCheck (updResult s.guardCode (updResult s.guardCode s)))) ∧
    (TakenVal r o 4 s → u.isOpen = false ∨ u.state ≠ 2 ∨ u.verifying → exec (.updActivate r) s =
      .next (refusedWith r o ecCheck (updResult free.1 free.2))) ∧ free.1 ≠ 0 ∧
    (u.state = 3 ∨ u.state = 5 → u.config = false → u.pause = false → exec .activateRecordVerified s = .next (modUpd (fun u => { u with pause := true })
      { s with dict := { s.dict with ctxs := [] }, rst := { s.rst with wdt := false } })) ∧
    ((u.state ≠ 3 ∧ u.state ≠ 5) ∨ u.config ∨ u.pause → exec .activateRecordVerified s = .next s) ∧
    (u.pause →
      let w := fun trial => restartCycle (modBridge (fun b => { b with sram := [], sramZero := true, sramInv := [] })
        { s with rst := { s.rst with wdt := true }, upd := { u with pause := false, slot := 1 - u.slot, trial := trial } })
      (u.state = 3 → exec .activateLoadComplete s = .next (beginTrial (w true))) ∧
      (u.state = 5 → exec .activateLoadComplete s = .next (endSession ((w false).get Obj.updEndCause) (w false)))) ∧
    (u.pause = false ∨ (u.state ≠ 3 ∧ u.state ≠ 5) → exec .activateLoadComplete s = .next s) ∧
    (∀ t : State, t.upd.relay = none → (beginTrial t).upd.state = 4 ∧ (beginTrial t).upd.trialAt = t.tide.clock) ∧
    (TakenVal r o 5 s → u.state = 4 →
      (u.config = false → exec (.updConfirm r) s =
        .next (accepted r o ((endSession 0 (modUpd (fun u => { u with trial := false }) (writeBoot u.slot false s))).put o stDone))) ∧
      (u.config → exec (.updConfirm r) s = .next (accepted r o ((endSession 0 s).put o stDone)))) ∧
    (TakenVal r o 5 s → u.state ≠ 4 → exec (.updConfirm r) s = .next (refusedWith r o ecCheck (updResult free.1 free.2))) ∧
    (u.state = 4 → u.config = false → exec .updTrialExpiry s =
      .next (writeBoot (1 - u.slot) false (modUpd (fun u => { u with state := 5 }) (s.bump Obj.updRevertCnt)))) ∧
    (u.state = 4 → u.config → exec .updTrialExpiry s = .next (cfgStart (modUpd (fun u => { u with state := 5 }) (s.bump Obj.updRevertCnt)))) ∧
    (u.state ≠ 4 → exec .updTrialExpiry s = .next s) ∧
    (TakenVal r o 7 s → u.state ≠ 3 → exec (.updAbort r) s = .next (accepted r o s)) ∧
    (TakenVal r o 7 s → u.state = 3 → u.config = false ∨ u.cfgReady ∨ s.tide.pause ≠ 0 → exec (.updAbort r) s =
      .next (accepted r o (modUpd (fun u => { u with late := true }) s))) ∧
    (TakenVal r o 7 s → u.state = 3 → u.config → u.cfgReady = false → s.tide.pause = 0 →
      let a := if s.cfgWriting then { s with twin := { s.twin with writing := none } } else s
      let d := freeCode a
      exec (.updAbort r) s = .next (accepted r o (relayDone d.1
        ((modUpd (fun u => { u with state := 2, cfgDue := false }) (d.2.put Obj.saveState 0)).put o stAborted))))

/-- The relay path of an update. Each relay command takes the next frame of its kind that waits at port 7: one with a poisoned word is taken and nothing more; another is counted, is answered 0x18 in a pause, and else has the effect of its kind; a frame that the Hold cannot give out is gone, and with none waiting nothing changes. OPEN takes the owner lock for the frame's sender as a lock write would, and is answered 0x12 where that fails; then
it runs the session's OPEN. VERIFY, ACTIVATE, CONFIRM and CLOSE of a sender without the lock are answered 0x12, those during a command in progress with a free code; otherwise the command runs: refused, its code is answered, done at once, 0, and else the answer is due to that sender. BLOCK of a sender without the lock is answered 0x12, one with a byte count that is 0, above 240 or not that of the frame 0x15, and else the
bytes are delivered and their code answered; a code that is not 0 stands in `UPD_RESULT` too. A frame of another kind is dropped and counted, a REPLY is dropped alone. -/
def Obligations.RelayPath : Prop :=
  ∀ (s : State),
    let cmds := [(Instr.relayOpen, 1, relayOpen), (Instr.relayBlock, 2, relayBlock), (Instr.relayVerify, 3, fun f => relayCommand f updVerify),
      (Instr.relayActivate, 4, fun f => relayCommand f updActivate), (Instr.relayConfirm, 5, fun f => relayCommand f updConfirm),
      (Instr.relayClose, 6, fun f => relayCommand f updClose)]
    let other := fun k => k == 0 || decide (6 < k)
    (∀ (j : Job) (f : Frame) (t : State), localFrame j s = (some f, t) →
      (∀ c k act, (c, k, act) ∈ cmds → s.localNext 7 (Job.relayed (· == k)) = some j →
        let u := t.bump Obj.relayFrameCnt
        (f.pay.any (·.p) → exec c s = .next t) ∧
        (f.pay.any (·.p) = false → t.upd.pause ∨ t.tide.pause ≠ 0 → exec c s = .next (relayAnswer f 0x18 u)) ∧
        (f.pay.any (·.p) = false → t.upd.pause = false → t.tide.pause = 0 → exec c s = .next (act f u))) ∧
      (s.localNext 7 (Job.relayed other) = some j →
        (rKind (Frame.word f 0) ≠ 0x81 → exec .relayFrameDrop s = .next (t.bump Obj.relayErrCnt)) ∧
        (rKind (Frame.word f 0) = 0x81 → exec .relayFrameDrop s = .next t))) ∧
    (∀ (j : Job) (t : State), localFrame j s = (none, t) →
      (∀ c k act, (c, k, act) ∈ cmds → s.localNext 7 (Job.relayed (· == k)) = some j → exec c s = .next t) ∧
      (s.localNext 7 (Job.relayed other) = some j → exec .relayFrameDrop s = .next t)) ∧
    (∀ c k act, (c, k, act) ∈ cmds → s.localNext 7 (Job.relayed (· == k)) = none → exec c s = .next s) ∧
    (s.localNext 7 (Job.relayed other) = none → exec .relayFrameDrop s = .next s) ∧
    (∀ (f : Frame) (t : State),
      let w := Frame.word f 0
      let k := Frame.word f 1
      let n := rCount w
      let lock := lockWrite (relayReq f) (1 * 2 ^ 56 + wfld k 0 32) t
      let sent := chunkWrite (rOffset w) ((dataBytes (f.pay.drop 1)).take n) t
      (lock.2 ≠ ecOk → relayOpen f t = relayAnswer f 0x12 (updResult 0x12 lock.1)) ∧
      (lock.2 = ecOk → relayOpen f t = relayResult f (updOpen (bit k.toNat 32) true lock.1)) ∧
      (∀ cmd, t.holds (relayReq f) = false → relayCommand f cmd t = relayAnswer f 0x12 (updResult 0x12 t)) ∧
      (∀ cmd, t.holds (relayReq f) → t.get Obj.updCmd = stBusy →
        relayCommand f cmd t = relayAnswer f (freeCode t).1 (updResult (freeCode t).1 (freeCode t).2)) ∧
      (∀ cmd, t.holds (relayReq f) → t.get Obj.updCmd ≠ stBusy → relayCommand f cmd t = relayResult f (cmd t)) ∧
      (∀ v : Nat × State,
        (v.1 ≠ 0 → relayResult f v = relayAnswer f v.1 (updResult v.1 v.2)) ∧
        (v.1 = 0 → v.2.get Obj.updCmd = stBusy → relayResult f v = { v.2 with upd := { v.2.upd with relay := some (hSnode f.hdr, rSeq w) } }) ∧
        (v.1 = 0 → v.2.get Obj.updCmd ≠ stBusy → relayResult f v = relayAnswer f 0 v.2)) ∧
      (t.holds (relayReq f) = false → relayBlock f t = relayAnswer f 0x12 (updResult 0x12 t)) ∧
      (t.holds (relayReq f) → n = 0 ∨ 240 < n ∨ f.pay.length ≠ 1 + wordCount n → relayBlock f t = relayAnswer f 0x15 (updResult 0x15 t)) ∧
      (t.holds (relayReq f) → n ≠ 0 → n ≤ 240 → f.pay.length = 1 + wordCount n →
        (sent.1 = 0 → relayBlock f t = relayAnswer f 0 sent.2) ∧
        (sent.1 ≠ 0 → relayBlock f t = relayAnswer f sent.1 (updResult sent.1 sent.2))))

/-- Segmented transfers and descriptors. Each of the four requests, where the dictionary serves and the object is present, answers what its operation says; a request that is not served, or for an object that is not present, answers that code and leaves the state, but for the settling of the request. SEG_READ of a present object answers the code of its mode, WRITE_ONLY for one that is never read, and SIZE for a count of 0 or above 240. At offset 0 it
copies the value into a context of its requester, BUFFER where none can be opened, and answers from its start; at another offset it goes on from that requester's copy, NO_CONTEXT without one and SEGMENT for that of a download, while the two objects that have copies of their own are answered from these. A part begins at the offset, has at most the count of bytes, is the last where it reaches the end, and answers SEGMENT beyond
the end. SEG_WRITE answers READ_ONLY for those two objects and SIZE for no bytes or more than 232. At offset 0 it closes the requester's context and answers its rights, SIZE for more than the object holds, STATE_BUSY during another requester's download, and BUFFER where no context can be opened; else its bytes are the first of the context; no bytes in total write the empty value. At another offset it needs the requester's
context, repeats the last part with no effect, and continues the download at its end; another offset closes the context with SEGMENT. Bytes taken are kept until they reach the total, are then written as one value with the context closed, and past the total close it with SEGMENT. SEG_ABORT closes the requester's context; OBJ_INFO answers the descriptor; both answer the code of the object's mode. A
timeout of an open context closes it and is counted, and otherwise changes nothing. -/
def Obligations.SegmentedTransfers : Prop :=
  ∀ (r : Req) (idx : BitVec 16) (sub : BitVec 8) (s : State),
    let i := idx.toNat
    let j := sub.toNat
    let out := fun (c : Instr) (f : Obj → Served) =>
      (s.serveCode i j ≠ ecOk → exec c s = .next (shown ⟨s, s.serveCode i j, false, []⟩)) ∧
      (s.serveCode i j = ecOk → s.findObj i j = none → exec c s = .next (shown ⟨settle r i j 1 s, 1, false, []⟩)) ∧
      (∀ o, s.serveCode i j = ecOk → s.findObj i j = some o → exec c s = .next (shown { f o with st := settle r i j (f o).code (f o).st }))
    (∀ (off : BitVec 32) (n : BitVec 8), out (.segRead r idx sub off n) (fun o => segRead r off.toNat n.toNat o s)) ∧
    (∀ (total off : BitVec 32) v, out (.segWrite r idx sub total off v) (fun o => segWrite r total.toNat off.toNat v.length v false o s)) ∧
    out (.segAbort r idx sub) (fun o => segAbort r o s) ∧
    out (.objInfo r idx sub) (fun o => objInfo o s) ∧
    (∀ (o : Obj) (off n : Nat),
      let copy : Ctx := ⟨r, o.idx, o.sub, false, (readObj o s).1.length, (readObj o s).1, 0⟩
      (s.modeCode o ≠ ecOk → segRead r off n o s = ⟨s, s.modeCode o, false, []⟩) ∧
      (s.modeCode o = ecOk → o.acc = .wo → segRead r off n o s = ⟨s, 4, false, []⟩) ∧
      (s.modeCode o = ecOk → o.acc ≠ .wo →
        (n = 0 ∨ 240 < n → segRead r off n o s = ⟨s, 2, false, []⟩) ∧
        (n ≠ 0 → n ≤ 240 → copyObj o → segRead r off n o s = segReadCopy o off n s) ∧
        (n ≠ 0 → n ≤ 240 → copyObj o = false →
          (∀ t, off = 0 → openCtx r o copy (readObj o s).2 = some t → segRead r off n o s = segPart copy.data 0 n t) ∧
          (off = 0 → openCtx r o copy (readObj o s).2 = none → segRead r off n o s = ⟨s, 0xD, false, []⟩) ∧
          (off ≠ 0 → s.ctxOf r o = none → segRead r off n o s = ⟨s, 0xC, false, []⟩) ∧
          (∀ c, off ≠ 0 → s.ctxOf r o = some c → c.download → segRead r off n o s = ⟨s, 0xB, false, []⟩) ∧
          (∀ c, off ≠ 0 → s.ctxOf r o = some c → c.download = false → segRead r off n o s = segPart c.data off n s)))) ∧
    (∀ (bs : List Byte) (off n : Nat),
      (bs.length < off → segPart bs off n s = ⟨s, 0xB, false, []⟩) ∧
      (off ≤ bs.length → let part := (bs.drop off).take n;
        segPart bs off n s = ⟨s, ecOk, decide (bs.length ≤ off + part.length), part⟩)) ∧
    (∀ (o : Obj) (total off n : Nat) bs,
      (copyObj o → segWrite r total off n bs false o s = ⟨s, 3, false, []⟩) ∧
      (copyObj o = false →
        (n = 0 ∨ 232 < n ∨ bs.length < n → segWrite r total off n bs false o s = ⟨s, 2, false, []⟩) ∧
        (n ≠ 0 → n ≤ 232 → n ≤ bs.length →
          (off = 0 → segWrite r total off n bs false o s = segWriteOpen r total (bs.take n) o s) ∧
          (off ≠ 0 → segWrite r total off n bs false o s = segWriteNext r off (bs.take n) o s)))) ∧
    (∀ (o : Obj) (total : Nat) bs,
      let t := closeCtx r o s
      let size := if o.ty.size = 0 then o.maxLen else o.ty.size
      (total = 0 → segWriteOpen r total bs o s = written (writeObj r o [] t)) ∧
      (total ≠ 0 → t.segOpenCode r o ≠ ecOk → segWriteOpen r total bs o s = ⟨t, t.segOpenCode r o, false, []⟩) ∧
      (total ≠ 0 → t.segOpenCode r o = ecOk →
        (size < total → segWriteOpen r total bs o s = ⟨t, 2, false, []⟩) ∧
        (total ≤ size → t.otherDownload r o → segWriteOpen r total bs o s = ⟨t, 8, false, []⟩) ∧
        (total ≤ size → t.otherDownload r o = false → openCtx r o ⟨r, o.idx, o.sub, true, total, [], 0⟩ t = none →
          segWriteOpen r total bs o s = ⟨t, 0xD, false, []⟩) ∧
        (∀ u, total ≤ size → t.otherDownload r o = false → openCtx r o ⟨r, o.idx, o.sub, true, total, [], 0⟩ t = some u →
          segWriteOpen r total bs o s = segTake r o ⟨r, o.idx, o.sub, true, total, [], 0⟩ 0 bs u))) ∧
    (∀ (o : Obj) (off : Nat) (bs : List Byte),
      (s.ctxOf r o = none → segWriteNext r off bs o s = ⟨s, 0xC, false, []⟩) ∧
      (∀ c, s.ctxOf r o = some c →
        let again := c.download ∧ off + bs.length = c.data.length ∧ off = c.lastOff
        (again → segWriteNext r off bs o s = ⟨s, ecOk, false, []⟩) ∧
        (¬ again → c.download → off = c.data.length → segWriteNext r off bs o s = segTake r o c off bs s) ∧
        (¬ again → c.download = false ∨ off ≠ c.data.length → segWriteNext r off bs o s = ⟨closeCtx r o s, 0xB, false, []⟩))) ∧
    (∀ (o : Obj) (c : Ctx) (off : Nat) (bs : List Byte),
      let n := c.data.length + bs.length
      (n < c.total → segTake r o c off bs s = ⟨setCtx r o { c with data := c.data ++ bs, lastOff := off } s, ecOk, false, []⟩) ∧
      (n = c.total → segTake r o c off bs s = written (writeObj r o (c.data ++ bs) (closeCtx r o s))) ∧
      (c.total < n → segTake r o c off bs s = ⟨closeCtx r o s, 0xB, false, []⟩)) ∧
    (∀ o : Obj,
      (copyObj o → segAbort r o s = ⟨s, 3, false, []⟩) ∧
      (copyObj o = false → s.modeCode o ≠ ecOk → segAbort r o s = ⟨s, s.modeCode o, false, []⟩) ∧
      (copyObj o = false → s.modeCode o = ecOk → segAbort r o s = ⟨closeCtx r o s, ecOk, false, []⟩) ∧
      (s.modeCode o ≠ ecOk → objInfo o s = ⟨s, s.modeCode o, false, []⟩) ∧
      (s.modeCode o = ecOk → objInfo o s = ⟨s, ecOk, false, bytesOf 8 o.descriptor⟩)) ∧
    (let mine := fun (c : Ctx) => c.req == r && c.idx == i && c.sub == j;
      (s.dict.ctxs.any mine → exec (.segTimeoutExpiry r idx sub) s =
        .next (modCtxs (fun l => l.filter (fun c => !mine c)) (s.bump Obj.segTimeoutCnt))) ∧
      (s.dict.ctxs.any mine = false → exec (.segTimeoutExpiry r idx sub) s = .next s))

/-- Gangplank. While the harbourmaster core runs, a datagram to one of its two ports waits during a pause, at most 16 at a time, and is otherwise dropped; without a pause the datagrams that waited are served first, and then it: one of a wrong form is dropped and counted, one outside its role is counted and refused with ROLE, another one is counted and served by the node's own dictionary where it is for it, and else by the bridge. The role of port
47270 is a host operation from the host's address, that of 47271 an operation of the node's own dictionary. The own dictionary refuses a wrong operation, one word of payload, and an address elsewhere; answers nothing to a silent request and a refusal to a refused one; and otherwise answers a response. The bridge refuses what it may not issue; a posted write is acknowledged and issued where there is room for it and dropped where there
is none; another request is issued. An ARP request for the node's address is answered. Datagrams to other ports, and events while the core does not run, change nothing. -/
def Obligations.GangplankHost : Prop :=
  ∀ (d : Datagram) (s : State),
    let runs := s.released 5 ∧ s.node.mode ≠ .approach
    let mine := d.dstPort.toNat = 47270 ∨ d.dstPort.toNat = 47271
    (runs → mine → s.paused →
      (s.dict.waiting.length < 16 → exec (.gangplankDatagram d) s = .next { s with dict := { s.dict with waiting := s.dict.waiting ++ [d] } }) ∧
      (16 ≤ s.dict.waiting.length → exec (.gangplankDatagram d) s = .next (s.bump Obj.gpDropCnt))) ∧
    (runs → mine → s.paused = false →
      let u := s.dict.waiting.foldl (fun t e => gpTake e t) { s with dict := { s.dict with waiting := [] } }
      let rx := u.bump Obj.gpRxCnt
      (Datagram.good d = false → exec (.gangplankDatagram d) s = .next (u.bump Obj.gpDropCnt)) ∧
      (Datagram.good d → u.gpRole d = false → exec (.gangplankDatagram d) s =
        .next (gpReply d.srcIp.toNat (gpBytes (Datagram.xid d) 0x83 3 0xE 0 []) (u.bump Obj.gpRoleRefusedCnt))) ∧
      (Datagram.good d → u.gpRole d → rx.gpOwn d → exec (.gangplankDatagram d) s = .next (gpServe d rx)) ∧
      (Datagram.good d → u.gpRole d → rx.gpOwn d = false → exec (.gangplankDatagram d) s = .next (gpBridge d rx))) ∧
    (¬ runs ∨ ¬ mine → exec (.gangplankDatagram d) s = .next s) ∧
    (d.dstPort.toNat = 47270 → (s.gpRole d ↔ s.get Obj.gpHostAddr ≠ 0 ∧ d.srcIp.toNat = s.get Obj.gpHostAddr ∧ Datagram.hostOp d)) ∧
    (d.dstPort.toNat = 47271 → s.gpRole d = s.gpOwn d) ∧
    (∀ t : State,
      let ws := Datagram.payload d
      let c := ws.getD 0 0
      let x := dictRequest (Datagram.req d) (ws.map pw) t
      let refuse := fun (st de : Nat) (v : State) => gpReply d.srcIp.toNat (gpBytes (Datagram.xid d) 0x83 st de 0 []) v
      let good := badOp (Datagram.header d) c = false ∧ 2 ≤ ws.length ∧ aSpace (ws.getD 1 0) = 0 ∧ aNode (ws.getD 1 0) = t.nodeNumber
      (badOp (Datagram.header d) c → gpServe d t = refuse 0xF 0 t) ∧
      (badOp (Datagram.header d) c = false → ws.length < 2 → gpServe d t = refuse 5 0 t) ∧
      (badOp (Datagram.header d) c = false → 2 ≤ ws.length → aSpace (ws.getD 1 0) ≠ 0 ∨ aNode (ws.getD 1 0) ≠ t.nodeNumber →
        gpServe d t = refuse 1 0 t) ∧
      (good → x.silent → gpServe d t = x.st) ∧
      (good → x.silent = false → x.status ≠ bsOk → gpServe d t = refuse x.status x.detail x.st) ∧
      (good → x.silent = false → x.status = bsOk →
        let a := ownResponse c x (ws.getD 1 0) x.st
        gpServe d t = gpReply d.srcIp.toNat (gpBytes (Datagram.xid d) 0x82 0 0 a.1 a.2.1) a.2.2)) ∧
    (∀ t : State, let q := Datagram.frame d;
      (t.issueCode q ≠ bsOk → gpBridge d t = refuseIssue (t.issueCode q) q t) ∧
      (t.issueCode q = bsOk → q.cls = 1 → t.roomFor q →
        gpBridge d t = gpReply d.srcIp.toNat (gpBytes q.xid 0x81 0 0 0 []) (gpIssue q t)) ∧
      (t.issueCode q = bsOk → q.cls = 1 → t.roomFor q = false → gpBridge d t = t.bump Obj.gpDropCnt) ∧
      (t.issueCode q = bsOk → q.cls ≠ 1 → gpBridge d t = gpIssue q t)) ∧
    (∀ a : BitVec 32,
      (runs → a.toNat = s.gpAddr → exec (.arpRequest a) s = .next { s with dict := { s.dict with arps := s.dict.arps + 1 } }) ∧
      (¬ runs ∨ a.toNat ≠ s.gpAddr → exec (.arpRequest a) s = .next s))

/-- Windows read and written by a local source where their space is served. A user word is answered with the crane's read flag set, or written whole with its write flag set after the streams that hold the word are touched; a FIFO of those that may be popped is popped up to the asked number of words, its streams given up first, and a pop of an empty FIFO ends the read with its empty word. The first word of the working time is answered and the second kept with the present
tick; the second read is answered from the kept word when that tick is the present one or the one before, and else from the time at that moment, and leaves no kept word. What is read is answered in the bridge's report. Where the space is not served, and for the other FIFOs, nothing changes. -/
def Obligations.LocalWindows : Prop :=
  ∀ (s : State),
    (∀ (g : Fin 64) (i : Fin 8) (v : W64),
      let t := touchWord 7 g i s
      let u := t.setUserWord g i v
      (s.serves 0x10 →
        exec (.userWindowRead g i) s = .next (reportData [pw (s.userWord g i)] (s.setCrane g { s.crane g with usrRd := true })) ∧
        exec (.userWindowWrite g i v) s = .next (u.setCrane g { u.crane g with usrWr := true })) ∧
      (s.serves 0x10 = false → exec (.userWindowRead g i) s = .next s ∧ exec (.userWindowWrite g i v) s = .next s)) ∧
    (∀ (f : Fin 180) (n : BitVec 8),
      let r := popWords f n.toNat (claimFifo f s)
      let popped := f.val < 64 ∨ (128 ≤ f.val ∧ f.val < 136) ∨ 144 ≤ f.val
      (s.serves 0x10 → popped → exec (.popWindowRead f n) s = .next (reportData (payOf r.1) r.2)) ∧
      (s.serves 0x10 = false ∨ ¬ popped → exec (.popWindowRead f n) s = .next s)) ∧
    (∀ f n, (fifoPop f s).1.v = false → popWords f (n + 1) s = ([(fifoPop f s).1], (fifoPop f s).2)) ∧
    (∀ f n, (fifoPop f s).1.v → popWords f (n + 1) s =
      ((fifoPop f s).1 :: (popWords f n (fifoPop f s).2).1, (popWords f n (fifoPop f s).2).2)) ∧
    (∀ d, (reportData d s).bridge.report = ⟨0, bsOk, 0, false, d⟩) ∧
    (s.serves 0x40 → exec (.workTimeWindowRead false) s = .next (reportData [pw (timeWord0 (workNow s).1)]
      (modBridge (fun b => { b with latch := some (timeWord1 (workNow s).1, s.tide.beat) }) (workNow s).2))) ∧
    (∀ w t, s.serves 0x40 → s.bridge.latch = some (w, t) →
      let u := modBridge (fun b => { b with latch := none }) s
      (s.tide.beat ≤ t + 1 → exec (.workTimeWindowRead true) s = .next (reportData [pw w] u)) ∧
      (t + 1 < s.tide.beat → exec (.workTimeWindowRead true) s = .next (reportData [pw (timeWord1 (workNow u).1)] (workNow u).2))) ∧
    (s.serves 0x40 → s.bridge.latch = none →
      exec (.workTimeWindowRead true) s = .next (reportData [pw (timeWord1 (workNow s).1)] (workNow s).2)) ∧
    (∀ b, s.serves 0x40 = false → exec (.workTimeWindowRead b) s = .next s)

/-- Changing the manifest. A commit takes the staged records and list for their check, and reads BUSY. The end of the check, where none is under way, changes nothing; records or a list that fail leave table and list as they are, `MANIFEST_COMMIT` REFUSED and `MANIFEST_RESULT` the failure; others change the table, and the list where one was staged, at one instant, keep the records to be read back, advance `MANIFEST_GEN` by 1 and commit the configuration, and the commit reads DONE. Of records that
pass, each names an entry below 2048 that no earlier one names, and has a good source, key and destination and no reserved bit; and of a list that passes, each descriptor names a destination and has no reserved bit. -/
def Obligations.ManifestCommits : Prop :=
  ∀ (r : Req) (s : State),
    let o := Obj.manifestCommit
    (TakenVal r o 1 s → exec (.manifestCommit r) s = .next (accepted r o { ((s.put o stBusy).put Obj.manifestResult 0xFFFF0000) with man := { s.man with
      checking := some ((s.stagedOf Obj.manifestStage).getD [], s.stagedOf Obj.manifestDisable) } })) ∧
    (s.man.checking = none → exec .manifestCommitComplete s = .next s) ∧
    (∀ bs dis f, s.man.checking = some (bs, dis) → manFail s.man bs dis = some f → exec .manifestCommitComplete s =
      .next (({ s with man := { s.man with checking := none } }.put o stRefused).put Obj.manifestResult f)) ∧
    (∀ bs dis, s.man.checking = some (bs, dis) → manFail s.man bs dis = none →
      let t := { s with man := { s.man with entries := manTable s.man.entries bs, disable := manDisable s.man.disable dis, checking := none } }
      let u := unstageIf Obj.manifestDisable dis (unstageIf Obj.manifestStage (some bs) t)
      let v := configCommit ((((u.putBlob Obj.manifestStage bs).bump Obj.manifestGen).put o stDone).put Obj.manifestResult 0xFFFF0000)
      exec .manifestCommitComplete s = .next v ∧ v.man = t.man ∧
        (∀ q, s.Wf q → v.get Obj.manifestGen = (s.get Obj.manifestGen + 1) % 2 ^ 32 ∧ v.get o = stDone)) ∧
    (∀ bs dis, manFail s.man bs dis = none →
      (∀ i, i < bs.length / 20 → recIndex bs i < 2048 ∧ srcBad (recEntry bs i) = false ∧
        keyBad (recEntry bs i) = false ∧ destBad (recEntry bs i) = false ∧ reservedBad bs i = false ∧ ∀ j, j < i → recIndex bs j ≠ recIndex bs i) ∧
      (∀ i, i < (dis.getD []).length / 4 → destNone (descAt (dis.getD []) i) = false ∧ fld (descAt (dis.getD []) i) 0 12 = 0))

/-- A parity error in a FIFO's frame marks or pointers empties the FIFO: no word, no word held pending, no word being built, no open frame, and no stream of words held pending on it. The FIFOs of the cranes, which have the counter, add the words lost to `FLUSH_LOST_CNT`. With the fault collector out of reset an event of source 0x25 in the contained class is counted, and has a record, new in the first free place or an open one
repeated. The cranes and the other FIFOs are as they were. -/
def Obligations.FifoParity : Prop :=
  ∀ (q : List Instr) (s : State) (f : Fin 180), s.Wf q → ∃ t, exec (.fifoParityError f) s = .next t ∧
    ((t.fifo f.val).words = [] ∧ (t.fifo f.val).pend = [] ∧ (t.fifo f.val).opened = false ∧ (t.fifo f.val).built = []) ∧
    (∀ st, st ∈ t.bridge.streams → onFifo f.val st = false) ∧
    (f.val < 128 → t.get (Obj.flushLostCnt (f.val % 64)) = (s.get (Obj.flushLostCnt (f.val % 64)) +
      ((s.fifo f.val).pend.length + (s.fifo f.val).words.length + if (s.fifo f.val).built.isEmpty then 0 else 1)) % 2 ^ 32) ∧
    (s.released 4 →
      (srcClass 0x25 = .contained ∧ t.get (Obj.srcCnt 0x25) = (s.get (Obj.srcCnt 0x25) + 1) % 2 ^ 32) ∧
      (∀ p, s.openRec 0x25 (fifoInst f.val) = false → freePlace s.faults.recs 0 60 = some p → t.faults.recs = s.faults.recs ++
        [⟨p, nextSeq s.faults.seq, s.tide.tick, 0x25, .contained, false, false, true, 0, fifoInst f.val % 256, (s.fifo f.val).lost % 256⟩]) ∧
      (s.openRec 0x25 (fifoInst f.val) → t.faults.recs = s.faults.recs.map (fun r =>
        if r.src == 0x25 && r.inst == fifoInst f.val % 256 then { r with reps := capAt 255 (r.reps + 1), updated := true } else r))) ∧
    (t.cranes = s.cranes ∧ ∀ k, k ≠ f.val → t.fifo k = s.fifo k)

/-- Check units at a reset: after every reset of the node, by whatever command it comes, and after the reset of the unit's block, the unit has the polynomial of the default of `CHK_STATUS` (3, 1, 2 and 4 for units 0 to 3) and is initialised: its shift register at the initial value, no byte fed, no poison, no parity error and no feed waiting. -/
def Obligations.CheckUnitsAtReset : Prop :=
  ∀ (q : List Instr) (s : State), s.Wf q →
    let fresh := fun (u : Nat) (t : State) => ∃ poly par, [3, 1, 2, 4][u]? = some poly ∧ crcPar poly = some par ∧
      t.unit u = ⟨poly, par.init, 0, false, false, []⟩
    let all := fun c : Instr => ∃ t, exec c s = .next t ∧ ∀ u, u < 4 → fresh u t
    (∀ src cold u, u < 4 → fresh u (assertReset src cold s)) ∧
    (∀ roleB boot slipLow diode, all (.powerOn roleB boot slipLow diode)) ∧ all .vaonInvalid ∧
    (∀ roleB boot, s.rst.vaon → !s.rst.pinLow → all (.resetNAssert roleB boot)) ∧ (s.rst.wdt → all .watchdogExpiry) ∧
    (s.rst.cmd.isSome → all .resetCmdAssert) ∧ (s.rst.crit = .running → all .criticalResetTimer) ∧
    (s.node.mode ≠ .approach → all .supplyMonitorBad) ∧
    (s.node.mode = .approach → s.gwPg → s.rst.pinLow = false → s.rst.vaon → s.rst.reinsert → all .supplyMonitorGood) ∧
    (∀ (u : Fin 4) (b : Fin 22) forced, b.val = 15 + u.val → s.block b.val = .quiescing →
      forced = false ∨ s.rst.blkAsked + s.get Obj.quiesceTicks ≤ s.tide.beat →
      ∃ t, exec (.blockQuiesceEnd b forced) s = .next t ∧ fresh u.val t)

end
end

