-- ==== Sys2Proof/Laws/Maps.lean ====
section
/-! SUPPORT. The canonical form of the sparse maps, which every write keeps, and what a write changes. -/

namespace Sys2Proof.Machine

theorem keysFrom_le {α : Type} {a b : Nat} {t : List (Nat × α)} (hab : b ≤ a) (h : keysFrom a t) : keysFrom b t := by
  cases t with
  | nil => simp [keysFrom]
  | cons e t =>
    simp only [keysFrom, Bool.and_eq_true, decide_eq_true_eq] at *
    exact ⟨by omega, h.2⟩

theorem keysFrom_mapSet {α : Type} [DecidableEq α] (d : α) (i : Nat) (x : α) :
    ∀ (m : List (Nat × α)) (lo : Nat), lo ≤ i → keysFrom lo m → keysFrom lo (mapSet d m i x)
  | [], lo, h, _ => by simp only [mapSet]; split <;> simp [keysFrom, h]
  | (k, v) :: t, lo, h, hm => by
    simp only [keysFrom, Bool.and_eq_true, decide_eq_true_eq] at hm
    simp only [mapSet]
    split
    · split <;> simp [keysFrom, *] <;> omega
    · split
      · subst_vars
        split
        · exact keysFrom_le (by omega) hm.2
        · simp [keysFrom, *]
      · simp only [keysFrom, Bool.and_eq_true, decide_eq_true_eq]
        exact ⟨hm.1, keysFrom_mapSet d i x t (k+1) (by omega) hm.2⟩

theorem all_mapSet {α : Type} [DecidableEq α] (d : α) (i : Nat) (x : α) :
    ∀ (m : List (Nat × α)), (∀ e ∈ m, e.2 ≠ d) → ∀ e ∈ mapSet d m i x, e.2 ≠ d
  | [], _ => by simp only [mapSet]; split <;> simp_all
  | (k, v) :: t, hm => by
    have ih := all_mapSet d i x t (fun e he => hm e (List.mem_cons_of_mem _ he))
    have h0 : v ≠ d := hm (k, v) List.mem_cons_self
    have ht : ∀ e ∈ t, e.2 ≠ d := fun e he => hm e (List.mem_cons_of_mem _ he)
    clear hm
    intro e he
    simp only [mapSet] at he
    split at he
    · split at he
      · rcases List.mem_cons.1 he with rfl | h
        · exact h0
        · exact ht _ h
      · rcases List.mem_cons.1 he with rfl | h
        · assumption
        · rcases List.mem_cons.1 h with rfl | h
          · exact h0
          · exact ht _ h
    · split at he
      · split at he
        · exact ht _ he
        · rcases List.mem_cons.1 he with rfl | h
          · assumption
          · exact ht _ h
      · rcases List.mem_cons.1 he with rfl | h
        · exact h0
        · exact ih _ h

theorem mapWf_iff {α : Type} [DecidableEq α] (d : α) (m : List (Nat × α)) :
    mapWf d m ↔ keysFrom 0 m ∧ ∀ e ∈ m, e.2 ≠ d := by simp [mapWf]

theorem mapWf_mapSet {α : Type} [DecidableEq α] (d : α) (i : Nat) (x : α) (m : List (Nat × α)) (h : mapWf d m) :
    mapWf d (mapSet d m i x) := by
  rw [mapWf_iff] at *
  exact ⟨keysFrom_mapSet d i x m 0 (Nat.zero_le _) h.1, all_mapSet d i x m h.2⟩

theorem mapWf_foldl {α β : Type} [DecidableEq α] (d : α) (f : List (Nat × α) → β → List (Nat × α)) (hf : ∀ m b, mapWf d m → mapWf d (f m b)) :
    ∀ (l : List β) (m : List (Nat × α)), mapWf d m → mapWf d (l.foldl f m)
  | [], _, h => h
  | b :: t, m, h => mapWf_foldl d f hf t (f m b) (hf m b h)

theorem keysFrom_filter {α : Type} (p : Nat × α → Bool) : ∀ (m : List (Nat × α)) (a : Nat), keysFrom a m → keysFrom a (m.filter p)
  | [], _, h => h
  | e :: t, a, h => by
    simp only [keysFrom, Bool.and_eq_true, decide_eq_true_eq] at h
    have ih := keysFrom_filter p t _ h.2
    simp only [List.filter_cons]
    split
    · simp [keysFrom, h.1, ih]
    · exact keysFrom_le (by omega) ih

theorem mapWf_filter {α : Type} [DecidableEq α] (d : α) (p : Nat × α → Bool) (m : List (Nat × α)) (h : mapWf d m) : mapWf d (m.filter p) := by
  rw [mapWf_iff] at *
  exact ⟨keysFrom_filter p m 0 h.1, fun e he => h.2 e (List.mem_filter.1 he).1⟩

theorem keysFrom_values {α : Type} [DecidableEq α] (d : α) (f : α → α) : ∀ (m : List (Nat × α)) (a : Nat), keysFrom a m → keysFrom a (mapValues d f m)
  | [], _, h => h
  | e :: t, a, h => by
    simp only [keysFrom, Bool.and_eq_true, decide_eq_true_eq] at h
    have ih := keysFrom_values d f t _ h.2
    simp only [mapValues, List.filterMap_cons] at *
    by_cases hd : f e.2 = d
    · simp only [hd, if_true]
      exact keysFrom_le (by omega) ih
    · simp [hd, keysFrom, h.1, ih]

theorem mapWf_values {α : Type} [DecidableEq α] (d : α) (f : α → α) (m : List (Nat × α)) (h : mapWf d m) : mapWf d (mapValues d f m) := by
  rw [mapWf_iff] at *
  refine ⟨keysFrom_values d f m 0 h.1, ?_⟩
  intro e he
  obtain ⟨x, _, hx⟩ := List.mem_filterMap.1 he
  split at hx
  · cases hx
  · cases hx; assumption

/-- A key below the first one reads as the default. -/
theorem mapGet_below {α : Type} (d : α) (i : Nat) : ∀ {m : List (Nat × α)} {lo : Nat}, keysFrom lo m → i < lo → mapGet d m i = d
  | [], _, _, _ => rfl
  | (k, v) :: t, lo, h, hi => by
    simp only [keysFrom, Bool.and_eq_true, decide_eq_true_eq] at h
    simp only [mapGet]
    split
    · omega
    · exact mapGet_below d i h.2 (by omega)

/-- A key read after it was written gives the value written. -/
theorem mapGet_mapSet_self {α : Type} [DecidableEq α] (d : α) (i : Nat) (x : α) :
    ∀ (m : List (Nat × α)) (lo : Nat), keysFrom lo m → mapGet d (mapSet d m i x) i = x
  | [], _, _ => by
    simp only [mapSet]
    split
    · simp_all [mapGet]
    · simp [mapGet]
  | (k, v) :: t, lo, hm => by
    simp only [keysFrom, Bool.and_eq_true, decide_eq_true_eq] at hm
    simp only [mapSet]
    split
    · split
      · subst_vars
        exact mapGet_below _ _ (lo := k) (by simp [keysFrom, hm.2]) (by omega)
      · simp [mapGet]
    · split
      · split
        · subst_vars
          exact mapGet_below _ _ hm.2 (by omega)
        · simp [mapGet]
      · simp only [mapGet, if_neg ‹¬i = k›]
        exact mapGet_mapSet_self d i x t (k + 1) hm.2

/-- Another key reads after a write as before it. -/
theorem mapGet_mapSet_ne {α : Type} [DecidableEq α] (d e : α) (i j : Nat) (x : α) (hij : j ≠ i) :
    ∀ (m : List (Nat × α)) (lo : Nat), keysFrom lo m → mapGet e (mapSet d m i x) j = mapGet e m j
  | [], _, _ => by
    simp only [mapSet]
    split <;> simp [mapGet, hij]
  | (k, v) :: t, lo, hm => by
    simp only [keysFrom, Bool.and_eq_true, decide_eq_true_eq] at hm
    simp only [mapSet]
    split
    · split <;> simp [mapGet, hij]
    · split
      · subst_vars
        split <;> simp [mapGet, hij]
      · simp only [mapGet]
        split
        · rfl
        · exact mapGet_mapSet_ne d e i j x hij t (k + 1) hm.2

end Sys2Proof.Machine
end

