-- ==== Sys2Proof/Laws/State.lean ====
section
/-! SUPPORT. What each update of the state leaves unchanged, a lemma for each field, and what an object reads after a write. -/

namespace Sys2Proof.Machine

@[simp] theorem put_blobs (s : State) (o : Obj) (v : Nat) : (s.put o v).blobs = s.blobs := rfl
@[simp] theorem put_staged (s : State) (o : Obj) (v : Nat) : (s.put o v).staged = s.staged := rfl
@[simp] theorem put_node (s : State) (o : Obj) (v : Nat) : (s.put o v).node = s.node := rfl
@[simp] theorem put_rst (s : State) (o : Obj) (v : Nat) : (s.put o v).rst = s.rst := rfl
@[simp] theorem put_tap (s : State) (o : Obj) (v : Nat) : (s.put o v).tap = s.tap := rfl
@[simp] theorem put_pins (s : State) (o : Obj) (v : Nat) : (s.put o v).pins = s.pins := rfl
@[simp] theorem put_faults (s : State) (o : Obj) (v : Nat) : (s.put o v).faults = s.faults := rfl
@[simp] theorem put_tide (s : State) (o : Obj) (v : Nat) : (s.put o v).tide = s.tide := rfl
@[simp] theorem put_cranes (s : State) (o : Obj) (v : Nat) : (s.put o v).cranes = s.cranes := rfl
@[simp] theorem put_fifos (s : State) (o : Obj) (v : Nat) : (s.put o v).fifos = s.fifos := rfl
@[simp] theorem put_users (s : State) (o : Obj) (v : Nat) : (s.put o v).users = s.users := rfl
@[simp] theorem put_chk (s : State) (o : Obj) (v : Nat) : (s.put o v).chk = s.chk := rfl
@[simp] theorem put_tally (s : State) (o : Obj) (v : Nat) : (s.put o v).tally = s.tally := rfl
@[simp] theorem put_quay (s : State) (o : Obj) (v : Nat) : (s.put o v).quay = s.quay := rfl
@[simp] theorem put_twin (s : State) (o : Obj) (v : Nat) : (s.put o v).twin = s.twin := rfl
@[simp] theorem put_flash (s : State) (o : Obj) (v : Nat) : (s.put o v).flash = s.flash := rfl
@[simp] theorem put_upd (s : State) (o : Obj) (v : Nat) : (s.put o v).upd = s.upd := rfl
@[simp] theorem put_dict (s : State) (o : Obj) (v : Nat) : (s.put o v).dict = s.dict := rfl
@[simp] theorem put_gw (s : State) (o : Obj) (v : Nat) : (s.put o v).gw = s.gw := rfl
@[simp] theorem put_ring (s : State) (o : Obj) (v : Nat) : (s.put o v).ring = s.ring := rfl
@[simp] theorem put_hold (s : State) (o : Obj) (v : Nat) : (s.put o v).hold = s.hold := rfl
@[simp] theorem put_bridge (s : State) (o : Obj) (v : Nat) : (s.put o v).bridge = s.bridge := rfl
@[simp] theorem put_man (s : State) (o : Obj) (v : Nat) : (s.put o v).man = s.man := rfl
@[simp] theorem put_can (s : State) (o : Obj) (v : Nat) : (s.put o v).can = s.can := rfl
@[simp] theorem put_cal (s : State) (o : Obj) (v : Nat) : (s.put o v).cal = s.cal := rfl
@[simp] theorem put_time (s : State) (o : Obj) (v : Nat) : (s.put o v).time = s.time := rfl
@[simp] theorem put_freeCount (s : State) (o : Obj) (v : Nat) : (s.put o v).freeCount = s.freeCount := rfl
@[simp] theorem put_pending (s : State) (o : Obj) (v : Nat) : (s.put o v).pending = s.pending := rfl

@[simp] theorem addTo_blobs (s : State) (o : Obj) (n : Nat) : (s.addTo o n).blobs = s.blobs := rfl
@[simp] theorem addTo_staged (s : State) (o : Obj) (n : Nat) : (s.addTo o n).staged = s.staged := rfl
@[simp] theorem addTo_node (s : State) (o : Obj) (n : Nat) : (s.addTo o n).node = s.node := rfl
@[simp] theorem addTo_rst (s : State) (o : Obj) (n : Nat) : (s.addTo o n).rst = s.rst := rfl
@[simp] theorem addTo_tap (s : State) (o : Obj) (n : Nat) : (s.addTo o n).tap = s.tap := rfl
@[simp] theorem addTo_pins (s : State) (o : Obj) (n : Nat) : (s.addTo o n).pins = s.pins := rfl
@[simp] theorem addTo_faults (s : State) (o : Obj) (n : Nat) : (s.addTo o n).faults = s.faults := rfl
@[simp] theorem addTo_tide (s : State) (o : Obj) (n : Nat) : (s.addTo o n).tide = s.tide := rfl
@[simp] theorem addTo_cranes (s : State) (o : Obj) (n : Nat) : (s.addTo o n).cranes = s.cranes := rfl
@[simp] theorem addTo_fifos (s : State) (o : Obj) (n : Nat) : (s.addTo o n).fifos = s.fifos := rfl
@[simp] theorem addTo_users (s : State) (o : Obj) (n : Nat) : (s.addTo o n).users = s.users := rfl
@[simp] theorem addTo_chk (s : State) (o : Obj) (n : Nat) : (s.addTo o n).chk = s.chk := rfl
@[simp] theorem addTo_tally (s : State) (o : Obj) (n : Nat) : (s.addTo o n).tally = s.tally := rfl
@[simp] theorem addTo_quay (s : State) (o : Obj) (n : Nat) : (s.addTo o n).quay = s.quay := rfl
@[simp] theorem addTo_twin (s : State) (o : Obj) (n : Nat) : (s.addTo o n).twin = s.twin := rfl
@[simp] theorem addTo_flash (s : State) (o : Obj) (n : Nat) : (s.addTo o n).flash = s.flash := rfl
@[simp] theorem addTo_upd (s : State) (o : Obj) (n : Nat) : (s.addTo o n).upd = s.upd := rfl
@[simp] theorem addTo_dict (s : State) (o : Obj) (n : Nat) : (s.addTo o n).dict = s.dict := rfl
@[simp] theorem addTo_gw (s : State) (o : Obj) (n : Nat) : (s.addTo o n).gw = s.gw := rfl
@[simp] theorem addTo_ring (s : State) (o : Obj) (n : Nat) : (s.addTo o n).ring = s.ring := rfl
@[simp] theorem addTo_hold (s : State) (o : Obj) (n : Nat) : (s.addTo o n).hold = s.hold := rfl
@[simp] theorem addTo_bridge (s : State) (o : Obj) (n : Nat) : (s.addTo o n).bridge = s.bridge := rfl
@[simp] theorem addTo_man (s : State) (o : Obj) (n : Nat) : (s.addTo o n).man = s.man := rfl
@[simp] theorem addTo_can (s : State) (o : Obj) (n : Nat) : (s.addTo o n).can = s.can := rfl
@[simp] theorem addTo_cal (s : State) (o : Obj) (n : Nat) : (s.addTo o n).cal = s.cal := rfl
@[simp] theorem addTo_time (s : State) (o : Obj) (n : Nat) : (s.addTo o n).time = s.time := rfl
@[simp] theorem addTo_freeCount (s : State) (o : Obj) (n : Nat) : (s.addTo o n).freeCount = s.freeCount := rfl
@[simp] theorem addTo_pending (s : State) (o : Obj) (n : Nat) : (s.addTo o n).pending = s.pending := rfl

@[simp] theorem bump_blobs (s : State) (o : Obj) : (s.bump o).blobs = s.blobs := rfl
@[simp] theorem bump_staged (s : State) (o : Obj) : (s.bump o).staged = s.staged := rfl
@[simp] theorem bump_node (s : State) (o : Obj) : (s.bump o).node = s.node := rfl
@[simp] theorem bump_rst (s : State) (o : Obj) : (s.bump o).rst = s.rst := rfl
@[simp] theorem bump_tap (s : State) (o : Obj) : (s.bump o).tap = s.tap := rfl
@[simp] theorem bump_pins (s : State) (o : Obj) : (s.bump o).pins = s.pins := rfl
@[simp] theorem bump_faults (s : State) (o : Obj) : (s.bump o).faults = s.faults := rfl
@[simp] theorem bump_tide (s : State) (o : Obj) : (s.bump o).tide = s.tide := rfl
@[simp] theorem bump_cranes (s : State) (o : Obj) : (s.bump o).cranes = s.cranes := rfl
@[simp] theorem bump_fifos (s : State) (o : Obj) : (s.bump o).fifos = s.fifos := rfl
@[simp] theorem bump_users (s : State) (o : Obj) : (s.bump o).users = s.users := rfl
@[simp] theorem bump_chk (s : State) (o : Obj) : (s.bump o).chk = s.chk := rfl
@[simp] theorem bump_tally (s : State) (o : Obj) : (s.bump o).tally = s.tally := rfl
@[simp] theorem bump_quay (s : State) (o : Obj) : (s.bump o).quay = s.quay := rfl
@[simp] theorem bump_twin (s : State) (o : Obj) : (s.bump o).twin = s.twin := rfl
@[simp] theorem bump_flash (s : State) (o : Obj) : (s.bump o).flash = s.flash := rfl
@[simp] theorem bump_upd (s : State) (o : Obj) : (s.bump o).upd = s.upd := rfl
@[simp] theorem bump_dict (s : State) (o : Obj) : (s.bump o).dict = s.dict := rfl
@[simp] theorem bump_gw (s : State) (o : Obj) : (s.bump o).gw = s.gw := rfl
@[simp] theorem bump_ring (s : State) (o : Obj) : (s.bump o).ring = s.ring := rfl
@[simp] theorem bump_hold (s : State) (o : Obj) : (s.bump o).hold = s.hold := rfl
@[simp] theorem bump_bridge (s : State) (o : Obj) : (s.bump o).bridge = s.bridge := rfl
@[simp] theorem bump_man (s : State) (o : Obj) : (s.bump o).man = s.man := rfl
@[simp] theorem bump_can (s : State) (o : Obj) : (s.bump o).can = s.can := rfl
@[simp] theorem bump_cal (s : State) (o : Obj) : (s.bump o).cal = s.cal := rfl
@[simp] theorem bump_time (s : State) (o : Obj) : (s.bump o).time = s.time := rfl
@[simp] theorem bump_freeCount (s : State) (o : Obj) : (s.bump o).freeCount = s.freeCount := rfl
@[simp] theorem bump_pending (s : State) (o : Obj) : (s.bump o).pending = s.pending := rfl

@[simp] theorem putI_blobs (s : State) (o : Obj) (i : Int) : (s.putI o i).blobs = s.blobs := rfl
@[simp] theorem putI_staged (s : State) (o : Obj) (i : Int) : (s.putI o i).staged = s.staged := rfl
@[simp] theorem putI_node (s : State) (o : Obj) (i : Int) : (s.putI o i).node = s.node := rfl
@[simp] theorem putI_rst (s : State) (o : Obj) (i : Int) : (s.putI o i).rst = s.rst := rfl
@[simp] theorem putI_tap (s : State) (o : Obj) (i : Int) : (s.putI o i).tap = s.tap := rfl
@[simp] theorem putI_pins (s : State) (o : Obj) (i : Int) : (s.putI o i).pins = s.pins := rfl
@[simp] theorem putI_faults (s : State) (o : Obj) (i : Int) : (s.putI o i).faults = s.faults := rfl
@[simp] theorem putI_tide (s : State) (o : Obj) (i : Int) : (s.putI o i).tide = s.tide := rfl
@[simp] theorem putI_cranes (s : State) (o : Obj) (i : Int) : (s.putI o i).cranes = s.cranes := rfl
@[simp] theorem putI_fifos (s : State) (o : Obj) (i : Int) : (s.putI o i).fifos = s.fifos := rfl
@[simp] theorem putI_users (s : State) (o : Obj) (i : Int) : (s.putI o i).users = s.users := rfl
@[simp] theorem putI_chk (s : State) (o : Obj) (i : Int) : (s.putI o i).chk = s.chk := rfl
@[simp] theorem putI_tally (s : State) (o : Obj) (i : Int) : (s.putI o i).tally = s.tally := rfl
@[simp] theorem putI_quay (s : State) (o : Obj) (i : Int) : (s.putI o i).quay = s.quay := rfl
@[simp] theorem putI_twin (s : State) (o : Obj) (i : Int) : (s.putI o i).twin = s.twin := rfl
@[simp] theorem putI_flash (s : State) (o : Obj) (i : Int) : (s.putI o i).flash = s.flash := rfl
@[simp] theorem putI_upd (s : State) (o : Obj) (i : Int) : (s.putI o i).upd = s.upd := rfl
@[simp] theorem putI_dict (s : State) (o : Obj) (i : Int) : (s.putI o i).dict = s.dict := rfl
@[simp] theorem putI_gw (s : State) (o : Obj) (i : Int) : (s.putI o i).gw = s.gw := rfl
@[simp] theorem putI_ring (s : State) (o : Obj) (i : Int) : (s.putI o i).ring = s.ring := rfl
@[simp] theorem putI_hold (s : State) (o : Obj) (i : Int) : (s.putI o i).hold = s.hold := rfl
@[simp] theorem putI_bridge (s : State) (o : Obj) (i : Int) : (s.putI o i).bridge = s.bridge := rfl
@[simp] theorem putI_man (s : State) (o : Obj) (i : Int) : (s.putI o i).man = s.man := rfl
@[simp] theorem putI_can (s : State) (o : Obj) (i : Int) : (s.putI o i).can = s.can := rfl
@[simp] theorem putI_cal (s : State) (o : Obj) (i : Int) : (s.putI o i).cal = s.cal := rfl
@[simp] theorem putI_time (s : State) (o : Obj) (i : Int) : (s.putI o i).time = s.time := rfl
@[simp] theorem putI_freeCount (s : State) (o : Obj) (i : Int) : (s.putI o i).freeCount = s.freeCount := rfl
@[simp] theorem putI_pending (s : State) (o : Obj) (i : Int) : (s.putI o i).pending = s.pending := rfl

@[simp] theorem putBlob_objs (s : State) (o : Obj) (v : List Byte) : (s.putBlob o v).objs = s.objs := rfl
@[simp] theorem putBlob_staged (s : State) (o : Obj) (v : List Byte) : (s.putBlob o v).staged = s.staged := rfl
@[simp] theorem putBlob_node (s : State) (o : Obj) (v : List Byte) : (s.putBlob o v).node = s.node := rfl
@[simp] theorem putBlob_rst (s : State) (o : Obj) (v : List Byte) : (s.putBlob o v).rst = s.rst := rfl
@[simp] theorem putBlob_tap (s : State) (o : Obj) (v : List Byte) : (s.putBlob o v).tap = s.tap := rfl
@[simp] theorem putBlob_pins (s : State) (o : Obj) (v : List Byte) : (s.putBlob o v).pins = s.pins := rfl
@[simp] theorem putBlob_faults (s : State) (o : Obj) (v : List Byte) : (s.putBlob o v).faults = s.faults := rfl
@[simp] theorem putBlob_tide (s : State) (o : Obj) (v : List Byte) : (s.putBlob o v).tide = s.tide := rfl
@[simp] theorem putBlob_cranes (s : State) (o : Obj) (v : List Byte) : (s.putBlob o v).cranes = s.cranes := rfl
@[simp] theorem putBlob_fifos (s : State) (o : Obj) (v : List Byte) : (s.putBlob o v).fifos = s.fifos := rfl
@[simp] theorem putBlob_users (s : State) (o : Obj) (v : List Byte) : (s.putBlob o v).users = s.users := rfl
@[simp] theorem putBlob_chk (s : State) (o : Obj) (v : List Byte) : (s.putBlob o v).chk = s.chk := rfl
@[simp] theorem putBlob_tally (s : State) (o : Obj) (v : List Byte) : (s.putBlob o v).tally = s.tally := rfl
@[simp] theorem putBlob_quay (s : State) (o : Obj) (v : List Byte) : (s.putBlob o v).quay = s.quay := rfl
@[simp] theorem putBlob_twin (s : State) (o : Obj) (v : List Byte) : (s.putBlob o v).twin = s.twin := rfl
@[simp] theorem putBlob_flash (s : State) (o : Obj) (v : List Byte) : (s.putBlob o v).flash = s.flash := rfl
@[simp] theorem putBlob_upd (s : State) (o : Obj) (v : List Byte) : (s.putBlob o v).upd = s.upd := rfl
@[simp] theorem putBlob_dict (s : State) (o : Obj) (v : List Byte) : (s.putBlob o v).dict = s.dict := rfl
@[simp] theorem putBlob_gw (s : State) (o : Obj) (v : List Byte) : (s.putBlob o v).gw = s.gw := rfl
@[simp] theorem putBlob_ring (s : State) (o : Obj) (v : List Byte) : (s.putBlob o v).ring = s.ring := rfl
@[simp] theorem putBlob_hold (s : State) (o : Obj) (v : List Byte) : (s.putBlob o v).hold = s.hold := rfl
@[simp] theorem putBlob_bridge (s : State) (o : Obj) (v : List Byte) : (s.putBlob o v).bridge = s.bridge := rfl
@[simp] theorem putBlob_man (s : State) (o : Obj) (v : List Byte) : (s.putBlob o v).man = s.man := rfl
@[simp] theorem putBlob_can (s : State) (o : Obj) (v : List Byte) : (s.putBlob o v).can = s.can := rfl
@[simp] theorem putBlob_cal (s : State) (o : Obj) (v : List Byte) : (s.putBlob o v).cal = s.cal := rfl
@[simp] theorem putBlob_time (s : State) (o : Obj) (v : List Byte) : (s.putBlob o v).time = s.time := rfl
@[simp] theorem putBlob_freeCount (s : State) (o : Obj) (v : List Byte) : (s.putBlob o v).freeCount = s.freeCount := rfl
@[simp] theorem putBlob_pending (s : State) (o : Obj) (v : List Byte) : (s.putBlob o v).pending = s.pending := rfl

@[simp] theorem stage_objs (s : State) (o : Obj) (v : List Byte) : (s.stage o v).objs = s.objs := rfl
@[simp] theorem stage_blobs (s : State) (o : Obj) (v : List Byte) : (s.stage o v).blobs = s.blobs := rfl
@[simp] theorem stage_node (s : State) (o : Obj) (v : List Byte) : (s.stage o v).node = s.node := rfl
@[simp] theorem stage_rst (s : State) (o : Obj) (v : List Byte) : (s.stage o v).rst = s.rst := rfl
@[simp] theorem stage_tap (s : State) (o : Obj) (v : List Byte) : (s.stage o v).tap = s.tap := rfl
@[simp] theorem stage_pins (s : State) (o : Obj) (v : List Byte) : (s.stage o v).pins = s.pins := rfl
@[simp] theorem stage_faults (s : State) (o : Obj) (v : List Byte) : (s.stage o v).faults = s.faults := rfl
@[simp] theorem stage_tide (s : State) (o : Obj) (v : List Byte) : (s.stage o v).tide = s.tide := rfl
@[simp] theorem stage_cranes (s : State) (o : Obj) (v : List Byte) : (s.stage o v).cranes = s.cranes := rfl
@[simp] theorem stage_fifos (s : State) (o : Obj) (v : List Byte) : (s.stage o v).fifos = s.fifos := rfl
@[simp] theorem stage_users (s : State) (o : Obj) (v : List Byte) : (s.stage o v).users = s.users := rfl
@[simp] theorem stage_chk (s : State) (o : Obj) (v : List Byte) : (s.stage o v).chk = s.chk := rfl
@[simp] theorem stage_tally (s : State) (o : Obj) (v : List Byte) : (s.stage o v).tally = s.tally := rfl
@[simp] theorem stage_quay (s : State) (o : Obj) (v : List Byte) : (s.stage o v).quay = s.quay := rfl
@[simp] theorem stage_twin (s : State) (o : Obj) (v : List Byte) : (s.stage o v).twin = s.twin := rfl
@[simp] theorem stage_flash (s : State) (o : Obj) (v : List Byte) : (s.stage o v).flash = s.flash := rfl
@[simp] theorem stage_upd (s : State) (o : Obj) (v : List Byte) : (s.stage o v).upd = s.upd := rfl
@[simp] theorem stage_dict (s : State) (o : Obj) (v : List Byte) : (s.stage o v).dict = s.dict := rfl
@[simp] theorem stage_gw (s : State) (o : Obj) (v : List Byte) : (s.stage o v).gw = s.gw := rfl
@[simp] theorem stage_ring (s : State) (o : Obj) (v : List Byte) : (s.stage o v).ring = s.ring := rfl
@[simp] theorem stage_hold (s : State) (o : Obj) (v : List Byte) : (s.stage o v).hold = s.hold := rfl
@[simp] theorem stage_bridge (s : State) (o : Obj) (v : List Byte) : (s.stage o v).bridge = s.bridge := rfl
@[simp] theorem stage_man (s : State) (o : Obj) (v : List Byte) : (s.stage o v).man = s.man := rfl
@[simp] theorem stage_can (s : State) (o : Obj) (v : List Byte) : (s.stage o v).can = s.can := rfl
@[simp] theorem stage_cal (s : State) (o : Obj) (v : List Byte) : (s.stage o v).cal = s.cal := rfl
@[simp] theorem stage_time (s : State) (o : Obj) (v : List Byte) : (s.stage o v).time = s.time := rfl
@[simp] theorem stage_freeCount (s : State) (o : Obj) (v : List Byte) : (s.stage o v).freeCount = s.freeCount := rfl
@[simp] theorem stage_pending (s : State) (o : Obj) (v : List Byte) : (s.stage o v).pending = s.pending := rfl

@[simp] theorem unstage_objs (s : State) (o : Obj) : (s.unstage o).objs = s.objs := rfl
@[simp] theorem unstage_blobs (s : State) (o : Obj) : (s.unstage o).blobs = s.blobs := rfl
@[simp] theorem unstage_node (s : State) (o : Obj) : (s.unstage o).node = s.node := rfl
@[simp] theorem unstage_rst (s : State) (o : Obj) : (s.unstage o).rst = s.rst := rfl
@[simp] theorem unstage_tap (s : State) (o : Obj) : (s.unstage o).tap = s.tap := rfl
@[simp] theorem unstage_pins (s : State) (o : Obj) : (s.unstage o).pins = s.pins := rfl
@[simp] theorem unstage_faults (s : State) (o : Obj) : (s.unstage o).faults = s.faults := rfl
@[simp] theorem unstage_tide (s : State) (o : Obj) : (s.unstage o).tide = s.tide := rfl
@[simp] theorem unstage_cranes (s : State) (o : Obj) : (s.unstage o).cranes = s.cranes := rfl
@[simp] theorem unstage_fifos (s : State) (o : Obj) : (s.unstage o).fifos = s.fifos := rfl
@[simp] theorem unstage_users (s : State) (o : Obj) : (s.unstage o).users = s.users := rfl
@[simp] theorem unstage_chk (s : State) (o : Obj) : (s.unstage o).chk = s.chk := rfl
@[simp] theorem unstage_tally (s : State) (o : Obj) : (s.unstage o).tally = s.tally := rfl
@[simp] theorem unstage_quay (s : State) (o : Obj) : (s.unstage o).quay = s.quay := rfl
@[simp] theorem unstage_twin (s : State) (o : Obj) : (s.unstage o).twin = s.twin := rfl
@[simp] theorem unstage_flash (s : State) (o : Obj) : (s.unstage o).flash = s.flash := rfl
@[simp] theorem unstage_upd (s : State) (o : Obj) : (s.unstage o).upd = s.upd := rfl
@[simp] theorem unstage_dict (s : State) (o : Obj) : (s.unstage o).dict = s.dict := rfl
@[simp] theorem unstage_gw (s : State) (o : Obj) : (s.unstage o).gw = s.gw := rfl
@[simp] theorem unstage_ring (s : State) (o : Obj) : (s.unstage o).ring = s.ring := rfl
@[simp] theorem unstage_hold (s : State) (o : Obj) : (s.unstage o).hold = s.hold := rfl
@[simp] theorem unstage_bridge (s : State) (o : Obj) : (s.unstage o).bridge = s.bridge := rfl
@[simp] theorem unstage_man (s : State) (o : Obj) : (s.unstage o).man = s.man := rfl
@[simp] theorem unstage_can (s : State) (o : Obj) : (s.unstage o).can = s.can := rfl
@[simp] theorem unstage_cal (s : State) (o : Obj) : (s.unstage o).cal = s.cal := rfl
@[simp] theorem unstage_time (s : State) (o : Obj) : (s.unstage o).time = s.time := rfl
@[simp] theorem unstage_freeCount (s : State) (o : Obj) : (s.unstage o).freeCount = s.freeCount := rfl
@[simp] theorem unstage_pending (s : State) (o : Obj) : (s.unstage o).pending = s.pending := rfl

@[simp] theorem setCrane_objs (s : State) (g : Nat) (c : Crane) : (s.setCrane g c).objs = s.objs := rfl
@[simp] theorem setCrane_blobs (s : State) (g : Nat) (c : Crane) : (s.setCrane g c).blobs = s.blobs := rfl
@[simp] theorem setCrane_staged (s : State) (g : Nat) (c : Crane) : (s.setCrane g c).staged = s.staged := rfl
@[simp] theorem setCrane_node (s : State) (g : Nat) (c : Crane) : (s.setCrane g c).node = s.node := rfl
@[simp] theorem setCrane_rst (s : State) (g : Nat) (c : Crane) : (s.setCrane g c).rst = s.rst := rfl
@[simp] theorem setCrane_tap (s : State) (g : Nat) (c : Crane) : (s.setCrane g c).tap = s.tap := rfl
@[simp] theorem setCrane_pins (s : State) (g : Nat) (c : Crane) : (s.setCrane g c).pins = s.pins := rfl
@[simp] theorem setCrane_faults (s : State) (g : Nat) (c : Crane) : (s.setCrane g c).faults = s.faults := rfl
@[simp] theorem setCrane_tide (s : State) (g : Nat) (c : Crane) : (s.setCrane g c).tide = s.tide := rfl
@[simp] theorem setCrane_fifos (s : State) (g : Nat) (c : Crane) : (s.setCrane g c).fifos = s.fifos := rfl
@[simp] theorem setCrane_users (s : State) (g : Nat) (c : Crane) : (s.setCrane g c).users = s.users := rfl
@[simp] theorem setCrane_chk (s : State) (g : Nat) (c : Crane) : (s.setCrane g c).chk = s.chk := rfl
@[simp] theorem setCrane_tally (s : State) (g : Nat) (c : Crane) : (s.setCrane g c).tally = s.tally := rfl
@[simp] theorem setCrane_quay (s : State) (g : Nat) (c : Crane) : (s.setCrane g c).quay = s.quay := rfl
@[simp] theorem setCrane_twin (s : State) (g : Nat) (c : Crane) : (s.setCrane g c).twin = s.twin := rfl
@[simp] theorem setCrane_flash (s : State) (g : Nat) (c : Crane) : (s.setCrane g c).flash = s.flash := rfl
@[simp] theorem setCrane_upd (s : State) (g : Nat) (c : Crane) : (s.setCrane g c).upd = s.upd := rfl
@[simp] theorem setCrane_dict (s : State) (g : Nat) (c : Crane) : (s.setCrane g c).dict = s.dict := rfl
@[simp] theorem setCrane_gw (s : State) (g : Nat) (c : Crane) : (s.setCrane g c).gw = s.gw := rfl
@[simp] theorem setCrane_ring (s : State) (g : Nat) (c : Crane) : (s.setCrane g c).ring = s.ring := rfl
@[simp] theorem setCrane_hold (s : State) (g : Nat) (c : Crane) : (s.setCrane g c).hold = s.hold := rfl
@[simp] theorem setCrane_bridge (s : State) (g : Nat) (c : Crane) : (s.setCrane g c).bridge = s.bridge := rfl
@[simp] theorem setCrane_man (s : State) (g : Nat) (c : Crane) : (s.setCrane g c).man = s.man := rfl
@[simp] theorem setCrane_can (s : State) (g : Nat) (c : Crane) : (s.setCrane g c).can = s.can := rfl
@[simp] theorem setCrane_cal (s : State) (g : Nat) (c : Crane) : (s.setCrane g c).cal = s.cal := rfl
@[simp] theorem setCrane_time (s : State) (g : Nat) (c : Crane) : (s.setCrane g c).time = s.time := rfl
@[simp] theorem setCrane_freeCount (s : State) (g : Nat) (c : Crane) : (s.setCrane g c).freeCount = s.freeCount := rfl
@[simp] theorem setCrane_pending (s : State) (g : Nat) (c : Crane) : (s.setCrane g c).pending = s.pending := rfl

@[simp] theorem modCrane_objs (g : Nat) (f : Crane → Crane) (s : State) : (modCrane g f s).objs = s.objs := rfl
@[simp] theorem modCrane_blobs (g : Nat) (f : Crane → Crane) (s : State) : (modCrane g f s).blobs = s.blobs := rfl
@[simp] theorem modCrane_staged (g : Nat) (f : Crane → Crane) (s : State) : (modCrane g f s).staged = s.staged := rfl
@[simp] theorem modCrane_node (g : Nat) (f : Crane → Crane) (s : State) : (modCrane g f s).node = s.node := rfl
@[simp] theorem modCrane_rst (g : Nat) (f : Crane → Crane) (s : State) : (modCrane g f s).rst = s.rst := rfl
@[simp] theorem modCrane_tap (g : Nat) (f : Crane → Crane) (s : State) : (modCrane g f s).tap = s.tap := rfl
@[simp] theorem modCrane_pins (g : Nat) (f : Crane → Crane) (s : State) : (modCrane g f s).pins = s.pins := rfl
@[simp] theorem modCrane_faults (g : Nat) (f : Crane → Crane) (s : State) : (modCrane g f s).faults = s.faults := rfl
@[simp] theorem modCrane_tide (g : Nat) (f : Crane → Crane) (s : State) : (modCrane g f s).tide = s.tide := rfl
@[simp] theorem modCrane_fifos (g : Nat) (f : Crane → Crane) (s : State) : (modCrane g f s).fifos = s.fifos := rfl
@[simp] theorem modCrane_users (g : Nat) (f : Crane → Crane) (s : State) : (modCrane g f s).users = s.users := rfl
@[simp] theorem modCrane_chk (g : Nat) (f : Crane → Crane) (s : State) : (modCrane g f s).chk = s.chk := rfl
@[simp] theorem modCrane_tally (g : Nat) (f : Crane → Crane) (s : State) : (modCrane g f s).tally = s.tally := rfl
@[simp] theorem modCrane_quay (g : Nat) (f : Crane → Crane) (s : State) : (modCrane g f s).quay = s.quay := rfl
@[simp] theorem modCrane_twin (g : Nat) (f : Crane → Crane) (s : State) : (modCrane g f s).twin = s.twin := rfl
@[simp] theorem modCrane_flash (g : Nat) (f : Crane → Crane) (s : State) : (modCrane g f s).flash = s.flash := rfl
@[simp] theorem modCrane_upd (g : Nat) (f : Crane → Crane) (s : State) : (modCrane g f s).upd = s.upd := rfl
@[simp] theorem modCrane_dict (g : Nat) (f : Crane → Crane) (s : State) : (modCrane g f s).dict = s.dict := rfl
@[simp] theorem modCrane_gw (g : Nat) (f : Crane → Crane) (s : State) : (modCrane g f s).gw = s.gw := rfl
@[simp] theorem modCrane_ring (g : Nat) (f : Crane → Crane) (s : State) : (modCrane g f s).ring = s.ring := rfl
@[simp] theorem modCrane_hold (g : Nat) (f : Crane → Crane) (s : State) : (modCrane g f s).hold = s.hold := rfl
@[simp] theorem modCrane_bridge (g : Nat) (f : Crane → Crane) (s : State) : (modCrane g f s).bridge = s.bridge := rfl
@[simp] theorem modCrane_man (g : Nat) (f : Crane → Crane) (s : State) : (modCrane g f s).man = s.man := rfl
@[simp] theorem modCrane_can (g : Nat) (f : Crane → Crane) (s : State) : (modCrane g f s).can = s.can := rfl
@[simp] theorem modCrane_cal (g : Nat) (f : Crane → Crane) (s : State) : (modCrane g f s).cal = s.cal := rfl
@[simp] theorem modCrane_time (g : Nat) (f : Crane → Crane) (s : State) : (modCrane g f s).time = s.time := rfl
@[simp] theorem modCrane_freeCount (g : Nat) (f : Crane → Crane) (s : State) : (modCrane g f s).freeCount = s.freeCount := rfl
@[simp] theorem modCrane_pending (g : Nat) (f : Crane → Crane) (s : State) : (modCrane g f s).pending = s.pending := rfl

@[simp] theorem setFifo_objs (s : State) (f : Nat) (x : Fifo) : (s.setFifo f x).objs = s.objs := rfl
@[simp] theorem setFifo_blobs (s : State) (f : Nat) (x : Fifo) : (s.setFifo f x).blobs = s.blobs := rfl
@[simp] theorem setFifo_staged (s : State) (f : Nat) (x : Fifo) : (s.setFifo f x).staged = s.staged := rfl
@[simp] theorem setFifo_node (s : State) (f : Nat) (x : Fifo) : (s.setFifo f x).node = s.node := rfl
@[simp] theorem setFifo_rst (s : State) (f : Nat) (x : Fifo) : (s.setFifo f x).rst = s.rst := rfl
@[simp] theorem setFifo_tap (s : State) (f : Nat) (x : Fifo) : (s.setFifo f x).tap = s.tap := rfl
@[simp] theorem setFifo_pins (s : State) (f : Nat) (x : Fifo) : (s.setFifo f x).pins = s.pins := rfl
@[simp] theorem setFifo_faults (s : State) (f : Nat) (x : Fifo) : (s.setFifo f x).faults = s.faults := rfl
@[simp] theorem setFifo_tide (s : State) (f : Nat) (x : Fifo) : (s.setFifo f x).tide = s.tide := rfl
@[simp] theorem setFifo_cranes (s : State) (f : Nat) (x : Fifo) : (s.setFifo f x).cranes = s.cranes := rfl
@[simp] theorem setFifo_users (s : State) (f : Nat) (x : Fifo) : (s.setFifo f x).users = s.users := rfl
@[simp] theorem setFifo_chk (s : State) (f : Nat) (x : Fifo) : (s.setFifo f x).chk = s.chk := rfl
@[simp] theorem setFifo_tally (s : State) (f : Nat) (x : Fifo) : (s.setFifo f x).tally = s.tally := rfl
@[simp] theorem setFifo_quay (s : State) (f : Nat) (x : Fifo) : (s.setFifo f x).quay = s.quay := rfl
@[simp] theorem setFifo_twin (s : State) (f : Nat) (x : Fifo) : (s.setFifo f x).twin = s.twin := rfl
@[simp] theorem setFifo_flash (s : State) (f : Nat) (x : Fifo) : (s.setFifo f x).flash = s.flash := rfl
@[simp] theorem setFifo_upd (s : State) (f : Nat) (x : Fifo) : (s.setFifo f x).upd = s.upd := rfl
@[simp] theorem setFifo_dict (s : State) (f : Nat) (x : Fifo) : (s.setFifo f x).dict = s.dict := rfl
@[simp] theorem setFifo_gw (s : State) (f : Nat) (x : Fifo) : (s.setFifo f x).gw = s.gw := rfl
@[simp] theorem setFifo_ring (s : State) (f : Nat) (x : Fifo) : (s.setFifo f x).ring = s.ring := rfl
@[simp] theorem setFifo_hold (s : State) (f : Nat) (x : Fifo) : (s.setFifo f x).hold = s.hold := rfl
@[simp] theorem setFifo_bridge (s : State) (f : Nat) (x : Fifo) : (s.setFifo f x).bridge = s.bridge := rfl
@[simp] theorem setFifo_man (s : State) (f : Nat) (x : Fifo) : (s.setFifo f x).man = s.man := rfl
@[simp] theorem setFifo_can (s : State) (f : Nat) (x : Fifo) : (s.setFifo f x).can = s.can := rfl
@[simp] theorem setFifo_cal (s : State) (f : Nat) (x : Fifo) : (s.setFifo f x).cal = s.cal := rfl
@[simp] theorem setFifo_time (s : State) (f : Nat) (x : Fifo) : (s.setFifo f x).time = s.time := rfl
@[simp] theorem setFifo_freeCount (s : State) (f : Nat) (x : Fifo) : (s.setFifo f x).freeCount = s.freeCount := rfl
@[simp] theorem setFifo_pending (s : State) (f : Nat) (x : Fifo) : (s.setFifo f x).pending = s.pending := rfl

@[simp] theorem setUserWord_objs (s : State) (g w : Nat) (v : W64) : (s.setUserWord g w v).objs = s.objs := rfl
@[simp] theorem setUserWord_blobs (s : State) (g w : Nat) (v : W64) : (s.setUserWord g w v).blobs = s.blobs := rfl
@[simp] theorem setUserWord_staged (s : State) (g w : Nat) (v : W64) : (s.setUserWord g w v).staged = s.staged := rfl
@[simp] theorem setUserWord_node (s : State) (g w : Nat) (v : W64) : (s.setUserWord g w v).node = s.node := rfl
@[simp] theorem setUserWord_rst (s : State) (g w : Nat) (v : W64) : (s.setUserWord g w v).rst = s.rst := rfl
@[simp] theorem setUserWord_tap (s : State) (g w : Nat) (v : W64) : (s.setUserWord g w v).tap = s.tap := rfl
@[simp] theorem setUserWord_pins (s : State) (g w : Nat) (v : W64) : (s.setUserWord g w v).pins = s.pins := rfl
@[simp] theorem setUserWord_faults (s : State) (g w : Nat) (v : W64) : (s.setUserWord g w v).faults = s.faults := rfl
@[simp] theorem setUserWord_tide (s : State) (g w : Nat) (v : W64) : (s.setUserWord g w v).tide = s.tide := rfl
@[simp] theorem setUserWord_cranes (s : State) (g w : Nat) (v : W64) : (s.setUserWord g w v).cranes = s.cranes := rfl
@[simp] theorem setUserWord_fifos (s : State) (g w : Nat) (v : W64) : (s.setUserWord g w v).fifos = s.fifos := rfl
@[simp] theorem setUserWord_chk (s : State) (g w : Nat) (v : W64) : (s.setUserWord g w v).chk = s.chk := rfl
@[simp] theorem setUserWord_tally (s : State) (g w : Nat) (v : W64) : (s.setUserWord g w v).tally = s.tally := rfl
@[simp] theorem setUserWord_quay (s : State) (g w : Nat) (v : W64) : (s.setUserWord g w v).quay = s.quay := rfl
@[simp] theorem setUserWord_twin (s : State) (g w : Nat) (v : W64) : (s.setUserWord g w v).twin = s.twin := rfl
@[simp] theorem setUserWord_flash (s : State) (g w : Nat) (v : W64) : (s.setUserWord g w v).flash = s.flash := rfl
@[simp] theorem setUserWord_upd (s : State) (g w : Nat) (v : W64) : (s.setUserWord g w v).upd = s.upd := rfl
@[simp] theorem setUserWord_dict (s : State) (g w : Nat) (v : W64) : (s.setUserWord g w v).dict = s.dict := rfl
@[simp] theorem setUserWord_gw (s : State) (g w : Nat) (v : W64) : (s.setUserWord g w v).gw = s.gw := rfl
@[simp] theorem setUserWord_ring (s : State) (g w : Nat) (v : W64) : (s.setUserWord g w v).ring = s.ring := rfl
@[simp] theorem setUserWord_hold (s : State) (g w : Nat) (v : W64) : (s.setUserWord g w v).hold = s.hold := rfl
@[simp] theorem setUserWord_bridge (s : State) (g w : Nat) (v : W64) : (s.setUserWord g w v).bridge = s.bridge := rfl
@[simp] theorem setUserWord_man (s : State) (g w : Nat) (v : W64) : (s.setUserWord g w v).man = s.man := rfl
@[simp] theorem setUserWord_can (s : State) (g w : Nat) (v : W64) : (s.setUserWord g w v).can = s.can := rfl
@[simp] theorem setUserWord_cal (s : State) (g w : Nat) (v : W64) : (s.setUserWord g w v).cal = s.cal := rfl
@[simp] theorem setUserWord_time (s : State) (g w : Nat) (v : W64) : (s.setUserWord g w v).time = s.time := rfl
@[simp] theorem setUserWord_freeCount (s : State) (g w : Nat) (v : W64) : (s.setUserWord g w v).freeCount = s.freeCount := rfl
@[simp] theorem setUserWord_pending (s : State) (g w : Nat) (v : W64) : (s.setUserWord g w v).pending = s.pending := rfl

@[simp] theorem setUnit_objs (s : State) (u : Nat) (x : ChkUnit) : (s.setUnit u x).objs = s.objs := rfl
@[simp] theorem setUnit_blobs (s : State) (u : Nat) (x : ChkUnit) : (s.setUnit u x).blobs = s.blobs := rfl
@[simp] theorem setUnit_staged (s : State) (u : Nat) (x : ChkUnit) : (s.setUnit u x).staged = s.staged := rfl
@[simp] theorem setUnit_node (s : State) (u : Nat) (x : ChkUnit) : (s.setUnit u x).node = s.node := rfl
@[simp] theorem setUnit_rst (s : State) (u : Nat) (x : ChkUnit) : (s.setUnit u x).rst = s.rst := rfl
@[simp] theorem setUnit_tap (s : State) (u : Nat) (x : ChkUnit) : (s.setUnit u x).tap = s.tap := rfl
@[simp] theorem setUnit_pins (s : State) (u : Nat) (x : ChkUnit) : (s.setUnit u x).pins = s.pins := rfl
@[simp] theorem setUnit_faults (s : State) (u : Nat) (x : ChkUnit) : (s.setUnit u x).faults = s.faults := rfl
@[simp] theorem setUnit_tide (s : State) (u : Nat) (x : ChkUnit) : (s.setUnit u x).tide = s.tide := rfl
@[simp] theorem setUnit_cranes (s : State) (u : Nat) (x : ChkUnit) : (s.setUnit u x).cranes = s.cranes := rfl
@[simp] theorem setUnit_fifos (s : State) (u : Nat) (x : ChkUnit) : (s.setUnit u x).fifos = s.fifos := rfl
@[simp] theorem setUnit_users (s : State) (u : Nat) (x : ChkUnit) : (s.setUnit u x).users = s.users := rfl
@[simp] theorem setUnit_tally (s : State) (u : Nat) (x : ChkUnit) : (s.setUnit u x).tally = s.tally := rfl
@[simp] theorem setUnit_quay (s : State) (u : Nat) (x : ChkUnit) : (s.setUnit u x).quay = s.quay := rfl
@[simp] theorem setUnit_twin (s : State) (u : Nat) (x : ChkUnit) : (s.setUnit u x).twin = s.twin := rfl
@[simp] theorem setUnit_flash (s : State) (u : Nat) (x : ChkUnit) : (s.setUnit u x).flash = s.flash := rfl
@[simp] theorem setUnit_upd (s : State) (u : Nat) (x : ChkUnit) : (s.setUnit u x).upd = s.upd := rfl
@[simp] theorem setUnit_dict (s : State) (u : Nat) (x : ChkUnit) : (s.setUnit u x).dict = s.dict := rfl
@[simp] theorem setUnit_gw (s : State) (u : Nat) (x : ChkUnit) : (s.setUnit u x).gw = s.gw := rfl
@[simp] theorem setUnit_ring (s : State) (u : Nat) (x : ChkUnit) : (s.setUnit u x).ring = s.ring := rfl
@[simp] theorem setUnit_hold (s : State) (u : Nat) (x : ChkUnit) : (s.setUnit u x).hold = s.hold := rfl
@[simp] theorem setUnit_bridge (s : State) (u : Nat) (x : ChkUnit) : (s.setUnit u x).bridge = s.bridge := rfl
@[simp] theorem setUnit_man (s : State) (u : Nat) (x : ChkUnit) : (s.setUnit u x).man = s.man := rfl
@[simp] theorem setUnit_can (s : State) (u : Nat) (x : ChkUnit) : (s.setUnit u x).can = s.can := rfl
@[simp] theorem setUnit_cal (s : State) (u : Nat) (x : ChkUnit) : (s.setUnit u x).cal = s.cal := rfl
@[simp] theorem setUnit_time (s : State) (u : Nat) (x : ChkUnit) : (s.setUnit u x).time = s.time := rfl
@[simp] theorem setUnit_freeCount (s : State) (u : Nat) (x : ChkUnit) : (s.setUnit u x).freeCount = s.freeCount := rfl
@[simp] theorem setUnit_pending (s : State) (u : Nat) (x : ChkUnit) : (s.setUnit u x).pending = s.pending := rfl

@[simp] theorem modBridge_objs (f : BridgeState → BridgeState) (s : State) : (modBridge f s).objs = s.objs := rfl
@[simp] theorem modBridge_blobs (f : BridgeState → BridgeState) (s : State) : (modBridge f s).blobs = s.blobs := rfl
@[simp] theorem modBridge_staged (f : BridgeState → BridgeState) (s : State) : (modBridge f s).staged = s.staged := rfl
@[simp] theorem modBridge_node (f : BridgeState → BridgeState) (s : State) : (modBridge f s).node = s.node := rfl
@[simp] theorem modBridge_rst (f : BridgeState → BridgeState) (s : State) : (modBridge f s).rst = s.rst := rfl
@[simp] theorem modBridge_tap (f : BridgeState → BridgeState) (s : State) : (modBridge f s).tap = s.tap := rfl
@[simp] theorem modBridge_pins (f : BridgeState → BridgeState) (s : State) : (modBridge f s).pins = s.pins := rfl
@[simp] theorem modBridge_faults (f : BridgeState → BridgeState) (s : State) : (modBridge f s).faults = s.faults := rfl
@[simp] theorem modBridge_tide (f : BridgeState → BridgeState) (s : State) : (modBridge f s).tide = s.tide := rfl
@[simp] theorem modBridge_cranes (f : BridgeState → BridgeState) (s : State) : (modBridge f s).cranes = s.cranes := rfl
@[simp] theorem modBridge_fifos (f : BridgeState → BridgeState) (s : State) : (modBridge f s).fifos = s.fifos := rfl
@[simp] theorem modBridge_users (f : BridgeState → BridgeState) (s : State) : (modBridge f s).users = s.users := rfl
@[simp] theorem modBridge_chk (f : BridgeState → BridgeState) (s : State) : (modBridge f s).chk = s.chk := rfl
@[simp] theorem modBridge_tally (f : BridgeState → BridgeState) (s : State) : (modBridge f s).tally = s.tally := rfl
@[simp] theorem modBridge_quay (f : BridgeState → BridgeState) (s : State) : (modBridge f s).quay = s.quay := rfl
@[simp] theorem modBridge_twin (f : BridgeState → BridgeState) (s : State) : (modBridge f s).twin = s.twin := rfl
@[simp] theorem modBridge_flash (f : BridgeState → BridgeState) (s : State) : (modBridge f s).flash = s.flash := rfl
@[simp] theorem modBridge_upd (f : BridgeState → BridgeState) (s : State) : (modBridge f s).upd = s.upd := rfl
@[simp] theorem modBridge_dict (f : BridgeState → BridgeState) (s : State) : (modBridge f s).dict = s.dict := rfl
@[simp] theorem modBridge_gw (f : BridgeState → BridgeState) (s : State) : (modBridge f s).gw = s.gw := rfl
@[simp] theorem modBridge_ring (f : BridgeState → BridgeState) (s : State) : (modBridge f s).ring = s.ring := rfl
@[simp] theorem modBridge_hold (f : BridgeState → BridgeState) (s : State) : (modBridge f s).hold = s.hold := rfl
@[simp] theorem modBridge_man (f : BridgeState → BridgeState) (s : State) : (modBridge f s).man = s.man := rfl
@[simp] theorem modBridge_can (f : BridgeState → BridgeState) (s : State) : (modBridge f s).can = s.can := rfl
@[simp] theorem modBridge_cal (f : BridgeState → BridgeState) (s : State) : (modBridge f s).cal = s.cal := rfl
@[simp] theorem modBridge_time (f : BridgeState → BridgeState) (s : State) : (modBridge f s).time = s.time := rfl
@[simp] theorem modBridge_freeCount (f : BridgeState → BridgeState) (s : State) : (modBridge f s).freeCount = s.freeCount := rfl
@[simp] theorem modBridge_pending (f : BridgeState → BridgeState) (s : State) : (modBridge f s).pending = s.pending := rfl

@[simp] theorem modHold_objs (f : HoldState → HoldState) (s : State) : (modHold f s).objs = s.objs := rfl
@[simp] theorem modHold_blobs (f : HoldState → HoldState) (s : State) : (modHold f s).blobs = s.blobs := rfl
@[simp] theorem modHold_staged (f : HoldState → HoldState) (s : State) : (modHold f s).staged = s.staged := rfl
@[simp] theorem modHold_node (f : HoldState → HoldState) (s : State) : (modHold f s).node = s.node := rfl
@[simp] theorem modHold_rst (f : HoldState → HoldState) (s : State) : (modHold f s).rst = s.rst := rfl
@[simp] theorem modHold_tap (f : HoldState → HoldState) (s : State) : (modHold f s).tap = s.tap := rfl
@[simp] theorem modHold_pins (f : HoldState → HoldState) (s : State) : (modHold f s).pins = s.pins := rfl
@[simp] theorem modHold_faults (f : HoldState → HoldState) (s : State) : (modHold f s).faults = s.faults := rfl
@[simp] theorem modHold_tide (f : HoldState → HoldState) (s : State) : (modHold f s).tide = s.tide := rfl
@[simp] theorem modHold_cranes (f : HoldState → HoldState) (s : State) : (modHold f s).cranes = s.cranes := rfl
@[simp] theorem modHold_fifos (f : HoldState → HoldState) (s : State) : (modHold f s).fifos = s.fifos := rfl
@[simp] theorem modHold_users (f : HoldState → HoldState) (s : State) : (modHold f s).users = s.users := rfl
@[simp] theorem modHold_chk (f : HoldState → HoldState) (s : State) : (modHold f s).chk = s.chk := rfl
@[simp] theorem modHold_tally (f : HoldState → HoldState) (s : State) : (modHold f s).tally = s.tally := rfl
@[simp] theorem modHold_quay (f : HoldState → HoldState) (s : State) : (modHold f s).quay = s.quay := rfl
@[simp] theorem modHold_twin (f : HoldState → HoldState) (s : State) : (modHold f s).twin = s.twin := rfl
@[simp] theorem modHold_flash (f : HoldState → HoldState) (s : State) : (modHold f s).flash = s.flash := rfl
@[simp] theorem modHold_upd (f : HoldState → HoldState) (s : State) : (modHold f s).upd = s.upd := rfl
@[simp] theorem modHold_dict (f : HoldState → HoldState) (s : State) : (modHold f s).dict = s.dict := rfl
@[simp] theorem modHold_gw (f : HoldState → HoldState) (s : State) : (modHold f s).gw = s.gw := rfl
@[simp] theorem modHold_ring (f : HoldState → HoldState) (s : State) : (modHold f s).ring = s.ring := rfl
@[simp] theorem modHold_bridge (f : HoldState → HoldState) (s : State) : (modHold f s).bridge = s.bridge := rfl
@[simp] theorem modHold_man (f : HoldState → HoldState) (s : State) : (modHold f s).man = s.man := rfl
@[simp] theorem modHold_can (f : HoldState → HoldState) (s : State) : (modHold f s).can = s.can := rfl
@[simp] theorem modHold_cal (f : HoldState → HoldState) (s : State) : (modHold f s).cal = s.cal := rfl
@[simp] theorem modHold_time (f : HoldState → HoldState) (s : State) : (modHold f s).time = s.time := rfl
@[simp] theorem modHold_freeCount (f : HoldState → HoldState) (s : State) : (modHold f s).freeCount = s.freeCount := rfl
@[simp] theorem modHold_pending (f : HoldState → HoldState) (s : State) : (modHold f s).pending = s.pending := rfl

@[simp] theorem modTide_objs (f : TideState → TideState) (s : State) : (modTide f s).objs = s.objs := rfl
@[simp] theorem modTide_blobs (f : TideState → TideState) (s : State) : (modTide f s).blobs = s.blobs := rfl
@[simp] theorem modTide_staged (f : TideState → TideState) (s : State) : (modTide f s).staged = s.staged := rfl
@[simp] theorem modTide_node (f : TideState → TideState) (s : State) : (modTide f s).node = s.node := rfl
@[simp] theorem modTide_rst (f : TideState → TideState) (s : State) : (modTide f s).rst = s.rst := rfl
@[simp] theorem modTide_tap (f : TideState → TideState) (s : State) : (modTide f s).tap = s.tap := rfl
@[simp] theorem modTide_pins (f : TideState → TideState) (s : State) : (modTide f s).pins = s.pins := rfl
@[simp] theorem modTide_faults (f : TideState → TideState) (s : State) : (modTide f s).faults = s.faults := rfl
@[simp] theorem modTide_cranes (f : TideState → TideState) (s : State) : (modTide f s).cranes = s.cranes := rfl
@[simp] theorem modTide_fifos (f : TideState → TideState) (s : State) : (modTide f s).fifos = s.fifos := rfl
@[simp] theorem modTide_users (f : TideState → TideState) (s : State) : (modTide f s).users = s.users := rfl
@[simp] theorem modTide_chk (f : TideState → TideState) (s : State) : (modTide f s).chk = s.chk := rfl
@[simp] theorem modTide_tally (f : TideState → TideState) (s : State) : (modTide f s).tally = s.tally := rfl
@[simp] theorem modTide_quay (f : TideState → TideState) (s : State) : (modTide f s).quay = s.quay := rfl
@[simp] theorem modTide_twin (f : TideState → TideState) (s : State) : (modTide f s).twin = s.twin := rfl
@[simp] theorem modTide_flash (f : TideState → TideState) (s : State) : (modTide f s).flash = s.flash := rfl
@[simp] theorem modTide_upd (f : TideState → TideState) (s : State) : (modTide f s).upd = s.upd := rfl
@[simp] theorem modTide_dict (f : TideState → TideState) (s : State) : (modTide f s).dict = s.dict := rfl
@[simp] theorem modTide_gw (f : TideState → TideState) (s : State) : (modTide f s).gw = s.gw := rfl
@[simp] theorem modTide_ring (f : TideState → TideState) (s : State) : (modTide f s).ring = s.ring := rfl
@[simp] theorem modTide_hold (f : TideState → TideState) (s : State) : (modTide f s).hold = s.hold := rfl
@[simp] theorem modTide_bridge (f : TideState → TideState) (s : State) : (modTide f s).bridge = s.bridge := rfl
@[simp] theorem modTide_man (f : TideState → TideState) (s : State) : (modTide f s).man = s.man := rfl
@[simp] theorem modTide_can (f : TideState → TideState) (s : State) : (modTide f s).can = s.can := rfl
@[simp] theorem modTide_cal (f : TideState → TideState) (s : State) : (modTide f s).cal = s.cal := rfl
@[simp] theorem modTide_time (f : TideState → TideState) (s : State) : (modTide f s).time = s.time := rfl
@[simp] theorem modTide_freeCount (f : TideState → TideState) (s : State) : (modTide f s).freeCount = s.freeCount := rfl
@[simp] theorem modTide_pending (f : TideState → TideState) (s : State) : (modTide f s).pending = s.pending := rfl

@[simp] theorem modTwin_objs (f : TwinState → TwinState) (s : State) : (modTwin f s).objs = s.objs := rfl
@[simp] theorem modTwin_blobs (f : TwinState → TwinState) (s : State) : (modTwin f s).blobs = s.blobs := rfl
@[simp] theorem modTwin_staged (f : TwinState → TwinState) (s : State) : (modTwin f s).staged = s.staged := rfl
@[simp] theorem modTwin_node (f : TwinState → TwinState) (s : State) : (modTwin f s).node = s.node := rfl
@[simp] theorem modTwin_rst (f : TwinState → TwinState) (s : State) : (modTwin f s).rst = s.rst := rfl
@[simp] theorem modTwin_tap (f : TwinState → TwinState) (s : State) : (modTwin f s).tap = s.tap := rfl
@[simp] theorem modTwin_pins (f : TwinState → TwinState) (s : State) : (modTwin f s).pins = s.pins := rfl
@[simp] theorem modTwin_faults (f : TwinState → TwinState) (s : State) : (modTwin f s).faults = s.faults := rfl
@[simp] theorem modTwin_tide (f : TwinState → TwinState) (s : State) : (modTwin f s).tide = s.tide := rfl
@[simp] theorem modTwin_cranes (f : TwinState → TwinState) (s : State) : (modTwin f s).cranes = s.cranes := rfl
@[simp] theorem modTwin_fifos (f : TwinState → TwinState) (s : State) : (modTwin f s).fifos = s.fifos := rfl
@[simp] theorem modTwin_users (f : TwinState → TwinState) (s : State) : (modTwin f s).users = s.users := rfl
@[simp] theorem modTwin_chk (f : TwinState → TwinState) (s : State) : (modTwin f s).chk = s.chk := rfl
@[simp] theorem modTwin_tally (f : TwinState → TwinState) (s : State) : (modTwin f s).tally = s.tally := rfl
@[simp] theorem modTwin_quay (f : TwinState → TwinState) (s : State) : (modTwin f s).quay = s.quay := rfl
@[simp] theorem modTwin_flash (f : TwinState → TwinState) (s : State) : (modTwin f s).flash = s.flash := rfl
@[simp] theorem modTwin_upd (f : TwinState → TwinState) (s : State) : (modTwin f s).upd = s.upd := rfl
@[simp] theorem modTwin_dict (f : TwinState → TwinState) (s : State) : (modTwin f s).dict = s.dict := rfl
@[simp] theorem modTwin_gw (f : TwinState → TwinState) (s : State) : (modTwin f s).gw = s.gw := rfl
@[simp] theorem modTwin_ring (f : TwinState → TwinState) (s : State) : (modTwin f s).ring = s.ring := rfl
@[simp] theorem modTwin_hold (f : TwinState → TwinState) (s : State) : (modTwin f s).hold = s.hold := rfl
@[simp] theorem modTwin_bridge (f : TwinState → TwinState) (s : State) : (modTwin f s).bridge = s.bridge := rfl
@[simp] theorem modTwin_man (f : TwinState → TwinState) (s : State) : (modTwin f s).man = s.man := rfl
@[simp] theorem modTwin_can (f : TwinState → TwinState) (s : State) : (modTwin f s).can = s.can := rfl
@[simp] theorem modTwin_cal (f : TwinState → TwinState) (s : State) : (modTwin f s).cal = s.cal := rfl
@[simp] theorem modTwin_time (f : TwinState → TwinState) (s : State) : (modTwin f s).time = s.time := rfl
@[simp] theorem modTwin_freeCount (f : TwinState → TwinState) (s : State) : (modTwin f s).freeCount = s.freeCount := rfl
@[simp] theorem modTwin_pending (f : TwinState → TwinState) (s : State) : (modTwin f s).pending = s.pending := rfl

@[simp] theorem modUpd_objs (f : UpdState → UpdState) (s : State) : (modUpd f s).objs = s.objs := rfl
@[simp] theorem modUpd_blobs (f : UpdState → UpdState) (s : State) : (modUpd f s).blobs = s.blobs := rfl
@[simp] theorem modUpd_staged (f : UpdState → UpdState) (s : State) : (modUpd f s).staged = s.staged := rfl
@[simp] theorem modUpd_node (f : UpdState → UpdState) (s : State) : (modUpd f s).node = s.node := rfl
@[simp] theorem modUpd_rst (f : UpdState → UpdState) (s : State) : (modUpd f s).rst = s.rst := rfl
@[simp] theorem modUpd_tap (f : UpdState → UpdState) (s : State) : (modUpd f s).tap = s.tap := rfl
@[simp] theorem modUpd_pins (f : UpdState → UpdState) (s : State) : (modUpd f s).pins = s.pins := rfl
@[simp] theorem modUpd_faults (f : UpdState → UpdState) (s : State) : (modUpd f s).faults = s.faults := rfl
@[simp] theorem modUpd_tide (f : UpdState → UpdState) (s : State) : (modUpd f s).tide = s.tide := rfl
@[simp] theorem modUpd_cranes (f : UpdState → UpdState) (s : State) : (modUpd f s).cranes = s.cranes := rfl
@[simp] theorem modUpd_fifos (f : UpdState → UpdState) (s : State) : (modUpd f s).fifos = s.fifos := rfl
@[simp] theorem modUpd_users (f : UpdState → UpdState) (s : State) : (modUpd f s).users = s.users := rfl
@[simp] theorem modUpd_chk (f : UpdState → UpdState) (s : State) : (modUpd f s).chk = s.chk := rfl
@[simp] theorem modUpd_tally (f : UpdState → UpdState) (s : State) : (modUpd f s).tally = s.tally := rfl
@[simp] theorem modUpd_quay (f : UpdState → UpdState) (s : State) : (modUpd f s).quay = s.quay := rfl
@[simp] theorem modUpd_twin (f : UpdState → UpdState) (s : State) : (modUpd f s).twin = s.twin := rfl
@[simp] theorem modUpd_flash (f : UpdState → UpdState) (s : State) : (modUpd f s).flash = s.flash := rfl
@[simp] theorem modUpd_dict (f : UpdState → UpdState) (s : State) : (modUpd f s).dict = s.dict := rfl
@[simp] theorem modUpd_gw (f : UpdState → UpdState) (s : State) : (modUpd f s).gw = s.gw := rfl
@[simp] theorem modUpd_ring (f : UpdState → UpdState) (s : State) : (modUpd f s).ring = s.ring := rfl
@[simp] theorem modUpd_hold (f : UpdState → UpdState) (s : State) : (modUpd f s).hold = s.hold := rfl
@[simp] theorem modUpd_bridge (f : UpdState → UpdState) (s : State) : (modUpd f s).bridge = s.bridge := rfl
@[simp] theorem modUpd_man (f : UpdState → UpdState) (s : State) : (modUpd f s).man = s.man := rfl
@[simp] theorem modUpd_can (f : UpdState → UpdState) (s : State) : (modUpd f s).can = s.can := rfl
@[simp] theorem modUpd_cal (f : UpdState → UpdState) (s : State) : (modUpd f s).cal = s.cal := rfl
@[simp] theorem modUpd_time (f : UpdState → UpdState) (s : State) : (modUpd f s).time = s.time := rfl
@[simp] theorem modUpd_freeCount (f : UpdState → UpdState) (s : State) : (modUpd f s).freeCount = s.freeCount := rfl
@[simp] theorem modUpd_pending (f : UpdState → UpdState) (s : State) : (modUpd f s).pending = s.pending := rfl

@[simp] theorem modTime_objs (f : TimeState → TimeState) (s : State) : (modTime f s).objs = s.objs := rfl
@[simp] theorem modTime_blobs (f : TimeState → TimeState) (s : State) : (modTime f s).blobs = s.blobs := rfl
@[simp] theorem modTime_staged (f : TimeState → TimeState) (s : State) : (modTime f s).staged = s.staged := rfl
@[simp] theorem modTime_node (f : TimeState → TimeState) (s : State) : (modTime f s).node = s.node := rfl
@[simp] theorem modTime_rst (f : TimeState → TimeState) (s : State) : (modTime f s).rst = s.rst := rfl
@[simp] theorem modTime_tap (f : TimeState → TimeState) (s : State) : (modTime f s).tap = s.tap := rfl
@[simp] theorem modTime_pins (f : TimeState → TimeState) (s : State) : (modTime f s).pins = s.pins := rfl
@[simp] theorem modTime_faults (f : TimeState → TimeState) (s : State) : (modTime f s).faults = s.faults := rfl
@[simp] theorem modTime_tide (f : TimeState → TimeState) (s : State) : (modTime f s).tide = s.tide := rfl
@[simp] theorem modTime_cranes (f : TimeState → TimeState) (s : State) : (modTime f s).cranes = s.cranes := rfl
@[simp] theorem modTime_fifos (f : TimeState → TimeState) (s : State) : (modTime f s).fifos = s.fifos := rfl
@[simp] theorem modTime_users (f : TimeState → TimeState) (s : State) : (modTime f s).users = s.users := rfl
@[simp] theorem modTime_chk (f : TimeState → TimeState) (s : State) : (modTime f s).chk = s.chk := rfl
@[simp] theorem modTime_tally (f : TimeState → TimeState) (s : State) : (modTime f s).tally = s.tally := rfl
@[simp] theorem modTime_quay (f : TimeState → TimeState) (s : State) : (modTime f s).quay = s.quay := rfl
@[simp] theorem modTime_twin (f : TimeState → TimeState) (s : State) : (modTime f s).twin = s.twin := rfl
@[simp] theorem modTime_flash (f : TimeState → TimeState) (s : State) : (modTime f s).flash = s.flash := rfl
@[simp] theorem modTime_upd (f : TimeState → TimeState) (s : State) : (modTime f s).upd = s.upd := rfl
@[simp] theorem modTime_dict (f : TimeState → TimeState) (s : State) : (modTime f s).dict = s.dict := rfl
@[simp] theorem modTime_gw (f : TimeState → TimeState) (s : State) : (modTime f s).gw = s.gw := rfl
@[simp] theorem modTime_ring (f : TimeState → TimeState) (s : State) : (modTime f s).ring = s.ring := rfl
@[simp] theorem modTime_hold (f : TimeState → TimeState) (s : State) : (modTime f s).hold = s.hold := rfl
@[simp] theorem modTime_bridge (f : TimeState → TimeState) (s : State) : (modTime f s).bridge = s.bridge := rfl
@[simp] theorem modTime_man (f : TimeState → TimeState) (s : State) : (modTime f s).man = s.man := rfl
@[simp] theorem modTime_can (f : TimeState → TimeState) (s : State) : (modTime f s).can = s.can := rfl
@[simp] theorem modTime_cal (f : TimeState → TimeState) (s : State) : (modTime f s).cal = s.cal := rfl
@[simp] theorem modTime_freeCount (f : TimeState → TimeState) (s : State) : (modTime f s).freeCount = s.freeCount := rfl
@[simp] theorem modTime_pending (f : TimeState → TimeState) (s : State) : (modTime f s).pending = s.pending := rfl

@[simp] theorem modRing_objs (f : RingState → RingState) (s : State) : (modRing f s).objs = s.objs := rfl
@[simp] theorem modRing_blobs (f : RingState → RingState) (s : State) : (modRing f s).blobs = s.blobs := rfl
@[simp] theorem modRing_staged (f : RingState → RingState) (s : State) : (modRing f s).staged = s.staged := rfl
@[simp] theorem modRing_node (f : RingState → RingState) (s : State) : (modRing f s).node = s.node := rfl
@[simp] theorem modRing_rst (f : RingState → RingState) (s : State) : (modRing f s).rst = s.rst := rfl
@[simp] theorem modRing_tap (f : RingState → RingState) (s : State) : (modRing f s).tap = s.tap := rfl
@[simp] theorem modRing_pins (f : RingState → RingState) (s : State) : (modRing f s).pins = s.pins := rfl
@[simp] theorem modRing_faults (f : RingState → RingState) (s : State) : (modRing f s).faults = s.faults := rfl
@[simp] theorem modRing_tide (f : RingState → RingState) (s : State) : (modRing f s).tide = s.tide := rfl
@[simp] theorem modRing_cranes (f : RingState → RingState) (s : State) : (modRing f s).cranes = s.cranes := rfl
@[simp] theorem modRing_fifos (f : RingState → RingState) (s : State) : (modRing f s).fifos = s.fifos := rfl
@[simp] theorem modRing_users (f : RingState → RingState) (s : State) : (modRing f s).users = s.users := rfl
@[simp] theorem modRing_chk (f : RingState → RingState) (s : State) : (modRing f s).chk = s.chk := rfl
@[simp] theorem modRing_tally (f : RingState → RingState) (s : State) : (modRing f s).tally = s.tally := rfl
@[simp] theorem modRing_quay (f : RingState → RingState) (s : State) : (modRing f s).quay = s.quay := rfl
@[simp] theorem modRing_twin (f : RingState → RingState) (s : State) : (modRing f s).twin = s.twin := rfl
@[simp] theorem modRing_flash (f : RingState → RingState) (s : State) : (modRing f s).flash = s.flash := rfl
@[simp] theorem modRing_upd (f : RingState → RingState) (s : State) : (modRing f s).upd = s.upd := rfl
@[simp] theorem modRing_dict (f : RingState → RingState) (s : State) : (modRing f s).dict = s.dict := rfl
@[simp] theorem modRing_gw (f : RingState → RingState) (s : State) : (modRing f s).gw = s.gw := rfl
@[simp] theorem modRing_hold (f : RingState → RingState) (s : State) : (modRing f s).hold = s.hold := rfl
@[simp] theorem modRing_bridge (f : RingState → RingState) (s : State) : (modRing f s).bridge = s.bridge := rfl
@[simp] theorem modRing_man (f : RingState → RingState) (s : State) : (modRing f s).man = s.man := rfl
@[simp] theorem modRing_can (f : RingState → RingState) (s : State) : (modRing f s).can = s.can := rfl
@[simp] theorem modRing_cal (f : RingState → RingState) (s : State) : (modRing f s).cal = s.cal := rfl
@[simp] theorem modRing_time (f : RingState → RingState) (s : State) : (modRing f s).time = s.time := rfl
@[simp] theorem modRing_freeCount (f : RingState → RingState) (s : State) : (modRing f s).freeCount = s.freeCount := rfl
@[simp] theorem modRing_pending (f : RingState → RingState) (s : State) : (modRing f s).pending = s.pending := rfl

@[simp] theorem modPort_objs (p : Nat) (f : Port → Port) (s : State) : (modPort p f s).objs = s.objs := rfl
@[simp] theorem modPort_blobs (p : Nat) (f : Port → Port) (s : State) : (modPort p f s).blobs = s.blobs := rfl
@[simp] theorem modPort_staged (p : Nat) (f : Port → Port) (s : State) : (modPort p f s).staged = s.staged := rfl
@[simp] theorem modPort_node (p : Nat) (f : Port → Port) (s : State) : (modPort p f s).node = s.node := rfl
@[simp] theorem modPort_rst (p : Nat) (f : Port → Port) (s : State) : (modPort p f s).rst = s.rst := rfl
@[simp] theorem modPort_tap (p : Nat) (f : Port → Port) (s : State) : (modPort p f s).tap = s.tap := rfl
@[simp] theorem modPort_pins (p : Nat) (f : Port → Port) (s : State) : (modPort p f s).pins = s.pins := rfl
@[simp] theorem modPort_faults (p : Nat) (f : Port → Port) (s : State) : (modPort p f s).faults = s.faults := rfl
@[simp] theorem modPort_tide (p : Nat) (f : Port → Port) (s : State) : (modPort p f s).tide = s.tide := rfl
@[simp] theorem modPort_cranes (p : Nat) (f : Port → Port) (s : State) : (modPort p f s).cranes = s.cranes := rfl
@[simp] theorem modPort_fifos (p : Nat) (f : Port → Port) (s : State) : (modPort p f s).fifos = s.fifos := rfl
@[simp] theorem modPort_users (p : Nat) (f : Port → Port) (s : State) : (modPort p f s).users = s.users := rfl
@[simp] theorem modPort_chk (p : Nat) (f : Port → Port) (s : State) : (modPort p f s).chk = s.chk := rfl
@[simp] theorem modPort_tally (p : Nat) (f : Port → Port) (s : State) : (modPort p f s).tally = s.tally := rfl
@[simp] theorem modPort_quay (p : Nat) (f : Port → Port) (s : State) : (modPort p f s).quay = s.quay := rfl
@[simp] theorem modPort_twin (p : Nat) (f : Port → Port) (s : State) : (modPort p f s).twin = s.twin := rfl
@[simp] theorem modPort_flash (p : Nat) (f : Port → Port) (s : State) : (modPort p f s).flash = s.flash := rfl
@[simp] theorem modPort_upd (p : Nat) (f : Port → Port) (s : State) : (modPort p f s).upd = s.upd := rfl
@[simp] theorem modPort_dict (p : Nat) (f : Port → Port) (s : State) : (modPort p f s).dict = s.dict := rfl
@[simp] theorem modPort_gw (p : Nat) (f : Port → Port) (s : State) : (modPort p f s).gw = s.gw := rfl
@[simp] theorem modPort_hold (p : Nat) (f : Port → Port) (s : State) : (modPort p f s).hold = s.hold := rfl
@[simp] theorem modPort_bridge (p : Nat) (f : Port → Port) (s : State) : (modPort p f s).bridge = s.bridge := rfl
@[simp] theorem modPort_man (p : Nat) (f : Port → Port) (s : State) : (modPort p f s).man = s.man := rfl
@[simp] theorem modPort_can (p : Nat) (f : Port → Port) (s : State) : (modPort p f s).can = s.can := rfl
@[simp] theorem modPort_cal (p : Nat) (f : Port → Port) (s : State) : (modPort p f s).cal = s.cal := rfl
@[simp] theorem modPort_time (p : Nat) (f : Port → Port) (s : State) : (modPort p f s).time = s.time := rfl
@[simp] theorem modPort_freeCount (p : Nat) (f : Port → Port) (s : State) : (modPort p f s).freeCount = s.freeCount := rfl
@[simp] theorem modPort_pending (p : Nat) (f : Port → Port) (s : State) : (modPort p f s).pending = s.pending := rfl

@[simp] theorem modCal_objs (p : Nat) (f : CalPort → CalPort) (s : State) : (modCal p f s).objs = s.objs := rfl
@[simp] theorem modCal_blobs (p : Nat) (f : CalPort → CalPort) (s : State) : (modCal p f s).blobs = s.blobs := rfl
@[simp] theorem modCal_staged (p : Nat) (f : CalPort → CalPort) (s : State) : (modCal p f s).staged = s.staged := rfl
@[simp] theorem modCal_node (p : Nat) (f : CalPort → CalPort) (s : State) : (modCal p f s).node = s.node := rfl
@[simp] theorem modCal_rst (p : Nat) (f : CalPort → CalPort) (s : State) : (modCal p f s).rst = s.rst := rfl
@[simp] theorem modCal_tap (p : Nat) (f : CalPort → CalPort) (s : State) : (modCal p f s).tap = s.tap := rfl
@[simp] theorem modCal_pins (p : Nat) (f : CalPort → CalPort) (s : State) : (modCal p f s).pins = s.pins := rfl
@[simp] theorem modCal_faults (p : Nat) (f : CalPort → CalPort) (s : State) : (modCal p f s).faults = s.faults := rfl
@[simp] theorem modCal_tide (p : Nat) (f : CalPort → CalPort) (s : State) : (modCal p f s).tide = s.tide := rfl
@[simp] theorem modCal_cranes (p : Nat) (f : CalPort → CalPort) (s : State) : (modCal p f s).cranes = s.cranes := rfl
@[simp] theorem modCal_fifos (p : Nat) (f : CalPort → CalPort) (s : State) : (modCal p f s).fifos = s.fifos := rfl
@[simp] theorem modCal_users (p : Nat) (f : CalPort → CalPort) (s : State) : (modCal p f s).users = s.users := rfl
@[simp] theorem modCal_chk (p : Nat) (f : CalPort → CalPort) (s : State) : (modCal p f s).chk = s.chk := rfl
@[simp] theorem modCal_tally (p : Nat) (f : CalPort → CalPort) (s : State) : (modCal p f s).tally = s.tally := rfl
@[simp] theorem modCal_quay (p : Nat) (f : CalPort → CalPort) (s : State) : (modCal p f s).quay = s.quay := rfl
@[simp] theorem modCal_twin (p : Nat) (f : CalPort → CalPort) (s : State) : (modCal p f s).twin = s.twin := rfl
@[simp] theorem modCal_flash (p : Nat) (f : CalPort → CalPort) (s : State) : (modCal p f s).flash = s.flash := rfl
@[simp] theorem modCal_upd (p : Nat) (f : CalPort → CalPort) (s : State) : (modCal p f s).upd = s.upd := rfl
@[simp] theorem modCal_dict (p : Nat) (f : CalPort → CalPort) (s : State) : (modCal p f s).dict = s.dict := rfl
@[simp] theorem modCal_gw (p : Nat) (f : CalPort → CalPort) (s : State) : (modCal p f s).gw = s.gw := rfl
@[simp] theorem modCal_ring (p : Nat) (f : CalPort → CalPort) (s : State) : (modCal p f s).ring = s.ring := rfl
@[simp] theorem modCal_hold (p : Nat) (f : CalPort → CalPort) (s : State) : (modCal p f s).hold = s.hold := rfl
@[simp] theorem modCal_bridge (p : Nat) (f : CalPort → CalPort) (s : State) : (modCal p f s).bridge = s.bridge := rfl
@[simp] theorem modCal_man (p : Nat) (f : CalPort → CalPort) (s : State) : (modCal p f s).man = s.man := rfl
@[simp] theorem modCal_can (p : Nat) (f : CalPort → CalPort) (s : State) : (modCal p f s).can = s.can := rfl
@[simp] theorem modCal_time (p : Nat) (f : CalPort → CalPort) (s : State) : (modCal p f s).time = s.time := rfl
@[simp] theorem modCal_freeCount (p : Nat) (f : CalPort → CalPort) (s : State) : (modCal p f s).freeCount = s.freeCount := rfl
@[simp] theorem modCal_pending (p : Nat) (f : CalPort → CalPort) (s : State) : (modCal p f s).pending = s.pending := rfl

@[simp] theorem modCtl_objs (k : Nat) (f : Can → Can) (s : State) : (modCtl k f s).objs = s.objs := rfl
@[simp] theorem modCtl_blobs (k : Nat) (f : Can → Can) (s : State) : (modCtl k f s).blobs = s.blobs := rfl
@[simp] theorem modCtl_staged (k : Nat) (f : Can → Can) (s : State) : (modCtl k f s).staged = s.staged := rfl
@[simp] theorem modCtl_node (k : Nat) (f : Can → Can) (s : State) : (modCtl k f s).node = s.node := rfl
@[simp] theorem modCtl_rst (k : Nat) (f : Can → Can) (s : State) : (modCtl k f s).rst = s.rst := rfl
@[simp] theorem modCtl_tap (k : Nat) (f : Can → Can) (s : State) : (modCtl k f s).tap = s.tap := rfl
@[simp] theorem modCtl_pins (k : Nat) (f : Can → Can) (s : State) : (modCtl k f s).pins = s.pins := rfl
@[simp] theorem modCtl_faults (k : Nat) (f : Can → Can) (s : State) : (modCtl k f s).faults = s.faults := rfl
@[simp] theorem modCtl_tide (k : Nat) (f : Can → Can) (s : State) : (modCtl k f s).tide = s.tide := rfl
@[simp] theorem modCtl_cranes (k : Nat) (f : Can → Can) (s : State) : (modCtl k f s).cranes = s.cranes := rfl
@[simp] theorem modCtl_fifos (k : Nat) (f : Can → Can) (s : State) : (modCtl k f s).fifos = s.fifos := rfl
@[simp] theorem modCtl_users (k : Nat) (f : Can → Can) (s : State) : (modCtl k f s).users = s.users := rfl
@[simp] theorem modCtl_chk (k : Nat) (f : Can → Can) (s : State) : (modCtl k f s).chk = s.chk := rfl
@[simp] theorem modCtl_tally (k : Nat) (f : Can → Can) (s : State) : (modCtl k f s).tally = s.tally := rfl
@[simp] theorem modCtl_quay (k : Nat) (f : Can → Can) (s : State) : (modCtl k f s).quay = s.quay := rfl
@[simp] theorem modCtl_twin (k : Nat) (f : Can → Can) (s : State) : (modCtl k f s).twin = s.twin := rfl
@[simp] theorem modCtl_flash (k : Nat) (f : Can → Can) (s : State) : (modCtl k f s).flash = s.flash := rfl
@[simp] theorem modCtl_upd (k : Nat) (f : Can → Can) (s : State) : (modCtl k f s).upd = s.upd := rfl
@[simp] theorem modCtl_dict (k : Nat) (f : Can → Can) (s : State) : (modCtl k f s).dict = s.dict := rfl
@[simp] theorem modCtl_gw (k : Nat) (f : Can → Can) (s : State) : (modCtl k f s).gw = s.gw := rfl
@[simp] theorem modCtl_ring (k : Nat) (f : Can → Can) (s : State) : (modCtl k f s).ring = s.ring := rfl
@[simp] theorem modCtl_hold (k : Nat) (f : Can → Can) (s : State) : (modCtl k f s).hold = s.hold := rfl
@[simp] theorem modCtl_bridge (k : Nat) (f : Can → Can) (s : State) : (modCtl k f s).bridge = s.bridge := rfl
@[simp] theorem modCtl_man (k : Nat) (f : Can → Can) (s : State) : (modCtl k f s).man = s.man := rfl
@[simp] theorem modCtl_cal (k : Nat) (f : Can → Can) (s : State) : (modCtl k f s).cal = s.cal := rfl
@[simp] theorem modCtl_time (k : Nat) (f : Can → Can) (s : State) : (modCtl k f s).time = s.time := rfl
@[simp] theorem modCtl_freeCount (k : Nat) (f : Can → Can) (s : State) : (modCtl k f s).freeCount = s.freeCount := rfl
@[simp] theorem modCtl_pending (k : Nat) (f : Can → Can) (s : State) : (modCtl k f s).pending = s.pending := rfl

@[simp] theorem setTally_objs (f : TallyState → TallyState) (s : State) : (setTally f s).objs = s.objs := rfl
@[simp] theorem setTally_blobs (f : TallyState → TallyState) (s : State) : (setTally f s).blobs = s.blobs := rfl
@[simp] theorem setTally_staged (f : TallyState → TallyState) (s : State) : (setTally f s).staged = s.staged := rfl
@[simp] theorem setTally_node (f : TallyState → TallyState) (s : State) : (setTally f s).node = s.node := rfl
@[simp] theorem setTally_rst (f : TallyState → TallyState) (s : State) : (setTally f s).rst = s.rst := rfl
@[simp] theorem setTally_tap (f : TallyState → TallyState) (s : State) : (setTally f s).tap = s.tap := rfl
@[simp] theorem setTally_pins (f : TallyState → TallyState) (s : State) : (setTally f s).pins = s.pins := rfl
@[simp] theorem setTally_faults (f : TallyState → TallyState) (s : State) : (setTally f s).faults = s.faults := rfl
@[simp] theorem setTally_tide (f : TallyState → TallyState) (s : State) : (setTally f s).tide = s.tide := rfl
@[simp] theorem setTally_cranes (f : TallyState → TallyState) (s : State) : (setTally f s).cranes = s.cranes := rfl
@[simp] theorem setTally_fifos (f : TallyState → TallyState) (s : State) : (setTally f s).fifos = s.fifos := rfl
@[simp] theorem setTally_users (f : TallyState → TallyState) (s : State) : (setTally f s).users = s.users := rfl
@[simp] theorem setTally_chk (f : TallyState → TallyState) (s : State) : (setTally f s).chk = s.chk := rfl
@[simp] theorem setTally_quay (f : TallyState → TallyState) (s : State) : (setTally f s).quay = s.quay := rfl
@[simp] theorem setTally_twin (f : TallyState → TallyState) (s : State) : (setTally f s).twin = s.twin := rfl
@[simp] theorem setTally_flash (f : TallyState → TallyState) (s : State) : (setTally f s).flash = s.flash := rfl
@[simp] theorem setTally_upd (f : TallyState → TallyState) (s : State) : (setTally f s).upd = s.upd := rfl
@[simp] theorem setTally_dict (f : TallyState → TallyState) (s : State) : (setTally f s).dict = s.dict := rfl
@[simp] theorem setTally_gw (f : TallyState → TallyState) (s : State) : (setTally f s).gw = s.gw := rfl
@[simp] theorem setTally_ring (f : TallyState → TallyState) (s : State) : (setTally f s).ring = s.ring := rfl
@[simp] theorem setTally_hold (f : TallyState → TallyState) (s : State) : (setTally f s).hold = s.hold := rfl
@[simp] theorem setTally_bridge (f : TallyState → TallyState) (s : State) : (setTally f s).bridge = s.bridge := rfl
@[simp] theorem setTally_man (f : TallyState → TallyState) (s : State) : (setTally f s).man = s.man := rfl
@[simp] theorem setTally_can (f : TallyState → TallyState) (s : State) : (setTally f s).can = s.can := rfl
@[simp] theorem setTally_cal (f : TallyState → TallyState) (s : State) : (setTally f s).cal = s.cal := rfl
@[simp] theorem setTally_time (f : TallyState → TallyState) (s : State) : (setTally f s).time = s.time := rfl
@[simp] theorem setTally_freeCount (f : TallyState → TallyState) (s : State) : (setTally f s).freeCount = s.freeCount := rfl
@[simp] theorem setTally_pending (f : TallyState → TallyState) (s : State) : (setTally f s).pending = s.pending := rfl

@[simp] theorem setGw_objs (f : GwState → GwState) (s : State) : (setGw f s).objs = s.objs := rfl
@[simp] theorem setGw_blobs (f : GwState → GwState) (s : State) : (setGw f s).blobs = s.blobs := rfl
@[simp] theorem setGw_staged (f : GwState → GwState) (s : State) : (setGw f s).staged = s.staged := rfl
@[simp] theorem setGw_node (f : GwState → GwState) (s : State) : (setGw f s).node = s.node := rfl
@[simp] theorem setGw_rst (f : GwState → GwState) (s : State) : (setGw f s).rst = s.rst := rfl
@[simp] theorem setGw_tap (f : GwState → GwState) (s : State) : (setGw f s).tap = s.tap := rfl
@[simp] theorem setGw_pins (f : GwState → GwState) (s : State) : (setGw f s).pins = s.pins := rfl
@[simp] theorem setGw_faults (f : GwState → GwState) (s : State) : (setGw f s).faults = s.faults := rfl
@[simp] theorem setGw_tide (f : GwState → GwState) (s : State) : (setGw f s).tide = s.tide := rfl
@[simp] theorem setGw_cranes (f : GwState → GwState) (s : State) : (setGw f s).cranes = s.cranes := rfl
@[simp] theorem setGw_fifos (f : GwState → GwState) (s : State) : (setGw f s).fifos = s.fifos := rfl
@[simp] theorem setGw_users (f : GwState → GwState) (s : State) : (setGw f s).users = s.users := rfl
@[simp] theorem setGw_chk (f : GwState → GwState) (s : State) : (setGw f s).chk = s.chk := rfl
@[simp] theorem setGw_tally (f : GwState → GwState) (s : State) : (setGw f s).tally = s.tally := rfl
@[simp] theorem setGw_quay (f : GwState → GwState) (s : State) : (setGw f s).quay = s.quay := rfl
@[simp] theorem setGw_twin (f : GwState → GwState) (s : State) : (setGw f s).twin = s.twin := rfl
@[simp] theorem setGw_flash (f : GwState → GwState) (s : State) : (setGw f s).flash = s.flash := rfl
@[simp] theorem setGw_upd (f : GwState → GwState) (s : State) : (setGw f s).upd = s.upd := rfl
@[simp] theorem setGw_dict (f : GwState → GwState) (s : State) : (setGw f s).dict = s.dict := rfl
@[simp] theorem setGw_ring (f : GwState → GwState) (s : State) : (setGw f s).ring = s.ring := rfl
@[simp] theorem setGw_hold (f : GwState → GwState) (s : State) : (setGw f s).hold = s.hold := rfl
@[simp] theorem setGw_bridge (f : GwState → GwState) (s : State) : (setGw f s).bridge = s.bridge := rfl
@[simp] theorem setGw_man (f : GwState → GwState) (s : State) : (setGw f s).man = s.man := rfl
@[simp] theorem setGw_can (f : GwState → GwState) (s : State) : (setGw f s).can = s.can := rfl
@[simp] theorem setGw_cal (f : GwState → GwState) (s : State) : (setGw f s).cal = s.cal := rfl
@[simp] theorem setGw_time (f : GwState → GwState) (s : State) : (setGw f s).time = s.time := rfl
@[simp] theorem setGw_freeCount (f : GwState → GwState) (s : State) : (setGw f s).freeCount = s.freeCount := rfl
@[simp] theorem setGw_pending (f : GwState → GwState) (s : State) : (setGw f s).pending = s.pending := rfl

@[simp] theorem draw_objs (s : State) : s.draw.2.objs = s.objs := rfl
@[simp] theorem draw_blobs (s : State) : s.draw.2.blobs = s.blobs := rfl
@[simp] theorem draw_staged (s : State) : s.draw.2.staged = s.staged := rfl
@[simp] theorem draw_node (s : State) : s.draw.2.node = s.node := rfl
@[simp] theorem draw_rst (s : State) : s.draw.2.rst = s.rst := rfl
@[simp] theorem draw_tap (s : State) : s.draw.2.tap = s.tap := rfl
@[simp] theorem draw_pins (s : State) : s.draw.2.pins = s.pins := rfl
@[simp] theorem draw_faults (s : State) : s.draw.2.faults = s.faults := rfl
@[simp] theorem draw_tide (s : State) : s.draw.2.tide = s.tide := rfl
@[simp] theorem draw_cranes (s : State) : s.draw.2.cranes = s.cranes := rfl
@[simp] theorem draw_fifos (s : State) : s.draw.2.fifos = s.fifos := rfl
@[simp] theorem draw_users (s : State) : s.draw.2.users = s.users := rfl
@[simp] theorem draw_chk (s : State) : s.draw.2.chk = s.chk := rfl
@[simp] theorem draw_tally (s : State) : s.draw.2.tally = s.tally := rfl
@[simp] theorem draw_quay (s : State) : s.draw.2.quay = s.quay := rfl
@[simp] theorem draw_twin (s : State) : s.draw.2.twin = s.twin := rfl
@[simp] theorem draw_flash (s : State) : s.draw.2.flash = s.flash := rfl
@[simp] theorem draw_upd (s : State) : s.draw.2.upd = s.upd := rfl
@[simp] theorem draw_dict (s : State) : s.draw.2.dict = s.dict := rfl
@[simp] theorem draw_gw (s : State) : s.draw.2.gw = s.gw := rfl
@[simp] theorem draw_ring (s : State) : s.draw.2.ring = s.ring := rfl
@[simp] theorem draw_hold (s : State) : s.draw.2.hold = s.hold := rfl
@[simp] theorem draw_bridge (s : State) : s.draw.2.bridge = s.bridge := rfl
@[simp] theorem draw_man (s : State) : s.draw.2.man = s.man := rfl
@[simp] theorem draw_can (s : State) : s.draw.2.can = s.can := rfl
@[simp] theorem draw_cal (s : State) : s.draw.2.cal = s.cal := rfl
@[simp] theorem draw_time (s : State) : s.draw.2.time = s.time := rfl
@[simp] theorem draw_pending (s : State) : s.draw.2.pending = s.pending := rfl

@[simp] theorem lockClose_objs (s : State) : (lockClose s).objs = s.objs := rfl
@[simp] theorem lockClose_blobs (s : State) : (lockClose s).blobs = s.blobs := rfl
@[simp] theorem lockClose_staged (s : State) : (lockClose s).staged = s.staged := rfl
@[simp] theorem lockClose_node (s : State) : (lockClose s).node = s.node := rfl
@[simp] theorem lockClose_rst (s : State) : (lockClose s).rst = s.rst := rfl
@[simp] theorem lockClose_tap (s : State) : (lockClose s).tap = s.tap := rfl
@[simp] theorem lockClose_pins (s : State) : (lockClose s).pins = s.pins := rfl
@[simp] theorem lockClose_faults (s : State) : (lockClose s).faults = s.faults := rfl
@[simp] theorem lockClose_tide (s : State) : (lockClose s).tide = s.tide := rfl
@[simp] theorem lockClose_cranes (s : State) : (lockClose s).cranes = s.cranes := rfl
@[simp] theorem lockClose_fifos (s : State) : (lockClose s).fifos = s.fifos := rfl
@[simp] theorem lockClose_users (s : State) : (lockClose s).users = s.users := rfl
@[simp] theorem lockClose_chk (s : State) : (lockClose s).chk = s.chk := rfl
@[simp] theorem lockClose_tally (s : State) : (lockClose s).tally = s.tally := rfl
@[simp] theorem lockClose_quay (s : State) : (lockClose s).quay = s.quay := rfl
@[simp] theorem lockClose_twin (s : State) : (lockClose s).twin = s.twin := rfl
@[simp] theorem lockClose_flash (s : State) : (lockClose s).flash = s.flash := rfl
@[simp] theorem lockClose_upd (s : State) : (lockClose s).upd = s.upd := rfl
@[simp] theorem lockClose_gw (s : State) : (lockClose s).gw = s.gw := rfl
@[simp] theorem lockClose_ring (s : State) : (lockClose s).ring = s.ring := rfl
@[simp] theorem lockClose_hold (s : State) : (lockClose s).hold = s.hold := rfl
@[simp] theorem lockClose_bridge (s : State) : (lockClose s).bridge = s.bridge := rfl
@[simp] theorem lockClose_man (s : State) : (lockClose s).man = s.man := rfl
@[simp] theorem lockClose_can (s : State) : (lockClose s).can = s.can := rfl
@[simp] theorem lockClose_cal (s : State) : (lockClose s).cal = s.cal := rfl
@[simp] theorem lockClose_time (s : State) : (lockClose s).time = s.time := rfl
@[simp] theorem lockClose_freeCount (s : State) : (lockClose s).freeCount = s.freeCount := rfl
@[simp] theorem lockClose_pending (s : State) : (lockClose s).pending = s.pending := rfl

@[simp] theorem modBridge_bridge (f : BridgeState → BridgeState) (s : State) : (modBridge f s).bridge = f s.bridge := rfl
@[simp] theorem modHold_hold (f : HoldState → HoldState) (s : State) : (modHold f s).hold = f s.hold := rfl
@[simp] theorem modTide_tide (f : TideState → TideState) (s : State) : (modTide f s).tide = f s.tide := rfl
@[simp] theorem modTwin_twin (f : TwinState → TwinState) (s : State) : (modTwin f s).twin = f s.twin := rfl
@[simp] theorem modUpd_upd (f : UpdState → UpdState) (s : State) : (modUpd f s).upd = f s.upd := rfl
@[simp] theorem modTime_time (f : TimeState → TimeState) (s : State) : (modTime f s).time = f s.time := rfl
@[simp] theorem modRing_ring (f : RingState → RingState) (s : State) : (modRing f s).ring = f s.ring := rfl
@[simp] theorem setTally_tally (f : TallyState → TallyState) (s : State) : (setTally f s).tally = f s.tally := rfl
@[simp] theorem setGw_gw (f : GwState → GwState) (s : State) : (setGw f s).gw = f s.gw := rfl

/-- An object reads the value written, modulo its width. -/
theorem get_put_self (s : State) (o : Obj) (v : Nat) (h : keysFrom 0 s.objs) : (s.put o v).get o = v % 2 ^ (8 * o.ty.size) :=
  mapGet_mapSet_self _ _ _ _ 0 h

/-- Another object reads as before. -/
theorem get_put_ne (s : State) (o p : Obj) (v : Nat) (h : keysFrom 0 s.objs) (hk : p.key ≠ o.key) : (s.put o v).get p = s.get p :=
  mapGet_mapSet_ne _ _ _ _ _ hk _ 0 h

/-- A crane, a FIFO and a user word read as written; others as before. -/
theorem crane_setCrane_self (s : State) (g : Nat) (c : Crane) (h : keysFrom 0 s.cranes) : (s.setCrane g c).crane g = c :=
  mapGet_mapSet_self _ _ _ _ 0 h
theorem crane_setCrane_ne (s : State) (g k : Nat) (c : Crane) (h : keysFrom 0 s.cranes) (hk : k ≠ g) : (s.setCrane g c).crane k = s.crane k :=
  mapGet_mapSet_ne _ _ _ _ _ hk _ 0 h
theorem fifo_setFifo_self (s : State) (f : Nat) (x : Fifo) (h : keysFrom 0 s.fifos) : (s.setFifo f x).fifo f = x :=
  mapGet_mapSet_self _ _ _ _ 0 h
theorem fifo_setFifo_ne (s : State) (f k : Nat) (x : Fifo) (h : keysFrom 0 s.fifos) (hk : k ≠ f) : (s.setFifo f x).fifo k = s.fifo k :=
  mapGet_mapSet_ne _ _ _ _ _ hk _ 0 h
theorem userWord_setUserWord_self (s : State) (g w : Nat) (v : W64) (h : keysFrom 0 s.users) : (s.setUserWord g w v).userWord g w = v :=
  mapGet_mapSet_self _ _ _ _ 0 h

/-- Objects read the same while the store of objects is the same. -/
theorem get_congr {s t : State} (h : t.objs = s.objs) (o : Obj) : t.get o = s.get o := by simp [State.get, h]

@[simp] theorem put_crane (s : State) (o : Obj) (v g : Nat) : (s.put o v).crane g = s.crane g := rfl
@[simp] theorem bump_crane (s : State) (o : Obj) (g : Nat) : (s.bump o).crane g = s.crane g := rfl
@[simp] theorem put_fifo (s : State) (o : Obj) (v f : Nat) : (s.put o v).fifo f = s.fifo f := rfl
@[simp] theorem bump_fifo (s : State) (o : Obj) (f : Nat) : (s.bump o).fifo f = s.fifo f := rfl
@[simp] theorem setCrane_get (s : State) (g : Nat) (c : Crane) (o : Obj) : (s.setCrane g c).get o = s.get o := rfl
@[simp] theorem setFifo_get (s : State) (f : Nat) (x : Fifo) (o : Obj) : (s.setFifo f x).get o = s.get o := rfl
@[simp] theorem setFifo_crane (s : State) (f : Nat) (x : Fifo) (g : Nat) : (s.setFifo f x).crane g = s.crane g := rfl
@[simp] theorem setCrane_fifo (s : State) (g : Nat) (c : Crane) (f : Nat) : (s.setCrane g c).fifo f = s.fifo f := rfl

/-- A record that is not fatal changes the record store and the counters alone (R474 to R477). -/
@[simp] theorem faultIrq_blobs (c : FClass) (s : State) : (faultIrq c s).blobs = s.blobs := by
  unfold faultIrq
  split <;> rfl
@[simp] theorem faultLost_blobs (s : State) : (faultLost s).blobs = s.blobs := rfl
@[simp] theorem storeRecord_blobs (p a b c : Nat) (i : Bool) (s : State) : (storeRecord p a b c i s).blobs = s.blobs := by
  simp [storeRecord]
@[simp] theorem newRecord_blobs (a b c : Nat) (i : Bool) (s : State) : (newRecord a b c i s).blobs = s.blobs := by
  unfold newRecord
  repeat' split
  all_goals simp
@[simp] theorem recordEvent_blobs (a b c : Nat) (i : Bool) (s : State) : (recordEvent a b c i s).blobs = s.blobs := by
  unfold recordEvent
  split <;> simp
@[simp] theorem eventNoted_blobs (i : Bool) (src a b : Nat) (s : State) : (eventNoted i src a b s).blobs = s.blobs := by
  simp [eventNoted]
theorem raise_blobs (src a b : Nat) (s : State) (h : srcClass src ≠ .fatal) : (raise src a b s).blobs = s.blobs := by
  unfold raise raiseAs
  split
  · simp
  · rfl

@[simp] theorem faultIrq_staged (c : FClass) (s : State) : (faultIrq c s).staged = s.staged := by
  unfold faultIrq
  split <;> rfl
@[simp] theorem faultLost_staged (s : State) : (faultLost s).staged = s.staged := rfl
@[simp] theorem storeRecord_staged (p a b c : Nat) (i : Bool) (s : State) : (storeRecord p a b c i s).staged = s.staged := by
  simp [storeRecord]
@[simp] theorem newRecord_staged (a b c : Nat) (i : Bool) (s : State) : (newRecord a b c i s).staged = s.staged := by
  unfold newRecord
  repeat' split
  all_goals simp
@[simp] theorem recordEvent_staged (a b c : Nat) (i : Bool) (s : State) : (recordEvent a b c i s).staged = s.staged := by
  unfold recordEvent
  split <;> simp
@[simp] theorem eventNoted_staged (i : Bool) (src a b : Nat) (s : State) : (eventNoted i src a b s).staged = s.staged := by
  simp [eventNoted]
theorem raise_staged (src a b : Nat) (s : State) (h : srcClass src ≠ .fatal) : (raise src a b s).staged = s.staged := by
  unfold raise raiseAs
  split
  · simp
  · rfl

@[simp] theorem faultIrq_node (c : FClass) (s : State) : (faultIrq c s).node = s.node := by
  unfold faultIrq
  split <;> rfl
@[simp] theorem faultLost_node (s : State) : (faultLost s).node = s.node := rfl
@[simp] theorem storeRecord_node (p a b c : Nat) (i : Bool) (s : State) : (storeRecord p a b c i s).node = s.node := by
  simp [storeRecord]
@[simp] theorem newRecord_node (a b c : Nat) (i : Bool) (s : State) : (newRecord a b c i s).node = s.node := by
  unfold newRecord
  repeat' split
  all_goals simp
@[simp] theorem recordEvent_node (a b c : Nat) (i : Bool) (s : State) : (recordEvent a b c i s).node = s.node := by
  unfold recordEvent
  split <;> simp
@[simp] theorem eventNoted_node (i : Bool) (src a b : Nat) (s : State) : (eventNoted i src a b s).node = s.node := by
  simp [eventNoted]
theorem raise_node (src a b : Nat) (s : State) (h : srcClass src ≠ .fatal) : (raise src a b s).node = s.node := by
  unfold raise raiseAs
  split
  · simp
  · rfl

@[simp] theorem faultIrq_rst (c : FClass) (s : State) : (faultIrq c s).rst = s.rst := by
  unfold faultIrq
  split <;> rfl
@[simp] theorem faultLost_rst (s : State) : (faultLost s).rst = s.rst := rfl
@[simp] theorem storeRecord_rst (p a b c : Nat) (i : Bool) (s : State) : (storeRecord p a b c i s).rst = s.rst := by
  simp [storeRecord]
@[simp] theorem newRecord_rst (a b c : Nat) (i : Bool) (s : State) : (newRecord a b c i s).rst = s.rst := by
  unfold newRecord
  repeat' split
  all_goals simp
@[simp] theorem recordEvent_rst (a b c : Nat) (i : Bool) (s : State) : (recordEvent a b c i s).rst = s.rst := by
  unfold recordEvent
  split <;> simp
@[simp] theorem eventNoted_rst (i : Bool) (src a b : Nat) (s : State) : (eventNoted i src a b s).rst = s.rst := by
  simp [eventNoted]
theorem raise_rst (src a b : Nat) (s : State) (h : srcClass src ≠ .fatal) : (raise src a b s).rst = s.rst := by
  unfold raise raiseAs
  split
  · simp
  · rfl

@[simp] theorem faultIrq_tap (c : FClass) (s : State) : (faultIrq c s).tap = s.tap := by
  unfold faultIrq
  split <;> rfl
@[simp] theorem faultLost_tap (s : State) : (faultLost s).tap = s.tap := rfl
@[simp] theorem storeRecord_tap (p a b c : Nat) (i : Bool) (s : State) : (storeRecord p a b c i s).tap = s.tap := by
  simp [storeRecord]
@[simp] theorem newRecord_tap (a b c : Nat) (i : Bool) (s : State) : (newRecord a b c i s).tap = s.tap := by
  unfold newRecord
  repeat' split
  all_goals simp
@[simp] theorem recordEvent_tap (a b c : Nat) (i : Bool) (s : State) : (recordEvent a b c i s).tap = s.tap := by
  unfold recordEvent
  split <;> simp
@[simp] theorem eventNoted_tap (i : Bool) (src a b : Nat) (s : State) : (eventNoted i src a b s).tap = s.tap := by
  simp [eventNoted]
theorem raise_tap (src a b : Nat) (s : State) (h : srcClass src ≠ .fatal) : (raise src a b s).tap = s.tap := by
  unfold raise raiseAs
  split
  · simp
  · rfl

@[simp] theorem faultIrq_pins (c : FClass) (s : State) : (faultIrq c s).pins = s.pins := by
  unfold faultIrq
  split <;> rfl
@[simp] theorem faultLost_pins (s : State) : (faultLost s).pins = s.pins := rfl
@[simp] theorem storeRecord_pins (p a b c : Nat) (i : Bool) (s : State) : (storeRecord p a b c i s).pins = s.pins := by
  simp [storeRecord]
@[simp] theorem newRecord_pins (a b c : Nat) (i : Bool) (s : State) : (newRecord a b c i s).pins = s.pins := by
  unfold newRecord
  repeat' split
  all_goals simp
@[simp] theorem recordEvent_pins (a b c : Nat) (i : Bool) (s : State) : (recordEvent a b c i s).pins = s.pins := by
  unfold recordEvent
  split <;> simp
@[simp] theorem eventNoted_pins (i : Bool) (src a b : Nat) (s : State) : (eventNoted i src a b s).pins = s.pins := by
  simp [eventNoted]
theorem raise_pins (src a b : Nat) (s : State) (h : srcClass src ≠ .fatal) : (raise src a b s).pins = s.pins := by
  unfold raise raiseAs
  split
  · simp
  · rfl

@[simp] theorem faultIrq_tide (c : FClass) (s : State) : (faultIrq c s).tide = s.tide := by
  unfold faultIrq
  split <;> rfl
@[simp] theorem faultLost_tide (s : State) : (faultLost s).tide = s.tide := rfl
@[simp] theorem storeRecord_tide (p a b c : Nat) (i : Bool) (s : State) : (storeRecord p a b c i s).tide = s.tide := by
  simp [storeRecord]
@[simp] theorem newRecord_tide (a b c : Nat) (i : Bool) (s : State) : (newRecord a b c i s).tide = s.tide := by
  unfold newRecord
  repeat' split
  all_goals simp
@[simp] theorem recordEvent_tide (a b c : Nat) (i : Bool) (s : State) : (recordEvent a b c i s).tide = s.tide := by
  unfold recordEvent
  split <;> simp
@[simp] theorem eventNoted_tide (i : Bool) (src a b : Nat) (s : State) : (eventNoted i src a b s).tide = s.tide := by
  simp [eventNoted]
theorem raise_tide (src a b : Nat) (s : State) (h : srcClass src ≠ .fatal) : (raise src a b s).tide = s.tide := by
  unfold raise raiseAs
  split
  · simp
  · rfl

@[simp] theorem faultIrq_cranes (c : FClass) (s : State) : (faultIrq c s).cranes = s.cranes := by
  unfold faultIrq
  split <;> rfl
@[simp] theorem faultLost_cranes (s : State) : (faultLost s).cranes = s.cranes := rfl
@[simp] theorem storeRecord_cranes (p a b c : Nat) (i : Bool) (s : State) : (storeRecord p a b c i s).cranes = s.cranes := by
  simp [storeRecord]
@[simp] theorem newRecord_cranes (a b c : Nat) (i : Bool) (s : State) : (newRecord a b c i s).cranes = s.cranes := by
  unfold newRecord
  repeat' split
  all_goals simp
@[simp] theorem recordEvent_cranes (a b c : Nat) (i : Bool) (s : State) : (recordEvent a b c i s).cranes = s.cranes := by
  unfold recordEvent
  split <;> simp
@[simp] theorem eventNoted_cranes (i : Bool) (src a b : Nat) (s : State) : (eventNoted i src a b s).cranes = s.cranes := by
  simp [eventNoted]
theorem raise_cranes (src a b : Nat) (s : State) (h : srcClass src ≠ .fatal) : (raise src a b s).cranes = s.cranes := by
  unfold raise raiseAs
  split
  · simp
  · rfl

@[simp] theorem faultIrq_fifos (c : FClass) (s : State) : (faultIrq c s).fifos = s.fifos := by
  unfold faultIrq
  split <;> rfl
@[simp] theorem faultLost_fifos (s : State) : (faultLost s).fifos = s.fifos := rfl
@[simp] theorem storeRecord_fifos (p a b c : Nat) (i : Bool) (s : State) : (storeRecord p a b c i s).fifos = s.fifos := by
  simp [storeRecord]
@[simp] theorem newRecord_fifos (a b c : Nat) (i : Bool) (s : State) : (newRecord a b c i s).fifos = s.fifos := by
  unfold newRecord
  repeat' split
  all_goals simp
@[simp] theorem recordEvent_fifos (a b c : Nat) (i : Bool) (s : State) : (recordEvent a b c i s).fifos = s.fifos := by
  unfold recordEvent
  split <;> simp
@[simp] theorem eventNoted_fifos (i : Bool) (src a b : Nat) (s : State) : (eventNoted i src a b s).fifos = s.fifos := by
  simp [eventNoted]
theorem raise_fifos (src a b : Nat) (s : State) (h : srcClass src ≠ .fatal) : (raise src a b s).fifos = s.fifos := by
  unfold raise raiseAs
  split
  · simp
  · rfl

@[simp] theorem faultIrq_users (c : FClass) (s : State) : (faultIrq c s).users = s.users := by
  unfold faultIrq
  split <;> rfl
@[simp] theorem faultLost_users (s : State) : (faultLost s).users = s.users := rfl
@[simp] theorem storeRecord_users (p a b c : Nat) (i : Bool) (s : State) : (storeRecord p a b c i s).users = s.users := by
  simp [storeRecord]
@[simp] theorem newRecord_users (a b c : Nat) (i : Bool) (s : State) : (newRecord a b c i s).users = s.users := by
  unfold newRecord
  repeat' split
  all_goals simp
@[simp] theorem recordEvent_users (a b c : Nat) (i : Bool) (s : State) : (recordEvent a b c i s).users = s.users := by
  unfold recordEvent
  split <;> simp
@[simp] theorem eventNoted_users (i : Bool) (src a b : Nat) (s : State) : (eventNoted i src a b s).users = s.users := by
  simp [eventNoted]
theorem raise_users (src a b : Nat) (s : State) (h : srcClass src ≠ .fatal) : (raise src a b s).users = s.users := by
  unfold raise raiseAs
  split
  · simp
  · rfl

@[simp] theorem faultIrq_chk (c : FClass) (s : State) : (faultIrq c s).chk = s.chk := by
  unfold faultIrq
  split <;> rfl
@[simp] theorem faultLost_chk (s : State) : (faultLost s).chk = s.chk := rfl
@[simp] theorem storeRecord_chk (p a b c : Nat) (i : Bool) (s : State) : (storeRecord p a b c i s).chk = s.chk := by
  simp [storeRecord]
@[simp] theorem newRecord_chk (a b c : Nat) (i : Bool) (s : State) : (newRecord a b c i s).chk = s.chk := by
  unfold newRecord
  repeat' split
  all_goals simp
@[simp] theorem recordEvent_chk (a b c : Nat) (i : Bool) (s : State) : (recordEvent a b c i s).chk = s.chk := by
  unfold recordEvent
  split <;> simp
@[simp] theorem eventNoted_chk (i : Bool) (src a b : Nat) (s : State) : (eventNoted i src a b s).chk = s.chk := by
  simp [eventNoted]
theorem raise_chk (src a b : Nat) (s : State) (h : srcClass src ≠ .fatal) : (raise src a b s).chk = s.chk := by
  unfold raise raiseAs
  split
  · simp
  · rfl

@[simp] theorem faultIrq_tally (c : FClass) (s : State) : (faultIrq c s).tally = s.tally := by
  unfold faultIrq
  split <;> rfl
@[simp] theorem faultLost_tally (s : State) : (faultLost s).tally = s.tally := rfl
@[simp] theorem storeRecord_tally (p a b c : Nat) (i : Bool) (s : State) : (storeRecord p a b c i s).tally = s.tally := by
  simp [storeRecord]
@[simp] theorem newRecord_tally (a b c : Nat) (i : Bool) (s : State) : (newRecord a b c i s).tally = s.tally := by
  unfold newRecord
  repeat' split
  all_goals simp
@[simp] theorem recordEvent_tally (a b c : Nat) (i : Bool) (s : State) : (recordEvent a b c i s).tally = s.tally := by
  unfold recordEvent
  split <;> simp
@[simp] theorem eventNoted_tally (i : Bool) (src a b : Nat) (s : State) : (eventNoted i src a b s).tally = s.tally := by
  simp [eventNoted]
theorem raise_tally (src a b : Nat) (s : State) (h : srcClass src ≠ .fatal) : (raise src a b s).tally = s.tally := by
  unfold raise raiseAs
  split
  · simp
  · rfl

@[simp] theorem faultIrq_quay (c : FClass) (s : State) : (faultIrq c s).quay = s.quay := by
  unfold faultIrq
  split <;> rfl
@[simp] theorem faultLost_quay (s : State) : (faultLost s).quay = s.quay := rfl
@[simp] theorem storeRecord_quay (p a b c : Nat) (i : Bool) (s : State) : (storeRecord p a b c i s).quay = s.quay := by
  simp [storeRecord]
@[simp] theorem newRecord_quay (a b c : Nat) (i : Bool) (s : State) : (newRecord a b c i s).quay = s.quay := by
  unfold newRecord
  repeat' split
  all_goals simp
@[simp] theorem recordEvent_quay (a b c : Nat) (i : Bool) (s : State) : (recordEvent a b c i s).quay = s.quay := by
  unfold recordEvent
  split <;> simp
@[simp] theorem eventNoted_quay (i : Bool) (src a b : Nat) (s : State) : (eventNoted i src a b s).quay = s.quay := by
  simp [eventNoted]
theorem raise_quay (src a b : Nat) (s : State) (h : srcClass src ≠ .fatal) : (raise src a b s).quay = s.quay := by
  unfold raise raiseAs
  split
  · simp
  · rfl

@[simp] theorem faultIrq_twin (c : FClass) (s : State) : (faultIrq c s).twin = s.twin := by
  unfold faultIrq
  split <;> rfl
@[simp] theorem faultLost_twin (s : State) : (faultLost s).twin = s.twin := rfl
@[simp] theorem storeRecord_twin (p a b c : Nat) (i : Bool) (s : State) : (storeRecord p a b c i s).twin = s.twin := by
  simp [storeRecord]
@[simp] theorem newRecord_twin (a b c : Nat) (i : Bool) (s : State) : (newRecord a b c i s).twin = s.twin := by
  unfold newRecord
  repeat' split
  all_goals simp
@[simp] theorem recordEvent_twin (a b c : Nat) (i : Bool) (s : State) : (recordEvent a b c i s).twin = s.twin := by
  unfold recordEvent
  split <;> simp
@[simp] theorem eventNoted_twin (i : Bool) (src a b : Nat) (s : State) : (eventNoted i src a b s).twin = s.twin := by
  simp [eventNoted]
theorem raise_twin (src a b : Nat) (s : State) (h : srcClass src ≠ .fatal) : (raise src a b s).twin = s.twin := by
  unfold raise raiseAs
  split
  · simp
  · rfl

@[simp] theorem faultIrq_flash (c : FClass) (s : State) : (faultIrq c s).flash = s.flash := by
  unfold faultIrq
  split <;> rfl
@[simp] theorem faultLost_flash (s : State) : (faultLost s).flash = s.flash := rfl
@[simp] theorem storeRecord_flash (p a b c : Nat) (i : Bool) (s : State) : (storeRecord p a b c i s).flash = s.flash := by
  simp [storeRecord]
@[simp] theorem newRecord_flash (a b c : Nat) (i : Bool) (s : State) : (newRecord a b c i s).flash = s.flash := by
  unfold newRecord
  repeat' split
  all_goals simp
@[simp] theorem recordEvent_flash (a b c : Nat) (i : Bool) (s : State) : (recordEvent a b c i s).flash = s.flash := by
  unfold recordEvent
  split <;> simp
@[simp] theorem eventNoted_flash (i : Bool) (src a b : Nat) (s : State) : (eventNoted i src a b s).flash = s.flash := by
  simp [eventNoted]
theorem raise_flash (src a b : Nat) (s : State) (h : srcClass src ≠ .fatal) : (raise src a b s).flash = s.flash := by
  unfold raise raiseAs
  split
  · simp
  · rfl

@[simp] theorem faultIrq_upd (c : FClass) (s : State) : (faultIrq c s).upd = s.upd := by
  unfold faultIrq
  split <;> rfl
@[simp] theorem faultLost_upd (s : State) : (faultLost s).upd = s.upd := rfl
@[simp] theorem storeRecord_upd (p a b c : Nat) (i : Bool) (s : State) : (storeRecord p a b c i s).upd = s.upd := by
  simp [storeRecord]
@[simp] theorem newRecord_upd (a b c : Nat) (i : Bool) (s : State) : (newRecord a b c i s).upd = s.upd := by
  unfold newRecord
  repeat' split
  all_goals simp
@[simp] theorem recordEvent_upd (a b c : Nat) (i : Bool) (s : State) : (recordEvent a b c i s).upd = s.upd := by
  unfold recordEvent
  split <;> simp
@[simp] theorem eventNoted_upd (i : Bool) (src a b : Nat) (s : State) : (eventNoted i src a b s).upd = s.upd := by
  simp [eventNoted]
theorem raise_upd (src a b : Nat) (s : State) (h : srcClass src ≠ .fatal) : (raise src a b s).upd = s.upd := by
  unfold raise raiseAs
  split
  · simp
  · rfl

@[simp] theorem faultIrq_dict (c : FClass) (s : State) : (faultIrq c s).dict = s.dict := by
  unfold faultIrq
  split <;> rfl
@[simp] theorem faultLost_dict (s : State) : (faultLost s).dict = s.dict := rfl
@[simp] theorem storeRecord_dict (p a b c : Nat) (i : Bool) (s : State) : (storeRecord p a b c i s).dict = s.dict := by
  simp [storeRecord]
@[simp] theorem newRecord_dict (a b c : Nat) (i : Bool) (s : State) : (newRecord a b c i s).dict = s.dict := by
  unfold newRecord
  repeat' split
  all_goals simp
@[simp] theorem recordEvent_dict (a b c : Nat) (i : Bool) (s : State) : (recordEvent a b c i s).dict = s.dict := by
  unfold recordEvent
  split <;> simp
@[simp] theorem eventNoted_dict (i : Bool) (src a b : Nat) (s : State) : (eventNoted i src a b s).dict = s.dict := by
  simp [eventNoted]
theorem raise_dict (src a b : Nat) (s : State) (h : srcClass src ≠ .fatal) : (raise src a b s).dict = s.dict := by
  unfold raise raiseAs
  split
  · simp
  · rfl

@[simp] theorem faultIrq_gw (c : FClass) (s : State) : (faultIrq c s).gw = s.gw := by
  unfold faultIrq
  split <;> rfl
@[simp] theorem faultLost_gw (s : State) : (faultLost s).gw = s.gw := rfl
@[simp] theorem storeRecord_gw (p a b c : Nat) (i : Bool) (s : State) : (storeRecord p a b c i s).gw = s.gw := by
  simp [storeRecord]
@[simp] theorem newRecord_gw (a b c : Nat) (i : Bool) (s : State) : (newRecord a b c i s).gw = s.gw := by
  unfold newRecord
  repeat' split
  all_goals simp
@[simp] theorem recordEvent_gw (a b c : Nat) (i : Bool) (s : State) : (recordEvent a b c i s).gw = s.gw := by
  unfold recordEvent
  split <;> simp
@[simp] theorem eventNoted_gw (i : Bool) (src a b : Nat) (s : State) : (eventNoted i src a b s).gw = s.gw := by
  simp [eventNoted]
theorem raise_gw (src a b : Nat) (s : State) (h : srcClass src ≠ .fatal) : (raise src a b s).gw = s.gw := by
  unfold raise raiseAs
  split
  · simp
  · rfl

@[simp] theorem faultIrq_ring (c : FClass) (s : State) : (faultIrq c s).ring = s.ring := by
  unfold faultIrq
  split <;> rfl
@[simp] theorem faultLost_ring (s : State) : (faultLost s).ring = s.ring := rfl
@[simp] theorem storeRecord_ring (p a b c : Nat) (i : Bool) (s : State) : (storeRecord p a b c i s).ring = s.ring := by
  simp [storeRecord]
@[simp] theorem newRecord_ring (a b c : Nat) (i : Bool) (s : State) : (newRecord a b c i s).ring = s.ring := by
  unfold newRecord
  repeat' split
  all_goals simp
@[simp] theorem recordEvent_ring (a b c : Nat) (i : Bool) (s : State) : (recordEvent a b c i s).ring = s.ring := by
  unfold recordEvent
  split <;> simp
@[simp] theorem eventNoted_ring (i : Bool) (src a b : Nat) (s : State) : (eventNoted i src a b s).ring = s.ring := by
  simp [eventNoted]
theorem raise_ring (src a b : Nat) (s : State) (h : srcClass src ≠ .fatal) : (raise src a b s).ring = s.ring := by
  unfold raise raiseAs
  split
  · simp
  · rfl

@[simp] theorem faultIrq_hold (c : FClass) (s : State) : (faultIrq c s).hold = s.hold := by
  unfold faultIrq
  split <;> rfl
@[simp] theorem faultLost_hold (s : State) : (faultLost s).hold = s.hold := rfl
@[simp] theorem storeRecord_hold (p a b c : Nat) (i : Bool) (s : State) : (storeRecord p a b c i s).hold = s.hold := by
  simp [storeRecord]
@[simp] theorem newRecord_hold (a b c : Nat) (i : Bool) (s : State) : (newRecord a b c i s).hold = s.hold := by
  unfold newRecord
  repeat' split
  all_goals simp
@[simp] theorem recordEvent_hold (a b c : Nat) (i : Bool) (s : State) : (recordEvent a b c i s).hold = s.hold := by
  unfold recordEvent
  split <;> simp
@[simp] theorem eventNoted_hold (i : Bool) (src a b : Nat) (s : State) : (eventNoted i src a b s).hold = s.hold := by
  simp [eventNoted]
theorem raise_hold (src a b : Nat) (s : State) (h : srcClass src ≠ .fatal) : (raise src a b s).hold = s.hold := by
  unfold raise raiseAs
  split
  · simp
  · rfl

@[simp] theorem faultIrq_bridge (c : FClass) (s : State) : (faultIrq c s).bridge = s.bridge := by
  unfold faultIrq
  split <;> rfl
@[simp] theorem faultLost_bridge (s : State) : (faultLost s).bridge = s.bridge := rfl
@[simp] theorem storeRecord_bridge (p a b c : Nat) (i : Bool) (s : State) : (storeRecord p a b c i s).bridge = s.bridge := by
  simp [storeRecord]
@[simp] theorem newRecord_bridge (a b c : Nat) (i : Bool) (s : State) : (newRecord a b c i s).bridge = s.bridge := by
  unfold newRecord
  repeat' split
  all_goals simp
@[simp] theorem recordEvent_bridge (a b c : Nat) (i : Bool) (s : State) : (recordEvent a b c i s).bridge = s.bridge := by
  unfold recordEvent
  split <;> simp
@[simp] theorem eventNoted_bridge (i : Bool) (src a b : Nat) (s : State) : (eventNoted i src a b s).bridge = s.bridge := by
  simp [eventNoted]
theorem raise_bridge (src a b : Nat) (s : State) (h : srcClass src ≠ .fatal) : (raise src a b s).bridge = s.bridge := by
  unfold raise raiseAs
  split
  · simp
  · rfl

@[simp] theorem faultIrq_man (c : FClass) (s : State) : (faultIrq c s).man = s.man := by
  unfold faultIrq
  split <;> rfl
@[simp] theorem faultLost_man (s : State) : (faultLost s).man = s.man := rfl
@[simp] theorem storeRecord_man (p a b c : Nat) (i : Bool) (s : State) : (storeRecord p a b c i s).man = s.man := by
  simp [storeRecord]
@[simp] theorem newRecord_man (a b c : Nat) (i : Bool) (s : State) : (newRecord a b c i s).man = s.man := by
  unfold newRecord
  repeat' split
  all_goals simp
@[simp] theorem recordEvent_man (a b c : Nat) (i : Bool) (s : State) : (recordEvent a b c i s).man = s.man := by
  unfold recordEvent
  split <;> simp
@[simp] theorem eventNoted_man (i : Bool) (src a b : Nat) (s : State) : (eventNoted i src a b s).man = s.man := by
  simp [eventNoted]
theorem raise_man (src a b : Nat) (s : State) (h : srcClass src ≠ .fatal) : (raise src a b s).man = s.man := by
  unfold raise raiseAs
  split
  · simp
  · rfl

@[simp] theorem faultIrq_can (c : FClass) (s : State) : (faultIrq c s).can = s.can := by
  unfold faultIrq
  split <;> rfl
@[simp] theorem faultLost_can (s : State) : (faultLost s).can = s.can := rfl
@[simp] theorem storeRecord_can (p a b c : Nat) (i : Bool) (s : State) : (storeRecord p a b c i s).can = s.can := by
  simp [storeRecord]
@[simp] theorem newRecord_can (a b c : Nat) (i : Bool) (s : State) : (newRecord a b c i s).can = s.can := by
  unfold newRecord
  repeat' split
  all_goals simp
@[simp] theorem recordEvent_can (a b c : Nat) (i : Bool) (s : State) : (recordEvent a b c i s).can = s.can := by
  unfold recordEvent
  split <;> simp
@[simp] theorem eventNoted_can (i : Bool) (src a b : Nat) (s : State) : (eventNoted i src a b s).can = s.can := by
  simp [eventNoted]
theorem raise_can (src a b : Nat) (s : State) (h : srcClass src ≠ .fatal) : (raise src a b s).can = s.can := by
  unfold raise raiseAs
  split
  · simp
  · rfl

@[simp] theorem faultIrq_cal (c : FClass) (s : State) : (faultIrq c s).cal = s.cal := by
  unfold faultIrq
  split <;> rfl
@[simp] theorem faultLost_cal (s : State) : (faultLost s).cal = s.cal := rfl
@[simp] theorem storeRecord_cal (p a b c : Nat) (i : Bool) (s : State) : (storeRecord p a b c i s).cal = s.cal := by
  simp [storeRecord]
@[simp] theorem newRecord_cal (a b c : Nat) (i : Bool) (s : State) : (newRecord a b c i s).cal = s.cal := by
  unfold newRecord
  repeat' split
  all_goals simp
@[simp] theorem recordEvent_cal (a b c : Nat) (i : Bool) (s : State) : (recordEvent a b c i s).cal = s.cal := by
  unfold recordEvent
  split <;> simp
@[simp] theorem eventNoted_cal (i : Bool) (src a b : Nat) (s : State) : (eventNoted i src a b s).cal = s.cal := by
  simp [eventNoted]
theorem raise_cal (src a b : Nat) (s : State) (h : srcClass src ≠ .fatal) : (raise src a b s).cal = s.cal := by
  unfold raise raiseAs
  split
  · simp
  · rfl

@[simp] theorem faultIrq_time (c : FClass) (s : State) : (faultIrq c s).time = s.time := by
  unfold faultIrq
  split <;> rfl
@[simp] theorem faultLost_time (s : State) : (faultLost s).time = s.time := rfl
@[simp] theorem storeRecord_time (p a b c : Nat) (i : Bool) (s : State) : (storeRecord p a b c i s).time = s.time := by
  simp [storeRecord]
@[simp] theorem newRecord_time (a b c : Nat) (i : Bool) (s : State) : (newRecord a b c i s).time = s.time := by
  unfold newRecord
  repeat' split
  all_goals simp
@[simp] theorem recordEvent_time (a b c : Nat) (i : Bool) (s : State) : (recordEvent a b c i s).time = s.time := by
  unfold recordEvent
  split <;> simp
@[simp] theorem eventNoted_time (i : Bool) (src a b : Nat) (s : State) : (eventNoted i src a b s).time = s.time := by
  simp [eventNoted]
theorem raise_time (src a b : Nat) (s : State) (h : srcClass src ≠ .fatal) : (raise src a b s).time = s.time := by
  unfold raise raiseAs
  split
  · simp
  · rfl

@[simp] theorem faultIrq_freeCount (c : FClass) (s : State) : (faultIrq c s).freeCount = s.freeCount := by
  unfold faultIrq
  split <;> rfl
@[simp] theorem faultLost_freeCount (s : State) : (faultLost s).freeCount = s.freeCount := rfl
@[simp] theorem storeRecord_freeCount (p a b c : Nat) (i : Bool) (s : State) : (storeRecord p a b c i s).freeCount = s.freeCount := by
  simp [storeRecord]
@[simp] theorem newRecord_freeCount (a b c : Nat) (i : Bool) (s : State) : (newRecord a b c i s).freeCount = s.freeCount := by
  unfold newRecord
  repeat' split
  all_goals simp
@[simp] theorem recordEvent_freeCount (a b c : Nat) (i : Bool) (s : State) : (recordEvent a b c i s).freeCount = s.freeCount := by
  unfold recordEvent
  split <;> simp
@[simp] theorem eventNoted_freeCount (i : Bool) (src a b : Nat) (s : State) : (eventNoted i src a b s).freeCount = s.freeCount := by
  simp [eventNoted]
theorem raise_freeCount (src a b : Nat) (s : State) (h : srcClass src ≠ .fatal) : (raise src a b s).freeCount = s.freeCount := by
  unfold raise raiseAs
  split
  · simp
  · rfl

@[simp] theorem faultIrq_pending (c : FClass) (s : State) : (faultIrq c s).pending = s.pending := by
  unfold faultIrq
  split <;> rfl
@[simp] theorem faultLost_pending (s : State) : (faultLost s).pending = s.pending := rfl
@[simp] theorem storeRecord_pending (p a b c : Nat) (i : Bool) (s : State) : (storeRecord p a b c i s).pending = s.pending := by
  simp [storeRecord]
@[simp] theorem newRecord_pending (a b c : Nat) (i : Bool) (s : State) : (newRecord a b c i s).pending = s.pending := by
  unfold newRecord
  repeat' split
  all_goals simp
@[simp] theorem recordEvent_pending (a b c : Nat) (i : Bool) (s : State) : (recordEvent a b c i s).pending = s.pending := by
  unfold recordEvent
  split <;> simp
@[simp] theorem eventNoted_pending (i : Bool) (src a b : Nat) (s : State) : (eventNoted i src a b s).pending = s.pending := by
  simp [eventNoted]
theorem raise_pending (src a b : Nat) (s : State) (h : srcClass src ≠ .fatal) : (raise src a b s).pending = s.pending := by
  unfold raise raiseAs
  split
  · simp
  · rfl

end Sys2Proof.Machine
end

