-- ==== Sys2Proof/Laws/Form.lean ====
section
/-! SUPPORT. The named operations keep the form of the state (`State.Wf`): the writes of the stores, the record store, modes and ownership. -/

namespace Sys2Proof.Machine

set_option linter.unusedVariables false

variable {q : List Instr}

theorem wf_mk (s : State) (staged node rst tap pins tide quay twin flash upd dict gw ring hold bridge man can cal time fc) (h : s.Wf q)
    (hc : node.owns → node.claim) (hm : node.owns → node.mode.mayOwn) (ho : node.owns → node.mode = .dryDock → node.origin.mayOwn) :
  State.Wf q { s with staged := staged, node := node, rst := rst, tap := tap, pins := pins, tide := tide, quay := quay, twin := twin, flash := flash, upd := upd, dict := dict, gw := gw, ring := ring, hold := hold, bridge := bridge, man := man, can := can, cal := cal, time := time, freeCount := fc } :=
  { h with claims := hc, owner := hm, origin := ho }

theorem foldl_wf {α : Type} (f : State → α → State) (hf : ∀ s a, State.Wf q s → State.Wf q (f s a)) :
    ∀ (l : List α) (s : State), State.Wf q s → State.Wf q (l.foldl f s)
  | [], s, h => h
  | a :: t, s, h => foldl_wf f hf t (f s a) (hf s a h)

theorem put_wf (s : State) (o v) (h : s.Wf q) : (s.put o v).Wf q :=
  { h with objs := keysFrom_mapSet _ _ _ _ _ (Nat.zero_le _) h.objs }
theorem putBlob_wf (s : State) (o v) (h : s.Wf q) : (s.putBlob o v).Wf q :=
  { h with blobs := keysFrom_mapSet _ _ _ _ _ (Nat.zero_le _) h.blobs }
theorem setCrane_wf (s : State) (g c) (h : s.Wf q) : (s.setCrane g c).Wf q :=
  { h with cranes := mapWf_mapSet _ _ _ _ h.cranes }
theorem setFifo_wf (s : State) (g c) (h : s.Wf q) : (s.setFifo g c).Wf q :=
  { h with fifos := mapWf_mapSet _ _ _ _ h.fifos }
theorem setUserWord_wf (s : State) (g w c) (h : s.Wf q) : (s.setUserWord g w c).Wf q :=
  { h with users := mapWf_mapSet _ _ _ _ h.users }
theorem setUnit_wf (s : State) (u x) (h : s.Wf q) : (s.setUnit u x).Wf q :=
  { h with chk := by simp [State.setUnit, h.chk] }
theorem addTo_wf (s : State) (o v) (h : s.Wf q) : (s.addTo o v).Wf q := put_wf _ _ _ h
theorem bump_wf (s : State) (o) (h : s.Wf q) : (s.bump o).Wf q := put_wf _ _ _ h

theorem Wf_recs (s : State) (f : FaultState) (h : s.Wf q) (hf : recsWf f.recs) : State.Wf q { s with faults := f } :=
  { h with recs := hf }

theorem recsWf_filter (l : List FaultRec) (p : FaultRec → Bool) (h : recsWf l) : recsWf (l.filter p) :=
  ⟨List.Nodup.sublist (List.Sublist.map _ List.filter_sublist) h.1, fun r hr => h.2 r ((List.mem_filter.1 hr).1)⟩

theorem recsWf_map (l : List FaultRec) (f : FaultRec → FaultRec) (hf : ∀ r, (f r).place = r.place) (h : recsWf l) :
    recsWf (l.map f) := by
  constructor
  · rw [List.map_map, show (fun r : FaultRec => r.place) ∘ f = (·.place) from funext hf]; exact h.1
  · intro r hr
    obtain ⟨x, hx, rfl⟩ := List.mem_map.1 hr
    rw [hf]; exact h.2 x hx

theorem recsWf_add (l : List FaultRec) (r : FaultRec) (h : recsWf l) (hp : r.place < 64) (hn : ∀ x ∈ l, x.place ≠ r.place) :
    recsWf (l ++ [r]) := by
  constructor
  · rw [List.map_append]
    refine List.nodup_append.2 ⟨h.1, by simp, ?_⟩
    intro a ha b hb
    obtain ⟨x, hx, rfl⟩ := List.mem_map.1 ha
    simp at hb
    rw [hb]; exact hn x hx
  · intro x hx
    rcases List.mem_append.1 hx with hx | hx
    · exact h.2 x hx
    · simp at hx; rw [hx]; exact hp

theorem faultIrq_wf (c) (s : State) (h : s.Wf q) : (faultIrq c s).Wf q := by
  unfold faultIrq
  split
  · exact Wf_recs _ _ h h.recs
  · exact h

theorem faultLost_wf (s : State) (h : s.Wf q) : (faultLost s).Wf q :=
  Wf_recs _ _ (bump_wf _ _ h) (bump_wf s Obj.faultLostCnt h).recs

theorem storeRecord_wf (p a b c d) (s : State) (h : s.Wf q) (hp : p < 64) (hn : ∀ x ∈ s.faults.recs, x.place ≠ p) :
    (storeRecord p a b c d s).Wf q :=
  faultIrq_wf _ _ (Wf_recs _ _ h (recsWf_add _ _ h.recs hp hn))

theorem freePlace_free (l : List FaultRec) (b n p : Nat) (h : freePlace l b n = some p) :
    p < b + n ∧ ∀ x ∈ l, x.place ≠ p := by
  have h1 := List.mem_of_find?_eq_some h
  have h2 := List.find?_some h
  simp at h1 h2
  obtain ⟨k, hk, rfl⟩ := h1
  exact ⟨by omega, h2⟩

theorem newRecord_wf (a b c d) (s : State) (h : s.Wf q) : (newRecord a b c d s).Wf q := by
  unfold newRecord
  split
  · rename_i p hp
    have := freePlace_free _ _ _ _ hp
    exact storeRecord_wf _ _ _ _ _ _ h (by omega) this.2
  · split
    · exact faultLost_wf _ h
    · split
      · rename_i v hv
        have hr : recsWf (s.faults.recs.filter (fun r => r.place != v.place)) := recsWf_filter _ _ h.recs
        have hl : v.place < 64 := h.recs.2 v (List.mem_of_find?_eq_some hv)
        refine storeRecord_wf _ _ _ _ _ _ (faultLost_wf _ (Wf_recs _ _ h hr)) hl ?_
        intro x hx
        have : x ∈ s.faults.recs.filter (fun r => r.place != v.place) := hx
        simpa using (List.mem_filter.1 this).2
      · exact faultLost_wf _ h
    · split
      · rename_i p hp
        have := freePlace_free _ _ _ _ hp
        exact storeRecord_wf _ _ _ _ _ _ h (by omega) this.2
      · exact faultLost_wf _ h

theorem recordEvent_wf (a b c d) (s : State) (h : s.Wf q) : (recordEvent a b c d s).Wf q := by
  unfold recordEvent
  split
  · refine faultIrq_wf _ _ (Wf_recs _ _ h (recsWf_map _ _ ?_ h.recs))
    intro r
    split <;> rfl
  · exact newRecord_wf _ _ _ _ _ h

theorem clearStatus_wf (st) (s : State) (h : s.Wf q) : (clearStatus st s).Wf q := put_wf _ _ _ h

theorem clearOne_wf (a b) (s : State) (h : s.Wf q) : (clearOne a b s).Wf q := by
  unfold clearOne
  repeat' split
  all_goals first
    | exact clearStatus_wf _ _ h
    | exact clearStatus_wf _ _ (Wf_recs _ _ h (recsWf_filter _ _ h.recs))

theorem clearMany_wf (a) (s : State) (h : s.Wf q) : (clearMany a s).Wf q :=
  clearStatus_wf _ _ (Wf_recs _ _ h (recsWf_filter _ _ h.recs))

theorem latchFaults_wf (s : State) (h : s.Wf q) : (latchFaults s).Wf q :=
  Wf_recs _ _ h (recsWf_map _ _ (fun _ => rfl) h.recs)

theorem setMode_wf (m) (s : State) (h : s.Wf q) (hm : s.node.owns → m.mayOwn) : (setMode m s).Wf q := by
  unfold setMode
  split
  · exact h
  · refine bump_wf _ _ (put_wf _ _ _ (put_wf _ _ _ { h with claims := h.claims, owner := hm, origin := ?_ }))
    intro ho hd
    replace hd : m = Mode.dryDock := hd
    simpa [hd] using h.owner ho


/-- A mode entered by a chip that comes out of it owning as stated. -/
theorem setMode_node_wf (m) (s : State) (n : NodeState) (h : s.Wf q) (hc : n.owns → n.claim) (hm : n.owns → n.mode.mayOwn)
    (ho : n.owns → n.mode = .dryDock → n.origin.mayOwn) : State.Wf q { setMode m s with node := n } := by
  unfold setMode
  split
  · exact { h with claims := hc, owner := hm, origin := ho }
  · have h1 := bump_wf (q := q) ((s.put Obj.modePrev s.node.mode.num).put Obj.modeTick s.tide.tick) Obj.modeChangeCnt
      (put_wf _ _ _ (put_wf _ _ _ h))
    exact { h1 with claims := hc, owner := hm, origin := ho }

theorem setMode_mode (m) (s : State) : (setMode m s).node.mode = m := by
  unfold setMode
  split
  · assumption
  · rfl

theorem foldl_node {α : Type} (f : State → α → State) (hf : ∀ s a, (f s a).node = s.node) :
    ∀ (l : List α) (s : State), (l.foldl f s).node = s.node
  | [], _ => rfl
  | a :: t, s => (foldl_node f hf t (f s a)).trans (hf s a)

theorem canStart_node (k) (s : State) : (canStart k s).node = s.node := rfl
theorem canStartAll_node (s : State) : (canStartAll s).node = s.node := by
  unfold canStartAll
  generalize List.range 8 = l
  exact foldl_node _ (fun s k => canStart_node k s) l s

theorem setMode_owns (m) (s : State) : (setMode m s).node.owns = s.node.owns := by
  unfold setMode; split <;> rfl

theorem loseOwnership_owns (s : State) : (loseOwnership s).node.owns = false := by
  unfold loseOwnership
  split
  · rfl
  · rename_i h
    simpa using h

theorem stopPickup_node (b) (s : State) : (stopPickup b s).node = s.node := by
  unfold stopPickup
  split
  · rfl
  · split <;> rfl

theorem releaseOwnership_owns (s : State) : (releaseOwnership s).node.owns = false := by
  show (stopPickup true (loseOwnership s)).node.owns = false
  rw [stopPickup_node]
  exact loseOwnership_owns s

theorem setTally_wf (f : TallyState → TallyState) (s : State) (h : s.Wf q) (hw : mapWf 0 (f s.tally).words) (hs : mapWf 0 (f s.tally).stage) :
    (setTally f s).Wf q := { h with words := hw, stage := hs }

theorem setTally_id (f : TallyState → TallyState) (s : State) (h : s.Wf q) (hw : ∀ t, (f t).words = t.words) (hs : ∀ t, (f t).stage = t.stage) :
    (setTally f s).Wf q := { h with words := by rw [show (setTally f s).tally = f s.tally from rfl, hw]; exact h.words, stage := by rw [show (setTally f s).tally = f s.tally from rfl, hs]; exact h.stage }

theorem haltCrane_wf (g) (s : State) (h : s.Wf q) : (haltCrane g s).Wf q := by
  grind [haltCrane, setCrane_wf, put_wf]
theorem haltAllCranes_wf (s : State) (h : s.Wf q) : (haltAllCranes s).Wf q := foldl_wf _ (fun _ _ h => haltCrane_wf _ _ h) _ _ h

theorem padsOff_node (s : State) : (padsOff s).node = s.node := rfl
theorem resetCore_owns (s : State) : (resetCore s).node.owns = s.node.owns := rfl
theorem domainsInReset_node (s : State) : (domainsInReset s).node = s.node := rfl
theorem assertReset_owns (a b) (s : State) : (assertReset a b s).node.owns = false := by
  have h := loseOwnership_owns (recordReset a b s)
  unfold assertReset toMode
  simp only [domainsInReset_node, resetCore_owns]
  split <;> simp [padsOff_node, stopPickup_node, h]

theorem cold_owns (s : State) (h : s.Wf q) (hm : s.node.mode.mayOwn = false) : s.node.owns = false := by
  cases ho : s.node.owns
  · rfl
  · simp [h.owner ho] at hm

theorem wf_users (s : State) (p : PinState) (x) (h : s.Wf q) (hx : mapWf 0 x) : State.Wf q { s with pins := p, users := x } := { h with users := hx }

theorem wf_working (s : State) (pins bridge tide) (h : s.Wf q) (hm : s.node.mode = .working) :
    State.Wf q { s with node := { s.node with owns := true, claim := true, resume := true, toAnchored := false, waitB := false, keptOwn := false, leaveDryDock := false }, pins := pins, bridge := bridge, tide := tide } :=
  { h with claims := fun _ => rfl, owner := fun _ => by simp [hm, Mode.mayOwn], origin := fun _ e => by simp [hm] at e }

theorem wf_slip (s : State) (b : Bool) (h : s.Wf q) (hm : s.node.mode = .slipway) :
    State.Wf q { s with node := { s.node with keyWindow := false, toAnchored := false, waitB := false, owns := b, claim := b, resume := b } } :=
  { h with claims := fun e => e, owner := fun _ => by simp [hm, Mode.mayOwn], origin := fun _ e => by simp [hm] at e }

theorem wf_cold (s : State) (n : NodeState) (r : ResetState) (h : s.Wf q) (ho : s.node.owns = false) (hn : n.owns = s.node.owns) :
    State.Wf q { s with node := n, rst := r } :=
  { h with claims := fun e => by simp [hn, ho] at e, owner := fun e => by simp [hn, ho] at e, origin := fun e => by simp [hn, ho] at e }

theorem getD_wf (o : Option State) (s : State) (ho : ∀ t, o = some t → t.Wf q) (h : s.Wf q) : (o.getD s).Wf q := by
  cases o with
  | none => exact h
  | some t => exact ho t rfl

theorem wf_fifos (s : State) (x) (h : s.Wf q) (hx : mapWf Fifo.empty x) : State.Wf q { s with fifos := x } := { h with fifos := hx }

end Sys2Proof.Machine
end

