-- ==== Sys2Proof/Laws/FormOps.lean ====
section
/-! SUPPORT. Every operation of Machine/Ops.lean keeps the form of the state and leaves the queue alone (`State.Wf`). -/

namespace Sys2Proof.Machine

set_option linter.unusedVariables false
set_option maxRecDepth 2000

variable {q : List Instr}

theorem stage_wf (s a1 a2) (h : State.Wf q s) : State.Wf q (State.stage s a1 a2) := by grind only [State.stage, wf_mk, foldl_wf, State.Wf.claims, State.Wf.owner, State.Wf.origin]

theorem fifoRollback_wf (a0 s) (h : State.Wf q s) : State.Wf q (fifoRollback a0 s) := by grind only [fifoRollback, setFifo_wf, wf_mk, foldl_wf, State.Wf.claims, State.Wf.owner, State.Wf.origin]

theorem putI_wf (s a1 a2) (h : State.Wf q s) : State.Wf q (State.putI s a1 a2) := by grind only [State.putI, put_wf, wf_mk, foldl_wf, State.Wf.claims, State.Wf.owner, State.Wf.origin]

theorem unstage_wf (s a1) (h : State.Wf q s) : State.Wf q (State.unstage s a1) := by grind only [State.unstage, wf_mk, foldl_wf, State.Wf.claims, State.Wf.owner, State.Wf.origin]

theorem modBridge_wf (a0 s) (h : State.Wf q s) : State.Wf q (modBridge a0 s) := by grind only [modBridge, wf_mk, foldl_wf, State.Wf.claims, State.Wf.owner, State.Wf.origin]

theorem draw_wf (s) (h : State.Wf q s) : State.Wf q (State.draw s).2 := by grind only [State.draw, wf_mk, foldl_wf, State.Wf.claims, State.Wf.owner, State.Wf.origin]

end Sys2Proof.Machine
end

