-- ==== Sys2Proof/Laws/FormCanBase.lean ====
section
/-! SUPPORT. Every operation of Machine/CanBase.lean keeps the form of the state and leaves the queue alone (`State.Wf`). -/

namespace Sys2Proof.Machine

set_option linter.unusedVariables false
set_option maxRecDepth 2000

variable {q : List Instr}

theorem modCtl_wf (a0 a1 s) (h : State.Wf q s) : State.Wf q (modCtl a0 a1 s) := by grind only [modCtl, wf_mk, foldl_wf, State.Wf.claims, State.Wf.owner, State.Wf.origin]

theorem modBuf_wf (a0 a1 a2 s) (h : State.Wf q s) : State.Wf q (modBuf a0 a1 a2 s) := by grind only [modBuf, modCtl_wf, wf_mk, foldl_wf, State.Wf.claims, State.Wf.owner, State.Wf.origin]

theorem canStart_wf (a0 s) (h : State.Wf q s) : State.Wf q (canStart a0 s) := by grind only [canStart, modCtl_wf, setFifo_wf, wf_mk, foldl_wf, State.Wf.claims, State.Wf.owner, State.Wf.origin]

theorem canStopAll_wf (s) (h : State.Wf q s) : State.Wf q (canStopAll s) := by grind only [canStopAll, modCtl_wf, wf_mk, foldl_wf, State.Wf.claims, State.Wf.owner, State.Wf.origin]

theorem canStartAll_wf (s) (h : State.Wf q s) : State.Wf q (canStartAll s) := by grind only [canStartAll, canStart_wf, wf_mk, foldl_wf, State.Wf.claims, State.Wf.owner, State.Wf.origin]

end Sys2Proof.Machine
end

