-- ==== Sys2Proof/Laws/FormPins.lean ====
section
/-! SUPPORT. Every operation of Machine/Pins.lean keeps the form of the state and leaves the queue alone (`State.Wf`). -/

namespace Sys2Proof.Machine

set_option linter.unusedVariables false
set_option maxRecDepth 2000

variable {q : List Instr}

theorem keepersHold_wf (s) (h : State.Wf q s) : State.Wf q (keepersHold s) := by grind only [keepersHold, wf_mk, foldl_wf, State.Wf.claims, State.Wf.owner, State.Wf.origin]

theorem setLevel_wf (a0 a1 s) (h : State.Wf q s) : State.Wf q (setLevel a0 a1 s) := by grind only [setLevel, wf_mk, foldl_wf, State.Wf.claims, State.Wf.owner, State.Wf.origin]

theorem setDrive_wf (a0 a1 s) (h : State.Wf q s) : State.Wf q (setDrive a0 a1 s) := by grind only [setDrive, wf_mk, foldl_wf, State.Wf.claims, State.Wf.owner, State.Wf.origin]

theorem setPin_wf (a0 a1 a2 s) (h : State.Wf q s) : State.Wf q (setPin a0 a1 a2 s) := by grind only [setPin, wf_mk, foldl_wf, State.Wf.claims, State.Wf.owner, State.Wf.origin]

theorem buffersOn_wf (s) (h : State.Wf q s) : State.Wf q (buffersOn s) := by grind only [buffersOn, wf_mk, foldl_wf, State.Wf.claims, State.Wf.owner, State.Wf.origin]

theorem keepersRelease_wf (s) (h : State.Wf q s) : State.Wf q (keepersRelease s) := by grind only [keepersRelease, wf_mk, foldl_wf, State.Wf.claims, State.Wf.owner, State.Wf.origin]

theorem padsOff_wf (s) (h : State.Wf q s) : State.Wf q (padsOff s) := by grind only [padsOff, wf_mk, foldl_wf, State.Wf.claims, State.Wf.owner, State.Wf.origin]

end Sys2Proof.Machine
end

