-- ==== Sys2Proof/Laws/FormTimeBase.lean ====
section
/-! SUPPORT. Every operation of Machine/TimeBase.lean keeps the form of the state and leaves the queue alone (`State.Wf`). -/

namespace Sys2Proof.Machine

set_option linter.unusedVariables false
set_option maxRecDepth 2000

variable {q : List Instr}

theorem modTime_wf (a0 s) (h : State.Wf q s) : State.Wf q (modTime a0 s) := by grind only [modTime, wf_mk, foldl_wf, State.Wf.claims, State.Wf.owner, State.Wf.origin]

theorem modDomain_wf (a0 a1 s) (h : State.Wf q s) : State.Wf q (modDomain a0 a1 s) := by grind only [modDomain, modTime_wf, wf_mk, foldl_wf, State.Wf.claims, State.Wf.owner, State.Wf.origin]

theorem clearCaptures_wf (s) (h : State.Wf q s) : State.Wf q (clearCaptures s) := by grind only [clearCaptures, modTime_wf, wf_mk, foldl_wf, State.Wf.claims, State.Wf.owner, State.Wf.origin]

end Sys2Proof.Machine
end

