-- ==== Sys2Proof/Laws/FormPulseBase.lean ====
section
/-! SUPPORT. Every operation of Machine/PulseBase.lean keeps the form of the state and leaves the queue alone (`State.Wf`). -/

namespace Sys2Proof.Machine

set_option linter.unusedVariables false
set_option maxRecDepth 2000

variable {q : List Instr}

theorem genDrive_wf (a0 s) (h : State.Wf q s) : State.Wf q (genDrive a0 s) := by grind only [genDrive, setPin_wf, modTime_wf, wf_mk, foldl_wf, State.Wf.claims, State.Wf.owner, State.Wf.origin]

theorem setGen_wf (a0 a1 s) (h : State.Wf q s) : State.Wf q (setGen a0 a1 s) := by grind only [setGen, modTime_wf, wf_mk, foldl_wf, State.Wf.claims, State.Wf.owner, State.Wf.origin]

theorem genStop_wf (a0 s) (h : State.Wf q s) : State.Wf q (genStop a0 s) := by grind only [genStop, genDrive_wf, setGen_wf, wf_mk, foldl_wf, State.Wf.claims, State.Wf.owner, State.Wf.origin]

theorem pulsesStop_wf (s) (h : State.Wf q s) : State.Wf q (pulsesStop s) := by grind only [pulsesStop, genStop_wf, wf_mk, foldl_wf, State.Wf.claims, State.Wf.owner, State.Wf.origin]

end Sys2Proof.Machine
end

