-- ==== Sys2Proof/Laws/FormOwnership.lean ====
section
/-! SUPPORT. Every operation of Machine/Ownership.lean keeps the form of the state and leaves the queue alone (`State.Wf`). -/

namespace Sys2Proof.Machine

set_option linter.unusedVariables false
set_option maxRecDepth 2000

variable {q : List Instr}

theorem stopPickup_wf (a0 s) (h : State.Wf q s) : State.Wf q (stopPickup a0 s) := by grind only [stopPickup, keepersHold_wf, wf_mk, foldl_wf, State.Wf.claims, State.Wf.owner, State.Wf.origin]

theorem loseOwnership_wf (s) (h : State.Wf q s) : State.Wf q (loseOwnership s) := by grind only [loseOwnership, keepersHold_wf, pulsesStop_wf, haltAllCranes_wf, canStopAll_wf, wf_mk, foldl_wf, State.Wf.claims, State.Wf.owner, State.Wf.origin]

theorem releaseOwnership_wf (s) (h : State.Wf q s) : State.Wf q (releaseOwnership s) := by
  have h1 : State.Wf q (stopPickup true (loseOwnership s)) := stopPickup_wf _ _ (loseOwnership_wf _ h)
  have o := releaseOwnership_owns s
  exact { h1 with claims := fun e => absurd e (by rw [o]; simp), owner := fun e => absurd e (by rw [o]; simp), origin := fun e => absurd e (by rw [o]; simp) }

end Sys2Proof.Machine
end

