-- ==== Sys2Proof/Laws/FormFaults.lean ====
section
/-! SUPPORT. Every operation of Machine/Faults.lean keeps the form of the state and leaves the queue alone (`State.Wf`). -/

namespace Sys2Proof.Machine

set_option linter.unusedVariables false
set_option maxRecDepth 2000

variable {q : List Instr}

theorem eventNoted_wf (a0 a1 a2 a3 s) (h : State.Wf q s) : State.Wf q (eventNoted a0 a1 a2 a3 s) := by grind only [eventNoted, recordEvent_wf, bump_wf, wf_mk, foldl_wf, State.Wf.claims, State.Wf.owner, State.Wf.origin]

theorem lockClose_wf (s) (h : State.Wf q s) : State.Wf q (lockClose s) := by grind only [lockClose, wf_mk, foldl_wf, State.Wf.claims, State.Wf.owner, State.Wf.origin]

theorem sideEffectLost_wf (a0 a1 a2 s) (h : State.Wf q s) : State.Wf q (sideEffectLost a0 a1 a2 s) := by grind only [sideEffectLost, eventNoted_wf, put_wf, bump_wf, wf_mk, foldl_wf, State.Wf.claims, State.Wf.owner, State.Wf.origin]

theorem dropStream_wf (a0 s) (h : State.Wf q s) : State.Wf q (dropStream a0 s) := by grind only [dropStream, modBridge_wf, addTo_wf, fifoRollback_wf, bump_wf, sideEffectLost_wf, wf_mk, foldl_wf, State.Wf.claims, State.Wf.owner, State.Wf.origin]

theorem dropStreams_wf (a0 s) (h : State.Wf q s) : State.Wf q (dropStreams a0 s) := by grind only [dropStreams, dropStream_wf, wf_mk, foldl_wf, State.Wf.claims, State.Wf.owner, State.Wf.origin]

theorem quarantine_wf (a0 a1 s) (h : State.Wf q s) : State.Wf q (quarantine a0 a1 s) := by grind only [quarantine, setMode_wf, releaseOwnership_wf, lockClose_wf, dropStreams_wf, releaseOwnership_owns, setMode_owns, Wf_recs, State.Wf.recs, wf_mk, foldl_wf, State.Wf.claims, State.Wf.owner, State.Wf.origin]

theorem raiseAs_wf (a0 a1 a2 a3 s) (h : State.Wf q s) : State.Wf q (raiseAs a0 a1 a2 a3 s) := by grind only [raiseAs, eventNoted_wf, quarantine_wf, wf_mk, foldl_wf, State.Wf.claims, State.Wf.owner, State.Wf.origin]

theorem raise_wf (a0 a1 a2 s) (h : State.Wf q s) : State.Wf q (raise a0 a1 a2 s) := by grind only [raise, raiseAs_wf, wf_mk, foldl_wf, State.Wf.claims, State.Wf.owner, State.Wf.origin]

theorem recordParity_wf (a0 s) (h : State.Wf q s) : State.Wf q (recordParity a0 s) := by grind only [recordParity, raise_wf, Wf_recs, State.Wf.recs, recsWf_filter, wf_mk, foldl_wf, State.Wf.claims, State.Wf.owner, State.Wf.origin]

theorem execRecordStoreParity_wf (a0 s t) (h : State.Wf q s) (e : execRecordStoreParity a0 s = .next t) : State.Wf q t := by grind only [execRecordStoreParity, recordParity_wf, wf_mk, foldl_wf, State.Wf.claims, State.Wf.owner, State.Wf.origin]

theorem faultClear_wf (a0 s) (h : State.Wf q s) : State.Wf q (faultClear a0 s).1 := by grind only [faultClear, clearOne_wf, clearMany_wf, wf_mk, foldl_wf, State.Wf.claims, State.Wf.owner, State.Wf.origin]

theorem claimFifo_wf (a0 s) (h : State.Wf q s) : State.Wf q (claimFifo a0 s) := by grind only [claimFifo, dropStreams_wf, wf_mk, foldl_wf, State.Wf.claims, State.Wf.owner, State.Wf.origin]

end Sys2Proof.Machine
end

