-- ==== Sys2Proof/Laws/FormCriteria.lean ====
section
/-! SUPPORT. Every operation of Machine/Criteria.lean keeps the form of the state and leaves the queue alone (`State.Wf`). -/

namespace Sys2Proof.Machine

set_option linter.unusedVariables false
set_option maxRecDepth 2000

variable {q : List Instr}

theorem holdCriterion_wf (a0 s) (h : State.Wf q s) : State.Wf q (holdCriterion a0 s) := by grind only [holdCriterion, bump_wf, wf_mk, foldl_wf, State.Wf.claims, State.Wf.owner, State.Wf.origin]

theorem dropCriterion_wf (a0 s) (h : State.Wf q s) : State.Wf q (dropCriterion a0 s) := by grind only [dropCriterion, wf_mk, foldl_wf, State.Wf.claims, State.Wf.owner, State.Wf.origin]

theorem selfTestFail_wf (a0 s) (h : State.Wf q s) : State.Wf q (selfTestFail a0 s) := by grind only [selfTestFail, raise_wf, bump_wf, wf_mk, foldl_wf, State.Wf.claims, State.Wf.owner, State.Wf.origin]

end Sys2Proof.Machine
end

