-- ==== Sys2Proof/Laws/FormRingBase.lean ====
section
/-! SUPPORT. Every operation of Machine/RingBase.lean keeps the form of the state and leaves the queue alone (`State.Wf`). -/

namespace Sys2Proof.Machine

set_option linter.unusedVariables false
set_option maxRecDepth 2000

variable {q : List Instr}

theorem badBlock_wf (a0 s) (h : State.Wf q s) : State.Wf q (badBlock a0 s) := by grind only [badBlock, bump_wf, wf_mk, foldl_wf, State.Wf.claims, State.Wf.owner, State.Wf.origin]

theorem modRing_wf (a0 s) (h : State.Wf q s) : State.Wf q (modRing a0 s) := by grind only [modRing, wf_mk, foldl_wf, State.Wf.claims, State.Wf.owner, State.Wf.origin]

theorem modPort_wf (a0 a1 s) (h : State.Wf q s) : State.Wf q (modPort a0 a1 s) := by grind only [modPort, modRing_wf, wf_mk, foldl_wf, State.Wf.claims, State.Wf.owner, State.Wf.origin]

theorem turnBack_wf (a0 a1 s) (h : State.Wf q s) : State.Wf q (turnBack a0 a1 s) := by grind only [turnBack, modPort_wf, wf_mk, foldl_wf, State.Wf.claims, State.Wf.owner, State.Wf.origin]

theorem nextSeqOf_wf (a0 s) (h : State.Wf q s) : State.Wf q (nextSeqOf a0 s).2 := by grind only [nextSeqOf, modRing_wf, wf_mk, foldl_wf, State.Wf.claims, State.Wf.owner, State.Wf.origin]

theorem setDir_wf (a0 a1 a2 s) (h : State.Wf q s) : State.Wf q (setDir a0 a1 a2 s) := by grind only [setDir, put_wf, wf_mk, foldl_wf, State.Wf.claims, State.Wf.owner, State.Wf.origin]

theorem returned_wf (a0 a1 s) (h : State.Wf q s) : State.Wf q (returned a0 a1 s) := by grind only [returned, turnBack_wf, wf_mk, foldl_wf, State.Wf.claims, State.Wf.owner, State.Wf.origin]

theorem setTx_wf (a0 a1 s) (h : State.Wf q s) : State.Wf q (setTx a0 a1 s) := by grind only [setTx, put_wf, wf_mk, foldl_wf, State.Wf.claims, State.Wf.owner, State.Wf.origin]

theorem sendBlock_wf (a0 a1 a2 s) (h : State.Wf q s) : State.Wf q (sendBlock a0 a1 a2 s) := by grind only [sendBlock, turnBack_wf, modPort_wf, wf_mk, foldl_wf, State.Wf.claims, State.Wf.owner, State.Wf.origin]

theorem setRx_wf (a0 a1 s) (h : State.Wf q s) : State.Wf q (setRx a0 a1 s) := by grind only [setRx, put_wf, wf_mk, foldl_wf, State.Wf.claims, State.Wf.owner, State.Wf.origin]

end Sys2Proof.Machine
end

