-- ==== Sys2Proof/Laws/FormCalBase.lean ====
section
/-! SUPPORT. Every operation of Machine/CalBase.lean keeps the form of the state and leaves the queue alone (`State.Wf`). -/

namespace Sys2Proof.Machine

set_option linter.unusedVariables false
set_option maxRecDepth 2000

variable {q : List Instr}

theorem modCal_wf (a0 a1 s) (h : State.Wf q s) : State.Wf q (modCal a0 a1 s) := by grind only [modCal, wf_mk, foldl_wf, State.Wf.claims, State.Wf.owner, State.Wf.origin]

theorem endTrial_wf (a0 s) (h : State.Wf q s) : State.Wf q (endTrial a0 s) := by grind only [endTrial, modCal_wf, put_wf, wf_mk, foldl_wf, State.Wf.claims, State.Wf.owner, State.Wf.origin]

theorem modLane_wf (a0 a1 a2 s) (h : State.Wf q s) : State.Wf q (modLane a0 a1 a2 s) := by grind only [modLane, modCal_wf, wf_mk, foldl_wf, State.Wf.claims, State.Wf.owner, State.Wf.origin]

theorem tapsApply_wf (a0 s) (h : State.Wf q s) : State.Wf q (tapsApply a0 s) := by grind only [tapsApply, modLane_wf, put_wf, wf_mk, foldl_wf, State.Wf.claims, State.Wf.owner, State.Wf.origin]

theorem queuePstep_wf (a0 a1 a2 a3 a4 a5 s) (h : State.Wf q s) : State.Wf q (queuePstep a0 a1 a2 a3 a4 a5 s) := by grind only [queuePstep, modCal_wf, putI_wf, wf_mk, foldl_wf, State.Wf.claims, State.Wf.owner, State.Wf.origin]

theorem stampLaneStep_wf (a0 a1 a2 a3 s) (h : State.Wf q s) : State.Wf q (stampLaneStep a0 a1 a2 a3 s) := by grind only [stampLaneStep, queuePstep_wf, wf_mk, foldl_wf, State.Wf.claims, State.Wf.owner, State.Wf.origin]

theorem newMap_wf (a0 a1 s) (h : State.Wf q s) : State.Wf q (newMap a0 a1 s) := by grind only [newMap, modLane_wf, bump_wf, wf_mk, foldl_wf, State.Wf.claims, State.Wf.owner, State.Wf.origin]

theorem abandonTrial_wf (a0 s) (h : State.Wf q s) : State.Wf q (abandonTrial a0 s) := by grind only [abandonTrial, bump_wf, endTrial_wf, wf_mk, foldl_wf, State.Wf.claims, State.Wf.owner, State.Wf.origin]

theorem newRequest_wf (a0 a1 a2 s) (h : State.Wf q s) : State.Wf q (newRequest a0 a1 a2 s) := by grind only [newRequest, modLane_wf, wf_mk, foldl_wf, State.Wf.claims, State.Wf.owner, State.Wf.origin]

theorem setAlpha_wf (a0 a1 s) (h : State.Wf q s) : State.Wf q (setAlpha a0 a1 s) := by grind only [setAlpha, putI_wf, wf_mk, foldl_wf, State.Wf.claims, State.Wf.owner, State.Wf.origin]

theorem answerReq_wf (a0 a1 a2 a3 s) (h : State.Wf q s) : State.Wf q (answerReq a0 a1 a2 a3 s) := by grind only [answerReq, modLane_wf, wf_mk, foldl_wf, State.Wf.claims, State.Wf.owner, State.Wf.origin]

theorem abandonLane_wf (a0 a1 s) (h : State.Wf q s) : State.Wf q (abandonLane a0 a1 s) := by grind only [abandonLane, abandonTrial_wf, wf_mk, foldl_wf, State.Wf.claims, State.Wf.owner, State.Wf.origin]

theorem laneChanged_wf (a0 a1 s) (h : State.Wf q s) : State.Wf q (laneChanged a0 a1 s) := by grind only [laneChanged, modLane_wf, newMap_wf, wf_mk, foldl_wf, State.Wf.claims, State.Wf.owner, State.Wf.origin]

theorem freeRequest_wf (a0 a1 s) (h : State.Wf q s) : State.Wf q (freeRequest a0 a1 s) := by grind only [freeRequest, draw_wf, newRequest_wf, wf_mk, foldl_wf, State.Wf.claims, State.Wf.owner, State.Wf.origin]

theorem moveSampler_wf (a0 a1 a2 a3 s) (h : State.Wf q s) : State.Wf q (moveSampler a0 a1 a2 a3 s) := by grind only [moveSampler, bump_wf, putI_wf, newMap_wf, queuePstep_wf, wf_mk, foldl_wf, State.Wf.claims, State.Wf.owner, State.Wf.origin]

theorem noteAnswer_wf (a0 a1 s) (h : State.Wf q s) : State.Wf q (noteAnswer a0 a1 s) := by grind only [noteAnswer, modLane_wf, wf_mk, foldl_wf, State.Wf.claims, State.Wf.owner, State.Wf.origin]

end Sys2Proof.Machine
end

