-- ==== Sys2Proof/Laws/FormHoldBase.lean ====
section
/-! SUPPORT. Every operation of Machine/HoldBase.lean keeps the form of the state and leaves the queue alone (`State.Wf`). -/

namespace Sys2Proof.Machine

set_option linter.unusedVariables false
set_option maxRecDepth 2000

variable {q : List Instr}

theorem modHold_wf (a0 s) (h : State.Wf q s) : State.Wf q (modHold a0 s) := by grind only [modHold, wf_mk, foldl_wf, State.Wf.claims, State.Wf.owner, State.Wf.origin]

theorem freshRow_wf (a0 s) (h : State.Wf q s) : State.Wf q (freshRow a0 s) := by grind only [freshRow, modHold_wf, wf_mk, foldl_wf, State.Wf.claims, State.Wf.owner, State.Wf.origin]

theorem readFreeEntry_wf (s) (h : State.Wf q s) : State.Wf q (readFreeEntry s) := by grind only [readFreeEntry, modHold_wf, raise_wf, wf_mk, foldl_wf, State.Wf.claims, State.Wf.owner, State.Wf.origin]

theorem readFreeEntries_wf (a0 s) (h : State.Wf q s) : State.Wf q (readFreeEntries a0 s) := by
  induction a0 generalizing s with
  | zero => exact h
  | succ n ih => exact ih _ (readFreeEntry_wf _ h)

theorem storeFrame_wf (a0 a1 a2 a3 s) (h : State.Wf q s) : State.Wf q (storeFrame a0 a1 a2 a3 s) := by
  unfold storeFrame
  repeat' split
  all_goals grind only [readFreeEntries_wf, modHold_wf, wf_mk, foldl_wf, State.Wf.claims, State.Wf.owner, State.Wf.origin]

theorem stageTwo_wf (a0 s) (h : State.Wf q s) : State.Wf q (stageTwo a0 s) := by grind only [stageTwo, modHold_wf, put_wf, wf_mk, foldl_wf, State.Wf.claims, State.Wf.owner, State.Wf.origin]

theorem countDiscard_wf (a0 a1 s) (h : State.Wf q s) : State.Wf q (countDiscard a0 a1 s) := by
  unfold countDiscard
  repeat' split
  all_goals grind only [bump_wf, put_wf, wf_mk, foldl_wf, State.Wf.claims, State.Wf.owner, State.Wf.origin]

theorem addFreed_wf (a0 a1 s) (h : State.Wf q s) : State.Wf q (addFreed a0 a1 s) := by grind only [addFreed, modPort_wf, wf_mk, foldl_wf, State.Wf.claims, State.Wf.owner, State.Wf.origin]

theorem readTag_wf (a0 s) (h : State.Wf q s) : State.Wf q (readTag a0 s) := by grind only [readTag, modHold_wf, raise_wf, wf_mk, foldl_wf, State.Wf.claims, State.Wf.owner, State.Wf.origin]

theorem listBay_wf (a0 s) (h : State.Wf q s) : State.Wf q (listBay a0 s) := by grind only [listBay, modHold_wf, wf_mk, foldl_wf, State.Wf.claims, State.Wf.owner, State.Wf.origin]

theorem settleRow_wf (a0 s) (h : State.Wf q s) : State.Wf q (settleRow a0 s) := by
  unfold settleRow
  repeat' split
  all_goals grind only [modHold_wf, freshRow_wf, put_wf, raise_wf, bump_wf, listBay_wf, holdCriterion_wf, wf_mk, foldl_wf, State.Wf.claims, State.Wf.owner, State.Wf.origin]

theorem freeBay_wf (a0 s) (h : State.Wf q s) : State.Wf q (freeBay a0 s) := by grind only [freeBay, readTag_wf, settleRow_wf, modHold_wf, listBay_wf, wf_mk, foldl_wf, State.Wf.claims, State.Wf.owner, State.Wf.origin]

theorem takeBay_wf (a0 s) (h : State.Wf q s) : State.Wf q (takeBay a0 s) := by grind only [takeBay, addFreed_wf, freeBay_wf, modHold_wf, wf_mk, foldl_wf, State.Wf.claims, State.Wf.owner, State.Wf.origin]

theorem removeJob_wf (a0 s) (h : State.Wf q s) : State.Wf q (removeJob a0 s) := by grind only [removeJob, takeBay_wf, modHold_wf, wf_mk, foldl_wf, State.Wf.claims, State.Wf.owner, State.Wf.origin]

theorem discardJob_wf (a0 a1 s) (h : State.Wf q s) : State.Wf q (discardJob a0 a1 s) := by grind only [discardJob, countDiscard_wf, removeJob_wf, bump_wf, wf_mk, foldl_wf, State.Wf.claims, State.Wf.owner, State.Wf.origin]

theorem stageOne_wf (a0 s) (h : State.Wf q s) : State.Wf q (stageOne a0 s) := by grind only [stageOne, discardJob_wf, readTag_wf, modHold_wf, addFreed_wf, put_wf, wf_mk, foldl_wf, State.Wf.claims, State.Wf.owner, State.Wf.origin]

theorem bayPeriod_wf (s) (h : State.Wf q s) : State.Wf q (bayPeriod s) := by grind only [bayPeriod, stageTwo_wf, stageOne_wf, modHold_wf, wf_mk, foldl_wf, State.Wf.claims, State.Wf.owner, State.Wf.origin]

theorem bayPeriods_wf (a0 s) (h : State.Wf q s) : State.Wf q (bayPeriods a0 s) := by
  induction a0 generalizing s with
  | zero => exact h
  | succ n ih =>
    unfold bayPeriods
    split
    · dsimp only
      split
      · exact bayPeriod_wf _ h
      · exact ih _ (bayPeriod_wf _ h)
    · exact h

theorem promote_wf (s) (h : State.Wf q s) : State.Wf q (promote s) := by grind only [promote, bayPeriods_wf, wf_mk, foldl_wf, State.Wf.claims, State.Wf.owner, State.Wf.origin]

theorem leaveHold_wf (a0 s) (h : State.Wf q s) : State.Wf q (leaveHold a0 s) := by grind only [leaveHold, promote_wf, bump_wf, removeJob_wf, modHold_wf, wf_mk, foldl_wf, State.Wf.claims, State.Wf.owner, State.Wf.origin]

theorem wearRow_wf (a0 s) (h : State.Wf q s) : State.Wf q (wearRow a0 s) := by grind only [wearRow, selfTestFail_wf, put_wf, settleRow_wf, modHold_wf, wf_mk, foldl_wf, State.Wf.claims, State.Wf.owner, State.Wf.origin]

theorem readHoldWord_wf (a0 a1 a2 s) (h : State.Wf q s) : State.Wf q (readHoldWord a0 a1 a2 s).2 := by grind only [readHoldWord, bump_wf, modHold_wf, wearRow_wf, raise_wf, wf_mk, foldl_wf, State.Wf.claims, State.Wf.owner, State.Wf.origin]

theorem readWords_wf (a0 a1 a2 s) (h : State.Wf q s) : State.Wf q (readWords a0 a1 a2 s).2 := by
  induction a2 generalizing a1 s with
  | nil => simpa [readWords] using h
  | cons c t ih => exact ih _ _ (readHoldWord_wf _ _ _ _ h)

theorem takeJob_wf (a0 s) (h : State.Wf q s) : State.Wf q (takeJob a0 s).2 := by grind only [takeJob, readWords_wf, leaveHold_wf, wf_mk, foldl_wf, State.Wf.claims, State.Wf.owner, State.Wf.origin]

theorem placeFrame_wf (a0 a1 a2 a3 s) (h : State.Wf q s) : State.Wf q (placeFrame a0 a1 a2 a3 s) := by grind only [placeFrame, promote_wf, storeFrame_wf, discardJob_wf, wf_mk, foldl_wf, State.Wf.claims, State.Wf.owner, State.Wf.origin]

theorem enqueue_wf (a0 a1 a2 a3 s) (h : State.Wf q s) : State.Wf q (enqueue a0 a1 a2 a3 s) := by grind only [enqueue, placeFrame_wf, bump_wf, wf_mk, foldl_wf, State.Wf.claims, State.Wf.owner, State.Wf.origin]

theorem outputReturn_wf (a0 s) (h : State.Wf q s) : State.Wf q (outputReturn a0 s) := by grind only [outputReturn, put_wf, wf_mk, foldl_wf, State.Wf.claims, State.Wf.owner, State.Wf.origin]

theorem lingerExpire_wf (a0 s) (h : State.Wf q s) : State.Wf q (lingerExpire a0 s) := by grind only [lingerExpire, put_wf, promote_wf, discardJob_wf, wf_mk, foldl_wf, State.Wf.claims, State.Wf.owner, State.Wf.origin]

theorem outputDown_wf (a0 s) (h : State.Wf q s) : State.Wf q (outputDown a0 s) := by grind only [outputDown, bump_wf, put_wf, modPort_wf, lingerExpire_wf, wf_mk, foldl_wf, State.Wf.claims, State.Wf.owner, State.Wf.origin]

end Sys2Proof.Machine
end

