-- ==== Sys2Proof/Laws/FormPortBase.lean ====
section
/-! SUPPORT. Every operation of Machine/PortBase.lean keeps the form of the state and leaves the queue alone (`State.Wf`). -/

namespace Sys2Proof.Machine

set_option linter.unusedVariables false
set_option maxRecDepth 2000

variable {q : List Instr}

theorem threeLanes_wf (a0 a1 s) (h : State.Wf q s) : State.Wf q (threeLanes a0 a1 s) := by grind only [threeLanes, raise_wf, wf_mk, foldl_wf, State.Wf.claims, State.Wf.owner, State.Wf.origin]

theorem txActivate_wf (a0 s) (h : State.Wf q s) : State.Wf q (txActivate a0 s) := by grind (splits := 30) (ematch := 30) (gen := 30) only [txActivate, setDir_wf, setTx_wf, threeLanes_wf, modPort_wf, wf_mk, foldl_wf, State.Wf.claims, State.Wf.owner, State.Wf.origin]

theorem markLanes_wf (a0 a1 s) (h : State.Wf q s) : State.Wf q (markLanes a0 a1 s) := by grind only [markLanes, put_wf, wf_mk, foldl_wf, State.Wf.claims, State.Wf.owner, State.Wf.origin]

theorem applySpan_wf (a0 a1 a2 s) (h : State.Wf q s) : State.Wf q (applySpan a0 a1 a2 s) := by grind only [applySpan, modRing_wf, wf_mk, foldl_wf, State.Wf.claims, State.Wf.owner, State.Wf.origin]

theorem sendSpan_wf (a0 a1 s) (h : State.Wf q s) : State.Wf q (sendSpan a0 a1 s) := by grind only [sendSpan, modRing_wf, applySpan_wf, sendBlock_wf, wf_mk, foldl_wf, State.Wf.claims, State.Wf.owner, State.Wf.origin]

theorem rxActivate_wf (a0 a1 s) (h : State.Wf q s) : State.Wf q (rxActivate a0 a1 s) := by grind (splits := 30) (ematch := 30) (gen := 30) only [rxActivate, put_wf, setDir_wf, setRx_wf, modPort_wf, markLanes_wf, threeLanes_wf, setAlpha_wf, sendSpan_wf, wf_mk, foldl_wf, State.Wf.claims, State.Wf.owner, State.Wf.origin]

theorem portActivate_wf (a0 a1 s) (h : State.Wf q s) : State.Wf q (portActivate a0 a1 s) := by grind only [portActivate, rxActivate_wf, txActivate_wf, wf_mk, foldl_wf, State.Wf.claims, State.Wf.owner, State.Wf.origin]

theorem rxLeave_wf (a0 a1 s) (h : State.Wf q s) : State.Wf q (rxLeave a0 a1 s) := by
  unfold rxLeave
  repeat' split
  all_goals grind only [modPort_wf, setDir_wf, setRx_wf, put_wf, wf_mk, foldl_wf, State.Wf.claims, State.Wf.owner, State.Wf.origin]

theorem rxDown_wf (a0 a1 s) (h : State.Wf q s) : State.Wf q (rxDown a0 a1 s) := by grind only [rxDown, abandonTrial_wf, rxLeave_wf, bump_wf, setDir_wf, sendSpan_wf, raise_wf, wf_mk, foldl_wf, State.Wf.claims, State.Wf.owner, State.Wf.origin]

theorem txLeave_wf (a0 a1 s) (h : State.Wf q s) : State.Wf q (txLeave a0 a1 s) := by grind (splits := 30) (ematch := 30) (gen := 30) only [txLeave, modPort_wf, setDir_wf, setTx_wf, put_wf, outputDown_wf, abandonTrial_wf, wf_mk, foldl_wf, State.Wf.claims, State.Wf.owner, State.Wf.origin]

theorem portDetect_wf (a0 s) (h : State.Wf q s) : State.Wf q (portDetect a0 s) := by grind only [portDetect, txLeave_wf, rxLeave_wf, wf_mk, foldl_wf, State.Wf.claims, State.Wf.owner, State.Wf.origin]

theorem failLane_wf (a0 a1 a2 s) (h : State.Wf q s) : State.Wf q (failLane a0 a1 a2 s) := by grind only [failLane, selfTestFail_wf, abandonLane_wf, put_wf, wf_mk, foldl_wf, State.Wf.claims, State.Wf.owner, State.Wf.origin]

theorem syncCount_wf (a0 a1 s) (h : State.Wf q s) : State.Wf q (syncCount a0 a1 s) := by grind only [syncCount, modPort_wf, bump_wf, wf_mk, foldl_wf, State.Wf.claims, State.Wf.owner, State.Wf.origin]

theorem portsStart_wf (s) (h : State.Wf q s) : State.Wf q (portsStart s) := by grind only [portsStart, portDetect_wf, wf_mk, foldl_wf, State.Wf.claims, State.Wf.owner, State.Wf.origin]

theorem txDown_wf (a0 s) (h : State.Wf q s) : State.Wf q (txDown a0 s) := by grind only [txDown, modPort_wf, setDir_wf, txLeave_wf, wf_mk, foldl_wf, State.Wf.claims, State.Wf.owner, State.Wf.origin]

theorem portRestart_wf (a0 s) (h : State.Wf q s) : State.Wf q (portRestart a0 s) := by grind only [portRestart, portDetect_wf, wf_mk, foldl_wf, State.Wf.claims, State.Wf.owner, State.Wf.origin]

end Sys2Proof.Machine
end

