-- ==== Sys2Proof/Laws/FormModes.lean ====
section
/-! SUPPORT. Every operation of Machine/Modes.lean keeps the form of the state and leaves the queue alone (`State.Wf`). -/

namespace Sys2Proof.Machine

set_option linter.unusedVariables false
set_option maxRecDepth 2000

variable {q : List Instr}

theorem enterAnchored_wf (s) (h : State.Wf q s) : State.Wf q (enterAnchored s) := by
  refine dropStreams_wf _ _ ?_
  have h1 := setMode_node_wf .anchored s { (setMode .anchored s).node with owns := false, claim := false, toAnchored := false, waitB := false, keptOwn := false } h (fun e => nomatch e) (fun e => nomatch e) (fun e => nomatch e)
  exact { h1 with }

theorem enterWorking_wf (s) (h : State.Wf q s) : State.Wf q (enterWorking s) := by
  have h1 := clearCaptures_wf _ (setMode_wf .working s h (fun _ => rfl))
  have h2 := canStartAll_wf _ h1
  have m2 : (canStartAll (clearCaptures (setMode .working s))).node.mode = .working := by
    rw [canStartAll_node]
    exact setMode_mode _ _
  unfold enterWorking
  generalize canStartAll (clearCaptures (setMode .working s)) = u at h2 m2 ⊢
  exact wf_working u _ _ _ h2 m2

theorem enterSlipway_wf (s) (h : State.Wf q s) : State.Wf q (enterSlipway s) := by
  have h1 := wf_slip (q := q) (setMode .slipway s) s.ownLine (setMode_wf .slipway s h (fun _ => rfl)) (setMode_mode _ _)
  unfold enterSlipway
  dsimp only
  split
  · exact canStartAll_wf _ (clearCaptures_wf _ { h1 with })
  · exact h1

end Sys2Proof.Machine
end

