-- ==== Sys2Proof/Laws/FormCheck.lean ====
section
/-! SUPPORT. Every operation of Machine/Check.lean keeps the form of the state and leaves the queue alone (`State.Wf`). -/

namespace Sys2Proof.Machine

set_option linter.unusedVariables false
set_option maxRecDepth 2000

variable {q : List Instr}

theorem chkWaitFor_wf (a0 a1 s) (h : State.Wf q s) : State.Wf q (chkWaitFor a0 a1 s) := by grind only [chkWaitFor, bump_wf, setUnit_wf, wf_mk, foldl_wf, State.Wf.claims, State.Wf.owner, State.Wf.origin]

theorem chkFeed_wf (a0 a1 s) (h : State.Wf q s) : State.Wf q (chkFeed a0 a1 s) := by grind only [chkFeed, bump_wf, setUnit_wf, wf_mk, foldl_wf, State.Wf.claims, State.Wf.owner, State.Wf.origin]

theorem chkArrive_wf (a0 a1 a2 s) (h : State.Wf q s) : State.Wf q (chkArrive a0 a1 a2 s) := by grind only [chkArrive, chkWaitFor_wf, chkFeed_wf, wf_mk, foldl_wf, State.Wf.claims, State.Wf.owner, State.Wf.origin]

theorem execCheckFeed_wf (a0 a1 a2 a3 a4 s t) (h : State.Wf q s) (e : execCheckFeed a0 a1 a2 a3 a4 s = .next t) : State.Wf q t := by grind only [execCheckFeed, chkArrive_wf, wf_mk, foldl_wf, State.Wf.claims, State.Wf.owner, State.Wf.origin]

theorem chkControlWrite_wf (a0 a1 s t) (h : State.Wf q s) (e : chkControlWrite a0 a1 s = some t) : State.Wf q t := by grind only [chkControlWrite, setUnit_wf, wf_mk, foldl_wf, State.Wf.claims, State.Wf.owner, State.Wf.origin]

theorem execCheckUnitInit_wf (a0 s t) (h : State.Wf q s) (e : execCheckUnitInit a0 s = .next t) : State.Wf q t := by grind only [execCheckUnitInit, setUnit_wf, wf_mk, foldl_wf, State.Wf.claims, State.Wf.owner, State.Wf.origin]

theorem execCheckPolyChange_wf (a0 a1 s t) (h : State.Wf q s) (e : execCheckPolyChange a0 a1 s = .next t) : State.Wf q t := by grind only [execCheckPolyChange, setUnit_wf, wf_mk, foldl_wf, State.Wf.claims, State.Wf.owner, State.Wf.origin]

theorem execCheckResultWrite_wf (a0 a1 s t) (h : State.Wf q s) (e : execCheckResultWrite a0 a1 s = .next t) : State.Wf q t := by grind only [execCheckResultWrite, setUnit_wf, wf_mk, foldl_wf, State.Wf.claims, State.Wf.owner, State.Wf.origin]

theorem execCheckParityError_wf (a0 s t) (h : State.Wf q s) (e : execCheckParityError a0 s = .next t) : State.Wf q t := by grind only [execCheckParityError, draw_wf, raise_wf, bump_wf, setUnit_wf, wf_mk, foldl_wf, State.Wf.claims, State.Wf.owner, State.Wf.origin]

end Sys2Proof.Machine
end

