-- ==== Sys2Proof/Laws/FormBridgeBase.lean ====
section
/-! SUPPORT. Every operation of Machine/BridgeBase.lean keeps the form of the state and leaves the queue alone (`State.Wf`). -/

namespace Sys2Proof.Machine

set_option linter.unusedVariables false
set_option maxRecDepth 2000

variable {q : List Instr}

theorem sendLocal_wf (a0 s) (h : State.Wf q s) : State.Wf q (sendLocal a0 s).2 := by grind only [sendLocal, nextSeqOf_wf, enqueue_wf, wf_mk, foldl_wf, State.Wf.claims, State.Wf.owner, State.Wf.origin]

theorem storeRefusal_wf (a0 a1 a2 a3 s) (h : State.Wf q s) : State.Wf q (storeRefusal a0 a1 a2 a3 s) := by grind only [storeRefusal, bump_wf, sendLocal_wf, modBridge_wf, put_wf, wf_mk, foldl_wf, State.Wf.claims, State.Wf.owner, State.Wf.origin]

theorem sendResponse_wf (a0 s) (h : State.Wf q s) : State.Wf q (sendResponse a0 s) := by grind only [sendResponse, bump_wf, sendLocal_wf, modBridge_wf, wf_mk, foldl_wf, State.Wf.claims, State.Wf.owner, State.Wf.origin]

theorem answer_wf (a0 a1 a2 a3 a4 a5 a6 a7 s) (h : State.Wf q s) : State.Wf q (answer a0 a1 a2 a3 a4 a5 a6 a7 s) := by grind only [answer, sendResponse_wf, bump_wf, wf_mk, foldl_wf, State.Wf.claims, State.Wf.owner, State.Wf.origin]

theorem answerNo_wf (a0 a1 a2 a3 a4 a5 a6 s) (h : State.Wf q s) : State.Wf q (answerNo a0 a1 a2 a3 a4 a5 a6 s) := by grind only [answerNo, answer_wf, sendResponse_wf, wf_mk, foldl_wf, State.Wf.claims, State.Wf.owner, State.Wf.origin]

theorem refuseAs_wf (a0 a1 a2 a3 a4 s) (h : State.Wf q s) : State.Wf q (refuseAs a0 a1 a2 a3 a4 s) := by
  unfold refuseAs
  repeat' split
  all_goals first | exact h | skip
  all_goals dsimp only
  all_goals first | exact answerNo_wf _ _ _ _ _ _ _ _ (bump_wf _ _ h) | exact storeRefusal_wf _ _ _ _ _ (bump_wf _ _ h)

theorem refuseFrame_wf (a0 a1 a2 a3 s) (h : State.Wf q s) : State.Wf q (refuseFrame a0 a1 a2 a3 s) := by
  unfold refuseFrame
  repeat' split
  all_goals grind only [refuseAs_wf, wf_mk, foldl_wf, State.Wf.claims, State.Wf.owner, State.Wf.origin]

theorem responsesGo_wf (s) (h : State.Wf q s) : State.Wf q (responsesGo s) := by grind only [responsesGo, sendLocal_wf, modBridge_wf, wf_mk, foldl_wf, State.Wf.claims, State.Wf.owner, State.Wf.origin]

theorem execResponseRoomWaitEnd_wf (s t) (h : State.Wf q s) (e : execResponseRoomWaitEnd s = .next t) : State.Wf q t := by grind only [execResponseRoomWaitEnd, responsesGo_wf, wf_mk, foldl_wf, State.Wf.claims, State.Wf.owner, State.Wf.origin]

theorem tellCore_wf (a0 a1 a2 a3 s) (h : State.Wf q s) : State.Wf q (tellCore a0 a1 a2 a3 s) := by grind only [tellCore, modBridge_wf, wf_mk, foldl_wf, State.Wf.claims, State.Wf.owner, State.Wf.origin]

theorem xferLeft_wf (a0 s) (h : State.Wf q s) : State.Wf q (xferLeft a0 s) := by grind only [xferLeft, modBridge_wf, tellCore_wf, wf_mk, foldl_wf, State.Wf.claims, State.Wf.owner, State.Wf.origin]

theorem noteLeft_wf (a0 s) (h : State.Wf q s) : State.Wf q (noteLeft a0 s) := by grind only [noteLeft, bump_wf, modBridge_wf, xferLeft_wf, wf_mk, foldl_wf, State.Wf.claims, State.Wf.owner, State.Wf.origin]

theorem departJob_wf (a0 s) (h : State.Wf q s) : State.Wf q (departJob a0 s).2 := by grind only [departJob, takeJob_wf, noteLeft_wf, wf_mk, foldl_wf, State.Wf.claims, State.Wf.owner, State.Wf.origin]

theorem trySend_wf (a0 s t) (h : State.Wf q s) (e : trySend a0 s = some t) : State.Wf q t := by grind only [trySend, sendLocal_wf, modBridge_wf, wf_mk, foldl_wf, State.Wf.claims, State.Wf.owner, State.Wf.origin]

theorem sendOrWait_wf (a0 s) (h : State.Wf q s) : State.Wf q (sendOrWait a0 s) := by grind only [sendOrWait, trySend_wf, modBridge_wf, wf_mk, foldl_wf, State.Wf.claims, State.Wf.owner, State.Wf.origin]

theorem localFrame_wf (a0 s) (h : State.Wf q s) : State.Wf q (localFrame a0 s).2 := by grind only [localFrame, departJob_wf, bump_wf, wf_mk, foldl_wf, State.Wf.claims, State.Wf.owner, State.Wf.origin]

end Sys2Proof.Machine
end

