-- ==== Sys2Proof/Laws/FormFifo.lean ====
section
/-! SUPPORT. Every operation of Machine/Fifo.lean keeps the form of the state and leaves the queue alone (`State.Wf`). -/

namespace Sys2Proof.Machine

set_option linter.unusedVariables false
set_option maxRecDepth 2000

variable {q : List Instr}

theorem fifoCount_wf (a0 a1 a2 s) (h : State.Wf q s) : State.Wf q (fifoCount a0 a1 a2 s) := by grind only [fifoCount, addTo_wf, wf_mk, foldl_wf, State.Wf.claims, State.Wf.owner, State.Wf.origin]

theorem fifoEmpty_wf (a0 s) (h : State.Wf q s) : State.Wf q (fifoEmpty a0 s) := by grind only [fifoEmpty, fifoCount_wf, setFifo_wf, wf_mk, foldl_wf, State.Wf.claims, State.Wf.owner, State.Wf.origin]

theorem flushFifo_wf (a0 s) (h : State.Wf q s) : State.Wf q (flushFifo a0 s) := by grind only [flushFifo, fifoEmpty_wf, claimFifo_wf, wf_mk, foldl_wf, State.Wf.claims, State.Wf.owner, State.Wf.origin]

theorem dropBroken_wf (a0 s) (h : State.Wf q s) : State.Wf q (dropBroken a0 s) := by grind only [dropBroken, fifoCount_wf, setFifo_wf, wf_mk, foldl_wf, State.Wf.claims, State.Wf.owner, State.Wf.origin]

theorem fifoCorrected_wf (a0 s) (h : State.Wf q s) : State.Wf q (fifoCorrected a0 s) := by grind only [fifoCorrected, fifoCount_wf, setFifo_wf, raise_wf, wf_mk, foldl_wf, State.Wf.claims, State.Wf.owner, State.Wf.origin]

theorem fifoUncorrected_wf (a0 s) (h : State.Wf q s) : State.Wf q (fifoUncorrected a0 s) := by grind only [fifoUncorrected, raise_wf, fifoCount_wf, holdCriterion_wf, wf_mk, foldl_wf, State.Wf.claims, State.Wf.owner, State.Wf.origin]

theorem deliverWord_wf (a0 a1 a2 s) (h : State.Wf q s) : State.Wf q (deliverWord a0 a1 a2 s).2 := by
  unfold deliverWord
  dsimp only
  split
  · exact h
  · exact fifoCorrected_wf _ _ h
  · exact fifoUncorrected_wf _ _ h

theorem fifoPop_wf (a0 s) (h : State.Wf q s) : State.Wf q (fifoPop a0 s).2 := by grind only [fifoPop, deliverWord_wf, setFifo_wf, wf_mk, foldl_wf, State.Wf.claims, State.Wf.owner, State.Wf.origin]

theorem fifoPopN_wf (a0 a1 s) (h : State.Wf q s) : State.Wf q (fifoPopN a0 a1 s).2 := by
  induction a1 generalizing s with
  | zero => exact h
  | succ n ih =>
    unfold fifoPopN
    have h1 := fifoPop_wf a0 s h
    generalize fifoPop a0 s = r at h1
    exact ih _ h1

theorem fifoFramePop_wf (a0 s) (h : State.Wf q s) : State.Wf q (fifoFramePop a0 s).2 := by grind only [fifoFramePop, dropBroken_wf, fifoPopN_wf, wf_mk, foldl_wf, State.Wf.claims, State.Wf.owner, State.Wf.origin]

theorem checkBytes_wf (a0 a1 s) (h : State.Wf q s) : State.Wf q (checkBytes a0 a1 s).2 := by grind only [checkBytes, fifoCount_wf, wf_mk, foldl_wf, State.Wf.claims, State.Wf.owner, State.Wf.origin]

theorem diagNotice_wf (a0 s) (h : State.Wf q s) : State.Wf q (diagNotice a0 s) := by grind only [diagNotice, bump_wf, put_wf, wf_mk, foldl_wf, State.Wf.claims, State.Wf.owner, State.Wf.origin]

theorem packetNotice_wf (a0 s) (h : State.Wf q s) : State.Wf q (packetNotice a0 s) := by grind only [packetNotice, bump_wf, put_wf, wf_mk, foldl_wf, State.Wf.claims, State.Wf.owner, State.Wf.origin]

theorem storeWord_wf (a0 a1 s) (h : State.Wf q s) : State.Wf q (storeWord a0 a1 s) := by grind only [storeWord, setFifo_wf, diagNotice_wf, packetNotice_wf, wf_mk, foldl_wf, State.Wf.claims, State.Wf.owner, State.Wf.origin]

theorem setOpened_wf (a0 a1 s) (h : State.Wf q s) : State.Wf q (setOpened a0 a1 s) := by grind only [setOpened, setFifo_wf, wf_mk, foldl_wf, State.Wf.claims, State.Wf.owner, State.Wf.origin]

theorem fifoWrite_wf (a0 a1 s) (h : State.Wf q s) : State.Wf q (fifoWrite a0 a1 s) := by grind only [fifoWrite, checkBytes_wf, storeWord_wf, fifoCount_wf, setOpened_wf, wf_mk, foldl_wf, State.Wf.claims, State.Wf.owner, State.Wf.origin]

theorem losePending_wf (a0 s) (h : State.Wf q s) : State.Wf q (losePending a0 s) := by grind only [losePending, modBridge_wf, wf_mk, foldl_wf, State.Wf.claims, State.Wf.owner, State.Wf.origin]

theorem storeWords_wf (a0 a1 s) (h : State.Wf q s) : State.Wf q (storeWords a0 a1 s) := by grind only [storeWords, storeWord_wf, wf_mk, foldl_wf, State.Wf.claims, State.Wf.owner, State.Wf.origin]

theorem fifoCommit_wf (a0 a1 s) (h : State.Wf q s) : State.Wf q (fifoCommit a0 a1 s) := by grind only [fifoCommit, setFifo_wf, wf_mk, foldl_wf, State.Wf.claims, State.Wf.owner, State.Wf.origin]

theorem fifoSpecPop_wf (a0 s) (h : State.Wf q s) : State.Wf q (fifoSpecPop a0 s).2 := by grind only [fifoSpecPop, deliverWord_wf, setFifo_wf, wf_mk, foldl_wf, State.Wf.claims, State.Wf.owner, State.Wf.origin]

theorem execFifoParityError_wf (a0 s t) (h : State.Wf q s) (e : execFifoParityError a0 s = .next t) : State.Wf q t := by grind only [execFifoParityError, raise_wf, losePending_wf, fifoEmpty_wf, wf_mk, foldl_wf, State.Wf.claims, State.Wf.owner, State.Wf.origin]

theorem writePiece_wf (a0 a1 a2 s t) (h : State.Wf q s) (e : writePiece a0 a1 a2 s = some t) : State.Wf q t := by grind only [writePiece, storeWords_wf, setFifo_wf, wf_mk, foldl_wf, State.Wf.claims, State.Wf.owner, State.Wf.origin]

theorem clearFifo_wf (a0 s) (h : State.Wf q s) : State.Wf q (clearFifo a0 s) := by grind only [clearFifo, losePending_wf, setFifo_wf, wf_mk, foldl_wf, State.Wf.claims, State.Wf.owner, State.Wf.origin]

end Sys2Proof.Machine
end

