-- ==== Sys2Proof/Laws/FormManifestBase.lean ====
section
/-! SUPPORT. Every operation of Machine/ManifestBase.lean keeps the form of the state and leaves the queue alone (`State.Wf`). -/

namespace Sys2Proof.Machine

set_option linter.unusedVariables false
set_option maxRecDepth 2000

variable {q : List Instr}

theorem sendMsg_wf (a0 s) (h : State.Wf q s) : State.Wf q (sendMsg a0 s) := by grind only [sendMsg, bump_wf, sendOrWait_wf, wf_mk, foldl_wf, State.Wf.claims, State.Wf.owner, State.Wf.origin]

theorem offerMsg_wf (a0 a1 s) (h : State.Wf q s) : State.Wf q (offerMsg a0 a1 s) := by grind only [offerMsg, bump_wf, put_wf, sendMsg_wf, wf_mk, foldl_wf, State.Wf.claims, State.Wf.owner, State.Wf.origin]

theorem offerFrame_wf (a0 s) (h : State.Wf q s) : State.Wf q (offerFrame a0 s) := by grind only [offerFrame, fifoFramePop_wf, offerMsg_wf, wf_mk, foldl_wf, State.Wf.claims, State.Wf.owner, State.Wf.origin]

theorem touchWord_wf (a0 a1 a2 s) (h : State.Wf q s) : State.Wf q (touchWord a0 a1 a2 s) := by grind only [touchWord, dropStreams_wf, wf_mk, foldl_wf, State.Wf.claims, State.Wf.owner, State.Wf.origin]

theorem offerFrames_wf (a0 a1 s) (h : State.Wf q s) : State.Wf q (offerFrames a0 a1 s) := by
  induction a1 generalizing s with
  | zero => exact h
  | succ n ih => exact ih _ (offerFrame_wf _ _ h)

theorem manifestOffer_wf (a0 s) (h : State.Wf q s) : State.Wf q (manifestOffer a0 s) := by grind only [manifestOffer, claimFifo_wf, offerFrames_wf, wf_mk, foldl_wf, State.Wf.claims, State.Wf.owner, State.Wf.origin]

end Sys2Proof.Machine
end

