-- ==== Sys2Proof/Laws/FormSaveBase.lean ====
section
/-! SUPPORT. Every operation of Machine/SaveBase.lean keeps the form of the state and leaves the queue alone (`State.Wf`). -/

namespace Sys2Proof.Machine

set_option linter.unusedVariables false
set_option maxRecDepth 2000

variable {q : List Instr}

theorem configCommit_wf (s) (h : State.Wf q s) : State.Wf q (configCommit s) := by grind only [configCommit, put_wf, wf_mk, foldl_wf, State.Wf.claims, State.Wf.owner, State.Wf.origin]

end Sys2Proof.Machine
end

