-- ==== Sys2Proof/Laws/FormTally.lean ====
section
/-! SUPPORT. Every operation of Machine/Tally.lean keeps the form of the state and leaves the queue alone (`State.Wf`). -/

namespace Sys2Proof.Machine

set_option linter.unusedVariables false
set_option maxRecDepth 2000

variable {q : List Instr}

theorem setTallyWord_wf (a0 a1 s) (h : State.Wf q s) : State.Wf q (setTallyWord a0 a1 s) := by
  refine setTally_wf _ _ h ?_ ?_
  · dsimp only
    split
    · exact mapWf_mapSet _ _ _ _ h.words
    · exact h.words
  · dsimp only
    split
    · exact h.stage
    · exact mapWf_mapSet _ _ _ _ h.stage

theorem setTallyWords_wf (a0 a1 s) (h : State.Wf q s) : State.Wf q (setTallyWords a0 a1 s) := by grind only [setTallyWords, setTallyWord_wf, wf_mk, foldl_wf, State.Wf.claims, State.Wf.owner, State.Wf.origin]

theorem markChanged_wf (a0 s) (h : State.Wf q s) : State.Wf q (markChanged a0 s) := by grind only [markChanged, setCrane_wf, wf_mk, foldl_wf, State.Wf.claims, State.Wf.owner, State.Wf.origin]

theorem replaceProgram_wf (a0 s) (h : State.Wf q s) : State.Wf q (replaceProgram a0 s) := by grind only [replaceProgram, markChanged_wf, wf_mk, foldl_wf, State.Wf.claims, State.Wf.owner, State.Wf.origin]

theorem wearPage_wf (a0 a1 s) (h : State.Wf q s) : State.Wf q (wearPage a0 a1 s) := by
  unfold wearPage
  split
  · exact h
  · refine raise_wf _ _ _ _ (selfTestFail_wf _ _ (setTally_wf _ _ h ?_ ?_))
    · show mapWf 0 (if _ then _ else _ : TallyState).words
      split <;> exact h.words
    · show mapWf 0 (if _ then _ else _ : TallyState).stage
      split <;> exact h.stage

theorem noteTallyErr_wf (a0 a1 a2 s) (h : State.Wf q s) : State.Wf q (noteTallyErr a0 a1 a2 s) := by grind only [noteTallyErr, put_wf, wf_mk, foldl_wf, State.Wf.claims, State.Wf.owner, State.Wf.origin]

theorem tallyUncorrected_wf (a0 a1 s) (h : State.Wf q s) : State.Wf q (tallyUncorrected a0 a1 s) := by grind only [tallyUncorrected, wearPage_wf, bump_wf, noteTallyErr_wf, wf_mk, foldl_wf, State.Wf.claims, State.Wf.owner, State.Wf.origin]

theorem tallyUpset_wf (a0 a1 s) (h : State.Wf q s) : State.Wf q (tallyUpset a0 a1 s) := setTally_wf _ _ h h.words h.stage

theorem tallyCorrected_wf (a0 a1 s) (h : State.Wf q s) : State.Wf q (tallyCorrected a0 a1 s) := setTally_id (fun t => { t with inv := mapSet 0 t.inv a0 0 }) _ (bump_wf _ Obj.tallyCeCnt (noteTallyErr_wf a0 false a1 s h)) (fun _ => rfl) (fun _ => rfl)

theorem scrubRead_wf (a0 s) (h : State.Wf q s) : State.Wf q (scrubRead a0 s) := by
  unfold scrubRead
  split
  · exact h
  · dsimp only
    refine setTally_id _ _ ?_ (by intro _; rfl) (by intro _; rfl)
    have h1 : State.Wf q (tallyUpset s.tally.scrub a0 s) := tallyUpset_wf _ _ _ h
    generalize tallyUpset s.tally.scrub a0 s = u at h1
    generalize s.tally.scrub = k at *
    have h2 : ∀ v : State, v.Wf q → State.Wf q (if k = 1087 then v.bump Obj.scrubPassCnt else v) := by
      intro v hv
      split
      · exact bump_wf _ _ hv
      · exact hv
    apply h2
    split
    · exact setTally_id _ _ h1 (by intro _; rfl) (by intro _; rfl)
    · split
      · have h6 := fun r => setTally_id (fun t => { t with cePass := mapSet 0 t.cePass k r }) _ (tallyCorrected_wf k false u h1) (by intro _; rfl) (by intro _; rfl)
        split
        · exact wearPage_wf _ _ _ (h6 _)
        · exact h6 _
      · exact setTally_id _ _ (tallyUncorrected_wf k false _ (selfTestFail_wf _ _ h1)) (by intro _; rfl) (by intro _; rfl)

theorem stageReadWord_wf (a0 s) (h : State.Wf q s) : State.Wf q (stageReadWord a0 s).2 := by grind only [stageReadWord, draw_wf, wf_mk, foldl_wf, State.Wf.claims, State.Wf.owner, State.Wf.origin]

theorem stageReadWords_wf (a0 s) (h : State.Wf q s) : State.Wf q (stageReadWords a0 s).2 := by
  induction a0 generalizing s with
  | nil => exact h
  | cons o t ih => exact ih _ (stageReadWord_wf _ _ h)

theorem tallyResult_wf (a0 a1 s) (h : State.Wf q s) : State.Wf q (tallyResult a0 a1 s) := by grind only [tallyResult, put_wf, wf_mk, foldl_wf, State.Wf.claims, State.Wf.owner, State.Wf.origin]

theorem swapCancel_wf (s) (h : State.Wf q s) : State.Wf q (swapCancel s).1 := by
  unfold swapCancel
  split
  · exact h
  · exact put_wf _ _ _ (setTally_id (fun t => { t with swap := .idle }) _ h (fun _ => rfl) (fun _ => rfl))
  · exact setTally_id (fun t => { t with swap := .copying true }) _ h (fun _ => rfl) (fun _ => rfl)

theorem swapDone_wf (s) (h : State.Wf q s) : State.Wf q (swapDone s) := by
  unfold swapDone
  split
  · exact configCommit_wf _ (put_wf _ _ _ (setTally_wf _ _ h h.words h.stage))
  · exact h

theorem execSwapCopyComplete_wf (s t) (h : State.Wf q s) (e : execSwapCopyComplete s = .next t) : State.Wf q t := by grind only [execSwapCopyComplete, swapDone_wf, wf_mk, foldl_wf, State.Wf.claims, State.Wf.owner, State.Wf.origin]

theorem swapWord_wf (a0 a1 s) (h : State.Wf q s) : State.Wf q (swapWord a0 a1 s) := by grind only [swapWord, tallyUpset_wf, setTallyWord_wf, wf_mk, foldl_wf, State.Wf.claims, State.Wf.owner, State.Wf.origin]

theorem tallyReadWord_wf (a0 s) (h : State.Wf q s) : State.Wf q (tallyReadWord a0 s).2 := by
  unfold tallyReadWord
  split
  · exact h
  · exact tallyCorrected_wf _ _ _ h
  · exact tallyUncorrected_wf _ _ _ h

theorem tallyReadWords_wf (a0 a1 s) (h : State.Wf q s) : State.Wf q (tallyReadWords a0 a1 s).2 := by
  induction a0 generalizing a1 s with
  | zero => exact h
  | succ n ih =>
    unfold tallyReadWords
    split
    · exact h
    · have h1 := tallyReadWord_wf a1 s h
      generalize tallyReadWord a1 s = r at h1
      exact ih _ _ h1

theorem tallyReadData_wf (s) (h : State.Wf q s) : State.Wf q (tallyReadData s).2 := by grind only [tallyReadData, tallyReadWords_wf, wf_mk, foldl_wf, State.Wf.claims, State.Wf.owner, State.Wf.origin]

theorem swapRange_wf (a0 a1 s) (h : State.Wf q s) : State.Wf q (swapRange a0 a1 s) := by grind only [swapRange, put_wf, wf_mk, foldl_wf, State.Wf.claims, State.Wf.owner, State.Wf.origin]

theorem swapIn_wf (a0 s) (h : State.Wf q s) : State.Wf q (swapIn a0 s) := by grind only [swapIn, bump_wf, put_wf, setCrane_wf, wf_mk, foldl_wf, State.Wf.claims, State.Wf.owner, State.Wf.origin]

theorem swapTake_wf (a0 s) (h : State.Wf q s) : State.Wf q (swapTake a0 s) := by
  unfold swapTake
  extract_lets s1 s2 s3
  have h1 : s1.Wf q := foldl_wf _ (fun _ _ h => swapWord_wf _ _ _ h) _ _ h
  have h2 : s2.Wf q := by
    refine foldl_wf _ (fun t g ht => ?_) _ _ h1
    grind [swapRange_wf, swapIn_wf, markChanged_wf]
  have h3 : s3.Wf q := setTally_wf _ _ h2 h2.words h2.stage
  exact put_wf _ _ _ (bump_wf _ _ h3)

theorem swapBoundary_wf (s) (h : State.Wf q s) : State.Wf q (swapBoundary s) := by
  unfold swapBoundary
  split
  · split
    · exact put_wf _ _ _ (tallyResult_wf _ _ _ (setTally_wf _ _ h h.words h.stage))
    · exact swapTake_wf _ _ h
  · exact h

theorem swapArm_wf (s) (h : State.Wf q s) : State.Wf q (swapArm s).1 := by
  unfold swapArm
  split
  · exact tallyResult_wf _ _ _ h
  · dsimp only
    split
    · exact put_wf _ _ _ (tallyResult_wf _ _ _ h)
    · exact put_wf _ _ _ (setTally_wf _ _ h h.words h.stage)

theorem execScrubRead_wf (a0 s t) (h : State.Wf q s) (e : execScrubRead a0 s = .next t) : State.Wf q t := by grind only [execScrubRead, scrubRead_wf, wf_mk, foldl_wf, State.Wf.claims, State.Wf.owner, State.Wf.origin]

theorem stageReadData_wf (s) (h : State.Wf q s) : State.Wf q (stageReadData s).2 := by grind only [stageReadData, stageReadWords_wf, wf_mk, foldl_wf, State.Wf.claims, State.Wf.owner, State.Wf.origin]

theorem tallyLoad_wf (a0 s) (h : State.Wf q s) : State.Wf q (tallyLoad a0 s).1 := by
  unfold tallyLoad
  dsimp only
  repeat' split
  all_goals grind only [tallyResult_wf, setTallyWords_wf, markChanged_wf, putBlob_wf, wf_mk, foldl_wf, State.Wf.claims, State.Wf.owner, State.Wf.origin]

theorem stageLoad_wf (a0 s) (h : State.Wf q s) : State.Wf q (stageLoad a0 s).1 := by grind only [stageLoad, tallyResult_wf, putBlob_wf, setTallyWords_wf, wf_mk, foldl_wf, State.Wf.claims, State.Wf.owner, State.Wf.origin]

end Sys2Proof.Machine
end

