-- ==== Sys2Proof/Laws/FormCrane.lean ====
section
/-! SUPPORT. Every operation of Machine/Crane.lean keeps the form of the state and leaves the queue alone (`State.Wf`). -/

namespace Sys2Proof.Machine

set_option linter.unusedVariables false
set_option maxRecDepth 2000

variable {q : List Instr}

theorem pullWord_wf (a0 a1 s) (h : State.Wf q s) : State.Wf q (pullWord a0 a1 s).2 := by
  induction a1 generalizing s with
  | zero => exact h
  | succ n ih =>
    unfold pullWord
    split
    · exact h
    · dsimp only
      split
      · exact ih _ (bump_wf _ _ (fifoPop_wf _ _ h))
      · exact fifoPop_wf _ _ h

theorem modCrane_wf (a0 a1 s) (h : State.Wf q s) : State.Wf q (modCrane a0 a1 s) := by grind only [modCrane, setCrane_wf, wf_mk, foldl_wf, State.Wf.claims, State.Wf.owner, State.Wf.origin]

theorem finishAt_wf (a0 a1 a2 s) (h : State.Wf q s) : State.Wf q (finishAt a0 a1 a2 s) := by grind only [finishAt, modCrane_wf, wf_mk, foldl_wf, State.Wf.claims, State.Wf.owner, State.Wf.origin]

theorem finish_wf (a0 a1 s) (h : State.Wf q s) : State.Wf q (finish a0 a1 s) := by grind only [finish, finishAt_wf, wf_mk, foldl_wf, State.Wf.claims, State.Wf.owner, State.Wf.origin]

theorem takeWord_wf (a0 a1 s) (h : State.Wf q s) : State.Wf q (takeWord a0 a1 s) := by grind only [takeWord, modCrane_wf, wf_mk, foldl_wf, State.Wf.claims, State.Wf.owner, State.Wf.origin]

theorem stall_wf (a0 a1 s) (h : State.Wf q s) : State.Wf q (stall a0 a1 s) := by grind only [stall, modCrane_wf, wf_mk, foldl_wf, State.Wf.claims, State.Wf.owner, State.Wf.origin]

theorem beginPull_wf (a0 a1 s) (h : State.Wf q s) : State.Wf q (beginPull a0 a1 s) := by grind only [beginPull, pullWord_wf, finish_wf, takeWord_wf, stall_wf, bump_wf, modCrane_wf, wf_mk, foldl_wf, State.Wf.claims, State.Wf.owner, State.Wf.origin]

theorem execInstructionDelayEnd_wf (a0 s t) (h : State.Wf q s) (e : execInstructionDelayEnd a0 s = .next t) : State.Wf q t := by grind only [execInstructionDelayEnd, setCrane_wf, wf_mk, foldl_wf, State.Wf.claims, State.Wf.owner, State.Wf.origin]

theorem craneNotice_wf (a0 s) (h : State.Wf q s) : State.Wf q (craneNotice a0 s) := by grind only [craneNotice, bump_wf, wf_mk, foldl_wf, State.Wf.claims, State.Wf.owner, State.Wf.origin]

theorem consumeSir_wf (a0 a1 s) (h : State.Wf q s) : State.Wf q (consumeSir a0 a1 s) := by grind only [consumeSir, modCrane_wf, wf_mk, foldl_wf, State.Wf.claims, State.Wf.owner, State.Wf.origin]

theorem beginShift_wf (a0 s) (h : State.Wf q s) : State.Wf q (beginShift a0 s) := by grind only [beginShift, modCrane_wf, wf_mk, foldl_wf, State.Wf.claims, State.Wf.owner, State.Wf.origin]

theorem inPhase_wf (g p f s) (h : State.Wf q s) (hf : ∀ a (s : State), s.Wf q → (f a s).Wf q) : State.Wf q (inPhase g p f s) := by
  unfold inPhase
  split
  · exact hf _ _ h
  · exact h

theorem stampTry_wf (a0 a1 s t) (h : State.Wf q s) (e : stampTry a0 a1 s = some t) : State.Wf q t := by grind only [stampTry, setFifo_wf, storeWords_wf, fifoWrite_wf, wf_mk, foldl_wf, State.Wf.claims, State.Wf.owner, State.Wf.origin]

theorem afterPush_wf (a0 s) (h : State.Wf q s) : State.Wf q (afterPush a0 s) := by grind only [afterPush, manifestOffer_wf, wf_mk, foldl_wf, State.Wf.claims, State.Wf.owner, State.Wf.origin]

theorem resumeStamp_wf (a0 a1 s) (h : State.Wf q s) : State.Wf q (resumeStamp a0 a1 s) := by grind only [resumeStamp, stampTry_wf, finish_wf, afterPush_wf, wf_mk, foldl_wf, State.Wf.claims, State.Wf.owner, State.Wf.origin]

theorem pushTry_wf (a0 a1 s t) (h : State.Wf q s) (e : pushTry a0 a1 s = some t) : State.Wf q t := by grind only [pushTry, writePiece_wf, fifoWrite_wf, wf_mk, foldl_wf, State.Wf.claims, State.Wf.owner, State.Wf.origin]

theorem resumePush_wf (a0 a1 s) (h : State.Wf q s) : State.Wf q (resumePush a0 a1 s) := by grind only [resumePush, pushTry_wf, finish_wf, afterPush_wf, consumeSir_wf, wf_mk, foldl_wf, State.Wf.claims, State.Wf.owner, State.Wf.origin]

theorem execPushRoomWake_wf (a0 s t) (h : State.Wf q s) (e : execPushRoomWake a0 s = .next t) : State.Wf q t := by grind only [execPushRoomWake, inPhase_wf, resumeStamp_wf, resumePush_wf, wf_mk, foldl_wf, State.Wf.claims, State.Wf.owner, State.Wf.origin]

theorem setFlag_wf (a0 a1 a2 s) (h : State.Wf q s) : State.Wf q (setFlag a0 a1 a2 s) := by grind only [setFlag, wf_mk, foldl_wf, State.Wf.claims, State.Wf.owner, State.Wf.origin]

theorem beginSync_wf (a0 a1 s) (h : State.Wf q s) : State.Wf q (beginSync a0 a1 s) := by grind only [beginSync, finish_wf, modCrane_wf, stall_wf, wf_mk, foldl_wf, State.Wf.claims, State.Wf.owner, State.Wf.origin]

theorem chkFeeds_wf (a0 a1 s) (h : State.Wf q s) : State.Wf q (chkFeeds a0 a1 s) := by grind only [chkFeeds, finish_wf, chkFeed_wf, wf_mk, foldl_wf, State.Wf.claims, State.Wf.owner, State.Wf.origin]

theorem craneFault_wf (a0 a1 s) (h : State.Wf q s) : State.Wf q (craneFault a0 a1 s) := by grind only [craneFault, modCrane_wf, put_wf, holdCriterion_wf, raise_wf, wf_mk, foldl_wf, State.Wf.claims, State.Wf.owner, State.Wf.origin]

theorem claimClock_wf (a0 a1 s) (h : State.Wf q s) : State.Wf q (claimClock a0 a1 s) := by grind only [claimClock, modCrane_wf, wf_mk, foldl_wf, State.Wf.claims, State.Wf.owner, State.Wf.origin]

theorem setSides_wf (a0 a1 a2 s) (h : State.Wf q s) : State.Wf q (setSides a0 a1 a2 s) := by grind only [setSides, setLevel_wf, wf_mk, foldl_wf, State.Wf.claims, State.Wf.owner, State.Wf.origin]

theorem applySides_wf (a0 a1 s) (h : State.Wf q s) : State.Wf q (applySides a0 a1 s) := by grind only [applySides, claimClock_wf, setSides_wf, wf_mk, foldl_wf, State.Wf.claims, State.Wf.owner, State.Wf.origin]

theorem withInstr_wf (g named f s) (h : State.Wf q s) (hf : ∀ a (s : State), s.Wf q → (f a s).Wf q) : State.Wf q (withInstr g named f s) := by
  unfold withInstr
  split
  · exact h
  · split
    · exact craneFault_wf _ _ _ h
    · extract_lets a w s1
      have h1 : s1.Wf q := tallyCorrected_wf _ _ _ h
      split
      · split
        · split
          · exact craneFault_wf _ _ _ h
          · exact h
        · split
          · exact hf _ _ (applySides_wf _ _ _ h)
          · exact h
      · split
        · split
          · exact craneFault_wf _ _ _ h1
          · exact h
        · split
          · exact hf _ _ (applySides_wf _ _ _ h1)
          · exact h
      · exact craneFault_wf _ _ _ (tallyUncorrected_wf _ _ _ h)

theorem beginChk_wf (a0 a1 a2 s) (h : State.Wf q s) : State.Wf q (beginChk a0 a1 a2 s) := by grind only [beginChk, chkWaitFor_wf, stall_wf, chkFeeds_wf, wf_mk, foldl_wf, State.Wf.claims, State.Wf.owner, State.Wf.origin]

theorem chkServe_wf (a0 s) (h : State.Wf q s) : State.Wf q (chkServe a0 s) := by grind only [chkServe, setUnit_wf, chkFeeds_wf, chkFeed_wf, wf_mk, foldl_wf, State.Wf.claims, State.Wf.owner, State.Wf.origin]

theorem execChkUnitWake_wf (a0 s t) (h : State.Wf q s) (e : execChkUnitWake a0 s = .next t) : State.Wf q t := by grind only [execChkUnitWake, chkServe_wf, wf_mk, foldl_wf, State.Wf.claims, State.Wf.owner, State.Wf.origin]

theorem setOuts_wf (a0 a1 s) (h : State.Wf q s) : State.Wf q (setOuts a0 a1 s) := by grind only [setOuts, setLevel_wf, wf_mk, foldl_wf, State.Wf.claims, State.Wf.owner, State.Wf.origin]

theorem movWrite_wf (a0 a1 a2 s) (h : State.Wf q s) : State.Wf q (movWrite a0 a1 a2 s) := by
  unfold movWrite
  repeat' split
  all_goals grind only [modCrane_wf, setOuts_wf, setSides_wf, setUserWord_wf, touchWord_wf, wf_mk, foldl_wf, State.Wf.claims, State.Wf.owner, State.Wf.origin]

theorem movEffect_wf (g w f s0 s) (h0 : State.Wf q s0) (h : State.Wf q s) : State.Wf q (movEffect g w f s0 s) := by grind only [movEffect, craneFault_wf, finish_wf, movWrite_wf, wf_mk, foldl_wf, State.Wf.claims, State.Wf.owner, State.Wf.origin]

theorem execCraneMov_wf (a0 a1 s t) (h : State.Wf q s) (e : execCraneMov a0 a1 s = .next t) : State.Wf q t := by
  cases e
  exact withInstr_wf _ _ _ _ h (fun _ _ ht => movEffect_wf _ _ _ _ _ h ht)

theorem frameCheck_wf (a0 s) (h : State.Wf q s) : State.Wf q (frameCheck a0 s) := by grind only [frameCheck, modCrane_wf, bump_wf, wf_mk, foldl_wf, State.Wf.claims, State.Wf.owner, State.Wf.origin]

theorem execSigFlagClear_wf (a0 a1 s t) (h : State.Wf q s) (e : execSigFlagClear a0 a1 s = .next t) : State.Wf q t := by grind only [execSigFlagClear, withInstr_wf, finish_wf, setFlag_wf, wf_mk, foldl_wf, State.Wf.claims, State.Wf.owner, State.Wf.origin]

theorem execCraneShout_wf (a0 s t) (h : State.Wf q s) (e : execCraneShout a0 s = .next t) : State.Wf q t := by grind only [execCraneShout, withInstr_wf, beginShift_wf, wf_mk, foldl_wf, State.Wf.claims, State.Wf.owner, State.Wf.origin]

theorem decLc_wf (a0 s) (h : State.Wf q s) : State.Wf q (decLc a0 s) := by grind only [decLc, modCrane_wf, wf_mk, foldl_wf, State.Wf.claims, State.Wf.owner, State.Wf.origin]

theorem setClock_wf (a0 a1 a2 s) (h : State.Wf q s) : State.Wf q (setClock a0 a1 a2 s) := by grind only [setClock, setLevel_wf, wf_mk, foldl_wf, State.Wf.claims, State.Wf.owner, State.Wf.origin]

theorem trailStrobe_wf (a0 a1 a2 a3 s) (h : State.Wf q s) : State.Wf q (trailStrobe a0 a1 a2 a3 s) := by grind only [trailStrobe, setClock_wf, modCrane_wf, wf_mk, foldl_wf, State.Wf.claims, State.Wf.owner, State.Wf.origin]

theorem haltLate_wf (a0 s) (h : State.Wf q s) : State.Wf q (haltLate a0 s) := by grind only [haltLate, modCrane_wf, bump_wf, put_wf, wf_mk, foldl_wf, State.Wf.claims, State.Wf.owner, State.Wf.origin]

theorem execCheckAccessWaitEnd_wf (a0 s t) (h : State.Wf q s) (e : execCheckAccessWaitEnd a0 s = .next t) : State.Wf q t := by grind only [execCheckAccessWaitEnd, chkServe_wf, wf_mk, foldl_wf, State.Wf.claims, State.Wf.owner, State.Wf.origin]

theorem execCraneSync_wf (a0 s t) (h : State.Wf q s) (e : execCraneSync a0 s = .next t) : State.Wf q t := by grind only [execCraneSync, withInstr_wf, beginSync_wf, wf_mk, foldl_wf, State.Wf.claims, State.Wf.owner, State.Wf.origin]

theorem setIrq_wf (a0 a1 s) (h : State.Wf q s) : State.Wf q (setIrq a0 a1 s) := by grind only [setIrq, wf_mk, foldl_wf, State.Wf.claims, State.Wf.owner, State.Wf.origin]

theorem execSigIrq_wf (a0 s t) (h : State.Wf q s) (e : execSigIrq a0 s = .next t) : State.Wf q t := by grind only [execSigIrq, withInstr_wf, finish_wf, setIrq_wf, wf_mk, foldl_wf, State.Wf.claims, State.Wf.owner, State.Wf.origin]

theorem resumePull_wf (a0 a1 s) (h : State.Wf q s) : State.Wf q (resumePull a0 a1 s) := by grind only [resumePull, pullWord_wf, finish_wf, takeWord_wf, wf_mk, foldl_wf, State.Wf.claims, State.Wf.owner, State.Wf.origin]

theorem leadStrobe_wf (a0 a1 a2 s) (h : State.Wf q s) : State.Wf q (leadStrobe a0 a1 a2 s) := by grind only [leadStrobe, setLevel_wf, modCrane_wf, setClock_wf, wf_mk, foldl_wf, State.Wf.claims, State.Wf.owner, State.Wf.origin]

theorem execSigFlagSet_wf (a0 s t) (h : State.Wf q s) (e : execSigFlagSet a0 s = .next t) : State.Wf q t := by grind only [execSigFlagSet, withInstr_wf, finish_wf, setFlag_wf, wf_mk, foldl_wf, State.Wf.claims, State.Wf.owner, State.Wf.origin]

theorem beginStamp_wf (a0 a1 s) (h : State.Wf q s) : State.Wf q (beginStamp a0 a1 s) := by grind only [beginStamp, stampTry_wf, finish_wf, afterPush_wf, stall_wf, bump_wf, wf_mk, foldl_wf, State.Wf.claims, State.Wf.owner, State.Wf.origin]

theorem execCraneStamp_wf (a0 s t) (h : State.Wf q s) (e : execCraneStamp a0 s = .next t) : State.Wf q t := by grind only [execCraneStamp, withInstr_wf, beginStamp_wf, wf_mk, foldl_wf, State.Wf.claims, State.Wf.owner, State.Wf.origin]

theorem restartDivider_wf (a0 s) (h : State.Wf q s) : State.Wf q (restartDivider a0 s) := by grind only [restartDivider, modCrane_wf, wf_mk, foldl_wf, State.Wf.claims, State.Wf.owner, State.Wf.origin]

theorem wakeWait_wf (a0 a1 s) (h : State.Wf q s) : State.Wf q (wakeWait a0 a1 s) := by grind only [wakeWait, modCrane_wf, finish_wf, restartDivider_wf, wf_mk, foldl_wf, State.Wf.claims, State.Wf.owner, State.Wf.origin]

theorem execWaitWake_wf (a0 a1 a2 s t) (h : State.Wf q s) (e : execWaitWake a0 a1 a2 s = .next t) : State.Wf q t := by grind only [execWaitWake, inPhase_wf, wakeWait_wf, wf_mk, foldl_wf, State.Wf.claims, State.Wf.owner, State.Wf.origin]

theorem setTarget_wf (a0 a1 s) (h : State.Wf q s) : State.Wf q (setTarget a0 a1 s) := by grind only [setTarget, setOuts_wf, setDrive_wf, setSides_wf, modCrane_wf, wf_mk, foldl_wf, State.Wf.claims, State.Wf.owner, State.Wf.origin]

theorem execCraneSet_wf (a0 s t) (h : State.Wf q s) (e : execCraneSet a0 s = .next t) : State.Wf q t := by grind only [execCraneSet, withInstr_wf, finish_wf, setTarget_wf, wf_mk, foldl_wf, State.Wf.claims, State.Wf.owner, State.Wf.origin]

theorem execCraneWait_wf (a0 s t) (h : State.Wf q s) (e : execCraneWait a0 s = .next t) : State.Wf q t := by grind only [execCraneWait, withInstr_wf, stall_wf, wf_mk, foldl_wf, State.Wf.claims, State.Wf.owner, State.Wf.origin]

theorem bitPeriod_wf (a0 a1 a2 a3 s) (h : State.Wf q s) : State.Wf q (bitPeriod a0 a1 a2 a3 s) := by grind only [bitPeriod, leadStrobe_wf, trailStrobe_wf, wf_mk, foldl_wf, State.Wf.claims, State.Wf.owner, State.Wf.origin]

theorem endShift_wf (a0 a1 a2 s) (h : State.Wf q s) : State.Wf q (endShift a0 a1 a2 s) := by grind only [endShift, setClock_wf, modCrane_wf, frameCheck_wf, haltLate_wf, finish_wf, wf_mk, foldl_wf, State.Wf.claims, State.Wf.owner, State.Wf.origin]

theorem shiftStrobes_wf (a0 a1 a2 a3 a4 s) (h : State.Wf q s) : State.Wf q (shiftStrobes a0 a1 a2 a3 a4 s) := by grind only [shiftStrobes, bitPeriod_wf, endShift_wf, leadStrobe_wf, wf_mk, foldl_wf, State.Wf.claims, State.Wf.owner, State.Wf.origin]

theorem execShiftEnd_wf (a0 a1 a2 a3 s t) (h : State.Wf q s) (e : execShiftEnd a0 a1 a2 a3 s = .next t) : State.Wf q t := by grind only [execShiftEnd, inPhase_wf, shiftStrobes_wf, wf_mk, foldl_wf, State.Wf.claims, State.Wf.owner, State.Wf.origin]

theorem execSigNote_wf (a0 s t) (h : State.Wf q s) (e : execSigNote a0 s = .next t) : State.Wf q t := by grind only [execSigNote, withInstr_wf, finish_wf, craneNotice_wf, wf_mk, foldl_wf, State.Wf.claims, State.Wf.owner, State.Wf.origin]

theorem settleCauseNine_wf (s) (h : State.Wf q s) : State.Wf q (settleCauseNine s) := by grind only [settleCauseNine, dropCriterion_wf, wf_mk, foldl_wf, State.Wf.claims, State.Wf.owner, State.Wf.origin]

theorem execCraneShin_wf (a0 s t) (h : State.Wf q s) (e : execCraneShin a0 s = .next t) : State.Wf q t := by grind only [execCraneShin, withInstr_wf, beginShift_wf, wf_mk, foldl_wf, State.Wf.claims, State.Wf.owner, State.Wf.origin]

theorem beginPush_wf (a0 a1 s) (h : State.Wf q s) : State.Wf q (beginPush a0 a1 s) := by grind only [beginPush, pushTry_wf, finish_wf, afterPush_wf, consumeSir_wf, stall_wf, bump_wf, wf_mk, foldl_wf, State.Wf.claims, State.Wf.owner, State.Wf.origin]

theorem execCranePush_wf (a0 s t) (h : State.Wf q s) (e : execCranePush a0 s = .next t) : State.Wf q t := by grind only [execCranePush, withInstr_wf, beginPush_wf, wf_mk, foldl_wf, State.Wf.claims, State.Wf.owner, State.Wf.origin]

theorem execCranePull_wf (a0 s t) (h : State.Wf q s) (e : execCranePull a0 s = .next t) : State.Wf q t := by grind only [execCranePull, withInstr_wf, beginPull_wf, wf_mk, foldl_wf, State.Wf.claims, State.Wf.owner, State.Wf.origin]

theorem execPullWordWake_wf (a0 s t) (h : State.Wf q s) (e : execPullWordWake a0 s = .next t) : State.Wf q t := by grind only [execPullWordWake, inPhase_wf, resumePull_wf, wf_mk, foldl_wf, State.Wf.claims, State.Wf.owner, State.Wf.origin]

theorem execTallyFetchError_wf (a0 a1 s t) (h : State.Wf q s) (e : execTallyFetchError a0 a1 s = .next t) : State.Wf q t := by
  cases e
  split
  · dsimp only
    have h1 := tallyUpset_wf (s.get (Obj.tallyBase a0.val) + (s.crane a0.val).pc) a1.toNat s h
    split
    · exact h1
    · exact tallyCorrected_wf _ _ _ h1
    · exact craneFault_wf _ _ _ (tallyUncorrected_wf _ _ _ h1)
  · exact h

theorem syncRelease_wf (a0 s) (h : State.Wf q s) : State.Wf q (syncRelease a0 s) := by grind only [syncRelease, finish_wf, wf_mk, foldl_wf, State.Wf.claims, State.Wf.owner, State.Wf.origin]

theorem execSyncRelease_wf (a0 s t) (h : State.Wf q s) (e : execSyncRelease a0 s = .next t) : State.Wf q t := by grind only [execSyncRelease, syncRelease_wf, wf_mk, foldl_wf, State.Wf.claims, State.Wf.owner, State.Wf.origin]

theorem execCraneJmp_wf (a0 s t) (h : State.Wf q s) (e : execCraneJmp a0 s = .next t) : State.Wf q t := by grind only [execCraneJmp, withInstr_wf, finishAt_wf, wf_mk, foldl_wf, State.Wf.claims, State.Wf.owner, State.Wf.origin]

theorem execCraneChk_wf (a0 a1 s t) (h : State.Wf q s) (e : execCraneChk a0 a1 s = .next t) : State.Wf q t := by grind only [execCraneChk, withInstr_wf, beginChk_wf, wf_mk, foldl_wf, State.Wf.claims, State.Wf.owner, State.Wf.origin]

theorem execCraneLoop_wf (a0 s t) (h : State.Wf q s) (e : execCraneLoop a0 s = .next t) : State.Wf q t := by grind only [execCraneLoop, withInstr_wf, decLc_wf, finishAt_wf, wf_mk, foldl_wf, State.Wf.claims, State.Wf.owner, State.Wf.origin]

end Sys2Proof.Machine
end

