-- ==== Sys2Proof/Laws/FormQuay.lean ====
section
/-! SUPPORT. Every operation of Machine/Quay.lean keeps the form of the state and leaves the queue alone (`State.Wf`). -/

namespace Sys2Proof.Machine

set_option linter.unusedVariables false
set_option maxRecDepth 2000

variable {q : List Instr}

theorem startCrane_wf (a0 s) (h : State.Wf q s) : State.Wf q (startCrane a0 s) := by grind only [startCrane, settleCauseNine_wf, modCrane_wf, wf_mk, foldl_wf, State.Wf.claims, State.Wf.owner, State.Wf.origin]

theorem gangStart_wf (a0 s) (h : State.Wf q s) : State.Wf q (gangStart a0 s).1 := by grind only [gangStart, put_wf, startCrane_wf, modCrane_wf, wf_mk, foldl_wf, State.Wf.claims, State.Wf.owner, State.Wf.origin]

theorem writeGangStart_wf (a0 s) (h : State.Wf q s) : State.Wf q (writeGangStart a0 s).1 := by grind only [writeGangStart, gangStart_wf, put_wf, wf_mk, foldl_wf, State.Wf.claims, State.Wf.owner, State.Wf.origin]

theorem resizeFifos_wf (a0 s) (h : State.Wf q s) : State.Wf q (resizeFifos a0 s) := by grind only [resizeFifos, flushFifo_wf, wf_mk, foldl_wf, State.Wf.claims, State.Wf.owner, State.Wf.origin]

theorem applyStaged_wf (a0 s) (h : State.Wf q s) : State.Wf q (applyStaged a0 s) := by grind only [applyStaged, put_wf, resizeFifos_wf, markChanged_wf, wf_mk, foldl_wf, State.Wf.claims, State.Wf.owner, State.Wf.origin]

theorem haltOne_wf (a0 s) (h : State.Wf q s) : State.Wf q (haltOne a0 s) := by grind only [haltOne, modCrane_wf, haltCrane_wf, wf_mk, foldl_wf, State.Wf.claims, State.Wf.owner, State.Wf.origin]

theorem cmdHalt_wf (a0 s) (h : State.Wf q s) : State.Wf q (cmdHalt a0 s).1 := by grind only [cmdHalt, haltOne_wf, put_wf, wf_mk, foldl_wf, State.Wf.claims, State.Wf.owner, State.Wf.origin]

theorem writeQuayFlags_wf (a0 a1 s) (h : State.Wf q s) : State.Wf q (writeQuayFlags a0 a1 s).1 := by grind only [writeQuayFlags, wf_mk, foldl_wf, State.Wf.claims, State.Wf.owner, State.Wf.origin]

theorem writeGangHalt_wf (a0 s) (h : State.Wf q s) : State.Wf q (writeGangHalt a0 s).1 := by grind only [writeGangHalt, put_wf, haltOne_wf, wf_mk, foldl_wf, State.Wf.claims, State.Wf.owner, State.Wf.origin]

theorem autostart_wf (a0 s) (h : State.Wf q s) : State.Wf q (autostart a0 s) := by grind only [autostart, startCrane_wf, wf_mk, foldl_wf, State.Wf.claims, State.Wf.owner, State.Wf.origin]

theorem cmdRestart_wf (a0 s) (h : State.Wf q s) : State.Wf q (cmdRestart a0 s).1 := by grind only [cmdRestart, bump_wf, modCrane_wf, put_wf, settleCauseNine_wf, wf_mk, foldl_wf, State.Wf.claims, State.Wf.owner, State.Wf.origin]

theorem pendingGangs_wf (s) (h : State.Wf q s) : State.Wf q (pendingGangs s) := by grind only [pendingGangs, modCrane_wf, put_wf, startCrane_wf, restartDivider_wf, wf_mk, foldl_wf, State.Wf.claims, State.Wf.owner, State.Wf.origin]

theorem writeClockRestart_wf (a0 s) (h : State.Wf q s) : State.Wf q (writeClockRestart a0 s).1 := by grind only [writeClockRestart, put_wf, restartDivider_wf, modCrane_wf, wf_mk, foldl_wf, State.Wf.claims, State.Wf.owner, State.Wf.origin]

theorem clearQuayIrq_wf (a0 a1 s) (h : State.Wf q s) : State.Wf q (clearQuayIrq a0 a1 s).1 := by grind only [clearQuayIrq, wf_mk, foldl_wf, State.Wf.claims, State.Wf.owner, State.Wf.origin]

theorem quayCommit_wf (a0 s) (h : State.Wf q s) : State.Wf q (quayCommit a0 s).1 := by grind only [quayCommit, tallyResult_wf, put_wf, configCommit_wf, wf_mk, foldl_wf, State.Wf.claims, State.Wf.owner, State.Wf.origin]

theorem imageOrInput_wf (a0 s) (h : State.Wf q s) : State.Wf q (imageOrInput a0 s) := by grind only [imageOrInput, setPin_wf, setDrive_wf, wf_mk, foldl_wf, State.Wf.claims, State.Wf.owner, State.Wf.origin]

theorem quayApply_wf (a0 s) (h : State.Wf q s) : State.Wf q (quayApply a0 s) := by grind only [quayApply, applyStaged_wf, imageOrInput_wf, put_wf, wf_mk, foldl_wf, State.Wf.claims, State.Wf.owner, State.Wf.origin]

theorem applyPinInit_wf (a0 s) (h : State.Wf q s) : State.Wf q (applyPinInit a0 s) := by grind only [applyPinInit, setPin_wf, wf_mk, foldl_wf, State.Wf.claims, State.Wf.owner, State.Wf.origin]

theorem cmdStart_wf (a0 s) (h : State.Wf q s) : State.Wf q (cmdStart a0 s).1 := by grind only [cmdStart, gangStart_wf, put_wf, wf_mk, foldl_wf, State.Wf.claims, State.Wf.owner, State.Wf.origin]

end Sys2Proof.Machine
end

