-- ==== Sys2Proof/Laws/FormBoot.lean ====
section
/-! SUPPORT. Every operation of Machine/Boot.lean keeps the form of the state and leaves the queue alone (`State.Wf`). -/

namespace Sys2Proof.Machine

set_option linter.unusedVariables false
set_option maxRecDepth 2000

variable {q : List Instr}

theorem writeBoot_wf (a0 a1 s) (h : State.Wf q s) : State.Wf q (writeBoot a0 a1 s) := by grind only [writeBoot, wf_mk, foldl_wf, State.Wf.claims, State.Wf.owner, State.Wf.origin]

theorem bootSelect_wf (s) (h : State.Wf q s) : State.Wf q (bootSelect s) := by grind only [bootSelect, writeBoot_wf, bump_wf, wf_mk, foldl_wf, State.Wf.claims, State.Wf.owner, State.Wf.origin]

end Sys2Proof.Machine
end

