-- ==== Sys2Proof/Laws/FormReset.lean ====
section
/-! SUPPORT. Every operation of Machine/Reset.lean keeps the form of the state and leaves the queue alone (`State.Wf`). -/

namespace Sys2Proof.Machine

set_option linter.unusedVariables false
set_option maxRecDepth 2000

variable {q : List Instr}

theorem execCriticalStateError_wf (a0 a1 s t) (h : State.Wf q s) (e : execCriticalStateError a0 a1 s = .next t) : State.Wf q t := by grind only [execCriticalStateError, raise_wf, wf_mk, foldl_wf, State.Wf.claims, State.Wf.owner, State.Wf.origin]

theorem toMode_wf (a0 s) (h : State.Wf q s) (ho : s.node.owns = false) : State.Wf q (toMode a0 s) := { h with claims := by simp [toMode, ho], owner := by simp [toMode, ho], origin := by simp [toMode, ho] }

theorem domainsInReset_wf (s) (h : State.Wf q s) : State.Wf q (domainsInReset s) := by grind only [domainsInReset, wf_mk, foldl_wf, State.Wf.claims, State.Wf.owner, State.Wf.origin]

theorem resetCore_wf (s) (h : State.Wf q s) : State.Wf q (resetCore s) := { queue := h.queue, objs := keysFrom_filter _ _ _ h.objs, blobs := rfl, cranes := rfl, fifos := rfl, users := rfl, words := rfl, stage := rfl, recs := ⟨List.nodup_nil, fun _ hx => nomatch hx⟩, chk := rfl, claims := h.claims, owner := h.owner, origin := h.origin }

theorem powerLost_wf (s) (h : State.Wf q s) : State.Wf q (powerLost s) := by
  have o : (resetCore (padsOff (stopPickup false (loseOwnership s)))).node.owns = false := by
    rw [resetCore_owns, padsOff_node, stopPickup_node]
    exact loseOwnership_owns s
  have h1 := toMode_wf .approach _ (domainsInReset_wf _ (resetCore_wf _ (padsOff_wf _ (stopPickup_wf false _ (loseOwnership_wf _ h))))) o
  unfold powerLost
  split
  · exact { h with }
  · exact wf_cold _ _ _ h1 o rfl

theorem execSupplyMonitorBad_wf (s t) (h : State.Wf q s) (e : execSupplyMonitorBad s = .next t) : State.Wf q t := by grind only [execSupplyMonitorBad, powerLost_wf, wf_mk, foldl_wf, State.Wf.claims, State.Wf.owner, State.Wf.origin]

theorem pushHistory_wf (a0 s) (h : State.Wf q s) : State.Wf q (pushHistory a0 s) := by grind only [pushHistory, wf_mk, foldl_wf, State.Wf.claims, State.Wf.owner, State.Wf.origin]

theorem recordReset_wf (a0 a1 s) (h : State.Wf q s) : State.Wf q (recordReset a0 a1 s) := by grind only [recordReset, bump_wf, pushHistory_wf, put_wf, wf_mk, foldl_wf, State.Wf.claims, State.Wf.owner, State.Wf.origin]

theorem assertReset_wf (a0 a1 s) (h : State.Wf q s) : State.Wf q (assertReset a0 a1 s) := by
  have key : ∀ u : State, u.node.owns = false → (if u.rst.cold = true then padsOff u else { u with pins := { u.pins with clocks := 0 } }).node.owns = false := by
    intro u hu
    split
    · exact hu
    · exact hu
  have o := key (stopPickup false (loseOwnership (recordReset a0 a1 s))) (by rw [stopPickup_node]; exact loseOwnership_owns _)
  have h2 : State.Wf q (stopPickup false (loseOwnership (recordReset a0 a1 s))) := stopPickup_wf _ _ (loseOwnership_wf _ (recordReset_wf _ _ _ h))
  unfold assertReset
  refine wf_cold _ _ _ (toMode_wf _ _ (domainsInReset_wf _ (resetCore_wf _ ?_)) ?_) ?_ rfl
  · split
    · exact padsOff_wf _ h2
    · exact { h2 with }
  · exact o
  · exact o

theorem execResetCmdAssert_wf (s t) (h : State.Wf q s) (e : execResetCmdAssert s = .next t) : State.Wf q t := by grind only [execResetCmdAssert, assertReset_wf, wf_mk, foldl_wf, State.Wf.claims, State.Wf.owner, State.Wf.origin]

theorem execTapReset_wf (s t) (h : State.Wf q s) (e : execTapReset s = .next t) : State.Wf q t := by grind only [execTapReset, wf_mk, foldl_wf, State.Wf.claims, State.Wf.owner, State.Wf.origin]

theorem execTapSamplePreload_wf (s t) (h : State.Wf q s) (e : execTapSamplePreload s = .next t) : State.Wf q t := by grind only [execTapSamplePreload, wf_mk, foldl_wf, State.Wf.claims, State.Wf.owner, State.Wf.origin]

theorem powerOn_wf (a0 a1 a2 a3 s) (h : State.Wf q s) : State.Wf q (powerOn a0 a1 a2 a3 s) := { queue := h.queue, objs := keysFrom_mapSet _ _ _ _ _ (Nat.zero_le _) (keysFrom_mapSet _ _ _ _ _ (Nat.zero_le _) rfl), blobs := rfl, cranes := rfl, fifos := rfl, users := rfl, words := rfl, stage := rfl, recs := ⟨List.nodup_nil, fun _ hx => nomatch hx⟩, chk := rfl, claims := fun e => (nomatch e), owner := fun e => (nomatch e), origin := fun e => (nomatch e) }

theorem execPowerOn_wf (a0 a1 a2 a3 s t) (h : State.Wf q s) (e : execPowerOn a0 a1 a2 a3 s = .next t) : State.Wf q t := by grind only [execPowerOn, powerOn_wf, wf_mk, foldl_wf, State.Wf.claims, State.Wf.owner, State.Wf.origin]

theorem tapStrapped_wf (a0 s) (h : State.Wf q s) : State.Wf q (tapStrapped a0 s) := by grind only [tapStrapped, wf_mk, foldl_wf, State.Wf.claims, State.Wf.owner, State.Wf.origin]

theorem execTapExtest_wf (s t) (h : State.Wf q s) (e : execTapExtest s = .next t) : State.Wf q t := by grind only [execTapExtest, tapStrapped_wf, wf_mk, foldl_wf, State.Wf.claims, State.Wf.owner, State.Wf.origin]

theorem raiseOrDelay_wf (a0 a1 a2 s) (h : State.Wf q s) : State.Wf q (raiseOrDelay a0 a1 a2 s) := by grind only [raiseOrDelay, raise_wf, wf_mk, foldl_wf, State.Wf.claims, State.Wf.owner, State.Wf.origin]

theorem raiseLate_wf (s) (h : State.Wf q s) : State.Wf q (raiseLate s) := by grind only [raiseLate, raise_wf, wf_mk, foldl_wf, State.Wf.claims, State.Wf.owner, State.Wf.origin]

theorem domainEffect_wf (a0 a1 s) (h : State.Wf q s) : State.Wf q (domainEffect a0 a1 s) := by
  unfold domainEffect
  repeat' split
  all_goals grind only [raiseOrDelay_wf, portsStart_wf, raiseLate_wf, bootSelect_wf, wf_mk, foldl_wf, State.Wf.claims, State.Wf.owner, State.Wf.origin]

theorem setDomain_wf (a0 a1 s) (h : State.Wf q s) : State.Wf q (setDomain a0 a1 s) := by grind only [setDomain, wf_mk, foldl_wf, State.Wf.claims, State.Wf.owner, State.Wf.origin]

theorem domainRelease_wf (a0 a1 s) (h : State.Wf q s) : State.Wf q (domainRelease a0 a1 s) := by grind only [domainRelease, put_wf, domainEffect_wf, setDomain_wf, wf_mk, foldl_wf, State.Wf.claims, State.Wf.owner, State.Wf.origin]

theorem execDomainRelease_wf (a0 a1 s t) (h : State.Wf q s) (e : execDomainRelease a0 a1 s = .next t) : State.Wf q t := by grind only [execDomainRelease, domainRelease_wf, wf_mk, foldl_wf, State.Wf.claims, State.Wf.owner, State.Wf.origin]

theorem domainHeld_wf (s) (h : State.Wf q s) : State.Wf q (domainHeld s) := by grind only [domainHeld, setDomain_wf, pushHistory_wf, bump_wf, raiseOrDelay_wf, wf_mk, foldl_wf, State.Wf.claims, State.Wf.owner, State.Wf.origin]

theorem tryBerthing_wf (s) (h : State.Wf q s) : State.Wf q (tryBerthing s) := by
  unfold tryBerthing
  split
  · rename_i hc
    refine toMode_wf _ _ ?_ ?_
    · split
      · exact assertReset_wf _ _ _ h
      · exact h
    · split
      · exact assertReset_owns _ _ _
      · exact cold_owns s h (by rw [hc.1]; rfl)
  · exact h

theorem execTapClamp_wf (s t) (h : State.Wf q s) (e : execTapClamp s = .next t) : State.Wf q t := by grind only [execTapClamp, tapStrapped_wf, wf_mk, foldl_wf, State.Wf.claims, State.Wf.owner, State.Wf.origin]

theorem execTapIdcode_wf (s t) (h : State.Wf q s) (e : execTapIdcode s = .next t) : State.Wf q t := by grind only [execTapIdcode, wf_mk, foldl_wf, State.Wf.claims, State.Wf.owner, State.Wf.origin]

theorem execTapBypass_wf (a0 s t) (h : State.Wf q s) (e : execTapBypass a0 s = .next t) : State.Wf q t := by grind only [execTapBypass, wf_mk, foldl_wf, State.Wf.claims, State.Wf.owner, State.Wf.origin]

theorem execResetAssertionEnd_wf (s t) (h : State.Wf q s) (e : execResetAssertionEnd s = .next t) : State.Wf q t := by grind only [execResetAssertionEnd, wf_mk, foldl_wf, State.Wf.claims, State.Wf.owner, State.Wf.origin]

theorem execDieTempUpdate_wf (a0 s t) (h : State.Wf q s) (e : execDieTempUpdate a0 s = .next t) : State.Wf q t := by grind only [execDieTempUpdate, put_wf, wf_mk, foldl_wf, State.Wf.claims, State.Wf.owner, State.Wf.origin]

theorem isolateBank_wf (a0 s) (h : State.Wf q s) : State.Wf q (isolateBank a0 s) := by grind only [isolateBank, wf_mk, foldl_wf, State.Wf.claims, State.Wf.owner, State.Wf.origin]

theorem optionsLoaded_wf (a0 s) (h : State.Wf q s) : State.Wf q (optionsLoaded a0 s) := by grind only [optionsLoaded, raiseOrDelay_wf, wf_mk, foldl_wf, State.Wf.claims, State.Wf.owner, State.Wf.origin]

theorem execOptionLoadComplete_wf (a0 s t) (h : State.Wf q s) (e : execOptionLoadComplete a0 s = .next t) : State.Wf q t := by grind only [execOptionLoadComplete, optionsLoaded_wf, wf_mk, foldl_wf, State.Wf.claims, State.Wf.owner, State.Wf.origin]

theorem execTapHighz_wf (s t) (h : State.Wf q s) (e : execTapHighz s = .next t) : State.Wf q t := by grind only [execTapHighz, tapStrapped_wf, wf_mk, foldl_wf, State.Wf.claims, State.Wf.owner, State.Wf.origin]

theorem setBlock_wf (a0 a1 s) (h : State.Wf q s) : State.Wf q (setBlock a0 a1 s) := by grind only [setBlock, wf_mk, foldl_wf, State.Wf.claims, State.Wf.owner, State.Wf.origin]

theorem execDomainClockTimeout_wf (s t) (h : State.Wf q s) (e : execDomainClockTimeout s = .next t) : State.Wf q t := by grind only [execDomainClockTimeout, domainHeld_wf, wf_mk, foldl_wf, State.Wf.claims, State.Wf.owner, State.Wf.origin]

theorem execVioOutOfRange_wf (a0 s t) (h : State.Wf q s) (e : execVioOutOfRange a0 s = .next t) : State.Wf q t := by grind only [execVioOutOfRange, raise_wf, bump_wf, isolateBank_wf, wf_mk, foldl_wf, State.Wf.claims, State.Wf.owner, State.Wf.origin]

theorem execSlipwayKeyWindowEnd_wf (s t) (h : State.Wf q s) (e : execSlipwayKeyWindowEnd s = .next t) : State.Wf q t := by grind only [execSlipwayKeyWindowEnd, raise_wf, wf_mk, foldl_wf, State.Wf.claims, State.Wf.owner, State.Wf.origin]

theorem execResetNRelease_wf (s t) (h : State.Wf q s) (e : execResetNRelease s = .next t) : State.Wf q t := by grind only [execResetNRelease, tryBerthing_wf, wf_mk, foldl_wf, State.Wf.claims, State.Wf.owner, State.Wf.origin]

theorem execSupplyMonitorGood_wf (s t) (h : State.Wf q s) (e : execSupplyMonitorGood s = .next t) : State.Wf q t := by grind only [execSupplyMonitorGood, tryBerthing_wf, wf_mk, foldl_wf, State.Wf.claims, State.Wf.owner, State.Wf.origin]

theorem execWatchdogExpiry_wf (s t) (h : State.Wf q s) (e : execWatchdogExpiry s = .next t) : State.Wf q t := by grind only [execWatchdogExpiry, assertReset_wf, wf_mk, foldl_wf, State.Wf.claims, State.Wf.owner, State.Wf.origin]

theorem execBerthingComplete_wf (a0 s t) (h : State.Wf q s) (e : execBerthingComplete a0 s = .next t) : State.Wf q t := by grind only [execBerthingComplete, enterWorking_wf, wf_mk, foldl_wf, State.Wf.claims, State.Wf.owner, State.Wf.origin]

theorem execVioRestore_wf (a0 a1 s t) (h : State.Wf q s) (e : execVioRestore a0 a1 s = .next t) : State.Wf q t := by grind only [execVioRestore, wf_mk, foldl_wf, State.Wf.claims, State.Wf.owner, State.Wf.origin]

theorem powerOff_wf (s) (h : State.Wf q s) : State.Wf q (powerOff s) := { queue := h.queue, objs := rfl, blobs := rfl, cranes := rfl, fifos := rfl, users := rfl, words := rfl, stage := rfl, recs := ⟨List.nodup_nil, fun _ hx => nomatch hx⟩, chk := rfl, claims := fun e => (nomatch e), owner := fun e => (nomatch e), origin := fun e => (nomatch e) }

theorem execCriticalResetTimer_wf (s t) (h : State.Wf q s) (e : execCriticalResetTimer s = .next t) : State.Wf q t := by grind only [execCriticalResetTimer, assertReset_wf, wf_mk, foldl_wf, State.Wf.claims, State.Wf.owner, State.Wf.origin]

theorem execVaonInvalid_wf (s t) (h : State.Wf q s) (e : execVaonInvalid s = .next t) : State.Wf q t := by grind only [execVaonInvalid, powerOff_wf, wf_mk, foldl_wf, State.Wf.claims, State.Wf.owner, State.Wf.origin]

theorem execResetNAssert_wf (a0 a1 s t) (h : State.Wf q s) (e : execResetNAssert a0 a1 s = .next t) : State.Wf q t := by grind only [execResetNAssert, assertReset_wf, wf_mk, foldl_wf, State.Wf.claims, State.Wf.owner, State.Wf.origin]

theorem execPositionBClaimTimeout_wf (s t) (h : State.Wf q s) (e : execPositionBClaimTimeout s = .next t) : State.Wf q t := by grind only [execPositionBClaimTimeout, enterWorking_wf, wf_mk, foldl_wf, State.Wf.claims, State.Wf.owner, State.Wf.origin]

end Sys2Proof.Machine
end

