-- ==== Sys2Proof/Laws/FormManifest.lean ====
section
/-! SUPPORT. Every operation of Machine/Manifest.lean keeps the form of the state and leaves the queue alone (`State.Wf`). -/

namespace Sys2Proof.Machine

set_option linter.unusedVariables false
set_option maxRecDepth 2000

variable {q : List Instr}

theorem unstageIf_wf (a0 a1 s) (h : State.Wf q s) : State.Wf q (unstageIf a0 a1 s) := by grind only [unstageIf, unstage_wf, wf_mk, foldl_wf, State.Wf.claims, State.Wf.owner, State.Wf.origin]

theorem execManifestCommitComplete_wf (s t) (h : State.Wf q s) (e : execManifestCommitComplete s = .next t) : State.Wf q t := by grind (splits := 30) (ematch := 30) (gen := 30) only [execManifestCommitComplete, put_wf, unstageIf_wf, bump_wf, putBlob_wf, configCommit_wf, wf_mk, foldl_wf, State.Wf.claims, State.Wf.owner, State.Wf.origin]

theorem manifestCommitWrite_wf (s) (h : State.Wf q s) : State.Wf q (manifestCommitWrite s).1 := by grind only [manifestCommitWrite, put_wf, wf_mk, foldl_wf, State.Wf.claims, State.Wf.owner, State.Wf.origin]

end Sys2Proof.Machine
end

