-- ==== Sys2Proof/Laws/FormCan.lean ====
section
/-! SUPPORT. Every operation of Machine/Can.lean keeps the form of the state and leaves the queue alone (`State.Wf`). -/

namespace Sys2Proof.Machine

set_option linter.unusedVariables false
set_option maxRecDepth 2000

variable {q : List Instr}

theorem canPut_wf (a0 a1 s) (h : State.Wf q s) : State.Wf q (canPut a0 a1 s) := by grind only [canPut, put_wf, putBlob_wf, wf_mk, foldl_wf, State.Wf.claims, State.Wf.owner, State.Wf.origin]

theorem canTake_wf (a0 s) (h : State.Wf q s) : State.Wf q (canTake a0 s) := by grind only [canTake, modCtl_wf, wf_mk, foldl_wf, State.Wf.claims, State.Wf.owner, State.Wf.origin]

theorem canApply_wf (a0 s) (h : State.Wf q s) : State.Wf q (canApply a0 s) := by grind only [canApply, put_wf, canPut_wf, modCtl_wf, canTake_wf, wf_mk, foldl_wf, State.Wf.claims, State.Wf.owner, State.Wf.origin]

theorem endTx_wf (a0 s) (h : State.Wf q s) : State.Wf q (endTx a0 s) := by grind only [endTx, modCtl_wf, wf_mk, foldl_wf, State.Wf.claims, State.Wf.owner, State.Wf.origin]

theorem noteErr_wf (a0 a1 a2 s) (h : State.Wf q s) : State.Wf q (noteErr a0 a1 a2 s) := by grind only [noteErr, put_wf, bump_wf, wf_mk, foldl_wf, State.Wf.claims, State.Wf.owner, State.Wf.origin]

theorem canIrqSet_wf (a0 a1 s) (h : State.Wf q s) : State.Wf q (canIrqSet a0 a1 s) := by grind only [canIrqSet, put_wf, wf_mk, foldl_wf, State.Wf.claims, State.Wf.owner, State.Wf.origin]

theorem setCounters_wf (a0 a1 a2 s) (h : State.Wf q s) : State.Wf q (setCounters a0 a1 a2 s) := by grind only [setCounters, modCtl_wf, canIrqSet_wf, raise_wf, wf_mk, foldl_wf, State.Wf.claims, State.Wf.owner, State.Wf.origin]

theorem queueDrop_wf (a0 s) (h : State.Wf q s) : State.Wf q (queueDrop a0 s) := by grind only [queueDrop, modCtl_wf, fifoFramePop_wf, wf_mk, foldl_wf, State.Wf.claims, State.Wf.owner, State.Wf.origin]

theorem gwFlushHead_wf (a0 s) (h : State.Wf q s) : State.Wf q (gwFlushHead a0 s) := by grind only [gwFlushHead, queueDrop_wf, addTo_wf, wf_mk, foldl_wf, State.Wf.claims, State.Wf.owner, State.Wf.origin]

theorem gwError_wf (a0 a1 a2 s) (h : State.Wf q s) : State.Wf q (gwError a0 a1 a2 s) := by grind only [gwError, gwFlushHead_wf, queueDrop_wf, bump_wf, wf_mk, foldl_wf, State.Wf.claims, State.Wf.owner, State.Wf.origin]

theorem setBufStatus_wf (a0 a1 a2 s) (h : State.Wf q s) : State.Wf q (setBufStatus a0 a1 a2 s) := by grind only [setBufStatus, modBuf_wf, wf_mk, foldl_wf, State.Wf.claims, State.Wf.owner, State.Wf.origin]

theorem bufError_wf (a0 a1 a2 a3 s) (h : State.Wf q s) : State.Wf q (bufError a0 a1 a2 a3 s) := by grind only [bufError, setBufStatus_wf, bump_wf, wf_mk, foldl_wf, State.Wf.claims, State.Wf.owner, State.Wf.origin]

theorem busOff_wf (a0 s) (h : State.Wf q s) : State.Wf q (busOff a0 s) := by
  unfold busOff
  repeat' split
  all_goals grind only [setBufStatus_wf, modCtl_wf, raise_wf, canIrqSet_wf, bump_wf, wf_mk, foldl_wf, State.Wf.claims, State.Wf.owner, State.Wf.origin]

theorem canTxError_wf (a0 a1 a2 a3 a4 a5 s) (h : State.Wf q s) : State.Wf q (canTxError a0 a1 a2 a3 a4 a5 s) := by grind (splits := 30) (ematch := 30) (gen := 30) only [canTxError, endTx_wf, noteErr_wf, modCtl_wf, modBuf_wf, setCounters_wf, gwError_wf, bufError_wf, busOff_wf, wf_mk, foldl_wf, State.Wf.claims, State.Wf.owner, State.Wf.origin]

theorem bufRelease_wf (a0 a1 s t) (h : State.Wf q s) (e : bufRelease a0 a1 s = some t) : State.Wf q t := by grind only [bufRelease, setBufStatus_wf, wf_mk, foldl_wf, State.Wf.claims, State.Wf.owner, State.Wf.origin]

theorem execCanBufferRelease_wf (a0 a1 s t) (h : State.Wf q s) (e : execCanBufferRelease a0 a1 s = .next t) : State.Wf q t := by
  cases e
  split
  · exact getD_wf _ _ (fun t ht => bufRelease_wf _ _ _ t h ht) h
  · exact h

theorem execCanRecoveryComplete_wf (a0 s t) (h : State.Wf q s) (e : execCanRecoveryComplete a0 s = .next t) : State.Wf q t := by grind only [execCanRecoveryComplete, modCtl_wf, canIrqSet_wf, setBufStatus_wf, wf_mk, foldl_wf, State.Wf.claims, State.Wf.owner, State.Wf.origin]

theorem noteTdc_wf (a0 a1 a2 s) (h : State.Wf q s) : State.Wf q (noteTdc a0 a1 a2 s) := by grind only [noteTdc, put_wf, wf_mk, foldl_wf, State.Wf.claims, State.Wf.owner, State.Wf.origin]

theorem execCanTxComplete_wf (a0 a1 a2 s t) (h : State.Wf q s) (e : execCanTxComplete a0 a1 a2 s = .next t) : State.Wf q t := by grind (splits := 30) (ematch := 30) (gen := 30) only [execCanTxComplete, endTx_wf, canIrqSet_wf, bump_wf, setCounters_wf, queueDrop_wf, noteTdc_wf, modBuf_wf, wf_mk, foldl_wf, State.Wf.claims, State.Wf.owner, State.Wf.origin]

theorem rxGood_wf (a0 s) (h : State.Wf q s) : State.Wf q (rxGood a0 s) := by grind only [rxGood, draw_wf, modCtl_wf, wf_mk, foldl_wf, State.Wf.claims, State.Wf.owner, State.Wf.origin]

theorem execCanRxError_wf (a0 a1 a2 a3 s t) (h : State.Wf q s) (e : execCanRxError a0 a1 a2 a3 s = .next t) : State.Wf q t := by grind only [execCanRxError, noteErr_wf, setCounters_wf, wf_mk, foldl_wf, State.Wf.claims, State.Wf.owner, State.Wf.origin]

theorem execCanTxError_wf (a0 a1 a2 a3 a4 s t) (h : State.Wf q s) (e : execCanTxError a0 a1 a2 a3 a4 s = .next t) : State.Wf q t := by grind only [execCanTxError, canTxError_wf, wf_mk, foldl_wf, State.Wf.claims, State.Wf.owner, State.Wf.origin]

theorem gwStore_wf (a0 a1 a2 s t) (h : State.Wf q s) (e : gwStore a0 a1 a2 s = some t) : State.Wf q t.2 := by grind only [gwStore, storeWords_wf, bump_wf, wf_mk, foldl_wf, State.Wf.claims, State.Wf.owner, State.Wf.origin]

theorem canRecover_wf (a0 s) (h : State.Wf q s) : State.Wf q (canRecover a0 s) := by grind only [canRecover, put_wf, modCtl_wf, wf_mk, foldl_wf, State.Wf.claims, State.Wf.owner, State.Wf.origin]

theorem readBufWord_wf (a0 a1 a2 s) (h : State.Wf q s) : State.Wf q (readBufWord a0 a1 a2 s).2 := by grind only [readBufWord, raise_wf, bump_wf, wf_mk, foldl_wf, State.Wf.claims, State.Wf.owner, State.Wf.origin]

theorem bufBad_wf (a0 a1 s) (h : State.Wf q s) : State.Wf q (bufBad a0 a1 s).2 := by
  unfold bufBad
  generalize List.range 9 = l
  have : ∀ (l : List Nat) (b : Bool) (s : State), s.Wf q → (l.foldl (fun (a : Bool × State) w => let r := readBufWord a0 a1 w a.2; (a.1 || r.1.p, r.2)) (b, s)).2.Wf q := by
    intro l
    induction l with
    | nil => intro b s h; exact h
    | cons w t ih => intro b s h; exact ih _ _ (readBufWord_wf _ _ _ _ h)
  exact this l false s h

theorem canChoose_wf (a0 s) (h : State.Wf q s) : State.Wf q (canChoose a0 s) := by grind only [canChoose, queueDrop_wf, modCtl_wf, bufBad_wf, setBufStatus_wf, wf_mk, foldl_wf, State.Wf.claims, State.Wf.owner, State.Wf.origin]

theorem canRead_wf (a0 a1 s) (h : State.Wf q s) : State.Wf q (canRead a0 a1 s).2 := by grind only [canRead, draw_wf, readBufWord_wf, wf_mk, foldl_wf, State.Wf.claims, State.Wf.owner, State.Wf.origin]

theorem canRxEmpty_wf (a0 s) (h : State.Wf q s) : State.Wf q (canRxEmpty a0 s) := by grind only [canRxEmpty, flushFifo_wf, wf_mk, foldl_wf, State.Wf.claims, State.Wf.owner, State.Wf.origin]

theorem bufTransmit_wf (a0 a1 a2 s t) (h : State.Wf q s) (e : bufTransmit a0 a1 a2 s = some t) : State.Wf q t := by grind only [bufTransmit, modBuf_wf, wf_mk, foldl_wf, State.Wf.claims, State.Wf.owner, State.Wf.origin]

theorem bufAbort_wf (a0 a1 s t) (h : State.Wf q s) (e : bufAbort a0 a1 s = some t) : State.Wf q t := by grind only [bufAbort, setBufStatus_wf, modCtl_wf, wf_mk, foldl_wf, State.Wf.claims, State.Wf.owner, State.Wf.origin]

theorem writeBufWord_wf (a0 a1 a2 a3 a4 s) (h : State.Wf q s) : State.Wf q (writeBufWord a0 a1 a2 a3 a4 s) := by grind only [writeBufWord, modCtl_wf, modBuf_wf, wf_mk, foldl_wf, State.Wf.claims, State.Wf.owner, State.Wf.origin]

theorem canWrite_wf (a0 a1 a2 a3 s t) (h : State.Wf q s) (e : canWrite a0 a1 a2 a3 s = some t) : State.Wf q t := by grind only [canWrite, bufTransmit_wf, bufAbort_wf, bufRelease_wf, writeBufWord_wf, readBufWord_wf, wf_mk, foldl_wf, State.Wf.claims, State.Wf.owner, State.Wf.origin]

theorem canGwEmpty_wf (a0 s) (h : State.Wf q s) : State.Wf q (canGwEmpty a0 s) := by grind only [canGwEmpty, addTo_wf, setFifo_wf, modCtl_wf, wf_mk, foldl_wf, State.Wf.claims, State.Wf.owner, State.Wf.origin]

theorem storeInQueue_wf (a0 a1 a2 s) (h : State.Wf q s) : State.Wf q (storeInQueue a0 a1 a2 s) := by grind only [storeInQueue, canIrqSet_wf, storeWords_wf, bump_wf, wf_mk, foldl_wf, State.Wf.claims, State.Wf.owner, State.Wf.origin]

theorem storeInBuffer_wf (a0 a1 a2 a3 a4 s) (h : State.Wf q s) : State.Wf q (storeInBuffer a0 a1 a2 a3 a4 s) := by grind only [storeInBuffer, modBuf_wf, modCtl_wf, canIrqSet_wf, bump_wf, wf_mk, foldl_wf, State.Wf.claims, State.Wf.owner, State.Wf.origin]

theorem canReceive_wf (a0 a1 a2 s) (h : State.Wf q s) : State.Wf q (canReceive a0 a1 a2 s) := by
  unfold canReceive
  repeat' split
  all_goals grind only [bump_wf, rxGood_wf, canIrqSet_wf, storeInBuffer_wf, storeInQueue_wf, offerMsg_wf, wf_mk, foldl_wf, State.Wf.claims, State.Wf.owner, State.Wf.origin]

theorem execCanFrameReceive_wf (a0 a1 a2 s t) (h : State.Wf q s) (e : execCanFrameReceive a0 a1 a2 s = .next t) : State.Wf q t := by grind only [execCanFrameReceive, canReceive_wf, wf_mk, foldl_wf, State.Wf.claims, State.Wf.owner, State.Wf.origin]

theorem execCanConfigApply_wf (a0 s t) (h : State.Wf q s) (e : execCanConfigApply a0 s = .next t) : State.Wf q t := by grind only [execCanConfigApply, canTake_wf, wf_mk, foldl_wf, State.Wf.claims, State.Wf.owner, State.Wf.origin]

theorem execCanTxChoose_wf (a0 s t) (h : State.Wf q s) (e : execCanTxChoose a0 s = .next t) : State.Wf q t := by grind only [execCanTxChoose, canChoose_wf, wf_mk, foldl_wf, State.Wf.claims, State.Wf.owner, State.Wf.origin]

theorem canCmdWrite_wf (a0 a1 s) (h : State.Wf q s) : State.Wf q (canCmdWrite a0 a1 s).1 := by
  unfold canCmdWrite
  repeat' split
  all_goals grind only [canRecover_wf, put_wf, canGwEmpty_wf, canRxEmpty_wf, wf_mk, foldl_wf, State.Wf.claims, State.Wf.owner, State.Wf.origin]

theorem execCanBusJoin_wf (a0 s t) (h : State.Wf q s) (e : execCanBusJoin a0 s = .next t) : State.Wf q t := by grind only [execCanBusJoin, modCtl_wf, wf_mk, foldl_wf, State.Wf.claims, State.Wf.owner, State.Wf.origin]

theorem execCanBufferAbort_wf (a0 a1 s t) (h : State.Wf q s) (e : execCanBufferAbort a0 a1 s = .next t) : State.Wf q t := by
  cases e
  split
  · exact getD_wf _ _ (fun t ht => bufAbort_wf _ _ _ t h ht) h
  · exact h

theorem canCommit_wf (a0 s) (h : State.Wf q s) : State.Wf q (canCommit a0 s).1 := by grind only [canCommit, put_wf, configCommit_wf, wf_mk, foldl_wf, State.Wf.claims, State.Wf.owner, State.Wf.origin]

theorem execCanArbLost_wf (a0 s t) (h : State.Wf q s) (e : execCanArbLost a0 s = .next t) : State.Wf q t := by grind only [execCanArbLost, endTx_wf, bump_wf, gwFlushHead_wf, setBufStatus_wf, wf_mk, foldl_wf, State.Wf.claims, State.Wf.owner, State.Wf.origin]

theorem execCanBufferTransmit_wf (a0 a1 a2 s t) (h : State.Wf q s) (e : execCanBufferTransmit a0 a1 a2 s = .next t) : State.Wf q t := by
  cases e
  split
  · exact getD_wf _ _ (fun t ht => bufTransmit_wf _ _ _ _ t h ht) h
  · exact h

end Sys2Proof.Machine
end

