-- ==== Sys2Proof/Laws/FormPorts.lean ====
section
/-! SUPPORT. Every operation of Machine/Ports.lean keeps the form of the state and leaves the queue alone (`State.Wf`). -/

namespace Sys2Proof.Machine

set_option linter.unusedVariables false
set_option maxRecDepth 2000

variable {q : List Instr}

theorem retrainFailed_wf (a0 a1 a2 s) (h : State.Wf q s) : State.Wf q (retrainFailed a0 a1 a2 s) := by grind only [retrainFailed, modLane_wf, put_wf, wf_mk, foldl_wf, State.Wf.claims, State.Wf.owner, State.Wf.origin]

theorem keepSets_wf (a0 f s) (h : State.Wf q s) (hf : ∀ s : State, s.Wf q → (f s).Wf q) : State.Wf q (keepSets a0 f s) := put_wf _ _ _ (put_wf _ _ _ (hf s h))

theorem txPilot_wf (a0 s) (h : State.Wf q s) : State.Wf q (txPilot a0 s) := by grind only [txPilot, modPort_wf, put_wf, setTx_wf, modLane_wf, wf_mk, foldl_wf, State.Wf.claims, State.Wf.owner, State.Wf.origin]

theorem sendHarbour_wf (a0 s) (h : State.Wf q s) : State.Wf q (sendHarbour a0 s) := by grind only [sendHarbour, sendBlock_wf, wf_mk, foldl_wf, State.Wf.claims, State.Wf.owner, State.Wf.origin]

theorem toHarbour_wf (a0 s) (h : State.Wf q s) : State.Wf q (toHarbour a0 s) := by grind only [toHarbour, modPort_wf, put_wf, setRx_wf, setTx_wf, sendHarbour_wf, wf_mk, foldl_wf, State.Wf.claims, State.Wf.owner, State.Wf.origin]

theorem sendLanes_wf (a0 a1 a2 a3 a4 s) (h : State.Wf q s) : State.Wf q (sendLanes a0 a1 a2 a3 a4 s) := by grind only [sendLanes, modPort_wf, wf_mk, foldl_wf, State.Wf.claims, State.Wf.owner, State.Wf.origin]

theorem sendFrame_wf (a0 a1 s) (h : State.Wf q s) : State.Wf q (sendFrame a0 a1 s) := by grind only [sendFrame, sendLanes_wf, modPort_wf, wf_mk, foldl_wf, State.Wf.claims, State.Wf.owner, State.Wf.origin]

theorem wakeLanes_wf (a0 a1 s) (h : State.Wf q s) : State.Wf q (wakeLanes a0 a1 s) := by grind only [wakeLanes, sendFrame_wf, modPort_wf, wf_mk, foldl_wf, State.Wf.claims, State.Wf.owner, State.Wf.origin]

theorem wakePort_wf (a0 s) (h : State.Wf q s) : State.Wf q (wakePort a0 s) := by grind only [wakePort, txPilot_wf, toHarbour_wf, setTx_wf, wakeLanes_wf, wf_mk, foldl_wf, State.Wf.claims, State.Wf.owner, State.Wf.origin]

theorem loopEnd_wf (a0 s) (h : State.Wf q s) : State.Wf q (loopEnd a0 s) := by
  unfold loopEnd
  repeat' split
  all_goals grind only [modPort_wf, keepSets_wf, txLeave_wf, rxLeave_wf, wf_mk, foldl_wf, State.Wf.claims, State.Wf.owner, State.Wf.origin]

theorem loopReceive_wf (a0 a1 s) (h : State.Wf q s) : State.Wf q (loopReceive a0 a1 s) := by grind only [loopReceive, keepSets_wf, rxLeave_wf, modPort_wf, txLeave_wf, wakePort_wf, loopEnd_wf, wf_mk, foldl_wf, State.Wf.claims, State.Wf.owner, State.Wf.origin]

theorem execHarbourTimeout_wf (a0 a1 s t) (h : State.Wf q s) (e : execHarbourTimeout a0 a1 s = .next t) : State.Wf q t := by grind only [execHarbourTimeout, bump_wf, txLeave_wf, rxLeave_wf, wf_mk, foldl_wf, State.Wf.claims, State.Wf.owner, State.Wf.origin]

theorem noteRepl_wf (a0 a1 a2 s) (h : State.Wf q s) : State.Wf q (noteRepl a0 a1 a2 s) := by grind only [noteRepl, modPort_wf, wf_mk, foldl_wf, State.Wf.claims, State.Wf.owner, State.Wf.origin]

theorem pilotRequests_wf (a0 s) (h : State.Wf q s) : State.Wf q (pilotRequests a0 s) := by grind only [pilotRequests, freeRequest_wf, wf_mk, foldl_wf, State.Wf.claims, State.Wf.owner, State.Wf.origin]

theorem execBringupTimeout_wf (a0 a1 s t) (h : State.Wf q s) (e : execBringupTimeout a0 a1 s = .next t) : State.Wf q t := by grind only [execBringupTimeout, setDir_wf, wf_mk, foldl_wf, State.Wf.claims, State.Wf.owner, State.Wf.origin]

theorem laneRetrainWrite_wf (a0 a1 s) (h : State.Wf q s) : State.Wf q (laneRetrainWrite a0 a1 s).1 := by grind only [laneRetrainWrite, laneChanged_wf, put_wf, modLane_wf, wf_mk, foldl_wf, State.Wf.claims, State.Wf.owner, State.Wf.origin]

theorem farLoopCleared_wf (a0 s) (h : State.Wf q s) : State.Wf q (farLoopCleared a0 s) := by grind only [farLoopCleared, loopEnd_wf, wf_mk, foldl_wf, State.Wf.claims, State.Wf.owner, State.Wf.origin]

theorem trainReq_wf (a0 a1 a2 a3 s) (h : State.Wf q s) : State.Wf q (trainReq a0 a1 a2 a3 s) := by grind only [trainReq, answerReq_wf, modPort_wf, setTx_wf, wf_mk, foldl_wf, State.Wf.claims, State.Wf.owner, State.Wf.origin]

theorem trainLane_wf (a0 a1 s) (h : State.Wf q s) : State.Wf q (trainLane a0 a1 s) := by grind only [trainLane, modLane_wf, put_wf, wf_mk, foldl_wf, State.Wf.claims, State.Wf.owner, State.Wf.origin]

theorem notePresent_wf (a0 a1 a2 s) (h : State.Wf q s) : State.Wf q (notePresent a0 a1 a2 s) := by grind only [notePresent, put_wf, trainLane_wf, wf_mk, foldl_wf, State.Wf.claims, State.Wf.owner, State.Wf.origin]

theorem rxPilot_wf (a0 s) (h : State.Wf q s) : State.Wf q (rxPilot a0 s) := by grind only [rxPilot, modPort_wf, put_wf, setRx_wf, laneChanged_wf, trainLane_wf, wf_mk, foldl_wf, State.Wf.claims, State.Wf.owner, State.Wf.origin]

theorem detectProbe_wf (a0 a1 a2 s) (h : State.Wf q s) : State.Wf q (detectProbe a0 a1 a2 s) := by grind only [detectProbe, notePresent_wf, txPilot_wf, rxPilot_wf, wf_mk, foldl_wf, State.Wf.claims, State.Wf.owner, State.Wf.origin]

theorem execLanemapReceive_wf (a0 a1 a2 s t) (h : State.Wf q s) (e : execLanemapReceive a0 a1 a2 s = .next t) : State.Wf q t := by grind only [execLanemapReceive, returned_wf, modPort_wf, wakeLanes_wf, badBlock_wf, wf_mk, foldl_wf, State.Wf.claims, State.Wf.owner, State.Wf.origin]

theorem trainPort_wf (a0 s) (h : State.Wf q s) : State.Wf q (trainPort a0 s) := by grind only [trainPort, pilotRequests_wf, tapsApply_wf, modPort_wf, sendFrame_wf, setTx_wf, wf_mk, foldl_wf, State.Wf.claims, State.Wf.owner, State.Wf.origin]

theorem execDetectProbe_wf (a0 a1 a2 s t) (h : State.Wf q s) (e : execDetectProbe a0 a1 a2 s = .next t) : State.Wf q t := by grind only [execDetectProbe, detectProbe_wf, wf_mk, foldl_wf, State.Wf.claims, State.Wf.owner, State.Wf.origin]

theorem txSetApply_wf (a0 s) (h : State.Wf q s) : State.Wf q (txSetApply a0 s) := by grind only [txSetApply, modPort_wf, put_wf, threeLanes_wf, setDir_wf, wf_mk, foldl_wf, State.Wf.claims, State.Wf.owner, State.Wf.origin]

theorem requestSet_wf (a0 a1 s) (h : State.Wf q s) : State.Wf q (requestSet a0 a1 s) := by grind only [requestSet, rxDown_wf, modPort_wf, sendBlock_wf, wf_mk, foldl_wf, State.Wf.claims, State.Wf.owner, State.Wf.origin]

theorem settleSet_wf (a0 s) (h : State.Wf q s) : State.Wf q (settleSet a0 s) := by grind only [settleSet, put_wf, rxPilot_wf, wf_mk, foldl_wf, State.Wf.claims, State.Wf.owner, State.Wf.origin]

theorem laneFail_wf (a0 a1 a2 s) (h : State.Wf q s) : State.Wf q (laneFail a0 a1 a2 s) := by grind only [laneFail, retrainFailed_wf, failLane_wf, modPort_wf, requestSet_wf, settleSet_wf, wf_mk, foldl_wf, State.Wf.claims, State.Wf.owner, State.Wf.origin]

theorem execClockLaneLoss_wf (a0 s t) (h : State.Wf q s) (e : execClockLaneLoss a0 s = .next t) : State.Wf q t := by grind only [execClockLaneLoss, rxDown_wf, bump_wf, put_wf, wf_mk, foldl_wf, State.Wf.claims, State.Wf.owner, State.Wf.origin]

theorem spanNotice_wf (a0 a1 s) (h : State.Wf q s) : State.Wf q (spanNotice a0 a1 s) := by grind only [spanNotice, bump_wf, applySpan_wf, modRing_wf, sendBlock_wf, outputReturn_wf, modPort_wf, txDown_wf, wf_mk, foldl_wf, State.Wf.claims, State.Wf.owner, State.Wf.origin]

theorem execSpanNoticeReceive_wf (a0 a1 s t) (h : State.Wf q s) (e : execSpanNoticeReceive a0 a1 s = .next t) : State.Wf q t := by grind only [execSpanNoticeReceive, spanNotice_wf, returned_wf, badBlock_wf, wf_mk, foldl_wf, State.Wf.claims, State.Wf.owner, State.Wf.origin]

theorem adoptSet_wf (a0 a1 a2 s) (h : State.Wf q s) : State.Wf q (adoptSet a0 a1 a2 s) := by grind (splits := 30) (ematch := 30) (gen := 30) only [adoptSet, abandonLane_wf, stampLaneStep_wf, bump_wf, put_wf, modPort_wf, setDir_wf, markLanes_wf, threeLanes_wf, raise_wf, wf_mk, foldl_wf, State.Wf.claims, State.Wf.owner, State.Wf.origin]

theorem wakeDir_wf (a0 a1 a2 s) (h : State.Wf q s) : State.Wf q (wakeDir a0 a1 a2 s) := by grind only [wakeDir, modLane_wf, toHarbour_wf, modPort_wf, setRx_wf, rxPilot_wf, put_wf, wf_mk, foldl_wf, State.Wf.claims, State.Wf.owner, State.Wf.origin]

theorem execFarLoopTickTimeout_wf (a0 s t) (h : State.Wf q s) (e : execFarLoopTickTimeout a0 s = .next t) : State.Wf q t := by grind only [execFarLoopTickTimeout, loopEnd_wf, wf_mk, foldl_wf, State.Wf.claims, State.Wf.owner, State.Wf.origin]

theorem sleepLanes_wf (a0 a1 s) (h : State.Wf q s) : State.Wf q (sleepLanes a0 a1 s) := by grind only [sleepLanes, modPort_wf, sendLanes_wf, wf_mk, foldl_wf, State.Wf.claims, State.Wf.owner, State.Wf.origin]

theorem portEbbStep_wf (a0 s) (h : State.Wf q s) : State.Wf q (portEbbStep a0 s) := by grind only [portEbbStep, sleepLanes_wf, keepSets_wf, txLeave_wf, wakePort_wf, wf_mk, foldl_wf, State.Wf.claims, State.Wf.owner, State.Wf.origin]

theorem lanemapRepeat_wf (a0 s) (h : State.Wf q s) : State.Wf q (lanemapRepeat a0 s) := by grind only [lanemapRepeat, sendBlock_wf, wf_mk, foldl_wf, State.Wf.claims, State.Wf.owner, State.Wf.origin]

theorem execEbbExitLockResult_wf (a0 a1 a2 s t) (h : State.Wf q s) (e : execEbbExitLockResult a0 a1 a2 s = .next t) : State.Wf q t := by grind only [execEbbExitLockResult, wakeDir_wf, put_wf, laneChanged_wf, modLane_wf, requestSet_wf, wf_mk, foldl_wf, State.Wf.claims, State.Wf.owner, State.Wf.origin]

theorem execMooringNoReceiverTimeout_wf (s t) (h : State.Wf q s) (e : execMooringNoReceiverTimeout s = .next t) : State.Wf q t := by grind only [execMooringNoReceiverTimeout, setTx_wf, sleepLanes_wf, wf_mk, foldl_wf, State.Wf.claims, State.Wf.owner, State.Wf.origin]

theorem loopBlock_wf (a0 a1 s) (h : State.Wf q s) : State.Wf q (loopBlock a0 a1 s) := by grind only [loopBlock, sendBlock_wf, wf_mk, foldl_wf, State.Wf.claims, State.Wf.owner, State.Wf.origin]

theorem execEbbBlockReceive_wf (a0 a1 s t) (h : State.Wf q s) (e : execEbbBlockReceive a0 a1 s = .next t) : State.Wf q t := by grind only [execEbbBlockReceive, returned_wf, modLane_wf, put_wf, keepSets_wf, rxLeave_wf, badBlock_wf, wf_mk, foldl_wf, State.Wf.claims, State.Wf.owner, State.Wf.origin]

theorem noteMark_wf (a0 a1 a2 s) (h : State.Wf q s) : State.Wf q (noteMark a0 a1 a2 s) := by grind only [noteMark, modPort_wf, trainReq_wf, wf_mk, foldl_wf, State.Wf.claims, State.Wf.owner, State.Wf.origin]

theorem trainPorts_wf (s) (h : State.Wf q s) : State.Wf q (trainPorts s) := by grind only [trainPorts, trainPort_wf, wf_mk, foldl_wf, State.Wf.claims, State.Wf.owner, State.Wf.origin]

theorem loopModeWrite_wf (a0 a1 s) (h : State.Wf q s) : State.Wf q (loopModeWrite a0 a1 s).1 := by grind only [loopModeWrite, wakePort_wf, put_wf, loopBlock_wf, loopEnd_wf, modPort_wf, keepSets_wf, txLeave_wf, rxLeave_wf, wf_mk, foldl_wf, State.Wf.claims, State.Wf.owner, State.Wf.origin]

theorem execLaneFail_wf (a0 a1 a2 s t) (h : State.Wf q s) (e : execLaneFail a0 a1 a2 s = .next t) : State.Wf q t := by grind only [execLaneFail, laneFail_wf, wf_mk, foldl_wf, State.Wf.claims, State.Wf.owner, State.Wf.origin]

theorem bitLockResult_wf (a0 a1 s) (h : State.Wf q s) : State.Wf q (bitLockResult a0 a1 s) := by grind only [bitLockResult, failLane_wf, settleSet_wf, modPort_wf, setRx_wf, rxPilot_wf, wf_mk, foldl_wf, State.Wf.claims, State.Wf.owner, State.Wf.origin]

theorem laneBitLock_wf (a0 a1 s) (h : State.Wf q s) : State.Wf q (laneBitLock a0 a1 s) := by grind only [laneBitLock, modLane_wf, retrainFailed_wf, wf_mk, foldl_wf, State.Wf.claims, State.Wf.owner, State.Wf.origin]

theorem execBitLockCheckComplete_wf (a0 a1 s t) (h : State.Wf q s) (e : execBitLockCheckComplete a0 a1 s = .next t) : State.Wf q t := by grind only [execBitLockCheckComplete, bitLockResult_wf, laneBitLock_wf, wf_mk, foldl_wf, State.Wf.claims, State.Wf.owner, State.Wf.origin]

theorem execElasticBufferOverflow_wf (a0 s t) (h : State.Wf q s) (e : execElasticBufferOverflow a0 s = .next t) : State.Wf q t := by grind only [execElasticBufferOverflow, rxDown_wf, wf_mk, foldl_wf, State.Wf.claims, State.Wf.owner, State.Wf.origin]

theorem execBlockLockTimeout_wf (a0 a1 s t) (h : State.Wf q s) (e : execBlockLockTimeout a0 a1 s = .next t) : State.Wf q t := by grind only [execBlockLockTimeout, txPilot_wf, rxPilot_wf, wf_mk, foldl_wf, State.Wf.claims, State.Wf.owner, State.Wf.origin]

theorem portRetrainWrite_wf (a0 s) (h : State.Wf q s) : State.Wf q (portRetrainWrite a0 s).1 := by grind only [portRetrainWrite, put_wf, portRestart_wf, wf_mk, foldl_wf, State.Wf.claims, State.Wf.owner, State.Wf.origin]

theorem noteReady_wf (a0 a1 s) (h : State.Wf q s) : State.Wf q (noteReady a0 a1 s) := by grind only [noteReady, modPort_wf, toHarbour_wf, setTx_wf, wf_mk, foldl_wf, State.Wf.claims, State.Wf.owner, State.Wf.origin]

theorem noteCalm_wf (a0 a1 s) (h : State.Wf q s) : State.Wf q (noteCalm a0 a1 s) := by grind only [noteCalm, modPort_wf, wf_mk, foldl_wf, State.Wf.claims, State.Wf.owner, State.Wf.origin]

theorem markReceive_wf (a0 a1 a2 s) (h : State.Wf q s) : State.Wf q (markReceive a0 a1 a2 s) := by grind only [markReceive, badBlock_wf, laneFail_wf, noteMark_wf, noteReady_wf, noteCalm_wf, noteAnswer_wf, wf_mk, foldl_wf, State.Wf.claims, State.Wf.owner, State.Wf.origin]

theorem prbsCheck_wf (a0 a1 a2 s) (h : State.Wf q s) : State.Wf q (prbsCheck a0 a1 a2 s) := by grind only [prbsCheck, modPort_wf, addTo_wf, wf_mk, foldl_wf, State.Wf.claims, State.Wf.owner, State.Wf.origin]

theorem frameReceive_wf (a0 a1 a2 a3 s) (h : State.Wf q s) : State.Wf q (frameReceive a0 a1 a2 a3 s) := by grind only [frameReceive, syncCount_wf, put_wf, returned_wf, markReceive_wf, prbsCheck_wf, wf_mk, foldl_wf, State.Wf.claims, State.Wf.owner, State.Wf.origin]

theorem execPilotTimeout_wf (a0 a1 s t) (h : State.Wf q s) (e : execPilotTimeout a0 a1 s = .next t) : State.Wf q t := by grind only [execPilotTimeout, bump_wf, txLeave_wf, rxLeave_wf, wf_mk, foldl_wf, State.Wf.claims, State.Wf.owner, State.Wf.origin]

theorem harbourAdopt_wf (a0 a1 s) (h : State.Wf q s) : State.Wf q (harbourAdopt a0 a1 s) := by grind only [harbourAdopt, wf_mk, foldl_wf, State.Wf.claims, State.Wf.owner, State.Wf.origin]

theorem execBitLockTimeout_wf (a0 a1 s t) (h : State.Wf q s) (e : execBitLockTimeout a0 a1 s = .next t) : State.Wf q t := by grind only [execBitLockTimeout, txPilot_wf, rxPilot_wf, wf_mk, foldl_wf, State.Wf.claims, State.Wf.owner, State.Wf.origin]

theorem spareEbbStep_wf (a0 s) (h : State.Wf q s) : State.Wf q (spareEbbStep a0 s) := by grind only [spareEbbStep, sleepLanes_wf, wakeLanes_wf, wf_mk, foldl_wf, State.Wf.claims, State.Wf.owner, State.Wf.origin]

theorem prbsWrite_wf (a0 a1 s) (h : State.Wf q s) : State.Wf q (prbsWrite a0 a1 s).1 := by grind only [prbsWrite, put_wf, wakePort_wf, wf_mk, foldl_wf, State.Wf.claims, State.Wf.owner, State.Wf.origin]

theorem execReturnHoldExpiry_wf (a0 s t) (h : State.Wf q s) (e : execReturnHoldExpiry a0 s = .next t) : State.Wf q t := by grind only [execReturnHoldExpiry, modRing_wf, wf_mk, foldl_wf, State.Wf.claims, State.Wf.owner, State.Wf.origin]

theorem execControlBlockCheckFail_wf (a0 s t) (h : State.Wf q s) (e : execControlBlockCheckFail a0 s = .next t) : State.Wf q t := by grind only [execControlBlockCheckFail, badBlock_wf, wf_mk, foldl_wf, State.Wf.claims, State.Wf.owner, State.Wf.origin]

theorem execTrainingMarkReceive_wf (a0 a1 a2 s t) (h : State.Wf q s) (e : execTrainingMarkReceive a0 a1 a2 s = .next t) : State.Wf q t := by grind only [execTrainingMarkReceive, frameReceive_wf, wf_mk, foldl_wf, State.Wf.claims, State.Wf.owner, State.Wf.origin]

theorem execLoopRequestReceive_wf (a0 a1 s t) (h : State.Wf q s) (e : execLoopRequestReceive a0 a1 s = .next t) : State.Wf q t := by grind only [execLoopRequestReceive, returned_wf, loopReceive_wf, badBlock_wf, wf_mk, foldl_wf, State.Wf.claims, State.Wf.owner, State.Wf.origin]

theorem execBlockLockAchieved_wf (a0 s t) (h : State.Wf q s) (e : execBlockLockAchieved a0 s = .next t) : State.Wf q t := by grind only [execBlockLockAchieved, toHarbour_wf, put_wf, modPort_wf, wf_mk, foldl_wf, State.Wf.claims, State.Wf.owner, State.Wf.origin]

theorem harbourBlock_wf (a0 a1 s) (h : State.Wf q s) : State.Wf q (harbourBlock a0 a1 s) := by grind only [harbourBlock, harbourAdopt_wf, put_wf, sendHarbour_wf, modPort_wf, raise_wf, wf_mk, foldl_wf, State.Wf.claims, State.Wf.owner, State.Wf.origin]

theorem execHarbourBlockReceive_wf (a0 a1 s t) (h : State.Wf q s) (e : execHarbourBlockReceive a0 a1 s = .next t) : State.Wf q t := by grind only [execHarbourBlockReceive, harbourBlock_wf, returned_wf, badBlock_wf, wf_mk, foldl_wf, State.Wf.claims, State.Wf.owner, State.Wf.origin]

theorem execLaneRetrainComplete_wf (a0 a1 a2 s t) (h : State.Wf q s) (e : execLaneRetrainComplete a0 a1 a2 s = .next t) : State.Wf q t := by grind only [execLaneRetrainComplete, put_wf, modLane_wf, requestSet_wf, retrainFailed_wf, wf_mk, foldl_wf, State.Wf.claims, State.Wf.owner, State.Wf.origin]

theorem execSyncError_wf (a0 a1 s t) (h : State.Wf q s) (e : execSyncError a0 a1 s = .next t) : State.Wf q t := by grind only [execSyncError, syncCount_wf, noteRepl_wf, wf_mk, foldl_wf, State.Wf.claims, State.Wf.owner, State.Wf.origin]

end Sys2Proof.Machine
end

