-- ==== Sys2Proof/Laws/FormCalibration.lean ====
section
/-! SUPPORT. Every operation of Machine/Calibration.lean keeps the form of the state and leaves the queue alone (`State.Wf`). -/

namespace Sys2Proof.Machine

set_option linter.unusedVariables false
set_option maxRecDepth 2000

variable {q : List Instr}

theorem setTrial_wf (a0 a1 s) (h : State.Wf q s) : State.Wf q (setTrial a0 a1 s) := by grind only [setTrial, modCal_wf, put_wf, wf_mk, foldl_wf, State.Wf.claims, State.Wf.owner, State.Wf.origin]

theorem trialScans_wf (a0 a1 s) (h : State.Wf q s) : State.Wf q (trialScans a0 a1 s) := by grind only [trialScans, setTrial_wf, wf_mk, foldl_wf, State.Wf.claims, State.Wf.owner, State.Wf.origin]

theorem ctleMove_wf (a0 a1 s) (h : State.Wf q s) : State.Wf q (ctleMove a0 a1 s) := by grind only [ctleMove, put_wf, draw_wf, moveSampler_wf, trialScans_wf, modLane_wf, wf_mk, foldl_wf, State.Wf.claims, State.Wf.owner, State.Wf.origin]

theorem trialMove_wf (a0 s) (h : State.Wf q s) : State.Wf q (trialMove a0 s) := by grind only [trialMove, endTrial_wf, ctleMove_wf, wf_mk, foldl_wf, State.Wf.claims, State.Wf.owner, State.Wf.origin]

theorem pstepReceive_wf (a0 a1 s) (h : State.Wf q s) : State.Wf q (pstepReceive a0 a1 s) := by grind only [pstepReceive, badBlock_wf, modCal_wf, putI_wf, wf_mk, foldl_wf, State.Wf.claims, State.Wf.owner, State.Wf.origin]

theorem failScan_wf (a0 a1 s) (h : State.Wf q s) : State.Wf q (failScan a0 a1 s) := by grind only [failScan, modLane_wf, laneFail_wf, wf_mk, foldl_wf, State.Wf.claims, State.Wf.owner, State.Wf.origin]

theorem estimates_wf (a0 a1 a2 s) (h : State.Wf q s) : State.Wf q (estimates a0 a1 a2 s) := by grind only [estimates, putI_wf, wf_mk, foldl_wf, State.Wf.claims, State.Wf.owner, State.Wf.origin]

theorem keepSurvey_wf (a0 s) (h : State.Wf q s) : State.Wf q (keepSurvey a0 s) := by grind only [keepSurvey, wf_mk, foldl_wf, State.Wf.claims, State.Wf.owner, State.Wf.origin]

theorem asymState_wf (a0 s) (h : State.Wf q s) : State.Wf q (asymState a0 s) := by grind only [asymState, put_wf, wf_mk, foldl_wf, State.Wf.claims, State.Wf.owner, State.Wf.origin]

theorem alphaStep_wf (a0 a1 a2 s) (h : State.Wf q s) : State.Wf q (alphaStep a0 a1 a2 s) := by grind only [alphaStep, setAlpha_wf, wf_mk, foldl_wf, State.Wf.claims, State.Wf.owner, State.Wf.origin]

theorem asymCompute_wf (s) (h : State.Wf q s) : State.Wf q (asymCompute s) := by grind (splits := 30) (ematch := 30) (gen := 30) only [asymCompute, put_wf, estimates_wf, putI_wf, asymState_wf, bump_wf, raise_wf, alphaStep_wf, wf_mk, foldl_wf, State.Wf.claims, State.Wf.owner, State.Wf.origin]

theorem lockLane_wf (a0 a1 s) (h : State.Wf q s) : State.Wf q (lockLane a0 a1 s) := by grind only [lockLane, draw_wf, putI_wf, put_wf, wf_mk, foldl_wf, State.Wf.claims, State.Wf.owner, State.Wf.origin]

theorem execAsymWindowEnd_wf (a0 s t) (h : State.Wf q s) (e : execAsymWindowEnd a0 s = .next t) : State.Wf q t := by grind only [execAsymWindowEnd, put_wf, putI_wf, modCal_wf, wf_mk, foldl_wf, State.Wf.claims, State.Wf.owner, State.Wf.origin]

theorem handleFar_wf (a0 a1 s) (h : State.Wf q s) : State.Wf q (handleFar a0 a1 s) := by grind only [handleFar, answerReq_wf, wf_mk, foldl_wf, State.Wf.claims, State.Wf.owner, State.Wf.origin]

theorem execDfeUpdate_wf (a0 a1 a2 a3 s t) (h : State.Wf q s) (e : execDfeUpdate a0 a1 a2 a3 s = .next t) : State.Wf q t := by grind only [execDfeUpdate, put_wf, wf_mk, foldl_wf, State.Wf.claims, State.Wf.owner, State.Wf.origin]

theorem eyeOf_wf (a0 s) (h : State.Wf q s) : State.Wf q (eyeOf a0 s).2 := by grind only [eyeOf, draw_wf, wf_mk, foldl_wf, State.Wf.claims, State.Wf.owner, State.Wf.origin]

theorem trialApplied_wf (a0 a1 s) (h : State.Wf q s) : State.Wf q (trialApplied a0 a1 s) := by grind only [trialApplied, trialScans_wf, laneChanged_wf, wf_mk, foldl_wf, State.Wf.claims, State.Wf.owner, State.Wf.origin]

theorem trialAnswer_wf (a0 a1 a2 s) (h : State.Wf q s) : State.Wf q (trialAnswer a0 a1 a2 s) := by grind only [trialAnswer, modLane_wf, trialApplied_wf, endTrial_wf, wf_mk, foldl_wf, State.Wf.claims, State.Wf.owner, State.Wf.origin]

theorem tapreqReceive_wf (a0 a1 s) (h : State.Wf q s) : State.Wf q (tapreqReceive a0 a1 s) := by grind only [tapreqReceive, badBlock_wf, noteReady_wf, noteAnswer_wf, trialAnswer_wf, trainReq_wf, modLane_wf, wf_mk, foldl_wf, State.Wf.claims, State.Wf.owner, State.Wf.origin]

theorem spanMean_wf (a0 s) (h : State.Wf q s) : State.Wf q (spanMean a0 s) := by grind only [spanMean, putI_wf, wf_mk, foldl_wf, State.Wf.claims, State.Wf.owner, State.Wf.origin]

theorem calReceive_wf (a0 a1 s) (h : State.Wf q s) : State.Wf q (calReceive a0 a1 s) := by grind only [calReceive, badBlock_wf, modCal_wf, spanMean_wf, putI_wf, wf_mk, foldl_wf, State.Wf.claims, State.Wf.owner, State.Wf.origin]

theorem recentre_wf (a0 a1 s) (h : State.Wf q s) : State.Wf q (recentre a0 a1 s) := by grind only [recentre, modLane_wf, moveSampler_wf, wf_mk, foldl_wf, State.Wf.claims, State.Wf.owner, State.Wf.origin]

theorem slackReceive_wf (a0 a1 a2 a3 s) (h : State.Wf q s) : State.Wf q (slackReceive a0 a1 a2 a3 s) := by grind only [slackReceive, tapreqReceive_wf, pstepReceive_wf, modCal_wf, calReceive_wf, recentre_wf, trialMove_wf, wf_mk, foldl_wf, State.Wf.claims, State.Wf.owner, State.Wf.origin]

theorem pilotExit_wf (a0 a1 s) (h : State.Wf q s) : State.Wf q (pilotExit a0 a1 s) := by grind only [pilotExit, setRx_wf, lockLane_wf, modLane_wf, wf_mk, foldl_wf, State.Wf.claims, State.Wf.owner, State.Wf.origin]

theorem trialScan_wf (a0 a1 s) (h : State.Wf q s) : State.Wf q (trialScan a0 a1 s).2 := by grind only [trialScan, setTrial_wf, bump_wf, endTrial_wf, laneFail_wf, wf_mk, foldl_wf, State.Wf.claims, State.Wf.owner, State.Wf.origin]

theorem execEyeMapComplete_wf (a0 a1 a2 s t) (h : State.Wf q s) (e : execEyeMapComplete a0 a1 a2 s = .next t) : State.Wf q t := by grind only [execEyeMapComplete, newMap_wf, putBlob_wf, wf_mk, foldl_wf, State.Wf.claims, State.Wf.owner, State.Wf.origin]

theorem execSlackWaterReceive_wf (a0 a1 a2 a3 a4 a5 s t) (h : State.Wf q s) (e : execSlackWaterReceive a0 a1 a2 a3 a4 a5 s = .next t) : State.Wf q t := by grind only [execSlackWaterReceive, slackReceive_wf, returned_wf, wf_mk, foldl_wf, State.Wf.claims, State.Wf.owner, State.Wf.origin]

theorem asymSurveyTake_wf (a0 s) (h : State.Wf q s) : State.Wf q (asymSurveyTake a0 s) := by grind only [asymSurveyTake, putI_wf, keepSurvey_wf, wf_mk, foldl_wf, State.Wf.claims, State.Wf.owner, State.Wf.origin]

theorem execAsymCompute_wf (s t) (h : State.Wf q s) (e : execAsymCompute s = .next t) : State.Wf q t := by grind only [execAsymCompute, asymCompute_wf, wf_mk, foldl_wf, State.Wf.claims, State.Wf.owner, State.Wf.origin]

theorem deferFrames_wf (a0 s) (h : State.Wf q s) : State.Wf q (deferFrames a0 s) := by grind only [deferFrames, modHold_wf, addTo_wf, wf_mk, foldl_wf, State.Wf.claims, State.Wf.owner, State.Wf.origin]

theorem slackRequests_wf (a0 s) (h : State.Wf q s) : State.Wf q (slackRequests a0 s) := by grind only [slackRequests, freeRequest_wf, wf_mk, foldl_wf, State.Wf.claims, State.Wf.owner, State.Wf.origin]

theorem trialRevert_wf (a0 s) (h : State.Wf q s) : State.Wf q (trialRevert a0 s) := by grind only [trialRevert, setTrial_wf, newRequest_wf, wf_mk, foldl_wf, State.Wf.claims, State.Wf.owner, State.Wf.origin]

theorem trialStart_wf (a0 s) (h : State.Wf q s) : State.Wf q (trialStart a0 s) := by
  unfold trialStart
  repeat' split
  all_goals grind only [modCal_wf, put_wf, newRequest_wf, setTrial_wf, wf_mk, foldl_wf, State.Wf.claims, State.Wf.owner, State.Wf.origin]

theorem slackStart_wf (a0 a1 s) (h : State.Wf q s) : State.Wf q (slackStart a0 a1 s) := by
  unfold slackStart
  extract_lets s1 s2 words s3 s4
  have h1 : s1.Wf q := slackRequests_wf _ _ (trialRevert_wf _ _ (trialStart_wf _ _ (by split; exact deferFrames_wf _ _ h; exact h)))
  have h2 : s2.Wf q := foldl_wf _ (fun _ _ h => handleFar_wf _ _ _ h) _ _ h1
  have h3 : s3.Wf q := by
    show State.Wf q (if _ then _ else _)
    split
    · exact turnBack_wf _ _ _ h2
    · exact h2
  have h4 : s4.Wf q := modCal_wf _ _ _ h3
  split
  · split
    · exact setTrial_wf _ _ _ h4
    · exact h4
  · exact h4

theorem sendBoth_wf (a0 a1 s) (h : State.Wf q s) : State.Wf q (sendBoth a0 a1 s) := by grind only [sendBoth, nextSeqOf_wf, enqueue_wf, wf_mk, foldl_wf, State.Wf.claims, State.Wf.owner, State.Wf.origin]

theorem execSlackWaterStart_wf (a0 a1 s t) (h : State.Wf q s) (e : execSlackWaterStart a0 a1 s = .next t) : State.Wf q t := by grind only [execSlackWaterStart, slackStart_wf, wf_mk, foldl_wf, State.Wf.claims, State.Wf.owner, State.Wf.origin]

theorem warnScan_wf (a0 a1 a2 s) (h : State.Wf q s) : State.Wf q (warnScan a0 a1 a2 s) := by grind only [warnScan, modLane_wf, bump_wf, selfTestFail_wf, raise_wf, wf_mk, foldl_wf, State.Wf.claims, State.Wf.owner, State.Wf.origin]

theorem axisScan_wf (a0 a1 a2 s) (h : State.Wf q s) : State.Wf q (axisScan a0 a1 a2 s) := by grind (splits := 30) (ematch := 30) (gen := 30) only [axisScan, eyeOf_wf, put_wf, modLane_wf, warnScan_wf, pilotExit_wf, trialScan_wf, failScan_wf, wf_mk, foldl_wf, State.Wf.claims, State.Wf.owner, State.Wf.origin]

theorem execAxisScanComplete_wf (a0 a1 a2 a3 a4 a5 a6 s t) (h : State.Wf q s) (e : execAxisScanComplete a0 a1 a2 a3 a4 a5 a6 s = .next t) : State.Wf q t := by grind only [execAxisScanComplete, axisScan_wf, wf_mk, foldl_wf, State.Wf.claims, State.Wf.owner, State.Wf.origin]

theorem execAsymSurveySend_wf (s t) (h : State.Wf q s) (e : execAsymSurveySend s = .next t) : State.Wf q t := by grind only [execAsymSurveySend, sendBoth_wf, keepSurvey_wf, wf_mk, foldl_wf, State.Wf.claims, State.Wf.owner, State.Wf.origin]

theorem execTrialAnswerTimeout_wf (a0 a1 s t) (h : State.Wf q s) (e : execTrialAnswerTimeout a0 a1 s = .next t) : State.Wf q t := by grind only [execTrialAnswerTimeout, trialApplied_wf, abandonTrial_wf, wf_mk, foldl_wf, State.Wf.claims, State.Wf.owner, State.Wf.origin]

end Sys2Proof.Machine
end

