-- ==== Sys2Proof/Laws/FormTime.lean ====
section
/-! SUPPORT. Every operation of Machine/Time.lean keeps the form of the state and leaves the queue alone (`State.Wf`). -/

namespace Sys2Proof.Machine

set_option linter.unusedVariables false
set_option maxRecDepth 2000

variable {q : List Instr}

theorem walkStep_wf (a0 a1 s) (h : State.Wf q s) : State.Wf q (walkStep a0 a1 s) := by grind only [walkStep, modTime_wf, put_wf, wf_mk, foldl_wf, State.Wf.claims, State.Wf.owner, State.Wf.origin]

theorem genSkip_wf (a0 s) (h : State.Wf q s) : State.Wf q (genSkip a0 s) := by grind only [genSkip, setGen_wf, addTo_wf, wf_mk, foldl_wf, State.Wf.claims, State.Wf.owner, State.Wf.origin]

theorem jumpW_wf (a0 s) (h : State.Wf q s) : State.Wf q (jumpW a0 s) := by grind only [jumpW, modTime_wf, genSkip_wf, wf_mk, foldl_wf, State.Wf.claims, State.Wf.owner, State.Wf.origin]

theorem setDomTime_wf (a0 a1 s) (h : State.Wf q s) : State.Wf q (setDomTime a0 a1 s) := by grind only [setDomTime, modDomain_wf, jumpW_wf, wf_mk, foldl_wf, State.Wf.claims, State.Wf.owner, State.Wf.origin]

theorem domStep_wf (a0 a1 s) (h : State.Wf q s) : State.Wf q (domStep a0 a1 s) := by grind only [domStep, setDomTime_wf, wf_mk, foldl_wf, State.Wf.claims, State.Wf.owner, State.Wf.origin]

theorem rtSample_wf (a0 a1 s) (h : State.Wf q s) : State.Wf q (rtSample a0 a1 s) := by grind only [rtSample, modTime_wf, bump_wf, put_wf, wf_mk, foldl_wf, State.Wf.claims, State.Wf.owner, State.Wf.origin]

theorem execEchoWordsReceive_wf (a0 a1 a2 a3 a4 s t) (h : State.Wf q s) (e : execEchoWordsReceive a0 a1 a2 a3 a4 s = .next t) : State.Wf q t := by grind only [execEchoWordsReceive, returned_wf, rtSample_wf, bump_wf, walkStep_wf, wf_mk, foldl_wf, State.Wf.claims, State.Wf.owner, State.Wf.origin]

theorem domEnter_wf (a0 a1 s) (h : State.Wf q s) : State.Wf q (domEnter a0 a1 s) := by grind only [domEnter, modDomain_wf, put_wf, wf_mk, foldl_wf, State.Wf.claims, State.Wf.owner, State.Wf.origin]

theorem correct_wf (a0 a1 s) (h : State.Wf q s) : State.Wf q (correct a0 a1 s) := by grind only [correct, modDomain_wf, wf_mk, foldl_wf, State.Wf.claims, State.Wf.owner, State.Wf.origin]

theorem putErr_wf (a0 a1 s) (h : State.Wf q s) : State.Wf q (putErr a0 a1 s) := by grind only [putErr, putI_wf, wf_mk, foldl_wf, State.Wf.claims, State.Wf.owner, State.Wf.origin]

theorem masterStep_wf (a0 s) (h : State.Wf q s) : State.Wf q (masterStep a0 s) := by grind (splits := 30) (ematch := 30) (gen := 30) only [masterStep, domEnter_wf, put_wf, modDomain_wf, correct_wf, putErr_wf, setDomTime_wf, wf_mk, foldl_wf, State.Wf.claims, State.Wf.owner, State.Wf.origin]

theorem lostSends_wf (a0 s) (h : State.Wf q s) : State.Wf q (lostSends a0 s) := by grind only [lostSends, put_wf, wf_mk, foldl_wf, State.Wf.claims, State.Wf.owner, State.Wf.origin]

theorem domCopy_wf (a0 a1 s) (h : State.Wf q s) : State.Wf q (domCopy a0 a1 s) := by grind only [domCopy, put_wf, modDomain_wf, wf_mk, foldl_wf, State.Wf.claims, State.Wf.owner, State.Wf.origin]

theorem domTransit_wf (a0 a1 a2 s) (h : State.Wf q s) : State.Wf q (domTransit a0 a1 a2 s) := by
  unfold domTransit
  extract_lets x st lim old
  clear_value x st
  have e := fun m => domEnter_wf a0 m s h
  have b := domEnter_wf a0 3 _ (bump_wf s (Obj.lockLossCnt a0) h)
  repeat' split
  all_goals first | exact h | exact b | exact e _

theorem loopStep_wf (a0 a1 a2 a3 s) (h : State.Wf q s) : State.Wf q (loopStep a0 a1 a2 a3 s) := by
  unfold loopStep
  repeat' split
  all_goals grind only [putErr_wf, bump_wf, put_wf, domCopy_wf, modDomain_wf, domStep_wf, correct_wf, domTransit_wf, wf_mk, foldl_wf, State.Wf.claims, State.Wf.owner, State.Wf.origin]

theorem dryStep_wf (a0 s) (h : State.Wf q s) : State.Wf q (dryStep a0 s) := by grind only [dryStep, modDomain_wf, domTransit_wf, correct_wf, wf_mk, foldl_wf, State.Wf.claims, State.Wf.owner, State.Wf.origin]

theorem discipline_wf (a0 a1 s) (h : State.Wf q s) : State.Wf q (discipline a0 a1 s) := by grind only [discipline, masterStep_wf, modDomain_wf, lostSends_wf, loopStep_wf, dryStep_wf, wf_mk, foldl_wf, State.Wf.claims, State.Wf.owner, State.Wf.origin]

theorem domDrift_wf (a0 a1 a2 s) (h : State.Wf q s) : State.Wf q (domDrift a0 a1 a2 s) := by grind only [domDrift, modDomain_wf, wf_mk, foldl_wf, State.Wf.claims, State.Wf.owner, State.Wf.origin]

theorem slewSteer_wf (s) (h : State.Wf q s) : State.Wf q (slewSteer s) := by grind only [slewSteer, domDrift_wf, modTime_wf, putI_wf, bump_wf, wf_mk, foldl_wf, State.Wf.claims, State.Wf.owner, State.Wf.origin]

theorem switchFix_wf (s) (h : State.Wf q s) : State.Wf q (switchFix s) := by grind only [switchFix, modTime_wf, wf_mk, foldl_wf, State.Wf.claims, State.Wf.owner, State.Wf.origin]

theorem switchTo_wf (a0 s) (h : State.Wf q s) : State.Wf q (switchTo a0 s) := by grind only [switchTo, modTime_wf, put_wf, wf_mk, foldl_wf, State.Wf.claims, State.Wf.owner, State.Wf.origin]

theorem stepTo_wf (a0 s) (h : State.Wf q s) : State.Wf q (stepTo a0 s) := by grind only [stepTo, jumpW_wf, put_wf, modTime_wf, wf_mk, foldl_wf, State.Wf.claims, State.Wf.owner, State.Wf.origin]

theorem switchApply_wf (s) (h : State.Wf q s) : State.Wf q (switchApply s) := by
  unfold switchApply
  repeat' split
  all_goals grind only [put_wf, modTime_wf, switchTo_wf, bump_wf, stepTo_wf, wf_mk, foldl_wf, State.Wf.claims, State.Wf.owner, State.Wf.origin]

theorem domainMismatch_wf (s) (h : State.Wf q s) : State.Wf q (domainMismatch s) := by grind only [domainMismatch, stepTo_wf, modTime_wf, raise_wf, switchTo_wf, bump_wf, wf_mk, foldl_wf, State.Wf.claims, State.Wf.owner, State.Wf.origin]

theorem autoSwitch_wf (s) (h : State.Wf q s) : State.Wf q (autoSwitch s) := by grind only [autoSwitch, switchTo_wf, bump_wf, wf_mk, foldl_wf, State.Wf.claims, State.Wf.owner, State.Wf.origin]

theorem timeBoundary_wf (a0 s) (h : State.Wf q s) : State.Wf q (timeBoundary a0 s) := by grind (splits := 30) (ematch := 30) (gen := 30) only [timeBoundary, modTime_wf, discipline_wf, slewSteer_wf, switchFix_wf, switchApply_wf, domainMismatch_wf, autoSwitch_wf, wf_mk, foldl_wf, State.Wf.claims, State.Wf.owner, State.Wf.origin]

theorem genRelease_wf (a0 a1 s) (h : State.Wf q s) : State.Wf q (genRelease a0 a1 s) := by grind only [genRelease, setGen_wf, imageOrInput_wf, wf_mk, foldl_wf, State.Wf.claims, State.Wf.owner, State.Wf.origin]

theorem genArm_wf (a0 a1 a2 s) (h : State.Wf q s) : State.Wf q (genArm a0 a1 a2 s) := by grind only [genArm, genDrive_wf, setGen_wf, wf_mk, foldl_wf, State.Wf.claims, State.Wf.owner, State.Wf.origin]

theorem pgControlWrite_wf (a0 a1 a2 s) (h : State.Wf q s) : State.Wf q (pgControlWrite a0 a1 a2 s) := by
  unfold pgControlWrite
  have h1 : State.Wf q (genRelease a0 (fld a1 0 9) s) := genRelease_wf _ _ _ h
  generalize genRelease a0 (fld a1 0 9) s = u at h1
  dsimp only
  have h2 : State.Wf q (if bit a1 17 = true then if (u.gen a0).st = 1 ∨ (u.gen a0).st = 2 ∧ (!(u.gen a0).active) = true then genStop a0 u else if (u.gen a0).st = 2 then setGen a0 { u.gen a0 with stopping := true } u else u else u) := by
    split
    · split
      · exact genStop_wf _ _ h1
      · split
        · exact setGen_wf _ _ _ h1
        · exact h1
    · exact h1
  generalize (if bit a1 17 = true then if (u.gen a0).st = 1 ∨ (u.gen a0).st = 2 ∧ (!(u.gen a0).active) = true then genStop a0 u else if (u.gen a0).st = 2 then setGen a0 { u.gen a0 with stopping := true } u else u else u) = v at h2
  have h3 : State.Wf q (genDrive a0 (setGen a0 { v.gen a0 with invert := bit a1 9 } v)) := genDrive_wf _ _ (setGen_wf _ _ _ h2)
  generalize genDrive a0 (setGen a0 { v.gen a0 with invert := bit a1 9 } v) = w at h3
  have h4 := put_wf w (Obj.pgControl a0) (a1 % 2 ^ 11) h3
  repeat' split
  all_goals first | exact h4 | exact genArm_wf _ _ _ _ h4 | exact setGen_wf _ _ _ h4

theorem reduceSlew_wf (s) (h : State.Wf q s) : State.Wf q (reduceSlew s) := by grind only [reduceSlew, put_wf, wf_mk, foldl_wf, State.Wf.claims, State.Wf.owner, State.Wf.origin]

theorem execTimeWordsReceive_wf (a0 a1 a2 a3 s t) (h : State.Wf q s) (e : execTimeWordsReceive a0 a1 a2 a3 s = .next t) : State.Wf q t := by grind only [execTimeWordsReceive, returned_wf, bump_wf, modTime_wf, wf_mk, foldl_wf, State.Wf.claims, State.Wf.owner, State.Wf.origin]

theorem coarseLog_wf (a0 a1 a2 s) (h : State.Wf q s) : State.Wf q (coarseLog a0 a1 a2 s) := by grind only [coarseLog, storeWords_wf, bump_wf, wf_mk, foldl_wf, State.Wf.claims, State.Wf.owner, State.Wf.origin]

theorem execPpsMissTimeout_wf (s t) (h : State.Wf q s) (e : execPpsMissTimeout s = .next t) : State.Wf q t := by grind only [execPpsMissTimeout, modTime_wf, put_wf, bump_wf, wf_mk, foldl_wf, State.Wf.claims, State.Wf.owner, State.Wf.origin]

theorem execPulseEdge_wf (a0 s t) (h : State.Wf q s) (e : execPulseEdge a0 s = .next t) : State.Wf q t := by grind only [execPulseEdge, genDrive_wf, setGen_wf, wf_mk, foldl_wf, State.Wf.claims, State.Wf.owner, State.Wf.origin]

theorem execPpsEdge_wf (a0 s t) (h : State.Wf q s) (e : execPpsEdge a0 s = .next t) : State.Wf q t := by grind (splits := 30) (ematch := 30) (gen := 30) only [execPpsEdge, bump_wf, put_wf, modTime_wf, setDomTime_wf, modDomain_wf, wf_mk, foldl_wf, State.Wf.claims, State.Wf.owner, State.Wf.origin]

theorem coarseCapture_wf (a0 a1 a2 s) (h : State.Wf q s) : State.Wf q (coarseCapture a0 a1 a2 s) := by grind only [coarseCapture, modTime_wf, wf_mk, foldl_wf, State.Wf.claims, State.Wf.owner, State.Wf.origin]

theorem fineCapture_wf (a0 a1 a2 a3 s) (h : State.Wf q s) : State.Wf q (fineCapture a0 a1 a2 a3 s) := by grind only [fineCapture, bump_wf, modTime_wf, storeWords_wf, wf_mk, foldl_wf, State.Wf.claims, State.Wf.owner, State.Wf.origin]

theorem execPinEdge_wf (a0 a1 a2 a3 s t) (h : State.Wf q s) (e : execPinEdge a0 a1 a2 a3 s = .next t) : State.Wf q t := by grind only [execPinEdge, coarseCapture_wf, coarseLog_wf, fineCapture_wf, wf_mk, foldl_wf, State.Wf.claims, State.Wf.owner, State.Wf.origin]

theorem gensRearm_wf (s) (h : State.Wf q s) : State.Wf q (gensRearm s) := by grind only [gensRearm, pgControlWrite_wf, wf_mk, foldl_wf, State.Wf.claims, State.Wf.owner, State.Wf.origin]

theorem timeSetWrite_wf (a0 s) (h : State.Wf q s) : State.Wf q (timeSetWrite a0 s).1 := by grind only [timeSetWrite, modDomain_wf, put_wf, wf_mk, foldl_wf, State.Wf.claims, State.Wf.owner, State.Wf.origin]

theorem domainSwitchWrite_wf (a0 s) (h : State.Wf q s) : State.Wf q (domainSwitchWrite a0 s).1 := by grind only [domainSwitchWrite, put_wf, modTime_wf, wf_mk, foldl_wf, State.Wf.claims, State.Wf.owner, State.Wf.origin]

end Sys2Proof.Machine
end

