-- ==== Sys2Proof/Laws/FormWindows.lean ====
section
/-! SUPPORT. Every operation of Machine/Windows.lean keeps the form of the state and leaves the queue alone (`State.Wf`). -/

namespace Sys2Proof.Machine

set_option linter.unusedVariables false
set_option maxRecDepth 2000

variable {q : List Instr}

theorem imageWrite_wf (a0 a1 a2 s) (h : State.Wf q s) : State.Wf q (imageWrite a0 a1 a2 s) := by grind only [imageWrite, wf_mk, foldl_wf, State.Wf.claims, State.Wf.owner, State.Wf.origin]

theorem workNow_wf (s) (h : State.Wf q s) : State.Wf q (workNow s).2 := by grind only [workNow, draw_wf, wf_mk, foldl_wf, State.Wf.claims, State.Wf.owner, State.Wf.origin]

theorem readTimeWord_wf (a0 s) (h : State.Wf q s) : State.Wf q (readTimeWord a0 s).2 := by grind only [readTimeWord, workNow_wf, modBridge_wf, wf_mk, foldl_wf, State.Wf.claims, State.Wf.owner, State.Wf.origin]

theorem readWinWord_wf (a0 a1 s) (h : State.Wf q s) : State.Wf q (readWinWord a0 a1 s).2 := by grind only [readWinWord, setCrane_wf, canRead_wf, readTimeWord_wf, wf_mk, foldl_wf, State.Wf.claims, State.Wf.owner, State.Wf.origin]

theorem popWords_wf (a0 a1 s) (h : State.Wf q s) : State.Wf q (popWords a0 a1 s).2 := by
  induction a1 generalizing s with
  | zero => exact h
  | succ n ih =>
    unfold popWords
    dsimp only
    split
    · exact ih _ (fifoPop_wf _ _ h)
    · exact fifoPop_wf _ _ h

theorem busFeed_wf (a0 a1 s) (h : State.Wf q s) : State.Wf q (busFeed a0 a1 s) := by grind only [busFeed, chkArrive_wf, wf_mk, foldl_wf, State.Wf.claims, State.Wf.owner, State.Wf.origin]

theorem feedParts_wf (a0 a1 a2 a3 a4 s) (h : State.Wf q s) : State.Wf q (feedParts a0 a1 a2 a3 a4 s) := by
  induction a4 generalizing a2 s with
  | zero => exact h
  | succ n ih => exact ih _ _ (busFeed_wf _ _ _ h)

theorem reportData_wf (a0 s) (h : State.Wf q s) : State.Wf q (reportData a0 s) := by grind only [reportData, modBridge_wf, wf_mk, foldl_wf, State.Wf.claims, State.Wf.owner, State.Wf.origin]

theorem execUserWindowRead_wf (a0 a1 s t) (h : State.Wf q s) (e : execUserWindowRead a0 a1 s = .next t) : State.Wf q t := by grind only [execUserWindowRead, readWinWord_wf, reportData_wf, wf_mk, foldl_wf, State.Wf.claims, State.Wf.owner, State.Wf.origin]

theorem sramDetect_wf (a0 s) (h : State.Wf q s) : State.Wf q (sramDetect a0 s) := by grind only [sramDetect, raise_wf, holdCriterion_wf, wf_mk, foldl_wf, State.Wf.claims, State.Wf.owner, State.Wf.origin]

theorem sramRead_wf (a0 a1 s) (h : State.Wf q s) : State.Wf q (sramRead a0 a1 s).2 := by grind only [sramRead, sramDetect_wf, wf_mk, foldl_wf, State.Wf.claims, State.Wf.owner, State.Wf.origin]

theorem pgWrite_wf (a0 a1 a2 a3 s) (h : State.Wf q s) : State.Wf q (pgWrite a0 a1 a2 a3 s) := by
  unfold pgWrite
  repeat' split
  all_goals grind only [put_wf, workNow_wf, pgControlWrite_wf, wf_mk, foldl_wf, State.Wf.claims, State.Wf.owner, State.Wf.origin]

theorem sramWrite_wf (a0 a1 a2 s) (h : State.Wf q s) : State.Wf q (sramWrite a0 a1 a2 s) := by grind only [sramWrite, modBridge_wf, wf_mk, foldl_wf, State.Wf.claims, State.Wf.owner, State.Wf.origin]

theorem writeElem_wf (a0 a1 a2 a3 s) (h : State.Wf q s) : State.Wf q (writeElem a0 a1 a2 a3 s).2 := by
  unfold writeElem
  extract_lets i s1 mask word
  have h1 : s1.Wf q := touchWord_wf _ _ _ _ h
  split
  · split
    · exact canWrite_wf _ _ _ _ _ _ h1 ‹_›
    · exact h1
  · exact feedParts_wf _ _ _ _ _ _ h1
  · split
    · exact h1
    · split
      · exact imageWrite_wf _ _ _ _ h1
      · exact setCrane_wf _ _ _ (setUserWord_wf _ _ _ _ h1)
      · split
        · exact setUnit_wf _ _ _ h1
        · split
          · exact chkControlWrite_wf _ _ _ _ h1 ‹_›
          · exact h1
      · exact pgWrite_wf _ _ _ _ _ h1
      · exact sramWrite_wf _ _ _ _ h1

theorem readElem_wf (a0 a1 a2 s) (h : State.Wf q s) : State.Wf q (readElem a0 a1 a2 s).2 := by grind only [readElem, sramRead_wf, readWinWord_wf, wf_mk, foldl_wf, State.Wf.claims, State.Wf.owner, State.Wf.origin]

theorem readElems_wf (a0 a1 a2 a3 s) (h : State.Wf q s) : State.Wf q (readElems a0 a1 a2 a3 s).2 := by
  induction a2 generalizing a3 s with
  | zero => exact h
  | succ n ih => exact ih _ _ (readElem_wf _ _ _ _ h)

theorem execWorkTimeWindowRead_wf (a0 s t) (h : State.Wf q s) (e : execWorkTimeWindowRead a0 s = .next t) : State.Wf q t := by grind only [execWorkTimeWindowRead, readTimeWord_wf, reportData_wf, wf_mk, foldl_wf, State.Wf.claims, State.Wf.owner, State.Wf.origin]

theorem execPopWindowRead_wf (a0 a1 s t) (h : State.Wf q s) (e : execPopWindowRead a0 a1 s = .next t) : State.Wf q t := by grind only [execPopWindowRead, popWords_wf, claimFifo_wf, reportData_wf, wf_mk, foldl_wf, State.Wf.claims, State.Wf.owner, State.Wf.origin]

theorem execUserWindowWrite_wf (a0 a1 a2 s t) (h : State.Wf q s) (e : execUserWindowWrite a0 a1 a2 s = .next t) : State.Wf q t := by grind only [execUserWindowWrite, writeElem_wf, wf_mk, foldl_wf, State.Wf.claims, State.Wf.owner, State.Wf.origin]

end Sys2Proof.Machine
end

