-- ==== Sys2Proof/Laws/FormPlan.lean ====
section
/-! SUPPORT. Every operation of Machine/Plan.lean keeps the form of the state and leaves the queue alone (`State.Wf`). -/

namespace Sys2Proof.Machine

set_option linter.unusedVariables false
set_option maxRecDepth 2000

variable {q : List Instr}

theorem setActive_wf (a0 s) (h : State.Wf q s) : State.Wf q (setActive a0 s) := by
  unfold setActive
  repeat' split
  all_goals grind only [putBlob_wf, put_wf, wf_mk, foldl_wf, State.Wf.claims, State.Wf.owner, State.Wf.origin]

theorem renumberTime_wf (a0 a1 s) (h : State.Wf q s) : State.Wf q (renumberTime a0 a1 s) := by grind only [renumberTime, put_wf, wf_mk, foldl_wf, State.Wf.claims, State.Wf.owner, State.Wf.origin]

theorem takePlan_wf (a0 s) (h : State.Wf q s) : State.Wf q (takePlan a0 s) := by grind only [takePlan, renumberTime_wf, setActive_wf, wf_mk, foldl_wf, State.Wf.claims, State.Wf.owner, State.Wf.origin]

theorem armPlan_wf (a0 s) (h : State.Wf q s) : State.Wf q (armPlan a0 s) := by
  unfold armPlan
  repeat' split
  all_goals grind only [put_wf, wf_mk, foldl_wf, State.Wf.claims, State.Wf.owner, State.Wf.origin]

theorem planBoundary_wf (s) (h : State.Wf q s) : State.Wf q (planBoundary s) := by grind only [planBoundary, takePlan_wf, armPlan_wf, wf_mk, foldl_wf, State.Wf.claims, State.Wf.owner, State.Wf.origin]

theorem planCommitWrite_wf (s) (h : State.Wf q s) : State.Wf q (planCommitWrite s).1 := by grind only [planCommitWrite, put_wf, wf_mk, foldl_wf, State.Wf.claims, State.Wf.owner, State.Wf.origin]

theorem execTidePlanCheckComplete_wf (s t) (h : State.Wf q s) (e : execTidePlanCheckComplete s = .next t) : State.Wf q t := by grind (splits := 30) (ematch := 30) (gen := 30) only [execTidePlanCheckComplete, put_wf, unstage_wf, armPlan_wf, putBlob_wf, configCommit_wf, wf_mk, foldl_wf, State.Wf.claims, State.Wf.owner, State.Wf.origin]

end Sys2Proof.Machine
end

