-- ==== Sys2Proof/Laws/FormSched.lean ====
section
/-! SUPPORT. Every operation of Machine/Sched.lean keeps the form of the state and leaves the queue alone (`State.Wf`). -/

namespace Sys2Proof.Machine

set_option linter.unusedVariables false
set_option maxRecDepth 2000

variable {q : List Instr}

theorem staleTide_wf (a0 s) (h : State.Wf q s) : State.Wf q (staleTide a0 s) := by grind only [staleTide, countDiscard_wf, wf_mk, foldl_wf, State.Wf.claims, State.Wf.owner, State.Wf.origin]

theorem modTide_wf (a0 s) (h : State.Wf q s) : State.Wf q (modTide a0 s) := by grind only [modTide, wf_mk, foldl_wf, State.Wf.claims, State.Wf.owner, State.Wf.origin]

theorem discardStale_wf (s) (h : State.Wf q s) : State.Wf q (discardStale s) := by grind only [discardStale, staleTide_wf, modTide_wf, promote_wf, discardJob_wf, wf_mk, foldl_wf, State.Wf.claims, State.Wf.owner, State.Wf.origin]

theorem writeDeck_wf (a0 a1 s) (h : State.Wf q s) : State.Wf q (writeDeck a0 a1 s) := by
  induction a1 generalizing a0 s with
  | nil => exact h
  | cons v t ih =>
    unfold writeDeck
    dsimp only
    refine ih _ _ ?_
    grind [imageWrite_wf, touchWord_wf, modTide_wf]

theorem pushFrame_wf (a0 a1 a2 s t) (h : State.Wf q s) (e : pushFrame a0 a1 a2 s = some t) : State.Wf q t := by grind only [pushFrame, fifoWrite_wf, wf_mk, foldl_wf, State.Wf.claims, State.Wf.owner, State.Wf.origin]

theorem writeAll_wf (a0 a1 a2 s t) (h : State.Wf q s) (e : writeAll a0 a1 a2 s = some t) : State.Wf q t := by
  induction a2 generalizing a1 s with
  | nil => cases e; exact h
  | cons v u ih =>
    unfold writeAll at e
    dsimp only at e
    split at e
    · exact ih _ _ (writeElem_wf _ _ _ _ _ h) e
    · cases e

theorem schedTarget_wf (a0 a1 a2 s t) (h : State.Wf q s) (e : schedTarget a0 a1 a2 s = some t) : State.Wf q t := by
  unfold schedTarget at e
  split at e
  · cases e; exact writeDeck_wf _ _ _ h
  · split at e
    · cases e
    · split at e
      · exact pushFrame_wf _ _ _ _ _ h e
      · split at e
        · split at e
          · cases e; exact h
          · split at e
            · split at e
              · cases e; exact gwStore_wf _ _ _ _ _ h ‹_›
              · cases e
            · cases e
        · split at e
          · exact writeAll_wf _ _ _ _ _ h e
          · cases e

theorem schedDeliver_wf (a0 a1 s) (h : State.Wf q s) : State.Wf q (schedDeliver a0 a1 s) := by grind only [schedDeliver, schedTarget_wf, bump_wf, wf_mk, foldl_wf, State.Wf.claims, State.Wf.owner, State.Wf.origin]

theorem schedCopy_wf (a0 a1 s) (h : State.Wf q s) : State.Wf q (schedCopy a0 a1 s) := by grind only [schedCopy, enqueue_wf, modTide_wf, wf_mk, foldl_wf, State.Wf.claims, State.Wf.owner, State.Wf.origin]

theorem schedGo_wf (s) (h : State.Wf q s) : State.Wf q (schedGo s) := by grind only [schedGo, schedCopy_wf, modTide_wf, wf_mk, foldl_wf, State.Wf.claims, State.Wf.owner, State.Wf.origin]

theorem genCheck_wf (a0 s) (h : State.Wf q s) : State.Wf q (genCheck a0 s) := by
  unfold genCheck
  dsimp only
  repeat' split
  all_goals grind only [modTide_wf, bump_wf, raise_wf, wf_mk, foldl_wf, State.Wf.claims, State.Wf.owner, State.Wf.origin]

theorem schedTake_wf (a0 a1 s) (h : State.Wf q s) : State.Wf q (schedTake a0 a1 s) := by grind only [schedTake, bump_wf, modTide_wf, schedDeliver_wf, wf_mk, foldl_wf, State.Wf.claims, State.Wf.owner, State.Wf.origin]

theorem settleCandidates_wf (a0 s) (h : State.Wf q s) : State.Wf q (settleCandidates a0 s) := by grind only [settleCandidates, schedDeliver_wf, bump_wf, modTide_wf, wf_mk, foldl_wf, State.Wf.claims, State.Wf.owner, State.Wf.origin]

theorem markStale_wf (a0 s) (h : State.Wf q s) : State.Wf q (markStale a0 s) := by grind only [markStale, modTide_wf, wf_mk, foldl_wf, State.Wf.claims, State.Wf.owner, State.Wf.origin]

theorem settleTick_wf (a0 a1 s) (h : State.Wf q s) : State.Wf q (settleTick a0 a1 s) := by
  unfold settleTick
  repeat' split
  all_goals grind only [settleCandidates_wf, markStale_wf, put_wf, bump_wf, modTide_wf, wf_mk, foldl_wf, State.Wf.claims, State.Wf.owner, State.Wf.origin]

theorem schedPop_wf (a0 a1 s) (h : State.Wf q s) : State.Wf q (schedPop a0 a1 s).2 := by grind only [schedPop, fifoFramePop_wf, claimFifo_wf, fifoCount_wf, wf_mk, foldl_wf, State.Wf.claims, State.Wf.owner, State.Wf.origin]

theorem schedSource_wf (a0 s) (h : State.Wf q s) : State.Wf q (schedSource a0 s).2 := by grind only [schedSource, schedPop_wf, readElems_wf, wf_mk, foldl_wf, State.Wf.claims, State.Wf.owner, State.Wf.origin]

theorem execScheduledEntryDue_wf (a0 s t) (h : State.Wf q s) (e : execScheduledEntryDue a0 s = .next t) : State.Wf q t := by grind only [execScheduledEntryDue, schedSource_wf, schedCopy_wf, wf_mk, foldl_wf, State.Wf.claims, State.Wf.owner, State.Wf.origin]

theorem execSchedFrameReceive_wf (a0 s t) (h : State.Wf q s) (e : execSchedFrameReceive a0 s = .next t) : State.Wf q t := by grind only [execSchedFrameReceive, departJob_wf, schedTake_wf, staleTide_wf, wf_mk, foldl_wf, State.Wf.claims, State.Wf.owner, State.Wf.origin]

end Sys2Proof.Machine
end

