-- ==== Sys2Proof/Laws/FormSavedState.lean ====
section
/-! SUPPORT. Every operation of Machine/SavedState.lean keeps the form of the state and leaves the queue alone (`State.Wf`). -/

namespace Sys2Proof.Machine

set_option linter.unusedVariables false
set_option maxRecDepth 2000

variable {q : List Instr}

theorem setSlot_wf (a0 a1 s) (h : State.Wf q s) : State.Wf q (setSlot a0 a1 s) := by grind only [setSlot, wf_mk, foldl_wf, State.Wf.claims, State.Wf.owner, State.Wf.origin]

theorem beginWrite_wf (a0 s) (h : State.Wf q s) : State.Wf q (beginWrite a0 s) := by grind only [beginWrite, setSlot_wf, put_wf, wf_mk, foldl_wf, State.Wf.claims, State.Wf.owner, State.Wf.origin]

theorem saveBoundary_wf (s) (h : State.Wf q s) : State.Wf q (saveBoundary s) := by grind only [saveBoundary, beginWrite_wf, wf_mk, foldl_wf, State.Wf.claims, State.Wf.owner, State.Wf.origin]

theorem applySaved_wf (a0 a1 s) (h : State.Wf q s) : State.Wf q (applySaved a0 a1 s) := by grind only [applySaved, raise_wf, putBlob_wf, put_wf, replaceProgram_wf, wf_mk, foldl_wf, State.Wf.claims, State.Wf.owner, State.Wf.origin]

theorem loadPlans_wf (a0 s) (h : State.Wf q s) : State.Wf q (loadPlans a0 s) := by grind only [loadPlans, modTide_wf, setActive_wf, armPlan_wf, takePlan_wf, wf_mk, foldl_wf, State.Wf.claims, State.Wf.owner, State.Wf.origin]

theorem loadManifest_wf (a0 s) (h : State.Wf q s) : State.Wf q (loadManifest a0 s) := by grind only [loadManifest, put_wf, wf_mk, foldl_wf, State.Wf.claims, State.Wf.owner, State.Wf.origin]

theorem loadTally_wf (a0 s) (h : State.Wf q s) : State.Wf q (loadTally a0 s) := by
  unfold loadTally
  have h1 := foldl_wf (q := q) _ (fun s g h => replaceProgram_wf g s h) (List.range 64) s h
  generalize List.range 64 = m at h1 ⊢
  generalize List.range 1024 = l
  have key : ∀ (l : List Nat) (m : List (Nat × Nat)), mapWf 0 m → mapWf 0 (l.foldl (fun m a => mapSet 0 m a (num a0 (3 * a) 3)) m) := by
    intro l
    induction l with
    | nil => exact fun m hm => hm
    | cons a t ih => exact fun m hm => ih _ (mapWf_mapSet _ _ _ _ hm)
  exact setTally_wf _ _ h1 (key l [] rfl) h1.stage

theorem loadGens_wf (a0 s) (h : State.Wf q s) : State.Wf q (loadGens a0 s) := by grind only [loadGens, put_wf, wf_mk, foldl_wf, State.Wf.claims, State.Wf.owner, State.Wf.origin]

theorem loadSection_wf (a0 s) (h : State.Wf q s) : State.Wf q (loadSection a0 s) := by grind only [loadSection, applySaved_wf, loadPlans_wf, loadManifest_wf, loadTally_wf, loadGens_wf, wf_mk, foldl_wf, State.Wf.claims, State.Wf.owner, State.Wf.origin]

theorem loadSlot_wf (a0 a1 s) (h : State.Wf q s) : State.Wf q (loadSlot a0 a1 s) := by grind (splits := 30) (ematch := 30) (gen := 30) only [loadSlot, loadSection_wf, put_wf, wf_mk, foldl_wf, State.Wf.claims, State.Wf.owner, State.Wf.origin]

theorem takePair_wf (a0 s) (h : State.Wf q s) : State.Wf q (takePair a0 s) := by grind only [takePair, put_wf, wf_mk, foldl_wf, State.Wf.claims, State.Wf.owner, State.Wf.origin]

theorem execSavedStateLoad_wf (s t) (h : State.Wf q s) (e : execSavedStateLoad s = .next t) : State.Wf q t := by grind only [execSavedStateLoad, raise_wf, takePair_wf, loadSlot_wf, wf_mk, foldl_wf, State.Wf.claims, State.Wf.owner, State.Wf.origin]

end Sys2Proof.Machine
end

