-- ==== Sys2Proof/Laws/FormUpdate.lean ====
section
/-! SUPPORT. Every operation of Machine/Update.lean keeps the form of the state and leaves the queue alone (`State.Wf`). -/

namespace Sys2Proof.Machine

set_option linter.unusedVariables false
set_option maxRecDepth 2000

variable {q : List Instr}

theorem modUpd_wf (a0 s) (h : State.Wf q s) : State.Wf q (modUpd a0 s) := by grind only [modUpd, wf_mk, foldl_wf, State.Wf.claims, State.Wf.owner, State.Wf.origin]

theorem cfgWrite_wf (s) (h : State.Wf q s) : State.Wf q (cfgWrite s) := by grind only [cfgWrite, beginWrite_wf, modUpd_wf, wf_mk, foldl_wf, State.Wf.claims, State.Wf.owner, State.Wf.origin]

theorem cfgStart_wf (s) (h : State.Wf q s) : State.Wf q (cfgStart s) := by grind only [cfgStart, put_wf, cfgWrite_wf, modUpd_wf, wf_mk, foldl_wf, State.Wf.claims, State.Wf.owner, State.Wf.origin]

theorem execUpdTrialExpiry_wf (s t) (h : State.Wf q s) (e : execUpdTrialExpiry s = .next t) : State.Wf q t := by grind only [execUpdTrialExpiry, modUpd_wf, bump_wf, cfgStart_wf, writeBoot_wf, wf_mk, foldl_wf, State.Wf.claims, State.Wf.owner, State.Wf.origin]

theorem execActivateRecordVerified_wf (s t) (h : State.Wf q s) (e : execActivateRecordVerified s = .next t) : State.Wf q t := by grind only [execActivateRecordVerified, modUpd_wf, wf_mk, foldl_wf, State.Wf.claims, State.Wf.owner, State.Wf.origin]

theorem updResult_wf (a0 s) (h : State.Wf q s) : State.Wf q (updResult a0 s) := by grind only [updResult, put_wf, wf_mk, foldl_wf, State.Wf.claims, State.Wf.owner, State.Wf.origin]

theorem relayReply_wf (a0 a1 a2 s) (h : State.Wf q s) : State.Wf q (relayReply a0 a1 a2 s) := by grind only [relayReply, sendResponse_wf, wf_mk, foldl_wf, State.Wf.claims, State.Wf.owner, State.Wf.origin]

theorem relayDone_wf (a0 s) (h : State.Wf q s) : State.Wf q (relayDone a0 s) := by grind only [relayDone, relayReply_wf, modUpd_wf, wf_mk, foldl_wf, State.Wf.claims, State.Wf.owner, State.Wf.origin]

theorem endSession_wf (a0 s) (h : State.Wf q s) : State.Wf q (endSession a0 s) := by grind only [endSession, modUpd_wf, put_wf, wf_mk, foldl_wf, State.Wf.claims, State.Wf.owner, State.Wf.origin]

theorem closeSession_wf (a0 s) (h : State.Wf q s) : State.Wf q (closeSession a0 s) := by grind only [closeSession, modUpd_wf, endSession_wf, wf_mk, foldl_wf, State.Wf.claims, State.Wf.owner, State.Wf.origin]

theorem execUpdVerifyComplete_wf (s t) (h : State.Wf q s) (e : execUpdVerifyComplete s = .next t) : State.Wf q t := by grind only [execUpdVerifyComplete, updResult_wf, modUpd_wf, relayDone_wf, put_wf, closeSession_wf, wf_mk, foldl_wf, State.Wf.claims, State.Wf.owner, State.Wf.origin]

theorem setImage_wf (a0 a1 s) (h : State.Wf q s) : State.Wf q (setImage a0 a1 s) := by grind only [setImage, wf_mk, foldl_wf, State.Wf.claims, State.Wf.owner, State.Wf.origin]

theorem chunkWrite_wf (a0 a1 s) (h : State.Wf q s) : State.Wf q (chunkWrite a0 a1 s).2 := by grind only [chunkWrite, modUpd_wf, put_wf, setImage_wf, wf_mk, foldl_wf, State.Wf.claims, State.Wf.owner, State.Wf.origin]

theorem cfgApply_wf (s) (h : State.Wf q s) : State.Wf q (cfgApply s) := by grind only [cfgApply, haltAllCranes_wf, loadSection_wf, modTide_wf, modUpd_wf, wf_mk, foldl_wf, State.Wf.claims, State.Wf.owner, State.Wf.origin]

theorem freeCode_wf (s) (h : State.Wf q s) : State.Wf q (freeCode s).2 := by grind only [freeCode, draw_wf, wf_mk, foldl_wf, State.Wf.claims, State.Wf.owner, State.Wf.origin]

theorem updAbort_wf (s) (h : State.Wf q s) : State.Wf q (updAbort s) := by grind only [updAbort, freeCode_wf, relayDone_wf, put_wf, modUpd_wf, wf_mk, foldl_wf, State.Wf.claims, State.Wf.owner, State.Wf.origin]

theorem updConfirm_wf (s) (h : State.Wf q s) : State.Wf q (updConfirm s).2 := by grind only [updConfirm, freeCode_wf, modUpd_wf, writeBoot_wf, put_wf, endSession_wf, wf_mk, foldl_wf, State.Wf.claims, State.Wf.owner, State.Wf.origin]

theorem guardBoundary_wf (s) (h : State.Wf q s) : State.Wf q (guardBoundary s) := by grind only [guardBoundary, bump_wf, modUpd_wf, put_wf, closeSession_wf, wf_mk, foldl_wf, State.Wf.claims, State.Wf.owner, State.Wf.origin]

theorem beginTrial_wf (s) (h : State.Wf q s) : State.Wf q (beginTrial s) := by grind only [beginTrial, relayDone_wf, modUpd_wf, put_wf, wf_mk, foldl_wf, State.Wf.claims, State.Wf.owner, State.Wf.origin]

theorem cfgResume_wf (s) (h : State.Wf q s) : State.Wf q (cfgResume s) := by grind only [cfgResume, modTide_wf, beginTrial_wf, setImage_wf, endSession_wf, wf_mk, foldl_wf, State.Wf.claims, State.Wf.owner, State.Wf.origin]

theorem cfgWritten_wf (a0 s) (h : State.Wf q s) : State.Wf q (cfgWritten a0 s) := by grind only [cfgWritten, modUpd_wf, bump_wf, freeCode_wf, relayDone_wf, put_wf, endSession_wf, wf_mk, foldl_wf, State.Wf.claims, State.Wf.owner, State.Wf.origin]

theorem updClose_wf (s) (h : State.Wf q s) : State.Wf q (updClose s).2 := by grind only [updClose, freeCode_wf, put_wf, closeSession_wf, wf_mk, foldl_wf, State.Wf.claims, State.Wf.owner, State.Wf.origin]

theorem updOpen_wf (a0 a1 s) (h : State.Wf q s) : State.Wf q (updOpen a0 a1 s).2 := by grind only [updOpen, updResult_wf, modUpd_wf, put_wf, setImage_wf, wf_mk, foldl_wf, State.Wf.claims, State.Wf.owner, State.Wf.origin]

theorem updActivate_wf (s) (h : State.Wf q s) : State.Wf q (updActivate s).2 := by grind only [updActivate, freeCode_wf, updResult_wf, modUpd_wf, put_wf, cfgStart_wf, bump_wf, writeBoot_wf, wf_mk, foldl_wf, State.Wf.claims, State.Wf.owner, State.Wf.origin]

theorem restartCycle_wf (s) (h : State.Wf q s) : State.Wf q (restartCycle s) := by grind only [restartCycle, wf_mk, foldl_wf, State.Wf.claims, State.Wf.owner, State.Wf.origin]

theorem updVerify_wf (s) (h : State.Wf q s) : State.Wf q (updVerify s).2 := by grind only [updVerify, put_wf, modUpd_wf, freeCode_wf, wf_mk, foldl_wf, State.Wf.claims, State.Wf.owner, State.Wf.origin]

theorem execActivateLoadComplete_wf (s t) (h : State.Wf q s) (e : execActivateLoadComplete s = .next t) : State.Wf q t := by grind only [execActivateLoadComplete, modUpd_wf, modBridge_wf, restartCycle_wf, beginTrial_wf, endSession_wf, wf_mk, foldl_wf, State.Wf.claims, State.Wf.owner, State.Wf.origin]

theorem execUpdEraseComplete_wf (s t) (h : State.Wf q s) (e : execUpdEraseComplete s = .next t) : State.Wf q t := by grind only [execUpdEraseComplete, relayDone_wf, put_wf, modUpd_wf, wf_mk, foldl_wf, State.Wf.claims, State.Wf.owner, State.Wf.origin]

end Sys2Proof.Machine
end

