-- ==== Sys2Proof/Laws/FormTwin.lean ====
section
/-! SUPPORT. Every operation of Machine/Twin.lean keeps the form of the state and leaves the queue alone (`State.Wf`). -/

namespace Sys2Proof.Machine

set_option linter.unusedVariables false
set_option maxRecDepth 2000

variable {q : List Instr}

theorem modTwin_wf (a0 s) (h : State.Wf q s) : State.Wf q (modTwin a0 s) := by grind only [modTwin, wf_mk, foldl_wf, State.Wf.claims, State.Wf.owner, State.Wf.origin]

theorem passOn_wf (a0 s) (h : State.Wf q s) : State.Wf q (passOn a0 s) := by grind only [passOn, modTwin_wf, enterAnchored_wf, releaseOwnership_wf, wf_mk, foldl_wf, State.Wf.claims, State.Wf.owner, State.Wf.origin]

theorem handOver_wf (s) (h : State.Wf q s) : State.Wf q (handOver s) := by grind only [handOver, passOn_wf, bump_wf, put_wf, wf_mk, foldl_wf, State.Wf.claims, State.Wf.owner, State.Wf.origin]

theorem handoverWrite_wf (a0 s) (h : State.Wf q s) : State.Wf q (handoverWrite a0 s).1 := by grind only [handoverWrite, modTwin_wf, put_wf, handOver_wf, wf_mk, foldl_wf, State.Wf.claims, State.Wf.owner, State.Wf.origin]

theorem execGiveUp_wf (s t) (h : State.Wf q s) (e : execGiveUp s = .next t) : State.Wf q t := by grind only [execGiveUp, releaseOwnership_wf, bump_wf, put_wf, passOn_wf, raise_wf, wf_mk, foldl_wf, State.Wf.claims, State.Wf.owner, State.Wf.origin]

theorem drivePicked_wf (s) (h : State.Wf q s) : State.Wf q (drivePicked s) := by grind only [drivePicked, setPin_wf, modTwin_wf, put_wf, wf_mk, foldl_wf, State.Wf.claims, State.Wf.owner, State.Wf.origin]

theorem pickSample_wf (a0 s) (h : State.Wf q s) : State.Wf q (pickSample a0 s) := by grind only [pickSample, addTo_wf, modTwin_wf, drivePicked_wf, wf_mk, foldl_wf, State.Wf.claims, State.Wf.owner, State.Wf.origin]

theorem sendTwin_wf (a0 s) (h : State.Wf q s) : State.Wf q (sendTwin a0 s) := by grind only [sendTwin, nextSeqOf_wf, modTwin_wf, wf_mk, foldl_wf, State.Wf.claims, State.Wf.owner, State.Wf.origin]

theorem sendCopy_wf (a0 s) (h : State.Wf q s) : State.Wf q (sendCopy a0 s) := by grind only [sendCopy, sendTwin_wf, put_wf, wf_mk, foldl_wf, State.Wf.claims, State.Wf.owner, State.Wf.origin]

theorem execSavedStateWriteComplete_wf (a0 s t) (h : State.Wf q s) (e : execSavedStateWriteComplete a0 s = .next t) : State.Wf q t := by grind (splits := 30) (ematch := 30) (gen := 30) only [execSavedStateWriteComplete, put_wf, modTwin_wf, setSlot_wf, cfgWritten_wf, sendCopy_wf, raise_wf, wf_mk, foldl_wf, State.Wf.claims, State.Wf.owner, State.Wf.origin]

theorem execHeartbeatReceive_wf (a0 s t) (h : State.Wf q s) (e : execHeartbeatReceive a0 s = .next t) : State.Wf q t := by grind only [execHeartbeatReceive, modTwin_wf, wf_mk, foldl_wf, State.Wf.claims, State.Wf.owner, State.Wf.origin]

theorem beginPickup_wf (a0 s) (h : State.Wf q s) : State.Wf q (beginPickup a0 s) := by grind only [beginPickup, buffersOn_wf, modTwin_wf, wf_mk, foldl_wf, State.Wf.claims, State.Wf.owner, State.Wf.origin]

theorem handOn_wf (s) (h : State.Wf q s) : State.Wf q (handOn s) := by grind only [handOn, handOver_wf, modTwin_wf, wf_mk, foldl_wf, State.Wf.claims, State.Wf.owner, State.Wf.origin]

theorem execPickupSample_wf (a0 s t) (h : State.Wf q s) (e : execPickupSample a0 s = .next t) : State.Wf q t := by grind only [execPickupSample, pickSample_wf, wf_mk, foldl_wf, State.Wf.claims, State.Wf.owner, State.Wf.origin]

theorem pickLost_wf (s) (h : State.Wf q s) : State.Wf q (pickLost s) := by grind only [pickLost, stopPickup_wf, wf_mk, foldl_wf, State.Wf.claims, State.Wf.owner, State.Wf.origin]

theorem commitPair_wf (s) (h : State.Wf q s) : State.Wf q (commitPair s) := by grind only [commitPair, put_wf, unstage_wf, wf_mk, foldl_wf, State.Wf.claims, State.Wf.owner, State.Wf.origin]

theorem sendAck_wf (a0 a1 s) (h : State.Wf q s) : State.Wf q (sendAck a0 a1 s) := by grind only [sendAck, sendTwin_wf, wf_mk, foldl_wf, State.Wf.claims, State.Wf.owner, State.Wf.origin]

theorem dropCopy_wf (s) (h : State.Wf q s) : State.Wf q (dropCopy s) := by grind only [dropCopy, sendAck_wf, modTwin_wf, wf_mk, foldl_wf, State.Wf.claims, State.Wf.owner, State.Wf.origin]

theorem takeCopy_wf (a0 a1 s) (h : State.Wf q s) : State.Wf q (takeCopy a0 a1 s) := by grind only [takeCopy, modTwin_wf, sendAck_wf, setSlot_wf, put_wf, wf_mk, foldl_wf, State.Wf.claims, State.Wf.owner, State.Wf.origin]

theorem abandonSession_wf (s) (h : State.Wf q s) : State.Wf q (abandonSession s) := by grind only [abandonSession, put_wf, modUpd_wf, setImage_wf, wf_mk, foldl_wf, State.Wf.claims, State.Wf.owner, State.Wf.origin]

theorem abandonCopy_wf (s) (h : State.Wf q s) : State.Wf q (abandonCopy s) := by grind only [abandonCopy, dropCopy_wf, sendAck_wf, modTwin_wf, setSlot_wf, wf_mk, foldl_wf, State.Wf.claims, State.Wf.owner, State.Wf.origin]

theorem execTakeoverStart_wf (s t) (h : State.Wf q s) (e : execTakeoverStart s = .next t) : State.Wf q t := by grind only [execTakeoverStart, abandonSession_wf, abandonCopy_wf, modTwin_wf, beginPickup_wf, wf_mk, foldl_wf, State.Wf.claims, State.Wf.owner, State.Wf.origin]

theorem execTwinFrameDrop_wf (a0 s t) (h : State.Wf q s) (e : execTwinFrameDrop a0 s = .next t) : State.Wf q t := by grind only [execTwinFrameDrop, bump_wf, wf_mk, foldl_wf, State.Wf.claims, State.Wf.owner, State.Wf.origin]

theorem execCopyRetryTimer_wf (s t) (h : State.Wf q s) (e : execCopyRetryTimer s = .next t) : State.Wf q t := by grind only [execCopyRetryTimer, sendCopy_wf, modTwin_wf, wf_mk, foldl_wf, State.Wf.claims, State.Wf.owner, State.Wf.origin]

theorem execStateCopyReceive_wf (a0 a1 s t) (h : State.Wf q s) (e : execStateCopyReceive a0 a1 s = .next t) : State.Wf q t := by grind only [execStateCopyReceive, modTwin_wf, dropCopy_wf, takeCopy_wf, wf_mk, foldl_wf, State.Wf.claims, State.Wf.owner, State.Wf.origin]

theorem execCopyAckReceive_wf (a0 s t) (h : State.Wf q s) (e : execCopyAckReceive a0 s = .next t) : State.Wf q t := by grind only [execCopyAckReceive, modTwin_wf, put_wf, bump_wf, raise_wf, wf_mk, foldl_wf, State.Wf.claims, State.Wf.owner, State.Wf.origin]

theorem execHealthReportReceive_wf (a0 s t) (h : State.Wf q s) (e : execHealthReportReceive a0 s = .next t) : State.Wf q t := by grind only [execHealthReportReceive, modTwin_wf, wf_mk, foldl_wf, State.Wf.claims, State.Wf.owner, State.Wf.origin]

theorem copyBoundary_wf (s) (h : State.Wf q s) : State.Wf q (copyBoundary s) := by grind only [copyBoundary, modTwin_wf, takePair_wf, sendAck_wf, loadSlot_wf, wf_mk, foldl_wf, State.Wf.claims, State.Wf.owner, State.Wf.origin]

theorem execKeeperRelease_wf (s t) (h : State.Wf q s) (e : execKeeperRelease s = .next t) : State.Wf q t := by grind only [execKeeperRelease, keepersRelease_wf, put_wf, modTwin_wf, wf_mk, foldl_wf, State.Wf.claims, State.Wf.owner, State.Wf.origin]

theorem execOwnershipClaim_wf (a0 s t) (h : State.Wf q s) (e : execOwnershipClaim a0 s = .next t) : State.Wf q t := by grind only [execOwnershipClaim, pickLost_wf, modTwin_wf, enterWorking_wf, wf_mk, foldl_wf, State.Wf.claims, State.Wf.owner, State.Wf.origin]

theorem execClaimWaitExpiry_wf (s t) (h : State.Wf q s) (e : execClaimWaitExpiry s = .next t) : State.Wf q t := by grind only [execClaimWaitExpiry, abandonSession_wf, abandonCopy_wf, bump_wf, put_wf, modTwin_wf, beginPickup_wf, wf_mk, foldl_wf, State.Wf.claims, State.Wf.owner, State.Wf.origin]

theorem execSelftestCycleEnd_wf (s t) (h : State.Wf q s) (e : execSelftestCycleEnd s = .next t) : State.Wf q t := by grind only [execSelftestCycleEnd, modTwin_wf, bump_wf, wf_mk, foldl_wf, State.Wf.claims, State.Wf.owner, State.Wf.origin]

theorem stateSaveWrite_wf (s) (h : State.Wf q s) : State.Wf q (stateSaveWrite s).1 := by grind only [stateSaveWrite, put_wf, commitPair_wf, configCommit_wf, beginWrite_wf, wf_mk, foldl_wf, State.Wf.claims, State.Wf.owner, State.Wf.origin]

end Sys2Proof.Machine
end

