-- ==== Sys2Proof/Laws/FormBlockReset.lean ====
section
/-! SUPPORT. Every operation of Machine/BlockReset.lean keeps the form of the state and leaves the queue alone (`State.Wf`). -/

namespace Sys2Proof.Machine

set_option linter.unusedVariables false
set_option maxRecDepth 2000

variable {q : List Instr}

theorem blockStatus_wf (s) (h : State.Wf q s) : State.Wf q (blockStatus s) := by grind only [blockStatus, put_wf, wf_mk, foldl_wf, State.Wf.claims, State.Wf.owner, State.Wf.origin]

theorem keepersHoldQuay_wf (a0 s) (h : State.Wf q s) : State.Wf q (keepersHoldQuay a0 s) := by grind only [keepersHoldQuay, wf_mk, foldl_wf, State.Wf.claims, State.Wf.owner, State.Wf.origin]

theorem quayClear_wf (a0 s) (h : State.Wf q s) : State.Wf q (quayClear a0 s) := by
  unfold quayClear
  have h1 : State.Wf q (if s.node.owns = true then keepersHoldQuay a0 s else { s with pins := { s.pins with clocks := setBit s.pins.clocks a0 true } }) := by
    split
    · exact keepersHoldQuay_wf _ _ h
    · exact { h with }
  exact settleCauseNine_wf _ (foldl_wf _ (fun _ _ h => clearFifo_wf _ _ (clearFifo_wf _ _ (setCrane_wf _ _ _ h))) _ _ (wf_users _ _ _ h1 (mapWf_filter _ _ _ h1.users)))

theorem canClear_wf (a0 s) (h : State.Wf q s) : State.Wf q (canClear a0 s) := by grind only [canClear, clearFifo_wf, modCtl_wf, wf_mk, foldl_wf, State.Wf.claims, State.Wf.owner, State.Wf.origin]

theorem captureClear_wf (s) (h : State.Wf q s) : State.Wf q (captureClear s) := by grind only [captureClear, clearFifo_wf, genStop_wf, modTime_wf, wf_mk, foldl_wf, State.Wf.claims, State.Wf.owner, State.Wf.origin]

theorem flashClear_wf (s) (h : State.Wf q s) : State.Wf q (flashClear s) := by grind only [flashClear, modTwin_wf, put_wf, wf_mk, foldl_wf, State.Wf.claims, State.Wf.owner, State.Wf.origin]

theorem blockClear_wf (a0 s) (h : State.Wf q s) : State.Wf q (blockClear a0 s) := by
  unfold blockClear
  repeat' split
  · exact portRestart_wf _ _ h
  · exact quayClear_wf _ _ h
  · exact canClear_wf _ _ h
  · exact { h with chk := by simp [h.chk] }
  · exact captureClear_wf _ h
  · exact flashClear_wf _ h
  · exact h

theorem execBlockQuiesceEnd_wf (a0 a1 s t) (h : State.Wf q s) (e : execBlockQuiesceEnd a0 a1 s = .next t) : State.Wf q t := by grind only [execBlockQuiesceEnd, setBlock_wf, blockClear_wf, bump_wf, wf_mk, foldl_wf, State.Wf.claims, State.Wf.owner, State.Wf.origin]

theorem blockResume_wf (a0 s) (h : State.Wf q s) : State.Wf q (blockResume a0 s) := by grind only [blockResume, canStart_wf, wf_mk, foldl_wf, State.Wf.claims, State.Wf.owner, State.Wf.origin]

theorem blockQuiesce_wf (a0 s) (h : State.Wf q s) : State.Wf q (blockQuiesce a0 s) := by grind only [blockQuiesce, setBlock_wf, haltOne_wf, keepersHoldQuay_wf, wf_mk, foldl_wf, State.Wf.claims, State.Wf.owner, State.Wf.origin]

theorem blockResetWrite_wf (a0 s) (h : State.Wf q s) : State.Wf q (blockResetWrite a0 s).1 := by grind only [blockResetWrite, setBlock_wf, blockStatus_wf, put_wf, blockQuiesce_wf, wf_mk, foldl_wf, State.Wf.claims, State.Wf.owner, State.Wf.origin]

theorem execBlockClockTimeout_wf (a0 s t) (h : State.Wf q s) (e : execBlockClockTimeout a0 s = .next t) : State.Wf q t := by grind only [execBlockClockTimeout, setBlock_wf, blockStatus_wf, raise_wf, bump_wf, wf_mk, foldl_wf, State.Wf.claims, State.Wf.owner, State.Wf.origin]

theorem execBlockResetRelease_wf (a0 a1 s t) (h : State.Wf q s) (e : execBlockResetRelease a0 a1 s = .next t) : State.Wf q t := by grind only [execBlockResetRelease, blockStatus_wf, blockResume_wf, setBlock_wf, bump_wf, wf_mk, foldl_wf, State.Wf.claims, State.Wf.owner, State.Wf.origin]

end Sys2Proof.Machine
end

