-- ==== Sys2Proof/Laws/FormGangway.lean ====
section
/-! SUPPORT. Every operation of Machine/Gangway.lean keeps the form of the state and leaves the queue alone (`State.Wf`). -/

namespace Sys2Proof.Machine

set_option linter.unusedVariables false
set_option maxRecDepth 2000

variable {q : List Instr}

theorem setGw_wf (a0 s) (h : State.Wf q s) : State.Wf q (setGw a0 s) := by grind only [setGw, wf_mk, foldl_wf, State.Wf.claims, State.Wf.owner, State.Wf.origin]

theorem tryUnlatch_wf (s) (h : State.Wf q s) : State.Wf q (tryUnlatch s) := by grind only [tryUnlatch, setGw_wf, wf_mk, foldl_wf, State.Wf.claims, State.Wf.owner, State.Wf.origin]

theorem execGwEnHigh_wf (s t) (h : State.Wf q s) (e : execGwEnHigh s = .next t) : State.Wf q t := by grind only [execGwEnHigh, tryUnlatch_wf, setGw_wf, wf_mk, foldl_wf, State.Wf.claims, State.Wf.owner, State.Wf.origin]

theorem gateOff_wf (a0 a1 s) (h : State.Wf q s) : State.Wf q (gateOff a0 a1 s) := by grind only [gateOff, put_wf, setGw_wf, powerLost_wf, wf_mk, foldl_wf, State.Wf.claims, State.Wf.owner, State.Wf.origin]

theorem gwTrip_wf (a0 s) (h : State.Wf q s) : State.Wf q (gwTrip a0 s) := by grind only [gwTrip, setGw_wf, bump_wf, gateOff_wf, wf_mk, foldl_wf, State.Wf.claims, State.Wf.owner, State.Wf.origin]

theorem execGwFastTrip_wf (a0 s t) (h : State.Wf q s) (e : execGwFastTrip a0 s = .next t) : State.Wf q t := by grind only [execGwFastTrip, gwTrip_wf, setGw_wf, wf_mk, foldl_wf, State.Wf.claims, State.Wf.owner, State.Wf.origin]

theorem gwDrop_wf (a0 s) (h : State.Wf q s) : State.Wf q (gwDrop a0 s) := by grind only [gwDrop, bump_wf, gateOff_wf, wf_mk, foldl_wf, State.Wf.claims, State.Wf.owner, State.Wf.origin]

theorem execGwOvervoltageDrop_wf (s t) (h : State.Wf q s) (e : execGwOvervoltageDrop s = .next t) : State.Wf q t := by grind only [execGwOvervoltageDrop, gwDrop_wf, wf_mk, foldl_wf, State.Wf.claims, State.Wf.owner, State.Wf.origin]

theorem peakStep_wf (s) (h : State.Wf q s) : State.Wf q (peakStep s) := by grind only [peakStep, putI_wf, wf_mk, foldl_wf, State.Wf.claims, State.Wf.owner, State.Wf.origin]

theorem thermalTerm_wf (a0 a1 a2 a3 s) (h : State.Wf q s) : State.Wf q (thermalTerm a0 a1 a2 a3 s).2 := by grind only [thermalTerm, draw_wf, wf_mk, foldl_wf, State.Wf.claims, State.Wf.owner, State.Wf.origin]

theorem thermalStep_wf (s) (h : State.Wf q s) : State.Wf q (thermalStep s) := by grind only [thermalStep, thermalTerm_wf, setGw_wf, wf_mk, foldl_wf, State.Wf.claims, State.Wf.owner, State.Wf.origin]

theorem gwDecide_wf (a0 s) (h : State.Wf q s) : State.Wf q (gwDecide a0 s) := by grind only [gwDecide, setGw_wf, gwTrip_wf, wf_mk, foldl_wf, State.Wf.claims, State.Wf.owner, State.Wf.origin]

theorem gwSample_wf (a0 a1 a2 a3 s) (h : State.Wf q s) : State.Wf q (gwSample a0 a1 a2 a3 s) := by grind only [gwSample, setGw_wf, peakStep_wf, thermalStep_wf, gwDecide_wf, wf_mk, foldl_wf, State.Wf.claims, State.Wf.owner, State.Wf.origin]

theorem execGwFaultTimerExpiry_wf (s t) (h : State.Wf q s) (e : execGwFaultTimerExpiry s = .next t) : State.Wf q t := by grind only [execGwFaultTimerExpiry, gwTrip_wf, wf_mk, foldl_wf, State.Wf.claims, State.Wf.owner, State.Wf.origin]

theorem execGwEnLowDrop_wf (s t) (h : State.Wf q s) (e : execGwEnLowDrop s = .next t) : State.Wf q t := by grind only [execGwEnLowDrop, setGw_wf, tryUnlatch_wf, gwDrop_wf, wf_mk, foldl_wf, State.Wf.claims, State.Wf.owner, State.Wf.origin]

theorem execGwPowerGood_wf (s t) (h : State.Wf q s) (e : execGwPowerGood s = .next t) : State.Wf q t := by grind only [execGwPowerGood, tryBerthing_wf, setGw_wf, wf_mk, foldl_wf, State.Wf.claims, State.Wf.owner, State.Wf.origin]

theorem execGwDiodeReading_wf (a0 s t) (h : State.Wf q s) (e : execGwDiodeReading a0 s = .next t) : State.Wf q t := by grind only [execGwDiodeReading, put_wf, peakStep_wf, setGw_wf, wf_mk, foldl_wf, State.Wf.claims, State.Wf.owner, State.Wf.origin]

theorem execGwRampTimeout_wf (s t) (h : State.Wf q s) (e : execGwRampTimeout s = .next t) : State.Wf q t := by grind only [execGwRampTimeout, gwTrip_wf, wf_mk, foldl_wf, State.Wf.claims, State.Wf.owner, State.Wf.origin]

theorem execGwCooldownEnd_wf (s t) (h : State.Wf q s) (e : execGwCooldownEnd s = .next t) : State.Wf q t := by grind only [execGwCooldownEnd, tryUnlatch_wf, setGw_wf, wf_mk, foldl_wf, State.Wf.claims, State.Wf.owner, State.Wf.origin]

theorem execGwUndervoltageDrop_wf (s t) (h : State.Wf q s) (e : execGwUndervoltageDrop s = .next t) : State.Wf q t := by grind only [execGwUndervoltageDrop, gwDrop_wf, wf_mk, foldl_wf, State.Wf.claims, State.Wf.owner, State.Wf.origin]

theorem execGwSample_wf (a0 a1 a2 a3 s t) (h : State.Wf q s) (e : execGwSample a0 a1 a2 a3 s = .next t) : State.Wf q t := by grind only [execGwSample, gwSample_wf, wf_mk, foldl_wf, State.Wf.claims, State.Wf.owner, State.Wf.origin]

theorem execGwInsertDelayEnd_wf (s t) (h : State.Wf q s) (e : execGwInsertDelayEnd s = .next t) : State.Wf q t := by grind only [execGwInsertDelayEnd, gwDecide_wf, setGw_wf, wf_mk, foldl_wf, State.Wf.claims, State.Wf.owner, State.Wf.origin]

end Sys2Proof.Machine
end

