-- ==== Sys2Proof/Laws/FormSwitch.lean ====
section
/-! SUPPORT. Every operation of Machine/Switch.lean keeps the form of the state and leaves the queue alone (`State.Wf`). -/

namespace Sys2Proof.Machine

set_option linter.unusedVariables false
set_option maxRecDepth 2000

variable {q : List Instr}

theorem creditReceive_wf (a0 a1 s) (h : State.Wf q s) : State.Wf q (creditReceive a0 a1 s) := by grind only [creditReceive, badBlock_wf, modPort_wf, put_wf, outputReturn_wf, wf_mk, foldl_wf, State.Wf.claims, State.Wf.owner, State.Wf.origin]

theorem deliverLocal_wf (a0 a1 a2 s) (h : State.Wf q s) : State.Wf q (deliverLocal a0 a1 a2 s).1 := by grind only [deliverLocal, bump_wf, modRing_wf, placeFrame_wf, wf_mk, foldl_wf, State.Wf.claims, State.Wf.owner, State.Wf.origin]

theorem localArrive_wf (a0 a1 a2 s) (h : State.Wf q s) : State.Wf q (localArrive a0 a1 a2 s).1 := by grind only [localArrive, countDiscard_wf, bump_wf, placeFrame_wf, deliverLocal_wf, wf_mk, foldl_wf, State.Wf.claims, State.Wf.owner, State.Wf.origin]

theorem portRefuse_wf (a0 a1 a2 s) (h : State.Wf q s) : State.Wf q (portRefuse a0 a1 a2 s) := by grind only [portRefuse, bump_wf, markStale_wf, refuseAs_wf, wf_mk, foldl_wf, State.Wf.claims, State.Wf.owner, State.Wf.origin]

theorem routeFrame_wf (a0 a1 a2 s) (h : State.Wf q s) : State.Wf q (routeFrame a0 a1 a2 s) := by grind only [routeFrame, bump_wf, placeFrame_wf, localArrive_wf, portRefuse_wf, addFreed_wf, wf_mk, foldl_wf, State.Wf.claims, State.Wf.owner, State.Wf.origin]

theorem execCreditWordReceive_wf (a0 a1 s t) (h : State.Wf q s) (e : execCreditWordReceive a0 a1 s = .next t) : State.Wf q t := by grind only [execCreditWordReceive, creditReceive_wf, returned_wf, wf_mk, foldl_wf, State.Wf.claims, State.Wf.owner, State.Wf.origin]

theorem tagErrors_wf (a0 a1 s) (h : State.Wf q s) : State.Wf q (tagErrors a0 a1 s) := by grind only [tagErrors, modPort_wf, wf_mk, foldl_wf, State.Wf.claims, State.Wf.owner, State.Wf.origin]

theorem ringReceive_wf (a0 a1 s) (h : State.Wf q s) : State.Wf q (ringReceive a0 a1 s) := by grind only [ringReceive, tagErrors_wf, countDiscard_wf, bump_wf, routeFrame_wf, wf_mk, foldl_wf, State.Wf.claims, State.Wf.owner, State.Wf.origin]

theorem execOutputStall_wf (a0 s t) (h : State.Wf q s) (e : execOutputStall a0 s = .next t) : State.Wf q t := by grind only [execOutputStall, outputDown_wf, raise_wf, bump_wf, modPort_wf, wf_mk, foldl_wf, State.Wf.claims, State.Wf.owner, State.Wf.origin]

theorem noteRef_wf (a0 a1 s) (h : State.Wf q s) : State.Wf q (noteRef a0 a1 s) := by grind only [noteRef, modCal_wf, wf_mk, foldl_wf, State.Wf.claims, State.Wf.owner, State.Wf.origin]

theorem startFrame_wf (a0 a1 s) (h : State.Wf q s) : State.Wf q (startFrame a0 a1 s) := by grind only [startFrame, departJob_wf, modPort_wf, noteRef_wf, modRing_wf, wf_mk, foldl_wf, State.Wf.claims, State.Wf.owner, State.Wf.origin]

theorem outputStart_wf (a0 a1 a2 s) (h : State.Wf q s) : State.Wf q (outputStart a0 a1 a2 s) := by grind only [outputStart, schedGo_wf, promote_wf, discardJob_wf, startFrame_wf, wf_mk, foldl_wf, State.Wf.claims, State.Wf.owner, State.Wf.origin]

theorem execOrphanWordDrop_wf (a0 a1 s t) (h : State.Wf q s) (e : execOrphanWordDrop a0 a1 s = .next t) : State.Wf q t := by grind only [execOrphanWordDrop, bump_wf, returned_wf, wf_mk, foldl_wf, State.Wf.claims, State.Wf.owner, State.Wf.origin]

theorem noteHead_wf (a0 a1 a2 s) (h : State.Wf q s) : State.Wf q (noteHead a0 a1 a2 s) := by
  unfold noteHead
  split
  · split
    · exact modCal_wf _ _ _ h
    · exact h
  · exact h

theorem execCreditWordInsert_wf (a0 s t) (h : State.Wf q s) (e : execCreditWordInsert a0 s = .next t) : State.Wf q t := by grind only [execCreditWordInsert, modPort_wf, sendBlock_wf, wf_mk, foldl_wf, State.Wf.claims, State.Wf.owner, State.Wf.origin]

theorem execLingerExpiry_wf (a0 s t) (h : State.Wf q s) (e : execLingerExpiry a0 s = .next t) : State.Wf q t := by grind only [execLingerExpiry, lingerExpire_wf, wf_mk, foldl_wf, State.Wf.claims, State.Wf.owner, State.Wf.origin]

theorem execRingFrameReceive_wf (a0 a1 s t) (h : State.Wf q s) (e : execRingFrameReceive a0 a1 s = .next t) : State.Wf q t := by grind only [execRingFrameReceive, returned_wf, modPort_wf, ringReceive_wf, noteHead_wf, wf_mk, foldl_wf, State.Wf.claims, State.Wf.owner, State.Wf.origin]

theorem execOutputFrameStart_wf (a0 a1 a2 s t) (h : State.Wf q s) (e : execOutputFrameStart a0 a1 a2 s = .next t) : State.Wf q t := by grind only [execOutputFrameStart, outputStart_wf, wf_mk, foldl_wf, State.Wf.claims, State.Wf.owner, State.Wf.origin]

end Sys2Proof.Machine
end

