-- ==== Sys2Proof/Laws/FormSurvey.lean ====
section
/-! SUPPORT. Every operation of Machine/Survey.lean keeps the form of the state and leaves the queue alone (`State.Wf`). -/

namespace Sys2Proof.Machine

set_option linter.unusedVariables false
set_option maxRecDepth 2000

variable {q : List Instr}

theorem keepNode_wf (a0 s) (h : State.Wf q s) : State.Wf q (keepNode a0 s) := by grind only [keepNode, modRing_wf, wf_mk, foldl_wf, State.Wf.claims, State.Wf.owner, State.Wf.origin]

theorem execSurveyNoticeReceive_wf (s t) (h : State.Wf q s) (e : execSurveyNoticeReceive s = .next t) : State.Wf q t := by grind only [execSurveyNoticeReceive, localFrame_wf, keepNode_wf, wf_mk, foldl_wf, State.Wf.claims, State.Wf.owner, State.Wf.origin]

theorem execAsymSurveyReceive_wf (s t) (h : State.Wf q s) (e : execAsymSurveyReceive s = .next t) : State.Wf q t := by grind only [execAsymSurveyReceive, localFrame_wf, asymSurveyTake_wf, wf_mk, foldl_wf, State.Wf.claims, State.Wf.owner, State.Wf.origin]

theorem execSurveyNodeExpiry_wf (a0 s t) (h : State.Wf q s) (e : execSurveyNodeExpiry a0 s = .next t) : State.Wf q t := by grind only [execSurveyNodeExpiry, modRing_wf, wf_mk, foldl_wf, State.Wf.claims, State.Wf.owner, State.Wf.origin]

theorem surveySend_wf (s) (h : State.Wf q s) : State.Wf q (surveySend s) := by grind only [surveySend, modRing_wf, sendBoth_wf, keepNode_wf, wf_mk, foldl_wf, State.Wf.claims, State.Wf.owner, State.Wf.origin]

theorem execSurveyNoticeSend_wf (s t) (h : State.Wf q s) (e : execSurveyNoticeSend s = .next t) : State.Wf q t := by grind only [execSurveyNoticeSend, surveySend_wf, wf_mk, foldl_wf, State.Wf.claims, State.Wf.owner, State.Wf.origin]

end Sys2Proof.Machine
end

