-- ==== Sys2Proof/Laws/FormDictRead.lean ====
section
/-! SUPPORT. Every operation of Machine/DictRead.lean keeps the form of the state and leaves the queue alone (`State.Wf`). -/

namespace Sys2Proof.Machine

set_option linter.unusedVariables false
set_option maxRecDepth 2000

variable {q : List Instr}

theorem readObj_wf (a0 s) (h : State.Wf q s) : State.Wf q (readObj a0 s).2 := by
  unfold readObj
  repeat' split
  all_goals grind only [put_wf, putI_wf, draw_wf, workNow_wf, tallyReadData_wf, stageReadData_wf, latchFaults_wf, wf_mk, foldl_wf, State.Wf.claims, State.Wf.owner, State.Wf.origin]

end Sys2Proof.Machine
end

