-- ==== Sys2Proof/Laws/FormInject.lean ====
section
/-! SUPPORT. Every operation of Machine/Inject.lean keeps the form of the state and leaves the queue alone (`State.Wf`). -/

namespace Sys2Proof.Machine

set_option linter.unusedVariables false
set_option maxRecDepth 2000

variable {q : List Instr}

theorem injectBits_wf (a0 s) (h : State.Wf q s) : State.Wf q (injectBits a0 s) := by grind only [injectBits, modHold_wf, tallyUpset_wf, setFifo_wf, modCtl_wf, modBridge_wf, wf_mk, foldl_wf, State.Wf.claims, State.Wf.owner, State.Wf.origin]

theorem countBlock_wf (a0 s) (h : State.Wf q s) : State.Wf q (countBlock a0 s) := by grind only [countBlock, addTo_wf, wf_mk, foldl_wf, State.Wf.claims, State.Wf.owner, State.Wf.origin]

theorem execFaultEvent_wf (a0 s t) (h : State.Wf q s) (e : execFaultEvent a0 s = .next t) : State.Wf q t := by grind only [execFaultEvent, raise_wf, countBlock_wf, holdCriterion_wf, wf_mk, foldl_wf, State.Wf.claims, State.Wf.owner, State.Wf.origin]

theorem injectWrite_wf (a0 s) (h : State.Wf q s) : State.Wf q (injectWrite a0 s).1 := by grind only [injectWrite, put_wf, bump_wf, raiseAs_wf, injectBits_wf, wf_mk, foldl_wf, State.Wf.claims, State.Wf.owner, State.Wf.origin]

end Sys2Proof.Machine
end

