-- ==== Sys2Proof/Laws/FormDictWrite.lean ====
section
/-! SUPPORT. Every operation of Machine/DictWrite.lean keeps the form of the state and leaves the queue alone (`State.Wf`). -/

namespace Sys2Proof.Machine

set_option linter.unusedVariables false
set_option maxRecDepth 2000

variable {q : List Instr}

theorem settle_wf (a0 a1 a2 a3 s) (h : State.Wf q s) : State.Wf q (settle a0 a1 a2 a3 s) := by grind only [settle, bump_wf, put_wf, wf_mk, foldl_wf, State.Wf.claims, State.Wf.owner, State.Wf.origin]

theorem serve_wf (r idx sub f s) (h : State.Wf q s) (hf : ∀ s : State, s.Wf q → (f s).st.Wf q) : State.Wf q (serve r idx sub f s).st := by
  unfold serve
  dsimp only
  split
  · exact h
  · exact settle_wf _ _ _ _ _ (hf _ h)

theorem shown_wf (x) (h : State.Wf q x.st) : State.Wf q (shown x) := { h with }

theorem craneCmdWrite_wf (a0 a1 s) (h : State.Wf q s) : State.Wf q (craneCmdWrite a0 a1 s).1 := by
  unfold craneCmdWrite
  repeat' split
  all_goals grind only [cmdHalt_wf, cmdRestart_wf, cmdStart_wf, wf_mk, foldl_wf, State.Wf.claims, State.Wf.owner, State.Wf.origin]

theorem lockedOpen_wf (a0 a1 a2 s) (h : State.Wf q s) : State.Wf q (lockedOpen a0 a1 a2 s) := by grind only [lockedOpen, updResult_wf, wf_mk, foldl_wf, State.Wf.claims, State.Wf.owner, State.Wf.origin]

theorem queueTide_wf (a0 a1 s t) (h : State.Wf q s) (e : queueTide a0 a1 s = some t) : State.Wf q t := by grind only [queueTide, modTide_wf, wf_mk, foldl_wf, State.Wf.claims, State.Wf.owner, State.Wf.origin]

theorem resetCmdWrite_wf (a0 a1 s) (h : State.Wf q s) : State.Wf q (resetCmdWrite a0 a1 s).1 := by grind only [resetCmdWrite, wf_mk, foldl_wf, State.Wf.claims, State.Wf.owner, State.Wf.origin]

theorem slipwayKeyWrite_wf (a0 s) (h : State.Wf q s) : State.Wf q (slipwayKeyWrite a0 s).1 := by grind only [slipwayKeyWrite, enterSlipway_wf, wf_mk, foldl_wf, State.Wf.claims, State.Wf.owner, State.Wf.origin]

theorem lockWrite_wf (a0 a1 s) (h : State.Wf q s) : State.Wf q (lockWrite a0 a1 s).1 := by grind only [lockWrite, put_wf, lockClose_wf, bump_wf, wf_mk, foldl_wf, State.Wf.claims, State.Wf.owner, State.Wf.origin]

theorem updAnswer_wf (r) (h : State.Wf q r.2) : State.Wf q (updAnswer r).1 := by
  unfold updAnswer
  split
  · exact h
  · exact updResult_wf _ _ h

theorem updCmdWrite_wf (a0 s) (h : State.Wf q s) : State.Wf q (updCmdWrite a0 s).1 := by
  unfold updCmdWrite
  split
  · exact updAnswer_wf _ (updOpen_wf _ _ _ h)
  · exact updAnswer_wf _ (updOpen_wf _ _ _ h)
  · exact updAnswer_wf _ (updVerify_wf _ h)
  · exact updAnswer_wf _ (updActivate_wf _ h)
  · exact updAnswer_wf _ (updConfirm_wf _ h)
  · exact updAnswer_wf _ (updClose_wf _ h)
  · exact updAbort_wf _ h
  · exact h

theorem updChunkWrite_wf (a0 s) (h : State.Wf q s) : State.Wf q (updChunkWrite a0 s).1 := by
  unfold updChunkWrite
  split
  · exact updAnswer_wf _ h
  · exact updAnswer_wf _ (chunkWrite_wf _ _ _ h)

theorem writeTwin_wf (a0 a1 a2 a3 s t) (h : State.Wf q s) (e : writeTwin a0 a1 a2 a3 s = some t) : State.Wf q t.1 := by grind (splits := 30) (ematch := 30) (gen := 30) only [writeTwin, handoverWrite_wf, stateSaveWrite_wf, resetCmdWrite_wf, blockResetWrite_wf, faultClear_wf, injectWrite_wf, slipwayKeyWrite_wf, lockWrite_wf, updCmdWrite_wf, updChunkWrite_wf, wf_mk, foldl_wf, State.Wf.claims, State.Wf.owner, State.Wf.origin]

theorem lockRestart_wf (a0 s) (h : State.Wf q s) : State.Wf q (lockRestart a0 s) := by grind only [lockRestart, wf_mk, foldl_wf, State.Wf.claims, State.Wf.owner, State.Wf.origin]

theorem commitQueued_wf (o f s) (h : State.Wf q s) (hf : ∀ s : State, s.Wf q → (f s).1.Wf q) : State.Wf q (commitQueued o f s).1 := by
  unfold commitQueued
  split
  · exact h
  · dsimp only
    split
    · exact { hf _ h with }
    · exact hf _ h

theorem swapCmdWrite_wf (a0 s) (h : State.Wf q s) : State.Wf q (swapCmdWrite a0 s).1 := by grind only [swapCmdWrite, swapArm_wf, swapCancel_wf, wf_mk, foldl_wf, State.Wf.claims, State.Wf.owner, State.Wf.origin]

theorem clearWrite_wf (a0 a1 a2 s) (h : State.Wf q s) : State.Wf q (clearWrite a0 a1 a2 s).1 := by grind only [clearWrite, put_wf, wf_mk, foldl_wf, State.Wf.claims, State.Wf.owner, State.Wf.origin]

theorem fifoFlushWrite_wf (a0 a1 s) (h : State.Wf q s) : State.Wf q (fifoFlushWrite a0 a1 s).1 := by grind only [fifoFlushWrite, flushFifo_wf, put_wf, wf_mk, foldl_wf, State.Wf.claims, State.Wf.owner, State.Wf.origin]

theorem writeQuay_wf (a0 a1 a2 s t) (h : State.Wf q s) (e : writeQuay a0 a1 a2 s = some t) : State.Wf q t.1 := by grind (splits := 30) (ematch := 30) (gen := 30) only [writeQuay, craneCmdWrite_wf, commitQueued_wf, quayCommit_wf, writeQuayFlags_wf, clearQuayIrq_wf, writeGangStart_wf, writeGangHalt_wf, writeClockRestart_wf, tallyLoad_wf, stageLoad_wf, swapCmdWrite_wf, clearWrite_wf, fifoFlushWrite_wf, wf_mk, foldl_wf, State.Wf.claims, State.Wf.owner, State.Wf.origin]

theorem adminWrite_wf (a0 a1 s) (h : State.Wf q s) : State.Wf q (adminWrite a0 a1 s).1 := by grind only [adminWrite, put_wf, outputDown_wf, outputReturn_wf, wf_mk, foldl_wf, State.Wf.claims, State.Wf.owner, State.Wf.origin]

theorem writeRing_wf (a0 a1 s t) (h : State.Wf q s) (e : writeRing a0 a1 s = some t) : State.Wf q t.1 := by grind only [writeRing, planCommitWrite_wf, manifestCommitWrite_wf, adminWrite_wf, loopModeWrite_wf, put_wf, farLoopCleared_wf, prbsWrite_wf, portRetrainWrite_wf, laneRetrainWrite_wf, wf_mk, foldl_wf, State.Wf.claims, State.Wf.owner, State.Wf.origin]

theorem writeCan_wf (a0 a1 s t) (h : State.Wf q s) (e : writeCan a0 a1 s = some t) : State.Wf q t.1 := by grind only [writeCan, commitQueued_wf, canCommit_wf, canCmdWrite_wf, clearWrite_wf, timeSetWrite_wf, domainSwitchWrite_wf, workNow_wf, pgControlWrite_wf, wf_mk, foldl_wf, State.Wf.claims, State.Wf.owner, State.Wf.origin]

theorem writeSpecial_wf (a0 a1 a2 a3 s t) (h : State.Wf q s) (e : writeSpecial a0 a1 a2 a3 s = some t) : State.Wf q t.1 := by grind only [writeSpecial, writeRing_wf, writeQuay_wf, writeCan_wf, writeTwin_wf, wf_mk, foldl_wf, State.Wf.claims, State.Wf.owner, State.Wf.origin]

theorem storeObj_wf (a0 a1 s) (h : State.Wf q s) : State.Wf q (storeObj a0 a1 s) := by grind only [storeObj, putBlob_wf, put_wf, wf_mk, foldl_wf, State.Wf.claims, State.Wf.owner, State.Wf.origin]

theorem writeStored_wf (a0 a1 s) (h : State.Wf q s) : State.Wf q (writeStored a0 a1 s).1 := by grind only [writeStored, queueTide_wf, stage_wf, storeObj_wf, wf_mk, foldl_wf, State.Wf.claims, State.Wf.owner, State.Wf.origin]

theorem withObj_wf (idx sub f s) (h : State.Wf q s) (hf : ∀ o (s : State), s.Wf q → (f o s).st.Wf q) : State.Wf q (withObj idx sub f s).st := by
  unfold withObj
  split
  · exact hf _ _ h
  · exact h

theorem readServed_wf (a0 s) (h : State.Wf q s) : State.Wf q (readServed a0 s).st := by grind only [readServed, readObj_wf, wf_mk, foldl_wf, State.Wf.claims, State.Wf.owner, State.Wf.origin]

theorem dictRead_wf (a0 a1 a2 s) (h : State.Wf q s) : State.Wf q (dictRead a0 a1 a2 s).st := by grind only [dictRead, serve_wf, withObj_wf, readServed_wf, wf_mk, foldl_wf, State.Wf.claims, State.Wf.owner, State.Wf.origin]

theorem pendingArm_wf (a0 a1 a2 s) (h : State.Wf q s) : State.Wf q (pendingArm a0 a1 a2 s) := by grind only [pendingArm, tallyResult_wf, wf_mk, foldl_wf, State.Wf.claims, State.Wf.owner, State.Wf.origin]

theorem writeObj_wf (a0 a1 a2 s) (h : State.Wf q s) : State.Wf q (writeObj a0 a1 a2 s).1 := by grind only [writeObj, pendingArm_wf, lockedOpen_wf, writeSpecial_wf, writeStored_wf, lockRestart_wf, wf_mk, foldl_wf, State.Wf.claims, State.Wf.owner, State.Wf.origin]

theorem dictWrite_wf (a0 a1 a2 a3 s) (h : State.Wf q s) : State.Wf q (dictWrite a0 a1 a2 a3 s).st := by grind only [dictWrite, serve_wf, withObj_wf, writeObj_wf, wf_mk, foldl_wf, State.Wf.claims, State.Wf.owner, State.Wf.origin]

end Sys2Proof.Machine
end

