-- ==== Sys2Proof/Laws/FormDictSeg.lean ====
section
/-! SUPPORT. Every operation of Machine/DictSeg.lean keeps the form of the state and leaves the queue alone (`State.Wf`). -/

namespace Sys2Proof.Machine

set_option linter.unusedVariables false
set_option maxRecDepth 2000

variable {q : List Instr}

theorem refillCopy_wf (a0 s) (h : State.Wf q s) : State.Wf q (refillCopy a0 s) := by grind only [refillCopy, latchFaults_wf, wf_mk, foldl_wf, State.Wf.claims, State.Wf.owner, State.Wf.origin]

theorem written_wf (x) (h : State.Wf q x.1) : State.Wf q (written x).st := h

theorem segPart_wf (a0 a1 a2 s) (h : State.Wf q s) : State.Wf q (segPart a0 a1 a2 s).st := by grind only [segPart, wf_mk, foldl_wf, State.Wf.claims, State.Wf.owner, State.Wf.origin]

theorem segReadCopy_wf (a0 a1 a2 s) (h : State.Wf q s) : State.Wf q (segReadCopy a0 a1 a2 s).st := by grind only [segReadCopy, refillCopy_wf, segPart_wf, wf_mk, foldl_wf, State.Wf.claims, State.Wf.owner, State.Wf.origin]

theorem modCtxs_wf (a0 s) (h : State.Wf q s) : State.Wf q (modCtxs a0 s) := by grind only [modCtxs, wf_mk, foldl_wf, State.Wf.claims, State.Wf.owner, State.Wf.origin]

theorem closeCtx_wf (a0 a1 s) (h : State.Wf q s) : State.Wf q (closeCtx a0 a1 s) := by grind only [closeCtx, modCtxs_wf, wf_mk, foldl_wf, State.Wf.claims, State.Wf.owner, State.Wf.origin]

theorem setCtx_wf (a0 a1 a2 s) (h : State.Wf q s) : State.Wf q (setCtx a0 a1 a2 s) := by grind only [setCtx, modCtxs_wf, wf_mk, foldl_wf, State.Wf.claims, State.Wf.owner, State.Wf.origin]

theorem openCtx_wf (a0 a1 a2 s t) (h : State.Wf q s) (e : openCtx a0 a1 a2 s = some t) : State.Wf q t := by grind only [openCtx, closeCtx_wf, setCtx_wf, wf_mk, foldl_wf, State.Wf.claims, State.Wf.owner, State.Wf.origin]

theorem segReadOpen_wf (a0 a1 a2 s) (h : State.Wf q s) : State.Wf q (segReadOpen a0 a1 a2 s).st := by
  unfold segReadOpen
  extract_lets v
  split
  · exact h
  · exact segPart_wf _ _ _ _ (openCtx_wf _ _ _ _ _ (readObj_wf _ _ h) ‹_›)

theorem segReadNext_wf (a0 a1 a2 a3 s) (h : State.Wf q s) : State.Wf q (segReadNext a0 a1 a2 a3 s).st := by grind only [segReadNext, segPart_wf, wf_mk, foldl_wf, State.Wf.claims, State.Wf.owner, State.Wf.origin]

theorem segRead_wf (a0 a1 a2 a3 s) (h : State.Wf q s) : State.Wf q (segRead a0 a1 a2 a3 s).st := by grind only [segRead, segReadCopy_wf, segReadOpen_wf, segReadNext_wf, wf_mk, foldl_wf, State.Wf.claims, State.Wf.owner, State.Wf.origin]

theorem segTake_wf (a0 a1 a2 a3 a4 s) (h : State.Wf q s) : State.Wf q (segTake a0 a1 a2 a3 a4 s).st := by grind only [segTake, closeCtx_wf, written_wf, writeObj_wf, setCtx_wf, wf_mk, foldl_wf, State.Wf.claims, State.Wf.owner, State.Wf.origin]

theorem segWriteOpen_wf (a0 a1 a2 a3 s) (h : State.Wf q s) : State.Wf q (segWriteOpen a0 a1 a2 a3 s).st := by
  unfold segWriteOpen
  extract_lets t maxLen c
  have ht : t.Wf q := closeCtx_wf _ _ _ h
  repeat' split
  · exact written_wf _ (writeObj_wf _ _ _ _ ht)
  · exact ht
  · exact ht
  · exact ht
  · exact ht
  · exact segTake_wf _ _ _ _ _ _ (openCtx_wf _ _ _ _ _ ht ‹_›)

theorem segWriteNext_wf (a0 a1 a2 a3 s) (h : State.Wf q s) : State.Wf q (segWriteNext a0 a1 a2 a3 s).st := by grind only [segWriteNext, segTake_wf, closeCtx_wf, wf_mk, foldl_wf, State.Wf.claims, State.Wf.owner, State.Wf.origin]

theorem segWrite_wf (a0 a1 a2 a3 a4 a5 a6 s) (h : State.Wf q s) : State.Wf q (segWrite a0 a1 a2 a3 a4 a5 a6 s).st := by grind only [segWrite, segWriteOpen_wf, segWriteNext_wf, wf_mk, foldl_wf, State.Wf.claims, State.Wf.owner, State.Wf.origin]

theorem segAbort_wf (a0 a1 s) (h : State.Wf q s) : State.Wf q (segAbort a0 a1 s).st := by grind only [segAbort, closeCtx_wf, wf_mk, foldl_wf, State.Wf.claims, State.Wf.owner, State.Wf.origin]

theorem objInfo_wf (a0 s) (h : State.Wf q s) : State.Wf q (objInfo a0 s).st := by grind only [objInfo, wf_mk, foldl_wf, State.Wf.claims, State.Wf.owner, State.Wf.origin]

theorem runOp_wf (a0 a1 a2 s) (h : State.Wf q s) : State.Wf q (runOp a0 a1 a2 s).st := by
  unfold runOp
  split
  · exact readServed_wf _ _ h
  · split
    · exact h
    · exact written_wf _ (writeObj_wf _ _ _ _ h)
  · exact segRead_wf _ _ _ _ _ h
  · exact segWrite_wf _ _ _ _ _ _ _ _ h
  · exact segAbort_wf _ _ _ h
  · exact objInfo_wf _ _ h

theorem dictServe_wf (a0 a1 a2 a3 s) (h : State.Wf q s) : State.Wf q (dictServe a0 a1 a2 a3 s).st := by grind only [dictServe, serve_wf, withObj_wf, runOp_wf, wf_mk, foldl_wf, State.Wf.claims, State.Wf.owner, State.Wf.origin]

theorem execSegWrite_wf (a0 a1 a2 a3 a4 a5 s t) (h : State.Wf q s) (e : execSegWrite a0 a1 a2 a3 a4 a5 s = .next t) : State.Wf q t := by grind only [execSegWrite, shown_wf, dictServe_wf, wf_mk, foldl_wf, State.Wf.claims, State.Wf.owner, State.Wf.origin]

theorem execSegRead_wf (a0 a1 a2 a3 a4 s t) (h : State.Wf q s) (e : execSegRead a0 a1 a2 a3 a4 s = .next t) : State.Wf q t := by grind only [execSegRead, shown_wf, dictServe_wf, wf_mk, foldl_wf, State.Wf.claims, State.Wf.owner, State.Wf.origin]

theorem segTimeout_wf (a0 a1 a2 s) (h : State.Wf q s) : State.Wf q (segTimeout a0 a1 a2 s) := by grind only [segTimeout, modCtxs_wf, bump_wf, wf_mk, foldl_wf, State.Wf.claims, State.Wf.owner, State.Wf.origin]

theorem execSegTimeoutExpiry_wf (a0 a1 a2 s t) (h : State.Wf q s) (e : execSegTimeoutExpiry a0 a1 a2 s = .next t) : State.Wf q t := by grind only [execSegTimeoutExpiry, segTimeout_wf, wf_mk, foldl_wf, State.Wf.claims, State.Wf.owner, State.Wf.origin]

theorem execObjInfo_wf (a0 a1 a2 s t) (h : State.Wf q s) (e : execObjInfo a0 a1 a2 s = .next t) : State.Wf q t := by grind only [execObjInfo, shown_wf, dictServe_wf, wf_mk, foldl_wf, State.Wf.claims, State.Wf.owner, State.Wf.origin]

theorem execSegAbort_wf (a0 a1 a2 s t) (h : State.Wf q s) (e : execSegAbort a0 a1 a2 s = .next t) : State.Wf q t := by grind only [execSegAbort, shown_wf, dictServe_wf, wf_mk, foldl_wf, State.Wf.claims, State.Wf.owner, State.Wf.origin]

end Sys2Proof.Machine
end

