-- ==== Sys2Proof/Laws/FormBridgeTarget.lean ====
section
/-! SUPPORT. Every operation of Machine/BridgeTarget.lean keeps the form of the state and leaves the queue alone (`State.Wf`). -/

namespace Sys2Proof.Machine

set_option linter.unusedVariables false
set_option maxRecDepth 2000

variable {q : List Instr}

theorem putStream_wf (a0 s) (h : State.Wf q s) : State.Wf q (putStream a0 s) := by grind only [putStream, modBridge_wf, wf_mk, foldl_wf, State.Wf.claims, State.Wf.owner, State.Wf.origin]

theorem orderTake_wf (a0 a1 a2 s t) (h : State.Wf q s) (e : orderTake a0 a1 a2 s = some t) : State.Wf q t := by grind only [orderTake, modBridge_wf, wf_mk, foldl_wf, State.Wf.claims, State.Wf.owner, State.Wf.origin]

theorem admitReq_wf (a0 a1 a2 a3 s) (h : State.Wf q s) : State.Wf q (admitReq a0 a1 a2 a3 s).2 := by grind only [admitReq, bump_wf, orderTake_wf, wf_mk, foldl_wf, State.Wf.claims, State.Wf.owner, State.Wf.origin]

theorem runRing_wf (a0 a1 a2 a3 a4 a5 s) (h : State.Wf q s) : State.Wf q (runRing a0 a1 a2 a3 a4 a5 s).st := by grind only [runRing, runOp_wf, wf_mk, foldl_wf, State.Wf.claims, State.Wf.owner, State.Wf.origin]

theorem dictRequest_wf (a0 a1 s) (h : State.Wf q s) : State.Wf q (dictRequest a0 a1 s).st := by
  unfold dictRequest
  extract_lets c off idx sub op
  split
  · exact h
  · exact serve_wf _ _ _ _ _ h (fun _ hs => withObj_wf _ _ _ _ hs (fun _ _ ho => runRing_wf _ _ _ _ _ _ _ ho))

theorem serveDict_wf (a0 a1 s) (h : State.Wf q s) : State.Wf q (serveDict a0 a1 s) := by grind only [serveDict, dictRequest_wf, refuseFrame_wf, answer_wf, wf_mk, foldl_wf, State.Wf.claims, State.Wf.owner, State.Wf.origin]

theorem takeStream_wf (a0 a1 s) (h : State.Wf q s) : State.Wf q (takeStream a0 a1 s) := by grind only [takeStream, putStream_wf, addTo_wf, fifoCommit_wf, wf_mk, foldl_wf, State.Wf.claims, State.Wf.owner, State.Wf.origin]

theorem setAhead_wf (a0 a1 a2 s) (h : State.Wf q s) : State.Wf q (setAhead a0 a1 a2 s) := by grind only [setAhead, modBridge_wf, wf_mk, foldl_wf, State.Wf.claims, State.Wf.owner, State.Wf.origin]

theorem readPop_wf (a0 a1 a2 s) (h : State.Wf q s) : State.Wf q (readPop a0 a1 a2 s).2 := by grind only [readPop, dropStreams_wf, takeStream_wf, popWords_wf, setAhead_wf, wf_mk, foldl_wf, State.Wf.claims, State.Wf.owner, State.Wf.origin]

theorem fromStream_wf (a0 a1 a2 a3 a4 s) (h : State.Wf q s) : State.Wf q (fromStream a0 a1 a2 a3 a4 s).2 := by grind only [fromStream, takeStream_wf, dropStream_wf, wf_mk, foldl_wf, State.Wf.claims, State.Wf.owner, State.Wf.origin]

theorem readWindow_wf (a0 a1 a2 a3 a4 s) (h : State.Wf q s) : State.Wf q (readWindow a0 a1 a2 a3 a4 s).2 := by grind only [readWindow, fromStream_wf, readElems_wf, setAhead_wf, wf_mk, foldl_wf, State.Wf.claims, State.Wf.owner, State.Wf.origin]

theorem serveRead_wf (a0 a1 a2 a3 a4 a5 s) (h : State.Wf q s) : State.Wf q (serveRead a0 a1 a2 a3 a4 a5 s) := by grind only [serveRead, readPop_wf, answer_wf, readWindow_wf, wf_mk, foldl_wf, State.Wf.claims, State.Wf.owner, State.Wf.origin]

theorem writeElems_wf (a0 a1 a2 a3 a4 s) (h : State.Wf q s) : State.Wf q (writeElems a0 a1 a2 a3 a4 s).2.2 := by
  induction a4 generalizing a2 a3 s with
  | nil => exact h
  | cons v u ih =>
    unfold writeElems
    dsimp only
    split
    · exact ih _ _ _ (writeElem_wf _ _ _ _ _ h)
    · exact writeElem_wf _ _ _ _ _ h

theorem serveWrite_wf (a0 a1 a2 a3 a4 a5 s) (h : State.Wf q s) : State.Wf q (serveWrite a0 a1 a2 a3 a4 a5 s) := by grind only [serveWrite, writeElems_wf, answer_wf, refuseFrame_wf, wf_mk, foldl_wf, State.Wf.claims, State.Wf.owner, State.Wf.origin]

theorem serveWindow_wf (a0 a1 a2 a3 a4 a5 s) (h : State.Wf q s) : State.Wf q (serveWindow a0 a1 a2 a3 a4 a5 s) := by grind only [serveWindow, refuseFrame_wf, serveRead_wf, serveWrite_wf, wf_mk, foldl_wf, State.Wf.claims, State.Wf.owner, State.Wf.origin]

theorem serveRequest_wf (a0 a1 s) (h : State.Wf q s) : State.Wf q (serveRequest a0 a1 s) := by grind only [serveRequest, refuseFrame_wf, admitReq_wf, serveDict_wf, serveWindow_wf, wf_mk, foldl_wf, State.Wf.claims, State.Wf.owner, State.Wf.origin]

theorem takeRequest_wf (a0 a1 s) (h : State.Wf q s) : State.Wf q (takeRequest a0 a1 s) := by grind only [takeRequest, localFrame_wf, serveRequest_wf, wf_mk, foldl_wf, State.Wf.claims, State.Wf.owner, State.Wf.origin]

theorem execBadOpRequest_wf (a0 s t) (h : State.Wf q s) (e : execBadOpRequest a0 s = .next t) : State.Wf q t := by grind only [execBadOpRequest, takeRequest_wf, wf_mk, foldl_wf, State.Wf.claims, State.Wf.owner, State.Wf.origin]

theorem endPosted_wf (a0 a1 a2 s) (h : State.Wf q s) : State.Wf q (endPosted a0 a1 a2 s) := by grind only [endPosted, refuseFrame_wf, bump_wf, answer_wf, wf_mk, foldl_wf, State.Wf.claims, State.Wf.owner, State.Wf.origin]

theorem performPosted_wf (a0 a1 s t) (h : State.Wf q s) (e : performPosted a0 a1 s = some t) : State.Wf q t.2.2 := by
  unfold performPosted at e
  split at e
  · cases e; exact h
  · split at e
    · obtain ⟨u, hu, rfl⟩ := Option.map_eq_some_iff.1 e
      exact pushFrame_wf _ _ _ _ u h hu
    · split at e
      · split at e
        · obtain ⟨u, hu, rfl⟩ := Option.map_eq_some_iff.1 e
          exact gwStore_wf _ _ _ _ u h hu
        · cases e; exact h
      · cases e; exact writeElems_wf _ _ _ _ _ _ h

theorem tryPosted_wf (a0 s t) (h : State.Wf q s) (e : tryPosted a0 s = some t) : State.Wf q t := by
  unfold tryPosted at e
  split at e
  · cases e; exact h
  · split at e
    · cases e; exact h
    · dsimp only at e
      split at e
      · cases e
        refine endPosted_wf _ _ _ _ ?_
        split
        · exact bump_wf _ _ h
        · exact h
      · split at e
        · cases e; exact endPosted_wf _ _ _ _ h
        · obtain ⟨u, hu, rfl⟩ := Option.map_eq_some_iff.1 e
          exact endPosted_wf _ _ _ _ (performPosted_wf _ _ _ _ h hu)

theorem unwait_wf (a0 s) (h : State.Wf q s) : State.Wf q (unwait a0 s) := by grind only [unwait, modBridge_wf, noteLeft_wf, leaveHold_wf, wf_mk, foldl_wf, State.Wf.claims, State.Wf.owner, State.Wf.origin]

theorem execPostedWriteResume_wf (a0 s t) (h : State.Wf q s) (e : execPostedWriteResume a0 s = .next t) : State.Wf q t := by
  cases e
  split
  · exact h
  · exact getD_wf _ _ (fun t ht => tryPosted_wf _ _ t (unwait_wf _ _ h) ht) h

theorem execWriteRequestReceive_wf (a0 s t) (h : State.Wf q s) (e : execWriteRequestReceive a0 s = .next t) : State.Wf q t := by grind only [execWriteRequestReceive, takeRequest_wf, wf_mk, foldl_wf, State.Wf.claims, State.Wf.owner, State.Wf.origin]

theorem aheadWords_wf (a0 a1 a2 s) (h : State.Wf q s) : State.Wf q (aheadWords a0 a1 a2 s).2 := by
  induction a1 generalizing a2 s with
  | zero => exact h
  | succ n ih =>
    unfold aheadWords
    split
    · exact h
    · exact ih _ _ (readElem_wf _ _ _ _ h)

theorem execPrefetchHoldExpiry_wf (s t) (h : State.Wf q s) (e : execPrefetchHoldExpiry s = .next t) : State.Wf q t := by grind only [execPrefetchHoldExpiry, dropStreams_wf, wf_mk, foldl_wf, State.Wf.claims, State.Wf.owner, State.Wf.origin]

theorem makeRoom_wf (a0 a1 s) (h : State.Wf q s) : State.Wf q (makeRoom a0 a1 s) := by grind only [makeRoom, dropStream_wf, wf_mk, foldl_wf, State.Wf.claims, State.Wf.owner, State.Wf.origin]

theorem aheadPop_wf (a0 a1 s) (h : State.Wf q s) : State.Wf q (aheadPop a0 a1 s).2 := by
  induction a1 generalizing s with
  | zero => exact h
  | succ n ih =>
    unfold aheadPop
    dsimp only
    split
    · exact ih _ (fifoSpecPop_wf _ _ h)
    · exact h

theorem readAhead_wf (a0 a1 a2 s) (h : State.Wf q s) : State.Wf q (readAhead a0 a1 a2 s) := by grind only [readAhead, dropStreams_wf, makeRoom_wf, aheadPop_wf, aheadWords_wf, putStream_wf, wf_mk, foldl_wf, State.Wf.claims, State.Wf.owner, State.Wf.origin]

theorem execPrefetchReadAhead_wf (s t) (h : State.Wf q s) (e : execPrefetchReadAhead s = .next t) : State.Wf q t := by grind only [execPrefetchReadAhead, modBridge_wf, readAhead_wf, wf_mk, foldl_wf, State.Wf.claims, State.Wf.owner, State.Wf.origin]

theorem arrivePosted_wf (a0 a1 a2 s) (h : State.Wf q s) : State.Wf q (arrivePosted a0 a1 a2 s) := by
  unfold arrivePosted
  extract_lets gone a x tagged w
  have hg : ∀ t : State, t.Wf q → (gone t).Wf q := fun t ht => noteLeft_wf _ _ (leaveHold_wf _ _ ht)
  have hx : x.2.Wf q := by
    unfold x
    split
    · exact h
    · exact admitReq_wf _ _ _ _ _ h
  split
  · exact endPosted_wf _ _ _ _ (hg _ hx)
  · split
    · exact tryPosted_wf _ _ _ (hg _ hx) ‹_›
    · refine modBridge_wf _ _ ?_
      split
      · exact hg _ hx
      · exact hx

theorem takePosted_wf (a0 s) (h : State.Wf q s) : State.Wf q (takePosted a0 s) := by
  unfold takePosted
  repeat' split
  all_goals grind only [readWords_wf, bump_wf, noteLeft_wf, leaveHold_wf, arrivePosted_wf, wf_mk, foldl_wf, State.Wf.claims, State.Wf.owner, State.Wf.origin]

theorem execPostedWriteReceive_wf (a0 s t) (h : State.Wf q s) (e : execPostedWriteReceive a0 s = .next t) : State.Wf q t := by grind only [execPostedWriteReceive, takePosted_wf, wf_mk, foldl_wf, State.Wf.claims, State.Wf.owner, State.Wf.origin]

theorem execTargetWaitExpiry_wf (a0 s t) (h : State.Wf q s) (e : execTargetWaitExpiry a0 s = .next t) : State.Wf q t := by grind only [execTargetWaitExpiry, endPosted_wf, unwait_wf, wf_mk, foldl_wf, State.Wf.claims, State.Wf.owner, State.Wf.origin]

theorem execReadRequestReceive_wf (a0 s t) (h : State.Wf q s) (e : execReadRequestReceive a0 s = .next t) : State.Wf q t := by grind only [execReadRequestReceive, takeRequest_wf, wf_mk, foldl_wf, State.Wf.claims, State.Wf.owner, State.Wf.origin]

end Sys2Proof.Machine
end

