-- ==== Sys2Proof/Laws/FormBridgeSource.lean ====
section
/-! SUPPORT. Every operation of Machine/BridgeSource.lean keeps the form of the state and leaves the queue alone (`State.Wf`). -/

namespace Sys2Proof.Machine

set_option linter.unusedVariables false
set_option maxRecDepth 2000

variable {q : List Instr}

theorem setTag_wf (a0 a1 s) (h : State.Wf q s) : State.Wf q (setTag a0 a1 s) := by grind only [setTag, modBridge_wf, wf_mk, foldl_wf, State.Wf.claims, State.Wf.owner, State.Wf.origin]

theorem gpReply_wf (a0 a1 s) (h : State.Wf q s) : State.Wf q (gpReply a0 a1 s) := by grind only [gpReply, bump_wf, wf_mk, foldl_wf, State.Wf.claims, State.Wf.owner, State.Wf.origin]

theorem tellFailure_wf (a0 a1 a2 a3 s) (h : State.Wf q s) : State.Wf q (tellFailure a0 a1 a2 a3 s) := by
  unfold tellFailure
  repeat' split
  all_goals grind only [tellCore_wf, gpReply_wf, wf_mk, foldl_wf, State.Wf.claims, State.Wf.owner, State.Wf.origin]

theorem execReadTimeout_wf (a0 s t) (h : State.Wf q s) (e : execReadTimeout a0 s = .next t) : State.Wf q t := by grind only [execReadTimeout, setTag_wf, bump_wf, tellFailure_wf, wf_mk, foldl_wf, State.Wf.claims, State.Wf.owner, State.Wf.origin]

theorem tellResponse_wf (a0 a1 a2 s) (h : State.Wf q s) : State.Wf q (tellResponse a0 a1 a2 s) := by
  unfold tellResponse
  repeat' split
  all_goals grind only [tellCore_wf, gpReply_wf, wf_mk, foldl_wf, State.Wf.claims, State.Wf.owner, State.Wf.origin]

theorem takeResponse_wf (a0 s) (h : State.Wf q s) : State.Wf q (takeResponse a0 s) := by grind only [takeResponse, setTag_wf, bump_wf, tellResponse_wf, tellCore_wf, wf_mk, foldl_wf, State.Wf.claims, State.Wf.owner, State.Wf.origin]

theorem nextResponse_wf (a0 s) (h : State.Wf q s) : State.Wf q (nextResponse a0 s) := by grind only [nextResponse, localFrame_wf, takeResponse_wf, wf_mk, foldl_wf, State.Wf.claims, State.Wf.owner, State.Wf.origin]

theorem hushXfer_wf (a0 s) (h : State.Wf q s) : State.Wf q (hushXfer a0 s) := by grind only [hushXfer, modBridge_wf, wf_mk, foldl_wf, State.Wf.claims, State.Wf.owner, State.Wf.origin]

theorem markAborted_wf (a0 s) (h : State.Wf q s) : State.Wf q (markAborted a0 s) := by grind only [markAborted, modBridge_wf, wf_mk, foldl_wf, State.Wf.claims, State.Wf.owner, State.Wf.origin]

theorem abortLate_wf (a0 s) (h : State.Wf q s) : State.Wf q (abortLate a0 s) := by grind only [abortLate, markAborted_wf, modBridge_wf, wf_mk, foldl_wf, State.Wf.claims, State.Wf.owner, State.Wf.origin]

theorem unsend_wf (a0 s) (h : State.Wf q s) : State.Wf q (unsend a0 s) := by grind only [unsend, modBridge_wf, promote_wf, removeJob_wf, wf_mk, foldl_wf, State.Wf.claims, State.Wf.owner, State.Wf.origin]

theorem abortTransfer_wf (a0 s) (h : State.Wf q s) : State.Wf q (abortTransfer a0 s) := by grind only [abortTransfer, hushXfer_wf, unsend_wf, markAborted_wf, tellCore_wf, wf_mk, foldl_wf, State.Wf.claims, State.Wf.owner, State.Wf.origin]

theorem execTransferAbort_wf (s t) (h : State.Wf q s) (e : execTransferAbort s = .next t) : State.Wf q t := by grind only [execTransferAbort, abortTransfer_wf, abortLate_wf, wf_mk, foldl_wf, State.Wf.claims, State.Wf.owner, State.Wf.origin]

theorem beginXfer_wf (a0 s) (h : State.Wf q s) : State.Wf q (beginXfer a0 s) := by grind only [beginXfer, modBridge_wf, wf_mk, foldl_wf, State.Wf.claims, State.Wf.owner, State.Wf.origin]

theorem refuseIssue_wf (a0 a1 s) (h : State.Wf q s) : State.Wf q (refuseIssue a0 a1 s) := by grind only [refuseIssue, tellFailure_wf, bump_wf, wf_mk, foldl_wf, State.Wf.claims, State.Wf.owner, State.Wf.origin]

theorem issueFrames_wf (a0 s) (h : State.Wf q s) : State.Wf q (issueFrames a0 s) := by
  unfold issueFrames
  repeat' split
  all_goals grind only [sendOrWait_wf, wf_mk, foldl_wf, State.Wf.claims, State.Wf.owner, State.Wf.origin]

theorem execRequestIssue_wf (a0 a1 a2 a3 a4 s t) (h : State.Wf q s) (e : execRequestIssue a0 a1 a2 a3 a4 s = .next t) : State.Wf q t := by grind only [execRequestIssue, beginXfer_wf, refuseIssue_wf, issueFrames_wf, wf_mk, foldl_wf, State.Wf.claims, State.Wf.owner, State.Wf.origin]

theorem execTagWaitResume_wf (s t) (h : State.Wf q s) (e : execTagWaitResume s = .next t) : State.Wf q t := by
  cases e
  split
  · exact h
  · exact getD_wf _ _ (fun t ht => trySend_wf _ _ t (modBridge_wf _ _ h) ht) h

theorem acceptPosted_wf (a0 a1 s) (h : State.Wf q s) : State.Wf q (acceptPosted a0 a1 s) := by grind only [acceptPosted, issueFrames_wf, modBridge_wf, beginXfer_wf, wf_mk, foldl_wf, State.Wf.claims, State.Wf.owner, State.Wf.origin]

theorem execPostedWriteIssue_wf (a0 a1 a2 s t) (h : State.Wf q s) (e : execPostedWriteIssue a0 a1 a2 s = .next t) : State.Wf q t := by grind only [execPostedWriteIssue, refuseIssue_wf, beginXfer_wf, acceptPosted_wf, wf_mk, foldl_wf, State.Wf.claims, State.Wf.owner, State.Wf.origin]

theorem execReadResponseReceive_wf (s t) (h : State.Wf q s) (e : execReadResponseReceive s = .next t) : State.Wf q t := by grind only [execReadResponseReceive, nextResponse_wf, wf_mk, foldl_wf, State.Wf.claims, State.Wf.owner, State.Wf.origin]

theorem execWriteResponseReceive_wf (s t) (h : State.Wf q s) (e : execWriteResponseReceive s = .next t) : State.Wf q t := by grind only [execWriteResponseReceive, nextResponse_wf, wf_mk, foldl_wf, State.Wf.claims, State.Wf.owner, State.Wf.origin]

theorem execTagReissueHoldEnd_wf (a0 s t) (h : State.Wf q s) (e : execTagReissueHoldEnd a0 s = .next t) : State.Wf q t := by grind only [execTagReissueHoldEnd, setTag_wf, wf_mk, foldl_wf, State.Wf.claims, State.Wf.owner, State.Wf.origin]

end Sys2Proof.Machine
end

