-- ==== Sys2Proof/Laws/FormGangplank.lean ====
section
/-! SUPPORT. Every operation of Machine/Gangplank.lean keeps the form of the state and leaves the queue alone (`State.Wf`). -/

namespace Sys2Proof.Machine

set_option linter.unusedVariables false
set_option maxRecDepth 2000

variable {q : List Instr}

theorem gpRefuse_wf (a0 a1 a2 s) (h : State.Wf q s) : State.Wf q (gpRefuse a0 a1 a2 s) := by grind only [gpRefuse, gpReply_wf, wf_mk, foldl_wf, State.Wf.claims, State.Wf.owner, State.Wf.origin]

theorem gpDrop_wf (s) (h : State.Wf q s) : State.Wf q (gpDrop s) := by grind only [gpDrop, bump_wf, wf_mk, foldl_wf, State.Wf.claims, State.Wf.owner, State.Wf.origin]

theorem ownResponse_wf (a0 a1 a2 s) (h : State.Wf q s) : State.Wf q (ownResponse a0 a1 a2 s).2.2 := by grind only [ownResponse, nextSeqOf_wf, wf_mk, foldl_wf, State.Wf.claims, State.Wf.owner, State.Wf.origin]

theorem gpServe_wf (a0 s) (h : State.Wf q s) : State.Wf q (gpServe a0 s) := by grind only [gpServe, gpRefuse_wf, dictRequest_wf, ownResponse_wf, gpReply_wf, wf_mk, foldl_wf, State.Wf.claims, State.Wf.owner, State.Wf.origin]

theorem gpIssue_wf (a0 s) (h : State.Wf q s) : State.Wf q (gpIssue a0 s) := by grind only [gpIssue, trySend_wf, gpDrop_wf, modBridge_wf, wf_mk, foldl_wf, State.Wf.claims, State.Wf.owner, State.Wf.origin]

theorem gpBridge_wf (a0 s) (h : State.Wf q s) : State.Wf q (gpBridge a0 s) := by grind only [gpBridge, refuseIssue_wf, gpReply_wf, gpIssue_wf, gpDrop_wf, wf_mk, foldl_wf, State.Wf.claims, State.Wf.owner, State.Wf.origin]

theorem gpTake_wf (a0 s) (h : State.Wf q s) : State.Wf q (gpTake a0 s) := by grind only [gpTake, gpDrop_wf, gpRefuse_wf, bump_wf, gpServe_wf, gpBridge_wf, wf_mk, foldl_wf, State.Wf.claims, State.Wf.owner, State.Wf.origin]

theorem gpWaiting_wf (s) (h : State.Wf q s) : State.Wf q (gpWaiting s) := by grind only [gpWaiting, gpTake_wf, wf_mk, foldl_wf, State.Wf.claims, State.Wf.owner, State.Wf.origin]

theorem gpReceive_wf (a0 s) (h : State.Wf q s) : State.Wf q (gpReceive a0 s) := by grind only [gpReceive, gpDrop_wf, gpTake_wf, gpWaiting_wf, wf_mk, foldl_wf, State.Wf.claims, State.Wf.owner, State.Wf.origin]

theorem execGangplankDatagram_wf (a0 s t) (h : State.Wf q s) (e : execGangplankDatagram a0 s = .next t) : State.Wf q t := by grind only [execGangplankDatagram, gpReceive_wf, wf_mk, foldl_wf, State.Wf.claims, State.Wf.owner, State.Wf.origin]

theorem execArpRequest_wf (a0 s t) (h : State.Wf q s) (e : execArpRequest a0 s = .next t) : State.Wf q t := by grind only [execArpRequest, wf_mk, foldl_wf, State.Wf.claims, State.Wf.owner, State.Wf.origin]

end Sys2Proof.Machine
end

