-- ==== Sys2Proof/Laws/FormRelay.lean ====
section
/-! SUPPORT. Every operation of Machine/Relay.lean keeps the form of the state and leaves the queue alone (`State.Wf`). -/

namespace Sys2Proof.Machine

set_option linter.unusedVariables false
set_option maxRecDepth 2000

variable {q : List Instr}

theorem relayAnswer_wf (a0 a1 s) (h : State.Wf q s) : State.Wf q (relayAnswer a0 a1 s) := by grind only [relayAnswer, relayReply_wf, wf_mk, foldl_wf, State.Wf.claims, State.Wf.owner, State.Wf.origin]

theorem relayResult_wf (f r) (h : State.Wf q r.2) : State.Wf q (relayResult f r) := by grind only [relayResult, relayAnswer_wf, updResult_wf, modUpd_wf, wf_mk, foldl_wf, State.Wf.claims, State.Wf.owner, State.Wf.origin]

theorem relayCommand_wf (f cmd s) (h : State.Wf q s) (hf : ∀ s : State, s.Wf q → (cmd s).2.Wf q) : State.Wf q (relayCommand f cmd s) := by grind only [relayCommand, relayAnswer_wf, updResult_wf, freeCode_wf, relayResult_wf, wf_mk, foldl_wf, State.Wf.claims, State.Wf.owner, State.Wf.origin]

theorem relayNext_wf (p act s) (h : State.Wf q s) (hf : ∀ f (s : State), s.Wf q → (act f s).Wf q) : State.Wf q (relayNext p act s) := by grind only [relayNext, localFrame_wf, wf_mk, foldl_wf, State.Wf.claims, State.Wf.owner, State.Wf.origin]

theorem relayTake_wf (act f s) (h : State.Wf q s) (hf : ∀ f (s : State), s.Wf q → (act f s).Wf q) : State.Wf q (relayTake act f s) := by grind only [relayTake, bump_wf, relayAnswer_wf, wf_mk, foldl_wf, State.Wf.claims, State.Wf.owner, State.Wf.origin]

theorem relayOpen_wf (a0 s) (h : State.Wf q s) : State.Wf q (relayOpen a0 s) := by
  unfold relayOpen
  dsimp only
  split
  · exact relayAnswer_wf _ _ _ (updResult_wf _ _ (lockWrite_wf _ _ _ h))
  · exact relayResult_wf _ _ (updOpen_wf _ _ _ (lockWrite_wf _ _ _ h))

theorem execRelayOpen_wf (s t) (h : State.Wf q s) (e : execRelayOpen s = .next t) : State.Wf q t := by grind only [execRelayOpen, relayNext_wf, relayTake_wf, relayOpen_wf, wf_mk, foldl_wf, State.Wf.claims, State.Wf.owner, State.Wf.origin]

theorem execRelayVerify_wf (s t) (h : State.Wf q s) (e : execRelayVerify s = .next t) : State.Wf q t := by grind only [execRelayVerify, relayNext_wf, relayTake_wf, relayCommand_wf, updVerify_wf, wf_mk, foldl_wf, State.Wf.claims, State.Wf.owner, State.Wf.origin]

theorem relayBlock_wf (a0 s) (h : State.Wf q s) : State.Wf q (relayBlock a0 s) := by grind only [relayBlock, chunkWrite_wf, relayAnswer_wf, updResult_wf, wf_mk, foldl_wf, State.Wf.claims, State.Wf.owner, State.Wf.origin]

theorem execRelayBlock_wf (s t) (h : State.Wf q s) (e : execRelayBlock s = .next t) : State.Wf q t := by grind only [execRelayBlock, relayNext_wf, relayTake_wf, relayBlock_wf, wf_mk, foldl_wf, State.Wf.claims, State.Wf.owner, State.Wf.origin]

theorem execRelayActivate_wf (s t) (h : State.Wf q s) (e : execRelayActivate s = .next t) : State.Wf q t := by grind only [execRelayActivate, relayNext_wf, relayTake_wf, relayCommand_wf, updActivate_wf, wf_mk, foldl_wf, State.Wf.claims, State.Wf.owner, State.Wf.origin]

theorem execRelayConfirm_wf (s t) (h : State.Wf q s) (e : execRelayConfirm s = .next t) : State.Wf q t := by grind only [execRelayConfirm, relayNext_wf, relayTake_wf, relayCommand_wf, updConfirm_wf, wf_mk, foldl_wf, State.Wf.claims, State.Wf.owner, State.Wf.origin]

theorem relayDrop_wf (a0 s) (h : State.Wf q s) : State.Wf q (relayDrop a0 s) := by grind only [relayDrop, bump_wf, wf_mk, foldl_wf, State.Wf.claims, State.Wf.owner, State.Wf.origin]

theorem execRelayFrameDrop_wf (s t) (h : State.Wf q s) (e : execRelayFrameDrop s = .next t) : State.Wf q t := by grind only [execRelayFrameDrop, relayNext_wf, relayDrop_wf, wf_mk, foldl_wf, State.Wf.claims, State.Wf.owner, State.Wf.origin]

theorem execRelayClose_wf (s t) (h : State.Wf q s) (e : execRelayClose s = .next t) : State.Wf q t := by grind only [execRelayClose, relayNext_wf, relayTake_wf, relayCommand_wf, updClose_wf, wf_mk, foldl_wf, State.Wf.claims, State.Wf.owner, State.Wf.origin]

end Sys2Proof.Machine
end

