-- ==== Sys2Proof/Laws/FormHeader.lean ====
section
/-! SUPPORT. Every operation of Machine/Header.lean keeps the form of the state and leaves the queue alone (`State.Wf`). -/

namespace Sys2Proof.Machine

set_option linter.unusedVariables false
set_option maxRecDepth 2000

variable {q : List Instr}

theorem sendHeader_wf (a0 s) (h : State.Wf q s) : State.Wf q (sendHeader a0 s) := by grind only [sendHeader, turnBack_wf, modPort_wf, wf_mk, foldl_wf, State.Wf.claims, State.Wf.owner, State.Wf.origin]

end Sys2Proof.Machine
end

