-- ==== Sys2Proof/Laws/FormTick.lean ====
section
/-! SUPPORT. Every operation of Machine/Tick.lean keeps the form of the state and leaves the queue alone (`State.Wf`). -/

namespace Sys2Proof.Machine

set_option linter.unusedVariables false
set_option maxRecDepth 2000

variable {q : List Instr}

theorem keepersPass_wf (a0 s) (h : State.Wf q s) : State.Wf q (keepersPass a0 s) := by grind only [keepersPass, wf_mk, foldl_wf, State.Wf.claims, State.Wf.owner, State.Wf.origin]

theorem applyImage_wf (a0 s) (h : State.Wf q s) : State.Wf q (applyImage a0 s) := by grind only [applyImage, imageOrInput_wf, wf_mk, foldl_wf, State.Wf.claims, State.Wf.owner, State.Wf.origin]

theorem applyQuay_wf (a0 s) (h : State.Wf q s) : State.Wf q (applyQuay a0 s) := by grind only [applyQuay, keepersPass_wf, applyImage_wf, applyPinInit_wf, wf_mk, foldl_wf, State.Wf.claims, State.Wf.owner, State.Wf.origin]

theorem resumeQuay_wf (a0 s) (h : State.Wf q s) : State.Wf q (resumeQuay a0 s) := by grind only [resumeQuay, autostart_wf, applyQuay_wf, wf_mk, foldl_wf, State.Wf.claims, State.Wf.owner, State.Wf.origin]

theorem restoreBank_wf (a0 s) (h : State.Wf q s) : State.Wf q (restoreBank a0 s) := by grind only [restoreBank, applyQuay_wf, wf_mk, foldl_wf, State.Wf.claims, State.Wf.owner, State.Wf.origin]

theorem laterOutputs_wf (s) (h : State.Wf q s) : State.Wf q (laterOutputs s) := by grind only [laterOutputs, resumeQuay_wf, restoreBank_wf, applyImage_wf, wf_mk, foldl_wf, State.Wf.claims, State.Wf.owner, State.Wf.origin]

theorem returnLeak_wf (a0 s) (h : State.Wf q s) : State.Wf q (returnLeak a0 s) := by grind only [returnLeak, put_wf, raise_wf, bump_wf, listBay_wf, wf_mk, foldl_wf, State.Wf.claims, State.Wf.owner, State.Wf.origin]

theorem auditBay_wf (s) (h : State.Wf q s) : State.Wf q (auditBay s) := by grind only [auditBay, put_wf, readTag_wf, returnLeak_wf, wf_mk, foldl_wf, State.Wf.claims, State.Wf.owner, State.Wf.origin]

theorem modeBoundary_wf (s) (h : State.Wf q s) : State.Wf q (modeBoundary s) := by
  unfold modeBoundary
  extract_lets n
  grind [enterAnchored_wf, setMode_wf, wf_mk, State.Wf.claims, State.Wf.owner, State.Wf.origin, Mode.mayOwn]

theorem outputBoundary_wf (a0 s) (h : State.Wf q s) : State.Wf q (outputBoundary a0 s) := by grind only [outputBoundary, modPort_wf, wf_mk, foldl_wf, State.Wf.claims, State.Wf.owner, State.Wf.origin]

theorem elasticStep_wf (a0 a1 s) (h : State.Wf q s) : State.Wf q (elasticStep a0 a1 s) := by grind only [elasticStep, modPort_wf, rxDown_wf, bump_wf, wf_mk, foldl_wf, State.Wf.claims, State.Wf.owner, State.Wf.origin]

theorem portClear_wf (a0 s) (h : State.Wf q s) : State.Wf q (portClear a0 s) := by grind only [portClear, modPort_wf, modCal_wf, wf_mk, foldl_wf, State.Wf.claims, State.Wf.owner, State.Wf.origin]

theorem portBoundary_wf (a0 a1 a2 s) (h : State.Wf q s) : State.Wf q (portBoundary a0 a1 a2 s) := by grind (splits := 30) (ematch := 30) (gen := 30) only [portBoundary, outputBoundary_wf, elasticStep_wf, portClear_wf, txSetApply_wf, portActivate_wf, tapsApply_wf, sendHarbour_wf, portEbbStep_wf, spareEbbStep_wf, lanemapRepeat_wf, wf_mk, foldl_wf, State.Wf.claims, State.Wf.owner, State.Wf.origin]

theorem portsBoundary_wf (a0 s) (h : State.Wf q s) : State.Wf q (portsBoundary a0 s) := by grind only [portsBoundary, portBoundary_wf, modRing_wf, wf_mk, foldl_wf, State.Wf.claims, State.Wf.owner, State.Wf.origin]

theorem periodStep_wf (a0 s) (h : State.Wf q s) : State.Wf q (periodStep a0 s) := by grind only [periodStep, reduceSlew_wf, wf_mk, foldl_wf, State.Wf.claims, State.Wf.owner, State.Wf.origin]

theorem adoptTick_wf (a0 a1 s) (h : State.Wf q s) : State.Wf q (adoptTick a0 a1 s) := by grind only [adoptTick, periodStep_wf, planBoundary_wf, modTide_wf, wf_mk, foldl_wf, State.Wf.claims, State.Wf.owner, State.Wf.origin]

theorem headerTake_wf (a0 a1 a2 s) (h : State.Wf q s) : State.Wf q (headerTake a0 a1 a2 s) := by grind only [headerTake, modTide_wf, adoptTick_wf, wf_mk, foldl_wf, State.Wf.claims, State.Wf.owner, State.Wf.origin]

theorem tickWake_wf (a0 s) (h : State.Wf q s) : State.Wf q (tickWake a0 s) := by grind only [tickWake, inPhase_wf, wakeWait_wf, wf_mk, foldl_wf, State.Wf.claims, State.Wf.owner, State.Wf.origin]

theorem endStreams_wf (s) (h : State.Wf q s) : State.Wf q (endStreams s) := by grind only [endStreams, dropStreams_wf, wf_mk, foldl_wf, State.Wf.claims, State.Wf.owner, State.Wf.origin]

theorem windowBoundary_wf (s) (h : State.Wf q s) : State.Wf q (windowBoundary s) := by grind only [windowBoundary, wf_mk, foldl_wf, State.Wf.claims, State.Wf.owner, State.Wf.origin]

theorem bellStep_wf (s) (h : State.Wf q s) : State.Wf q (bellStep s) := by grind only [bellStep, modTide_wf, wf_mk, foldl_wf, State.Wf.claims, State.Wf.owner, State.Wf.origin]

theorem holdMarch_wf (s) (h : State.Wf q s) : State.Wf q (holdMarch s) := by grind only [holdMarch, modHold_wf, wf_mk, foldl_wf, State.Wf.claims, State.Wf.owner, State.Wf.origin]

theorem auditEnd_wf (s) (h : State.Wf q s) : State.Wf q (auditEnd s) := by
  unfold auditEnd
  extract_lets owners out sum s1 s2 s3
  have h1 : s1.Wf q := put_wf _ _ _ (bump_wf _ _ h)
  have h2 : s2.Wf q := by
    show State.Wf q (if _ then _ else _)
    split
    · exact h1
    · exact raise_wf _ _ _ _ (bump_wf _ _ h1)
  have h3 : s3.Wf q := modHold_wf _ _ h2
  exact dropCriterion_wf _ _ (modTwin_wf _ _ (wf_fifos _ _ h3 (mapWf_values _ _ _ h3.fifos)))

theorem auditStep_wf (s) (h : State.Wf q s) : State.Wf q (auditStep s) := by grind only [auditStep, auditBay_wf, auditEnd_wf, wf_mk, foldl_wf, State.Wf.claims, State.Wf.owner, State.Wf.origin]

theorem headersLeave_wf (s) (h : State.Wf q s) : State.Wf q (headersLeave s) := by grind only [headersLeave, sendHeader_wf, wf_mk, foldl_wf, State.Wf.claims, State.Wf.owner, State.Wf.origin]

theorem gpBoundary_wf (s) (h : State.Wf q s) : State.Wf q (gpBoundary s) := by grind only [gpBoundary, gpWaiting_wf, wf_mk, foldl_wf, State.Wf.claims, State.Wf.owner, State.Wf.origin]

theorem updBoundary_wf (a0 s) (h : State.Wf q s) : State.Wf q (updBoundary a0 s) := by grind only [updBoundary, modUpd_wf, saveBoundary_wf, cfgWrite_wf, guardBoundary_wf, wf_mk, foldl_wf, State.Wf.claims, State.Wf.owner, State.Wf.origin]

theorem twinAges_wf (s) (h : State.Wf q s) : State.Wf q (twinAges s) := by grind only [twinAges, modTwin_wf, bump_wf, wf_mk, foldl_wf, State.Wf.claims, State.Wf.owner, State.Wf.origin]

theorem twinSend_wf (s) (h : State.Wf q s) : State.Wf q (twinSend s) := by grind only [twinSend, modTwin_wf, sendTwin_wf, wf_mk, foldl_wf, State.Wf.claims, State.Wf.owner, State.Wf.origin]

theorem refCriterion_wf (a0 s) (h : State.Wf q s) : State.Wf q (refCriterion a0 s) := by grind only [refCriterion, modTwin_wf, holdCriterion_wf, dropCriterion_wf, wf_mk, foldl_wf, State.Wf.claims, State.Wf.owner, State.Wf.origin]

theorem clockCriterion_wf (a0 s) (h : State.Wf q s) : State.Wf q (clockCriterion a0 s) := by grind only [clockCriterion, dropCriterion_wf, holdCriterion_wf, wf_mk, foldl_wf, State.Wf.claims, State.Wf.owner, State.Wf.origin]

theorem twinBoundary_wf (a0 s) (h : State.Wf q s) : State.Wf q (twinBoundary a0 s) := by grind only [twinBoundary, selfTestFail_wf, twinAges_wf, twinSend_wf, refCriterion_wf, clockCriterion_wf, wf_mk, foldl_wf, State.Wf.claims, State.Wf.owner, State.Wf.origin]

theorem boundaryThird_wf (a0 a1 a2 s) (h : State.Wf q s) : State.Wf q (boundaryThird a0 a1 a2 s) := by grind (splits := 30) (ematch := 30) (gen := 30) only [boundaryThird, portsBoundary_wf, endStreams_wf, windowBoundary_wf, bellStep_wf, timeBoundary_wf, genCheck_wf, copyBoundary_wf, holdMarch_wf, auditStep_wf, headersLeave_wf, periodStep_wf, gpBoundary_wf, updBoundary_wf, twinBoundary_wf, wf_mk, foldl_wf, State.Wf.claims, State.Wf.owner, State.Wf.origin]

theorem latchOutputs_wf (s) (h : State.Wf q s) : State.Wf q (latchOutputs s) := by grind only [latchOutputs, wf_mk, foldl_wf, State.Wf.claims, State.Wf.owner, State.Wf.origin]

theorem craneEdge_wf (s) (h : State.Wf q s) : State.Wf q (craneEdge s) := by grind only [craneEdge, pendingGangs_wf, tickWake_wf, wf_mk, foldl_wf, State.Wf.claims, State.Wf.owner, State.Wf.origin]

theorem takeoverDone_wf (s) (h : State.Wf q s) : State.Wf q (takeoverDone s) := by grind only [takeoverDone, modTwin_wf, bump_wf, put_wf, draw_wf, wf_mk, foldl_wf, State.Wf.claims, State.Wf.owner, State.Wf.origin]

theorem firstOutputs_wf (s) (h : State.Wf q s) : State.Wf q (firstOutputs s) := by grind only [firstOutputs, applyQuay_wf, autostart_wf, gensRearm_wf, takeoverDone_wf, wf_mk, foldl_wf, State.Wf.claims, State.Wf.owner, State.Wf.origin]

theorem applyOutputs_wf (a0 s) (h : State.Wf q s) : State.Wf q (applyOutputs a0 s) := by grind only [applyOutputs, firstOutputs_wf, laterOutputs_wf, modTwin_wf, wf_mk, foldl_wf, State.Wf.claims, State.Wf.owner, State.Wf.origin]

theorem boundarySecond_wf (a0 a1 a2 a3 s) (h : State.Wf q s) : State.Wf q (boundarySecond a0 a1 a2 a3 s) := by grind only [boundarySecond, latchOutputs_wf, discardStale_wf, settleTick_wf, craneEdge_wf, applyOutputs_wf, cfgResume_wf, wf_mk, foldl_wf, State.Wf.claims, State.Wf.owner, State.Wf.origin]

theorem tideApply_wf (a0 s) (h : State.Wf q s) : State.Wf q (tideApply a0 s) := by grind only [tideApply, quayApply_wf, canApply_wf, storeObj_wf, restartDivider_wf, wf_mk, foldl_wf, State.Wf.claims, State.Wf.owner, State.Wf.origin]

theorem tideWrites_wf (s) (h : State.Wf q s) : State.Wf q (tideWrites s) := by grind only [tideWrites, tideApply_wf, modTide_wf, wf_mk, foldl_wf, State.Wf.claims, State.Wf.owner, State.Wf.origin]

theorem imageTick_wf (s) (h : State.Wf q s) : State.Wf q (imageTick s) := by grind only [imageTick, wf_mk, foldl_wf, State.Wf.claims, State.Wf.owner, State.Wf.origin]

theorem tickAdvance_wf (s) (h : State.Wf q s) : State.Wf q (tickAdvance s) := by grind only [tickAdvance, periodStep_wf, planBoundary_wf, modTide_wf, wf_mk, foldl_wf, State.Wf.claims, State.Wf.owner, State.Wf.origin]

theorem sampleQuay_wf (a0 s) (h : State.Wf q s) : State.Wf q (sampleQuay a0 s) := by grind only [sampleQuay, wf_mk, foldl_wf, State.Wf.claims, State.Wf.owner, State.Wf.origin]

theorem sampleInputs_wf (s) (h : State.Wf q s) : State.Wf q (sampleInputs s) := by grind only [sampleInputs, sampleQuay_wf, wf_mk, foldl_wf, State.Wf.claims, State.Wf.owner, State.Wf.origin]

theorem boundaryFirst_wf (s) (h : State.Wf q s) : State.Wf q (boundaryFirst s) := by grind (splits := 30) (ematch := 30) (gen := 30) only [boundaryFirst, swapBoundary_wf, cfgApply_wf, tideWrites_wf, modeBoundary_wf, imageTick_wf, tickAdvance_wf, sampleInputs_wf, wf_mk, foldl_wf, State.Wf.claims, State.Wf.owner, State.Wf.origin]

theorem execTickBoundary_wf (a0 s t) (h : State.Wf q s) (e : execTickBoundary a0 s = .next t) : State.Wf q t := by grind only [execTickBoundary, boundaryThird_wf, boundarySecond_wf, boundaryFirst_wf, wf_mk, foldl_wf, State.Wf.claims, State.Wf.owner, State.Wf.origin]

theorem tickMissed_wf (a0 a1 s) (h : State.Wf q s) : State.Wf q (tickMissed a0 a1 s) := by grind only [tickMissed, modPort_wf, laneFail_wf, wf_mk, foldl_wf, State.Wf.claims, State.Wf.owner, State.Wf.origin]

theorem tickLane_wf (a0 a1 a2 s) (h : State.Wf q s) : State.Wf q (tickLane a0 a1 a2 s) := by
  unfold tickLane
  split
  · exact tickMissed_wf _ _ _ h
  · split
    · exact tickMissed_wf _ _ _ (badBlock_wf _ _ h)
    · extract_lets s1
      have h1 : s1.Wf q := modPort_wf _ _ _ h
      split
      · exact laneFail_wf _ _ _ _ h1
      · exact h1

theorem noteStamp_wf (a0 a1 a2 s) (h : State.Wf q s) : State.Wf q (noteStamp a0 a1 a2 s) := by grind only [noteStamp, modPort_wf, wf_mk, foldl_wf, State.Wf.claims, State.Wf.owner, State.Wf.origin]

theorem tickReceive_wf (a0 a1 s) (h : State.Wf q s) : State.Wf q (tickReceive a0 a1 s) := by grind only [tickReceive, tickLane_wf, adoptSet_wf, noteStamp_wf, headerTake_wf, wf_mk, foldl_wf, State.Wf.claims, State.Wf.owner, State.Wf.origin]

theorem execTickMarkerReceive_wf (a0 a1 s t) (h : State.Wf q s) (e : execTickMarkerReceive a0 a1 s = .next t) : State.Wf q t := by grind only [execTickMarkerReceive, tickReceive_wf, returned_wf, wf_mk, foldl_wf, State.Wf.claims, State.Wf.owner, State.Wf.origin]

end Sys2Proof.Machine
end

