-- ==== Sys2Proof/Laws/Dict.lean ====
section
/-! SUPPORT. Accepted and refused dictionary writes, and served reads. -/

namespace Sys2Proof.Laws

open Sys2Proof.Machine

theorem ofBytes_bytesOf (n : Nat) : ∀ v, v < 256 ^ n → ofBytes (bytesOf n v) = v := by
  induction n with
  | zero => intro v h; simp [bytesOf, ofBytes] at *; omega
  | succ n ih =>
    intro v h
    simp only [bytesOf, ofBytes]
    rw [ih (v / 256) (by rw [Nat.pow_succ] at h; exact Nat.div_lt_of_lt_mul (by rwa [Nat.mul_comm] at h))]
    simp only [byte, BitVec.toNat_ofNat]
    omega

theorem writeBytes_special {r : Req} {o : Obj} {bs : List Byte} {s t : State} (h : Taken r o bs s)
    (hw : writeSpecial r o (ofBytes bs) bs s = some (t, ecOk)) : writeBytes r o bs s = accepted r o t := by
  have e : writeObj r o bs s = (lockRestart o t, ecOk) := by
    simp [writeObj, h.gate, h.value, hw, ecOk]
  simp [writeBytes, dictWrite, serve, h.served, withObj, h.present, e, accepted, ecOk]

theorem writeVal_special {r : Req} {o : Obj} {v : Nat} {s t : State} (h : TakenVal r o v s) (hv : v < 256 ^ o.ty.size)
    (hw : writeSpecial r o v (bytesOf o.ty.size v) s = some (t, ecOk)) : writeVal r o v s = accepted r o t := by
  have := writeBytes_special (t := t) h (by rw [ofBytes_bytesOf _ _ hv]; exact hw)
  exact this

theorem writeVal_stored {r : Req} {o : Obj} {v : Nat} {s t : State} (h : TakenVal r o v s) (hv : v < 256 ^ o.ty.size)
    (hw : writeSpecial r o v (bytesOf o.ty.size v) s = none) (hs : writeStored o (bytesOf o.ty.size v) s = (t, ecOk)) : writeVal r o v s = accepted r o t := by
  have e : writeObj r o (bytesOf o.ty.size v) s = (lockRestart o t, ecOk) := by
    simp [writeObj, h.gate, h.value, ofBytes_bytesOf _ _ hv, hw, hs, ecOk]
  simp [writeVal, dictWrite, serve, h.served, withObj, h.present, e, accepted, ecOk]

theorem readVal_ok {r : Req} {o : Obj} {s : State} (h : Readable o s) : readVal r o s = answered r o (readObj o s).1 (readObj o s).2 := by
  simp [readVal, dictRead, serve, h.served, withObj, h.present, readServed, h.mode, h.right, answered, ecOk]

end Sys2Proof.Laws
end

