-- ==== Sys2Proof/Laws/ResetTaken.lean ====
section
/-! SUPPORT. What asserting a reset leaves, and what halting the cranes and giving up the pins keeps. -/

namespace Sys2Proof.Laws

open Sys2Proof.Machine

theorem key_put (s : State) (o : Obj) (v : Nat) (h : keysFrom 0 s.objs) : keysFrom 0 (s.put o v).objs := keysFrom_mapSet _ _ _ _ _ (Nat.zero_le _) h

theorem foldl_keep {α β γ : Type} (f : β → γ) (g : β → α → β) (h : ∀ b a, f (g b a) = f b) : ∀ (l : List α) (b : β), f (l.foldl g b) = f b
  | [], _ => rfl
  | a :: l, b => by rw [List.foldl_cons, foldl_keep f g h l, h]

theorem mapGet_filter {α : Type} (d : α) (p : Nat × α → Bool) (k : Nat) (hp : ∀ v, p (k, v) = false) : ∀ m : List (Nat × α), mapGet d (m.filter p) k = d
  | [] => rfl
  | (j, v) :: m => by
    have ih := mapGet_filter d p k hp m
    by_cases hj : k = j
    · subst hj; simp [List.filter_cons, hp, ih]
    · simp only [List.filter_cons]
      split
      · simp [mapGet, hj, ih]
      · exact ih

theorem setMode_keep (m : Mode) (s : State) : ∃ objs node, setMode m s = { s with objs := objs, node := node } ∧ node.mode = m ∧
   node.owns = s.node.owns ∧ node.claim = s.node.claim ∧ node.pair = s.node.pair := by
  unfold setMode
  split
  · exact ⟨s.objs, s.node, rfl, by assumption, rfl, rfl, rfl⟩
  · exact ⟨_, _, rfl, rfl, rfl, rfl, rfl⟩

/-- Everything but what changes when ownership ends. -/
structure Keeps (s t : State) : Prop where
  tap : t.tap = s.tap
  rst : t.rst = s.rst
  faults : t.faults = s.faults
  tide : t.tide = s.tide
  flash : t.flash = s.flash
  gw : t.gw = s.gw
  upd : t.upd = s.upd
  free : t.freeCount = s.freeCount
  pend : t.pending = s.pending

theorem Keeps.refl (s : State) : Keeps s s := ⟨rfl,rfl,rfl,rfl,rfl,rfl,rfl,rfl,rfl⟩

theorem Keeps.trans {s t u : State} (a : Keeps s t) (b : Keeps t u) : Keeps s u := by
  constructor <;> simp_all [a.1, b.1, a.2, b.2, a.3, b.3, a.4,b.4,a.5,b.5,a.6,b.6,a.7,b.7,a.8,b.8,a.9,b.9]

theorem genDrive_shape (n : Nat) (s : State) : ∃ p t, genDrive n s = { s with pins := p, time := t } := by
  unfold genDrive
  simp only [setLevel, setDrive, setPin, modTime]
  repeat' split
  all_goals exact ⟨_, _, rfl⟩

theorem genStop_shape (n : Nat) (s : State) : ∃ o p t, genStop n s = { s with objs := o, pins := p, time := t } := by
  unfold genStop
  extract_lets g
  split
  · obtain ⟨p, t, h⟩ := genDrive_shape n (setGen n { g with st := 4, active := false, stopping := false } s)
    rw [h]; exact ⟨_, _, _, rfl⟩
  · exact ⟨_, _, _, rfl⟩

theorem genStop_keep (n : Nat) (s : State) : Keeps s (genStop n s) := by
  obtain ⟨o, p, t, h⟩ := genStop_shape n s
  rw [h]; constructor <;> rfl

theorem keeps_fold {α : Type} (g : State → α → State) (h : ∀ b a, Keeps b (g b a)) : ∀ (l : List α) (b : State), Keeps b (l.foldl g b)
  | [], b => .refl b
  | a :: l, b => (h b a).trans (keeps_fold g h l _)

theorem haltCrane_keep (g : Nat) (s : State) : Keeps s (haltCrane g s) := by
  unfold haltCrane
  extract_lets c
  split <;> constructor <;> rfl

theorem haltCrane_pn (g : Nat) (s : State) : (haltCrane g s).pins = s.pins ∧ (haltCrane g s).node = s.node := by
  unfold haltCrane
  extract_lets c
  split <;> constructor <;> rfl

theorem canStopAll_keep (s : State) : Keeps s (canStopAll s) ∧ (canStopAll s).node = s.node := by
  unfold canStopAll
  generalize List.range 8 = l
  exact ⟨keeps_fold _ (fun b a => by constructor <;> rfl) _ _, foldl_keep (State.node) (fun s k => modCtl k (fun c => { c with st := .off, tx := none, applyDue := false }) s) (fun b a => rfl) _ _⟩

theorem haltAllCranes_keep (s : State) : Keeps s (haltAllCranes s) ∧ (haltAllCranes s).node = s.node := by
  unfold haltAllCranes
  generalize List.range 64 = l
  exact ⟨keeps_fold _ (fun b a => haltCrane_keep a b) _ _, foldl_keep (State.node) _ (fun b a => (haltCrane_pn a b).2) _ _⟩

theorem genStop_node (n : Nat) (s : State) : (genStop n s).node = s.node := by
  obtain ⟨o, p, t, h⟩ := genStop_shape n s
  rw [h]

theorem pulsesStop_keep (s : State) : Keeps s (pulsesStop s) ∧ (pulsesStop s).node = s.node := by
  unfold pulsesStop
  generalize List.range 16 = l
  exact ⟨keeps_fold _ (fun b a => genStop_keep a b) _ _, foldl_keep (State.node) _ (fun b a => genStop_node a b) _ _⟩

theorem Keeps.hold (s : State) : Keeps s (keepersHold s) ∧ (keepersHold s).node = s.node := by constructor; constructor <;> rfl; rfl

theorem lost_keep (s : State) : ∃ u : State, loseOwnership s = (if s.node.owns then { u with node := { u.node with owns := false, resume := false }, pins := { u.pins with clocks := 0 } } else s) ∧
     Keeps s u ∧ u.node = s.node := by
  refine ⟨canStopAll (keepersHold (pulsesStop (haltAllCranes s))), rfl, ?_⟩
  have a := haltAllCranes_keep s
  generalize haltAllCranes s = x1 at a ⊢
  have b := pulsesStop_keep x1
  generalize pulsesStop x1 = x2 at b ⊢
  have c := Keeps.hold x2
  generalize keepersHold x2 = x3 at c ⊢
  have d := canStopAll_keep x3
  generalize canStopAll x3 = x4 at d ⊢
  exact ⟨((a.1.trans b.1).trans c.1).trans d.1, d.2.trans (c.2.trans (b.2.trans a.2))⟩

theorem loseOwnership_keep (s : State) : Keeps s (loseOwnership s) ∧ (loseOwnership s).node = { s.node with owns := false, resume := if s.node.owns then false else s.node.resume } := by
  obtain ⟨u, hu, hk, hn⟩ := lost_keep s
  rw [hu]
  split
  · next h => exact ⟨⟨hk.1,hk.2,hk.3,hk.4,hk.5,hk.6,hk.7,hk.8,hk.9⟩, by simp [hn]⟩
  · next h => exact ⟨.refl s, by simp at h; cases hn : s.node; simp_all⟩

theorem recordReset_hist (src : Nat) (cold : Bool) (s : State) :
    (recordReset src cold s).rst.history = (histEntry s.tide.tick cold 0xF src :: s.rst.history).take 8 := by
  have ex : ∀ t : State, (State.bump t (srcCounter src)).rst = t.rst := fun _ => rfl
  simp only [recordReset, pushHistory]
  cases hl : s.rst.loading <;> cases hr : s.resetting <;> by_cases hi : s.rst.source = 0 <;> simp [hi]

theorem recordReset_cold (src : Nat) (cold : Bool) (s : State) :
    (recordReset src cold s).rst.cold = (if s.resetting && s.rst.source != 0 then s.rst.cold || cold else cold) := by
  simp only [recordReset, pushHistory]
  cases hl : s.rst.loading <;> cases hr : s.resetting <;> by_cases hi : s.rst.source = 0 <;> simp [hi]

structure KeepsR (s t : State) : Prop where
  tap : t.tap = s.tap
  node : t.node = s.node
  pins : t.pins = s.pins
  faults : t.faults = s.faults
  tide : t.tide = s.tide
  flash : t.flash = s.flash
  gw : t.gw = s.gw
  upd : t.upd = s.upd
  free : t.freeCount = s.freeCount
  pend : t.pending = s.pending

theorem recordReset_keep (src : Nat) (cold : Bool) (s : State) : KeepsR s (recordReset src cold s) := by
  unfold recordReset
  extract_lets first t1 t2 t3
  have h1 : KeepsR s t1 := by unfold t1; split <;> constructor <;> rfl
  have h3 : KeepsR t1 t3 := by unfold t3 t2; constructor <;> rfl
  clear_value t3 t1
  obtain ⟨a1,a2,a3,a4,a5,a6,a7,a8,a9,a10⟩ := h1
  obtain ⟨b1,b2,b3,b4,b5,b6,b7,b8,b9,b10⟩ := h3
  split <;> exact ⟨b1.trans a1,b2.trans a2,b3.trans a3,b4.trans a4,b5.trans a5,b6.trans a6,b7.trans a7,b8.trans a8,b9.trans a9,b10.trans a10⟩

theorem get_filter (s : State) (o : Obj) (p : Nat × Nat → Bool) (h : ∀ v, p (o.key, v) = false) (m : List (Nat × Nat)) :
   mapGet o.dflt (m.filter p) o.key = o.dflt := mapGet_filter _ _ _ h _

theorem get_put_far (s : State) (o p : Obj) (v : Nat) (h : keysFrom 0 s.objs) (hk : p.key ≠ o.key) : (s.put o v).get p = s.get p ∧ keysFrom 0 (s.put o v).objs :=
  ⟨get_put_ne s o p v h hk, keysFrom_mapSet _ _ _ _ _ (Nat.zero_le _) h⟩

theorem srcCounter_kept (src : Nat) : keptKey (srcCounter src).key = true := by
  unfold srcCounter
  split <;> decide

theorem recordReset_get (src : Nat) (cold : Bool) (s : State) (hk : keysFrom 0 s.objs) (o : Obj) (ho : keptKey o.key = false) :
    (recordReset src cold s).get o = s.get o := by
  have ne : ∀ p : Obj, keptKey p.key = true → o.key ≠ p.key := by intro p hp e; rw [e, hp] at ho; cases ho
  unfold recordReset
  extract_lets first t1 t2 t3
  have h1 : t1.get o = s.get o ∧ keysFrom 0 t1.objs := by
    unfold t1; split
    · exact get_put_far _ _ _ _ hk (ne _ (by decide))
    · exact ⟨rfl, hk⟩
  have h3 : t3.get o = t1.get o ∧ keysFrom 0 t3.objs := by
    unfold t3
    exact get_put_far t2 _ _ _ (show keysFrom 0 t2.objs from h1.2) (ne _ (srcCounter_kept src))
  have h4 := get_put_far t3 Obj.resetCause o (t3.tide.tick % 2 ^ 16 * 2 ^ 16 + b2n cold * 2 ^ 15 + src) h3.2 (ne _ (by decide))
  split
  · exact h4.1.trans (h3.1.trans h1.1)
  · exact h3.1.trans h1.1

theorem stopPickup_keep (s : State) : Keeps s (stopPickup false s) := by
  unfold stopPickup
  split
  · exact .refl s
  · exact ⟨rfl, rfl, rfl, rfl, rfl, rfl, rfl, rfl, rfl⟩

theorem recordReset_twin (src : Nat) (cold : Bool) (s : State) : (recordReset src cold s).twin = s.twin := by
  simp only [recordReset, pushHistory]
  cases hl : s.rst.loading <;> cases hr : s.resetting <;> by_cases hi : s.rst.source = 0 <;> simp [hi]

theorem assertReset_taken (q : List Instr) (src : Nat) (cold : Bool) (s : State) (w : s.Wf q) :
    ResetTaken src cold (if s.resetting && s.rst.source != 0 then s.rst.cold || cold else cold)
      (s.keepsClaim && !(if s.resetting && s.rst.source != 0 then s.rst.cold || cold else cold)) s (assertReset src cold s) := by
  have hh := recordReset_hist src cold s
  have hr := recordReset_cold src cold s
  have hk := recordReset_keep src cold s
  have hw : (recordReset src cold s).Wf q := recordReset_wf _ _ _ w
  have hg := recordReset_get src cold s w.objs
  have ht := recordReset_twin src cold s
  unfold assertReset
  extract_lets r keep l pn p m
  generalize hc : (if s.resetting && s.rst.source != 0 then s.rst.cold || cold else cold) = c at *
  have hrc : r.rst.cold = c := hr
  have hkeep : keep = (s.keepsClaim && !c) := by
    unfold keep
    rw [hrc]
    unfold State.keepsClaim State.working State.twinReady
    rw [ht, hk.node, hg Obj.savedGen (by decide)]
  have lk : Keeps r l := (loseOwnership_keep r).1.trans (stopPickup_keep _)
  have ln : l.node.owns = false := by
    show (stopPickup false (loseOwnership r)).node.owns = false
    rw [stopPickup_node]
    exact loseOwnership_owns r
  have hlw : l.Wf q := stopPickup_wf _ _ (loseOwnership_wf _ hw)
  clear_value l
  have hp : p.rst = r.rst ∧ p.flash = s.flash ∧ p.gw = s.gw ∧ p.tap = s.tap ∧ p.freeCount = s.freeCount ∧ p.pending = s.pending ∧
      p.tide = s.tide ∧ p.faults = s.faults ∧ p.node.owns = false ∧ p.upd = s.upd ∧ keysFrom 0 p.objs := by
    unfold p
    have : l.rst = r.rst ∧ l.flash = s.flash ∧ l.gw = s.gw ∧ l.tap = s.tap ∧ l.freeCount = s.freeCount ∧ l.pending = s.pending ∧
      l.tide = s.tide ∧ l.faults = s.faults ∧ l.node.owns = false ∧ l.upd = s.upd ∧ keysFrom 0 l.objs :=
      ⟨lk.rst, lk.flash.trans hk.flash, lk.gw.trans hk.gw, lk.tap.trans hk.tap, lk.free.trans hk.free, lk.pend.trans hk.pend,
        lk.tide.trans hk.tide, lk.faults.trans hk.faults, ln, lk.upd.trans hk.upd, hlw.objs⟩
    split
    · exact this
    · exact this
  have hpads : c → p.pins.drive = 0 ∧ p.pins.keep = 0 ∧ p.pins.inBuf = 0 := by
    intro hc'
    unfold p
    have : l.rst.cold = true := by rw [lk.rst, hrc]; exact hc'
    rw [if_pos this]; exact ⟨rfl, rfl, rfl⟩
  have hpc : p.rst.cold = c := by rw [hp.1]; exact hr
  clear_value p keep
  obtain ⟨p1, p2, p3, p4, p5, p6, p7, p8, p9, p10, p11⟩ := hp
  constructor
  · rfl
  · exact hpc
  · rfl
  · show p.rst.history = _
    rw [p1]
    exact hh
  · show (if p.rst.cold then Mode.approach else .berthing) = _
    rw [hpc]
  · exact p9
  · exact hkeep
  · rfl
  · exact hpads
  · exact ⟨rfl, rfl, rfl, rfl, rfl, rfl, rfl, rfl, rfl, rfl, rfl, rfl, rfl, rfl, rfl, rfl, rfl⟩
  · show ({ faultReset with cause := p.faults.cause } : FaultState) = _
    rw [p8]
  · show ({ tideReset with clock := p.tide.clock } : TideState) = _
    rw [p7]
  · exact ⟨p2, p3, p4, p5, p6⟩
  · exact fun o ho => get_filter p o _ (fun v => by simpa using ho) _

end Sys2Proof.Laws
end

