-- ==== Sys2Proof/Laws/CraneStep.lean ====
section
/-! SUPPORT. What the parts of a crane instruction change. -/

namespace Sys2Proof.Laws

open Sys2Proof.Machine

/-- What only sets levels or directions of field pins leaves. -/
structure PinsOnly (s t : State) : Prop where
  cranes : t.cranes = s.cranes
  frame : { t with pins := s.pins } = s

theorem PinsOnly.refl (s : State) : PinsOnly s s := ⟨rfl, rfl⟩

theorem PinsOnly.eq {s t : State} (h : PinsOnly s t) : t = { s with pins := t.pins } := by
  have := h.2
  rw [← this]

theorem PinsOnly.trans {s t u : State} (a : PinsOnly s t) (b : PinsOnly t u) : PinsOnly s u := by
  have ha := a.eq
  have hb := b.eq
  rw [ha] at hb
  rw [hb]
  exact ⟨rfl, rfl⟩

theorem pinsOnly_fold {α : Type} (f : State → α → State) (h : ∀ b a, PinsOnly b (f b a)) : ∀ (l : List α) (b : State), PinsOnly b (l.foldl f b)
  | [], b => .refl b
  | a :: l, b => (h b a).trans (pinsOnly_fold f h l _)

theorem setSides_pins (g bits n : Nat) (s : State) : PinsOnly s (setSides g bits n s) := by
  unfold setSides
  refine pinsOnly_fold _ (fun b a => ?_) _ _
  split
  · exact .refl _
  · exact ⟨rfl, rfl⟩

theorem setOuts_pins (g bits : Nat) (s : State) : PinsOnly s (setOuts g bits s) := by
  unfold setOuts
  refine pinsOnly_fold _ (fun b a => ?_) _ _
  exact ⟨rfl, rfl⟩

/-- The crane a command is about, the others and the rest: what an operation within one instruction leaves. -/
structure Within (g : Nat) (c : Crane) (s t : State) : Prop extends Stepped g c s t where
  keys : keysFrom 0 t.cranes

theorem modCrane_within {g : Nat} {c : Crane} {s t : State} (h : Within g c s t) (f : Crane → Crane) : Within g (f c) s (modCrane g f t) := by
  refine ⟨⟨?_, ?_, ?_⟩, keysFrom_mapSet _ _ _ _ _ (Nat.zero_le _) h.keys⟩
  · show (t.setCrane g (f (t.crane g))).crane g = _
    rw [crane_setCrane_self _ _ _ h.keys, h.crane]
  · intro k hk
    exact (crane_setCrane_ne _ _ _ _ h.keys hk).trans (h.others k hk)
  · exact h.frame

theorem Within.pins {g : Nat} {c : Crane} {s t u : State} (h : Within g c s t) (p : PinsOnly t u) : Within g c s u := by
  have hu := p.eq
  refine ⟨⟨?_, ?_, ?_⟩, ?_⟩
  · rw [State.crane, p.cranes]; exact h.crane
  · intro k hk; rw [State.crane, p.cranes]; exact h.others k hk
  · have : { u with cranes := s.cranes, pins := s.pins } = { t with cranes := s.cranes, pins := s.pins } := by rw [hu]
    rw [this]; exact h.frame
  · rw [p.cranes]; exact h.keys

theorem Within.start {g : Nat} {s : State} (hk : keysFrom 0 s.cranes) : Within g (s.crane g) s s := ⟨⟨rfl, fun _ _ => rfl, rfl⟩, hk⟩

theorem Within.get {g : Nat} {c : Crane} {s t : State} (h : Within g c s t) (o : Obj) : t.get o = s.get o :=
  get_congr (congrArg State.objs h.frame) o

/-- The clock pin that an instruction leaves (R263). -/
def clkAfter (s : State) (g w : Nat) : Option Nat :=
  if (opc w = 1 ∨ opc w = 2) ∧ fld (operand w) 11 2 ≠ 0 then some (s.clkSide g) else (s.crane g).clkPin

theorem applySides_within {g w : Nat} {s : State} (hk : keysFrom 0 s.cranes) :
    Within g { s.crane g with clkPin := clkAfter s g w } s (applySides g w s) := by
  have h1 : Within g { s.crane g with clkPin := clkAfter s g w } s (claimClock g w s) := by
    unfold claimClock clkAfter
    extract_lets
    split
    · exact modCrane_within (Within.start hk) (fun c => { c with clkPin := some (s.clkSide g) })
    · exact Within.start hk
  unfold applySides
  extract_lets u
  split
  · exact h1
  · exact h1.pins (setSides_pins _ _ _ _)

theorem finishAt_within {g w : Nat} {target : Option Nat} {c : Crane} {s t : State} (h : Within g c s t) (hpc : c.pc = (s.crane g).pc) :
    Within g { c with st := .running, pc := s.nextPc g target, phase := if s.delayOf g w = 0 then .ready else .delay (s.delayOf g w) } s (finishAt g w target t) := by
  have hd : t.delayOf g w = s.delayOf g w := by unfold State.delayOf State.sideBits; rw [h.get]
  have hp : t.nextPc g target = s.nextPc g target := by
    unfold State.nextPc
    rw [h.get, h.get, h.crane, hpc]
  unfold finishAt
  rw [hd, hp]
  exact modCrane_within h (fun c => { c with st := .running, pc := s.nextPc g target, phase := if s.delayOf g w = 0 then .ready else .delay (s.delayOf g w) })

theorem withInstr_fetch {g w : Nat} {s : State} (h : Fetches g w s) (named : Nat → Bool) (hn : named w = true) (f : Nat → State → State) :
    withInstr g named f s = f w (applySides g w s) := by
  obtain ⟨h1, h2, h3, h4, h5⟩ := h
  unfold withInstr
  rw [h1]
  simp only [Bool.not_true]
  rw [if_neg (by simp), if_neg (by omega)]
  rw [h4, h3, h5]
  simp [hn]

theorem clkAfter_other {s : State} {g w : Nat} (h : opc w ≠ 1) (h2 : opc w ≠ 2) : clkAfter s g w = (s.crane g).clkPin := by
  unfold clkAfter; rw [if_neg]; rintro ⟨a | a, _⟩ <;> contradiction

theorem applySides_other {g w : Nat} {s : State} (hk : keysFrom 0 s.cranes) (h : opc w ≠ 1) (h2 : opc w ≠ 2) :
    Within g (s.crane g) s (applySides g w s) := by
  have := applySides_within (g := g) (w := w) hk
  rw [clkAfter_other h h2] at this
  exact this

end Sys2Proof.Laws
end

