-- ==== Sys2Proof/Laws/Record.lean ====
section
/-! SUPPORT. Raising an event: the objects it leaves as they were. -/

namespace Sys2Proof.Laws

open Sys2Proof.Machine

/-- Keys that raising a fault of a source may change. -/
def raiseKey (src k : Nat) : Prop := k = (Obj.srcCnt src).key ∨ k = Obj.faultEventCnt.key ∨ k = Obj.faultLostCnt.key

theorem storeRecord_get (p a b c : Nat) (i : Bool) (u : State) (o : Obj) : (storeRecord p a b c i u).get o = u.get o := by
  refine get_congr ?_ o
  unfold storeRecord faultIrq
  extract_lets q r
  split <;> rfl

theorem newRecord_get (a b c : Nat) (i : Bool) (s : State) (hk : keysFrom 0 s.objs) (o : Obj) (h : o.key ≠ Obj.faultLostCnt.key) :
    (newRecord a b c i s).get o = s.get o := by
  have hfl : ∀ u : State, keysFrom 0 u.objs → (faultLost u).get o = u.get o := fun u hu => get_put_ne _ _ _ _ hu h
  unfold newRecord
  generalize freePlace s.faults.recs 0 60 = x
  generalize freePlace s.faults.recs 60 4 = y
  cases x with
  | some p => exact storeRecord_get ..
  | none =>
    cases srcClass a with
    | corrected => exact hfl _ hk
    | contained =>
      simp only []
      split
      · exact (storeRecord_get ..).trans (hfl _ hk)
      · exact hfl _ hk
    | fatal =>
      cases y with
      | some p => exact storeRecord_get ..
      | none => exact hfl _ hk

theorem raise_get (src a b : Nat) (s : State) (hf : srcClass src ≠ .fatal) (hk : keysFrom 0 s.objs) (o : Obj) (h : ¬ raiseKey src o.key) :
    (raise src a b s).get o = s.get o := by
  simp only [raiseKey, not_or] at h
  unfold raise raiseAs
  split
  · simp only [if_neg hf]
    have h1 : keysFrom 0 (s.bump (Obj.srcCnt src)).objs := key_put _ _ _ hk
    have h2 : keysFrom 0 ((s.bump (Obj.srcCnt src)).bump Obj.faultEventCnt).objs := key_put _ _ _ h1
    have e : ((s.bump (Obj.srcCnt src)).bump Obj.faultEventCnt).get o = s.get o :=
      (get_put_ne _ _ _ _ h1 h.2.1).trans (get_put_ne _ _ _ _ hk h.1)
    unfold eventNoted recordEvent
    split
    · rw [← e]
      unfold faultIrq
      split <;> rfl
    · exact (newRecord_get _ _ _ _ _ h2 o h.2.2).trans e
  · rfl

theorem sideEffectLost_rst (n : Nat) (w : Win) (a : Nat) (s : State) : (sideEffectLost n w a s).rst = s.rst := by
  unfold sideEffectLost
  simp

theorem dropStream_rst (st : Stream) (s : State) : (dropStream st s).rst = s.rst := by
  unfold dropStream
  dsimp only
  split
  · rfl
  · split
    · rfl
    · split
      · exact foldl_keep (State.rst) _ (fun b a => sideEffectLost_rst _ _ _ b) _ _
      · rfl

theorem dropStreams_rst (p : Stream → Bool) (s : State) : (dropStreams p s).rst = s.rst :=
  foldl_keep (State.rst) _ (fun b a => dropStream_rst a b) _ _

/-- Streams that end leave the node's own state as it is. -/
theorem dropStreams_node (p : Stream → Bool) (s : State) : (dropStreams p s).node = s.node := by
  refine foldl_keep State.node _ (fun b a => ?_) _ _
  unfold dropStream
  dsimp only
  split
  · rfl
  · split
    · rfl
    · split
      · exact (foldl_keep State.node _ (fun b a => by unfold sideEffectLost; simp) _ _).trans rfl
      · rfl

theorem setMode_rst (m : Mode) (s : State) : (setMode m s).rst = s.rst := by
  unfold setMode
  split <;> rfl

theorem releaseOwnership_rst (s : State) : (releaseOwnership s).rst = s.rst := by
  show (stopPickup true (loseOwnership s)).rst = s.rst
  refine Eq.trans ?_ (loseOwnership_keep s).1.rst
  unfold stopPickup
  split <;> rfl

theorem raise_rstAll (src a b : Nat) (s : State) : ∃ w c, (raise src a b s).rst = { s.rst with wdt := w, crit := c } := by
  by_cases hf : srcClass src = .fatal
  · unfold raise raiseAs
    split
    · simp only [if_pos hf]
      have hur : (eventNoted false src a b s).rst = s.rst := by simp
      generalize eventNoted false src a b s = u at hur ⊢
      unfold quarantine
      split
      · exact ⟨_, _, by rw [hur]⟩
      · have hr : ∀ f, (setMode .quarantine (releaseOwnership { u with faults := f })).rst = s.rst :=
          fun f => (setMode_rst _ _).trans ((releaseOwnership_rst _).trans hur)
        simp only []
        split
        · exact ⟨false, _, (dropStreams_rst _ _).trans (by rw [← hr]; rfl)⟩
        · exact ⟨false, _, (dropStreams_rst _ _).trans (by rw [← hr]; rfl)⟩
    · exact ⟨_, _, rfl⟩
  · exact ⟨_, _, raise_rst _ _ _ _ hf⟩

theorem raises_rst (l : List LateEvent) : ∀ s : State, ∃ w c, (l.foldl (fun s e => raise e.src e.inst e.detail s) s).rst = { s.rst with wdt := w, crit := c } := by
  induction l with
  | nil => intro s; exact ⟨_, _, rfl⟩
  | cons e l ih =>
    intro s
    obtain ⟨w, c, h⟩ := raise_rstAll e.src e.inst e.detail s
    obtain ⟨w', c', h'⟩ := ih (raise e.src e.inst e.detail s)
    exact ⟨w', c', by rw [List.foldl_cons, h', h]⟩

theorem raiseOrDelay_rst (a b c : Nat) (s : State) (h : srcClass a ≠ .fatal) : ∃ l, (raiseOrDelay a b c s).rst = { s.rst with late := l } := by
  unfold raiseOrDelay
  split
  · exact ⟨_, raise_rst _ _ _ _ h⟩
  · exact ⟨_, rfl⟩

theorem raiseOrDelay_get (a b c : Nat) (s : State) (hf : srcClass a ≠ .fatal) (hk : keysFrom 0 s.objs) (o : Obj) (h : ¬ raiseKey a o.key) :
    (raiseOrDelay a b c s).get o = s.get o := by
  unfold raiseOrDelay
  split
  · exact raise_get _ _ _ _ hf hk o h
  · rfl

end Sys2Proof.Laws
end

