-- ==== Sys2Proof/Laws/Raise.lean ====
section
/-! SUPPORT. The record store: what an event adds to it. -/

namespace Sys2Proof.Laws

open Sys2Proof.Machine

theorem injectValue_lt (m : Nat) (hm : m < 4) (src inst : BitVec 8) (bit : BitVec 7) (arg : BitVec 32) : injectValue m src.toNat inst.toNat bit.toNat arg.toNat < 256 ^ Obj.faultInject.ty.size := by
  have := src.isLt; have := inst.isLt; have := bit.isLt; have := arg.isLt
  simp [injectValue, Obj.faultInject, OType.size]; omega

theorem inject_special (r : Req) (v : Nat) (bs : List Byte) (s : State) : writeSpecial r Obj.faultInject v bs s = some (injectWrite v s) := rfl

theorem inject_fields (m : Nat) (hm : m < 4) (src inst : BitVec 8) (bit : BitVec 7) (arg : BitVec 32) :
    let v := injectValue m src.toNat inst.toNat bit.toNat arg.toNat
    fiMethod v = m ∧ fiSrc v = src.toNat ∧ fiInst v = inst.toNat ∧ fiArg v = arg.toNat ∧ fiBit v = bit.toNat := by
  have := src.isLt; have := inst.isLt; have := bit.isLt; have := arg.isLt
  simp only [injectValue, fiMethod, fiSrc, fiInst, fiArg, fiBit, fld]
  omega

theorem newRecord_some (a b c : Nat) (i : Bool) (s : State) (p : Nat) (h : freePlace s.faults.recs 0 60 = some p) : newRecord a b c i s = storeRecord p a b c i s := by
  unfold newRecord
  generalize freePlace s.faults.recs 0 60 = x at h ⊢
  subst h; rfl

theorem newRecord_full (a b c : Nat) (i : Bool) (s : State) (h : freePlace s.faults.recs 0 60 = none) (hc : srcClass a = .corrected) : newRecord a b c i s = faultLost s := by
  unfold newRecord
  generalize freePlace s.faults.recs 0 60 = x at h ⊢
  subst h; simp only [hc]

theorem faultIrq_get (c : FClass) (x : State) (o : Obj) : (faultIrq c x).get o = x.get o := get_congr (by unfold faultIrq; split <;> rfl) o

theorem faultIrq_store (c : FClass) (x : State) : (faultIrq c x).faults.recs = x.faults.recs ∧ (faultIrq c x).faults.seq = x.faults.seq := by
  unfold faultIrq; split <;> exact ⟨rfl, rfl⟩

theorem bump_keys (s : State) (o : Obj) (h : keysFrom 0 s.objs) : keysFrom 0 (s.bump o).objs := key_put _ _ _ h

theorem bump_self (s : State) (o : Obj) (h : keysFrom 0 s.objs) : (s.bump o).get o = (s.get o + 1) % 2 ^ (8 * o.ty.size) := get_put_self _ _ _ h

theorem bump_ne (s : State) (o p : Obj) (h : keysFrom 0 s.objs) (n : p.key ≠ o.key) : (s.bump o).get p = s.get p := get_put_ne _ _ _ _ h n

theorem ne_of_big (a b c : Nat) (h : b < a) : a + c ≠ b := by omega

theorem srcCnt_key (src : Nat) : (Obj.srcCnt src).key ≠ Obj.faultEventCnt.key ∧ (Obj.srcCnt src).key ≠ Obj.faultLostCnt.key :=
  ⟨ne_of_big (0x7520 * 256) _ src (by decide), ne_of_big (0x7520 * 256) _ src (by decide)⟩

theorem srcCnt_size (src : Nat) : (Obj.srcCnt src).ty.size = 4 := rfl

theorem raise_recordEvent (src inst detail : Nat) (s : State) (hc : srcClass src ≠ .fatal) (h4 : s.released 4) :
    raise src inst detail s = recordEvent src inst detail false ((s.bump (Obj.srcCnt src)).bump Obj.faultEventCnt) := by
  unfold raise raiseAs
  rw [if_pos h4]
  simp only [hc, if_false, eventNoted]

theorem recordEvent_get (src inst detail : Nat) (u : State) (ku : keysFrom 0 u.objs) (o : Obj) (n : o.key ≠ Obj.faultLostCnt.key) :
    (recordEvent src inst detail false u).get o = u.get o := by
  unfold recordEvent
  split
  · rw [faultIrq_get]; exact get_congr rfl o
  · rw [newRecord_get _ _ _ _ _ ku _ n]

theorem recordEvent_open (src inst detail : Nat) (u : State) (h : u.openRec src inst) :
    (recordEvent src inst detail false u).faults.seq = u.faults.seq ∧ (recordEvent src inst detail false u).faults.recs = u.faults.recs.map (fun r =>
        if r.src == src && r.inst == inst % 256 then { r with reps := capAt 255 (r.reps + 1), updated := true } else r) := by
  unfold State.openRec at h
  unfold recordEvent
  rw [if_pos h]
  simp only [faultIrq_store]
  exact ⟨trivial, trivial⟩

theorem recordEvent_new (src inst detail p : Nat) (u : State) (h : u.openRec src inst = false) (hp : freePlace u.faults.recs 0 60 = some p) :
    (recordEvent src inst detail false u).faults.recs = u.faults.recs ++ [⟨p, nextSeq u.faults.seq, u.tide.tick, src, srcClass src, false, src == 0x38,
          true, 0, inst % 256, detail % 2 ^ 32⟩] ∧ (recordEvent src inst detail false u).faults.seq = nextSeq u.faults.seq := by
  unfold State.openRec at h
  unfold recordEvent
  rw [if_neg (by simp [h]), newRecord_some _ _ _ _ _ p hp]
  simp only [storeRecord, faultIrq_store]
  exact ⟨trivial, trivial⟩

theorem recordEvent_full (src inst detail : Nat) (u : State) (h : u.openRec src inst = false) (hp : freePlace u.faults.recs 0 60 = none) (hc : srcClass src = .corrected) :
    recordEvent src inst detail false u = faultLost u := by
  unfold State.openRec at h
  unfold recordEvent
  rw [if_neg (by simp [h]), newRecord_full _ _ _ _ _ hp hc]

theorem openRec_congr (s u : State) (h : u.faults = s.faults) (a b : Nat) : u.openRec a b = s.openRec a b := by
  unfold State.openRec; rw [h]

theorem raise_event (q : List Instr) (src inst detail : Nat) (s : State) (w : s.Wf q) (hc : srcClass src ≠ .fatal) (h4 : s.released 4) :
    let t := raise src inst detail s
    t.get (Obj.srcCnt src) = (s.get (Obj.srcCnt src) + 1) % 2 ^ 32 ∧
      t.get Obj.faultEventCnt = (s.get Obj.faultEventCnt + 1) % 2 ^ 32 ∧
      (∀ p, s.openRec src inst = false → freePlace s.faults.recs 0 60 = some p →
        t.faults.recs = s.faults.recs ++ [⟨p, nextSeq s.faults.seq, s.tide.tick, src, srcClass src, false, src == 0x38,
          true, 0, inst % 256, detail % 2 ^ 32⟩] ∧ t.faults.seq = nextSeq s.faults.seq) ∧
      (s.openRec src inst → t.faults.seq = s.faults.seq ∧ t.faults.recs = s.faults.recs.map (fun r =>
        if r.src == src && r.inst == inst % 256 then { r with reps := capAt 255 (r.reps + 1), updated := true } else r)) ∧
      (s.openRec src inst = false → freePlace s.faults.recs 0 60 = none → srcClass src = .corrected →
        t.faults.recs = s.faults.recs ∧ t.faults.overflow ∧ t.get Obj.faultLostCnt = (s.get Obj.faultLostCnt + 1) % 2 ^ 32) := by
  intro t
  have e : t = recordEvent src inst detail false ((s.bump (Obj.srcCnt src)).bump Obj.faultEventCnt) := raise_recordEvent src inst detail s hc h4
  clear_value t
  have k1 := bump_keys s (Obj.srcCnt src) w.objs
  have ku := bump_keys _ Obj.faultEventCnt k1
  have n := srcCnt_key src
  have g1 := (bump_ne _ Obj.faultEventCnt _ k1 n.1).trans (bump_self s (Obj.srcCnt src) w.objs)
  have g2 := bump_self _ Obj.faultEventCnt k1
  rw [bump_ne _ _ _ w.objs n.1.symm] at g2
  have g3 := (bump_ne _ Obj.faultEventCnt Obj.faultLostCnt k1 (by decide)).trans (bump_ne s (Obj.srcCnt src) _ w.objs n.2.symm)
  have fu : ((s.bump (Obj.srcCnt src)).bump Obj.faultEventCnt).faults = s.faults := rfl
  have tu : ((s.bump (Obj.srcCnt src)).bump Obj.faultEventCnt).tide = s.tide := rfl
  generalize (s.bump (Obj.srcCnt src)).bump Obj.faultEventCnt = u at *
  subst e
  have ho := openRec_congr s u fu src inst
  refine ⟨?_, ?_, ?_, ?_, ?_⟩
  · rw [recordEvent_get _ _ _ _ ku _ n.2, g1, srcCnt_size]
  · rw [recordEvent_get _ _ _ _ ku _ (by decide), g2]; rfl
  · intro p h1 h2
    rw [← ho] at h1; rw [← fu] at h2
    have := recordEvent_new src inst detail p u h1 h2
    rw [fu, tu] at this; exact this
  · intro h1
    rw [← ho] at h1
    have := recordEvent_open src inst detail u h1
    rw [fu] at this; exact this
  · intro h1 h2 h3
    rw [← ho] at h1; rw [← fu] at h2
    rw [recordEvent_full src inst detail u h1 h2 h3]
    refine ⟨by rw [← fu]; rfl, rfl, ?_⟩
    rw [← g3]
    exact bump_self _ Obj.faultLostCnt ku

end Sys2Proof.Laws
end

