-- ==== Sys2Proof/Laws/CraneWait.lean ====
section
/-! SUPPORT. Cranes that wait, shift and move cargo. -/

namespace Sys2Proof.Laws

open Sys2Proof.Machine

theorem stall_within {g : Nat} {c : Crane} {s t : State} (h : Within g c s t) (p : Phase) : Within g { c with st := .stalled, phase := p } s (stall g p t) :=
  modCrane_within h (fun c => { c with st := .stalled, phase := p })

theorem inPhase_at {g : Nat} {p : Phase} {f : Nat → State → State} {s : State} (h1 : (s.crane g).active) (h2 : (s.crane g).phase = p) : inPhase g p f s = f (s.insWord g) s :=
  if_pos ⟨h1, h2⟩

theorem syncFold (l : List Nat) : ∀ (b : State), keysFrom 0 b.cranes → l.Nodup →
    let t := l.foldl (fun s g => finish g (s.insWord g) s) b
    (∀ k ∈ l, t.crane k = b.ended k (b.insWord k) none) ∧ (∀ k, k ∉ l → t.crane k = b.crane k) ∧ { t with cranes := b.cranes } = b := by
  induction l with
  | nil => intro b _ _; exact ⟨by simp, by simp, rfl⟩
  | cons g l ih =>
    intro b hb hd
    have hg : g ∉ l := (List.nodup_cons.1 hd).1
    have hw := finishAt_within (w := b.insWord g) (target := none) (Within.start (g := g) hb) rfl
    have hk : keysFrom 0 (finish g (b.insWord g) b).cranes := hw.keys
    obtain ⟨r1, r2, r3⟩ := ih (finish g (b.insWord g) b) hk (List.nodup_cons.1 hd).2
    have hf : { finish g (b.insWord g) b with cranes := b.cranes } = b := rfl
    have hobj : ∀ o, (finish g (b.insWord g) b).get o = b.get o := fun o => rfl
    have hword : ∀ k, k ≠ g → (finish g (b.insWord g) b).insWord k = b.insWord k ∧ (finish g (b.insWord g) b).ended k ((finish g (b.insWord g) b).insWord k) none = b.ended k (b.insWord k) none := by
      intro k hk
      have hc := hw.others k hk
      have hi : (finish g (b.insWord g) b).insWord k = b.insWord k := by
        show State.tallyWord b (b.get (Obj.tallyBase k) + ((finish g (b.insWord g) b).crane k).pc) = _
        rw [show (finish g (b.insWord g) b).crane k = b.crane k from hc]; rfl
      refine ⟨hi, ?_⟩
      rw [hi]
      unfold State.ended State.nextPc
      rw [show (finish g (b.insWord g) b).crane k = b.crane k from hc]
      rfl
    refine ⟨?_, ?_, ?_⟩
    · intro k hk
      rcases List.mem_cons.1 hk with rfl | hk
      · rw [List.foldl_cons, r2 _ hg]; exact hw.crane
      · rw [List.foldl_cons, r1 k hk]
        exact (hword k (fun e => hg (e ▸ hk))).2
    · intro k hk
      have h1 : k ≠ g := fun e => hk (by simp [e])
      have h2 : k ∉ l := fun e => hk (by simp [e])
      rw [List.foldl_cons, r2 k h2]
      exact hw.others k h1
    · rw [List.foldl_cons]
      generalize l.foldl (fun s g => finish g (s.insWord g) s) (finish g (b.insWord g) b) = t at r3 ⊢
      have e : { t with cranes := b.cranes } = { ({ t with cranes := (finish g (b.insWord g) b).cranes } : State) with cranes := b.cranes } := rfl
      rw [e, r3]; exact hf

theorem crane_keys {q : List Instr} {s : State} (w : s.Wf q) : keysFrom 0 s.cranes := ((mapWf_iff _ _).1 w.cranes).1

theorem sides_shift {g w : Nat} {s : State} (hk : keysFrom 0 s.cranes) (h : opc w = 1 ∨ opc w = 2) :
    Within g { s.crane g with clkPin := if fld (operand w) 11 2 ≠ 0 then some (s.clkSide g) else (s.crane g).clkPin } s (applySides g w s) := by
  have := applySides_within (g := g) (w := w) hk
  unfold clkAfter at this
  simp only [h, true_and] at this
  exact this

theorem trailStrobe_plain {g : Nat} {h : Shift} {j levels : Nat} {c : Crane} {s t : State} (hw : Within g c s t) (h1 : h.out = false) (h2 : h.frame = false) :
    Within g { c with shiftDone := j + 1, shiftPart := c.shiftPart ||| w64 (levels % 2 ^ h.lanes * 2 ^ h.place j) } s (trailStrobe g h j levels t) := by
  have hp : PinsOnly t (setClock g h.clk (clkTrail h.clk) t) := by
    unfold setClock; split
    · exact .refl _
    · exact ⟨rfl, rfl⟩
  have := modCrane_within (hw.pins hp) (fun c => { c with shiftDone := j + 1, shiftPart := c.shiftPart ||| w64 (levels % 2 ^ h.lanes * 2 ^ h.place j) })
  unfold trailStrobe
  simp only [h1, h2]
  exact this

theorem fifo_objs_frame {g : Nat} {c : Crane} {s t : State} (h : Within g c s t) (k : Nat) : t.fifo k = s.fifo k := by
  have := congrArg State.fifos h.frame
  unfold State.fifo
  rw [show t.fifos = s.fifos from this]

theorem inPhase_not {g : Nat} {p : Phase} {f : Nat → State → State} {s : State} (h : (s.crane g).phase ≠ p) : inPhase g p f s = s :=
  if_neg (fun x => h x.2)

theorem finish_phase (g w : Nat) (t : State) (target : Option Nat) (hk : keysFrom 0 t.cranes) (p : Phase) (h1 : p ≠ .ready) (h2 : ∀ d, p ≠ .delay d) :
    ((finishAt g w target t).crane g).phase ≠ p := by
  have := (finishAt_within (w := w) (target := target) (Within.start (g := g) hk) rfl).crane
  rw [this]
  simp only []
  split
  · exact h1.symm
  · exact (h2 _).symm

theorem fifo_frame {s t : State} (h : t.fifos = s.fifos) (k : Nat) : t.fifo k = s.fifo k := by unfold State.fifo; rw [h]

theorem stale_ne1 (g : Fin 64) : (Obj.tallyLen g.val).key ≠ (Obj.staleCnt g.val).key := by revert g; decide

theorem stale_ne2 (g : Fin 64) : (Obj.wrap g.val).key ≠ (Obj.staleCnt g.val).key := by revert g; decide

theorem stale_ne3 (g : Fin 64) : (Obj.craneCtrl g.val).key ≠ (Obj.staleCnt g.val).key := by revert g; decide

theorem pull_clean (g : Nat) (s : State) (v : Cargo) (l : List Cargo) (hk : keysFrom 0 s.fifos) (hp : v.p = false) (hw : (s.fifo (64 + g)).words = v :: l)
    (hi : popCount 72 (s.fifoInv (64 + g) (s.fifoPlace (64 + g) (s.fifo (64 + g)).pend.length)) = 0) :
    ∃ x : Fifo, x.words = l ∧ pullWord g (l.length + 1) s = (some v, s.setFifo (64 + g) x) := by
  have hpop : ∃ x : Fifo, x.words = l ∧ fifoPop (64 + g) s = (v, s.setFifo (64 + g) x) := by
    unfold fifoPop
    simp only [hw]
    have : deliverWord (64 + g) (s.fifoPlace (64 + g) (s.fifo (64 + g)).pend.length) v s = (v, s) := by
      unfold deliverWord; simp only []; rw [hi]; rfl
    rw [this]
    exact ⟨_, rfl, rfl⟩
  obtain ⟨x, h1, h2⟩ := hpop
  refine ⟨x, h1, ?_⟩
  unfold pullWord
  rw [hw, h2]
  simp [hp]

end Sys2Proof.Laws
end

