-- ==== Sys2Proof/Laws/CraneFault.lean ====
section
/-! SUPPORT. Cranes that meet a fault. -/

namespace Sys2Proof.Laws

open Sys2Proof.Machine

theorem note_ne1 (g : Fin 64) : (Obj.tallyLen g.val).key ≠ (Obj.noticeCnt g.val).key := by revert g; decide

theorem note_ne2 (g : Fin 64) : (Obj.wrap g.val).key ≠ (Obj.noticeCnt g.val).key := by revert g; decide

theorem note_ne3 (g : Fin 64) : (Obj.craneCtrl g.val).key ≠ (Obj.noticeCnt g.val).key := by revert g; decide

theorem cause_ne (g : Fin 64) : (Obj.faultCause g.val).key ≠ (Obj.haltInfo g.val).key := by revert g; decide

theorem cause_src (g : Fin 64) : (Obj.faultCause g.val).key ≠ (Obj.srcCnt 0x20).key := by revert g; decide

theorem cause_cnt (g : Fin 64) : (Obj.faultCause g.val).key ≠ Obj.faultEventCnt.key ∧ (Obj.faultCause g.val).key ≠ Obj.faultLostCnt.key := by revert g; decide

theorem raise20_get (i d : Nat) (s : State) (hk : keysFrom 0 s.objs) (o : Obj) (h1 : o.key ≠ (Obj.srcCnt 0x20).key) (h2 : o.key ≠ Obj.faultEventCnt.key) (h3 : o.key ≠ Obj.faultLostCnt.key) :
    (raise 0x20 i d s).get o = s.get o := by
  by_cases h4 : s.released 4
  · rw [raise_recordEvent 0x20 i d s (by decide) h4]
    rw [recordEvent_get _ _ _ _ (bump_keys _ _ (bump_keys _ _ hk)) _ h3]
    rw [bump_ne _ _ _ (bump_keys _ _ hk) h2, bump_ne _ _ _ hk h1]
  · unfold raise raiseAs
    rw [if_neg h4]

theorem withInstr_past {g : Nat} {named : Nat → Bool} {f : Nat → State → State} {s : State} (h : s.atInstr g) (h2 : s.get (Obj.tallyLen g) ≤ (s.crane g).pc) :
    withInstr g named f s = craneFault g 3 s := by
  unfold withInstr
  rw [if_neg (by simp [h]), if_pos h2]

theorem withInstr_illegal {g : Nat} {named : Nat → Bool} {f : Nat → State → State} {s : State} {c : Nat} (h : s.atInstr g) (h2 : (s.crane g).pc < s.get (Obj.tallyLen g))
    (h3 : popCount 24 (s.tallyInv (s.get (Obj.tallyBase g) + (s.crane g).pc)) = 0) (h4 : s.insCause g (s.tallyWord (s.get (Obj.tallyBase g) + (s.crane g).pc)) = some c)
    (h5 : named (s.tallyWord (s.get (Obj.tallyBase g) + (s.crane g).pc)) = true ∨ c = 1) :
    withInstr g named f s = craneFault g c s := by
  unfold withInstr
  rw [if_neg (by simp [h]), if_neg (Nat.not_le.2 h2)]
  simp only [h3, h4]
  rw [if_pos h5]

theorem craneFault_shape (g cause : Nat) (s : State) (h : cause ≠ 9) : craneFault g cause s =
    raise 0x20 g ((s.crane g).pc % 1024 * 2 ^ 16 + cause) (((modCrane g (fun c => { c with st := .faulted, phase := .ready, lateHalt := false }) s).put (Obj.faultCause g) cause).put (Obj.haltInfo g) 0) ∨ ¬ keysFrom 0 s.cranes := by
  by_cases hk : keysFrom 0 s.cranes
  · left
    have hc : ((modCrane g (fun c => { c with st := .faulted, phase := .ready, lateHalt := false }) s).crane g).pc = (s.crane g).pc := by
      have := (modCrane_within (Within.start (g := g) hk) (fun c => { c with st := .faulted, phase := .ready, lateHalt := false })).crane
      rw [this]
    have e : ∀ x : State, (if cause = 9 then holdCriterion 2 x else x) = x := fun x => if_neg h
    unfold craneFault
    simp only [e]
    generalize modCrane g (fun c => { c with st := .faulted, phase := .ready, lateHalt := false }) s = y at hc ⊢
    have hc2 : (((y.put (Obj.faultCause g) cause).put (Obj.haltInfo g) 0).crane g).pc = (s.crane g).pc := hc
    rw [hc2]
  · exact .inr hk

end Sys2Proof.Laws
end

