-- ==== Sys2Proof/Laws/Release.lean ====
section
/-! SUPPORT. Entering Working, and clearing a quay. -/

namespace Sys2Proof.Laws

open Sys2Proof.Machine

theorem canStartAll_keep (s : State) : (canStartAll s).node = s.node ∧ (canStartAll s).cranes = s.cranes ∧ (canStartAll s).faults = s.faults ∧
   (canStartAll s).tally = s.tally ∧ (canStartAll s).tide = s.tide ∧ (canStartAll s).pins = s.pins := by
  unfold canStartAll
  generalize List.range 8 = l
  have k {β : Type} (f : State → β) (h : ∀ b a, f (canStart a b) = f b) : f (l.foldl (fun s k => canStart k s) s) = f s := foldl_keep f _ h l s
  exact ⟨k (·.node) (fun _ _ => rfl), k (·.cranes) (fun _ _ => rfl), k (·.faults) (fun _ _ => rfl), k (·.tally) (fun _ _ => rfl), k (·.tide) (fun _ _ => rfl), k (·.pins) (fun _ _ => rfl)⟩

theorem enterWorking_facts (s : State) : (enterWorking s).node.mode = .working ∧ (enterWorking s).node.owns ∧ (enterWorking s).node.claim ∧ (enterWorking s).node.resume ∧
      (enterWorking s).pins.inBuf = 15 ∧ (enterWorking s).pins.clocks = 15 ∧ (enterWorking s).tide.area = [] ∧
      (enterWorking s).cranes = s.cranes ∧ (enterWorking s).faults = s.faults ∧ (enterWorking s).tally = s.tally := by
  obtain ⟨x, n, hm, m1, _⟩ := setMode_keep .working s
  have k := canStartAll_keep (clearCaptures (setMode .working s))
  unfold enterWorking
  generalize canStartAll (clearCaptures (setMode .working s)) = u at k ⊢
  obtain ⟨k1, k2, k3, k4, k5, k6⟩ := k
  rw [hm] at k1 k2 k3 k4
  refine ⟨?_, rfl, rfl, rfl, rfl, rfl, rfl, k2, k3, k4⟩
  show u.node.mode = _
  rw [k1]; exact m1

theorem toSigned16 (v : BitVec 16) : toSigned 16 (v.toNat % 2 ^ 16) = v.toInt := by
  have := v.isLt
  simp only [toSigned, BitVec.toInt]
  split <;> split <;> omega

theorem quaySteps (l : List Nat) : ∀ (s : State), keysFrom 0 s.cranes → keysFrom 0 s.fifos → (∀ k ∈ l, k < 64) →
    let t := l.foldl (fun s g => clearFifo (64 + g) (clearFifo g (s.setCrane g Crane.zero))) s
    keysFrom 0 t.cranes ∧ keysFrom 0 t.fifos ∧ (∀ g, (g ∈ l ∨ s.crane g = Crane.zero) → t.crane g = Crane.zero) ∧
    (∀ g, g < 64 → (g ∈ l ∨ s.fifo g = Fifo.empty) → t.fifo g = Fifo.empty) ∧
    (∀ g, g < 64 → (g ∈ l ∨ s.fifo (64 + g) = Fifo.empty) → t.fifo (64 + g) = Fifo.empty) := by
  induction l with
  | nil => intro s hc hf _; exact ⟨hc, hf, by simp, by simp, by simp⟩
  | cons k l ih =>
    intro s hc hf hl
    have hk : k < 64 := hl k (by simp)
    simp only [List.foldl_cons]
    have h2' : keysFrom 0 (s.setFifo k Fifo.empty).fifos := keysFrom_mapSet _ _ _ _ _ (Nat.zero_le _) hf
    generalize hs' : clearFifo (64 + k) (clearFifo k (s.setCrane k Crane.zero)) = s'
    have e1 : s'.cranes = (s.setCrane k Crane.zero).cranes := by rw [← hs']; rfl
    have e2 : s'.fifos = ((s.setFifo k Fifo.empty).setFifo (64 + k) Fifo.empty).fifos := by rw [← hs']; rfl
    have h1 : keysFrom 0 s'.cranes := by rw [e1]; exact keysFrom_mapSet _ _ _ _ _ (Nat.zero_le _) hc
    have h2 : keysFrom 0 s'.fifos := by rw [e2]; exact keysFrom_mapSet _ _ _ _ _ (Nat.zero_le _) h2'
    clear hs'
    have c1 : ∀ g, s'.crane g = if g = k then Crane.zero else s.crane g := by
      intro g
      show mapGet Crane.zero s'.cranes g = _
      rw [e1]
      by_cases e : g = k
      · subst e; rw [if_pos rfl]; exact crane_setCrane_self _ _ _ hc
      · rw [if_neg e]; exact crane_setCrane_ne _ _ _ _ hc e
    have f1 : ∀ f, s'.fifo f = if f = 64 + k then Fifo.empty else if f = k then Fifo.empty else s.fifo f := by
      intro f
      show mapGet Fifo.empty s'.fifos f = _
      rw [e2]
      by_cases e : f = 64 + k
      · subst e; rw [if_pos rfl]; exact fifo_setFifo_self _ _ _ h2'
      · rw [if_neg e]
        refine (fifo_setFifo_ne _ _ _ _ h2' e).trans ?_
        by_cases e2 : f = k
        · subst e2; rw [if_pos rfl]; exact fifo_setFifo_self _ _ _ hf
        · rw [if_neg e2]; exact fifo_setFifo_ne _ _ _ _ hf e2
    obtain ⟨r1, r2, r3, r4, r5⟩ := ih s' h1 h2 (fun j hj => hl j (by simp [hj]))
    refine ⟨r1, r2, ?_, ?_, ?_⟩
    · intro g hg
      refine r3 g ?_
      rw [c1]
      by_cases e : g = k
      · right; rw [if_pos e]
      · rw [if_neg e]; simpa [e] using hg
    · intro g hg6 hg
      refine r4 g hg6 ?_
      rw [f1]
      by_cases e : g = k
      · right; subst e; split <;> simp
      · rw [if_neg (by omega), if_neg e]; simpa [e] using hg
    · intro g hg6 hg
      refine r5 g hg6 ?_
      rw [f1]
      by_cases e : g = k
      · right; rw [if_pos (by omega)]
      · rw [if_neg (by omega), if_neg (by omega)]; simpa [e] using hg

theorem settleCauseNine_keep (s : State) : (settleCauseNine s).cranes = s.cranes ∧ (settleCauseNine s).fifos = s.fifos ∧ (settleCauseNine s).tally = s.tally := by
  unfold settleCauseNine
  generalize (List.range 64).any _ = b
  cases b <;> exact ⟨rfl, rfl, rfl⟩

theorem quayClear_facts (s : State) (hc : keysFrom 0 s.cranes) (hf : keysFrom 0 s.fifos) (g : Nat) (hg : g < 64) :
    (quayClear (g / 16) s).crane g = Crane.zero ∧ (quayClear (g / 16) s).fifo g = Fifo.empty ∧ (quayClear (g / 16) s).fifo (64 + g) = Fifo.empty := by
  have hx : ∀ q, ∃ b, quayClear q s = settleCauseNine ((quayCranes q).foldl (fun s g => clearFifo (64 + g) (clearFifo g (s.setCrane g Crane.zero))) b) ∧
      b.cranes = s.cranes ∧ b.fifos = s.fifos := by
    intro q
    refine ⟨_, rfl, ?_, ?_⟩
    · show State.cranes (if _ then _ else _) = _
      split <;> rfl
    · show State.fifos (if _ then _ else _) = _
      split <;> rfl
  obtain ⟨b, hb, hb1, hb2⟩ := hx (g / 16)
  rw [hb]
  rw [← hb1] at hc
  rw [← hb2] at hf
  clear hb
  have hm : g ∈ quayCranes (g / 16) := by
    simp only [quayCranes, List.mem_map, List.mem_range]
    exact ⟨g % 16, by omega, by omega⟩
  have hl : ∀ k ∈ quayCranes (g / 16), k < 64 := by
    simp only [quayCranes, List.mem_map, List.mem_range]
    rintro k ⟨j, hj, rfl⟩; omega
  obtain ⟨_, _, r3, r4, r5⟩ := quaySteps (quayCranes (g / 16)) b hc hf hl
  generalize (quayCranes (g / 16)).foldl _ b = t at r3 r4 r5 ⊢
  obtain ⟨z1, z2, _⟩ := settleCauseNine_keep t
  simp only [State.crane, State.fifo, z1, z2]
  exact ⟨r3 g (Or.inl hm), r4 g hg (Or.inl hm), r5 g hg (Or.inl hm)⟩

end Sys2Proof.Laws
end

