-- ==== Sys2Proof/Laws/DictRefuse.lean ====
section
/-! SUPPORT. Refused and stored dictionary writes of byte strings. -/

namespace Sys2Proof.Laws

open Sys2Proof.Machine

theorem writeBytes_refused {r : Req} {o : Obj} {bs : List Byte} {s t : State} {c : Nat} (h : Taken r o bs s) (hc : c ≠ 0)
    (hw : writeSpecial r o (ofBytes bs) bs s = some (t, c)) : writeBytes r o bs s = refusedWith r o c t := by
  have e : writeObj r o bs s = (t, c) := by
    simp [writeObj, h.gate, h.value, hw, ecOk, hc]
  simp [writeBytes, dictWrite, serve, h.served, withObj, h.present, e, refusedWith, ecOk]

theorem writeVal_refused {r : Req} {o : Obj} {v : Nat} {s t : State} {c : Nat} (h : TakenVal r o v s) (hv : v < 256 ^ o.ty.size) (hc : c ≠ 0)
    (hw : writeSpecial r o v (bytesOf o.ty.size v) s = some (t, c)) : writeVal r o v s = refusedWith r o c t :=
  writeBytes_refused (bs := bytesOf o.ty.size v) h hc (by rw [ofBytes_bytesOf _ _ hv]; exact hw)

theorem writeBytes_stored {r : Req} {o : Obj} {bs : List Byte} {s t : State} (h : Taken r o bs s)
    (hw : writeSpecial r o (ofBytes bs) bs s = none) (hs : writeStored o bs s = (t, ecOk)) : writeBytes r o bs s = accepted r o t := by
  have e : writeObj r o bs s = (lockRestart o t, ecOk) := by
    simp [writeObj, h.gate, h.value, hw, hs, ecOk]
  simp [writeBytes, dictWrite, serve, h.served, withObj, h.present, e, accepted, ecOk]

theorem writeBytes_gate {r : Req} {o : Obj} {bs : List Byte} {s : State} (h1 : s.serveCode o.idx o.sub = ecOk) (h2 : s.findObj o.idx o.sub = some o)
    (h3 : s.gateCode r o bs ≠ ecOk) (h4 : o ≠ Obj.swapCmd) (h5 : o ≠ Obj.updCmd) : writeBytes r o bs s = refusedWith r o (s.gateCode r o bs) s := by
  have e : writeObj r o bs s = (s, s.gateCode r o bs) := by simp [writeObj, h3, pendingArm, lockedOpen, h4, h5]
  simp [writeBytes, dictWrite, serve, h1, withObj, h2, e, refusedWith]

def abortPins (s : State) : State :=
  let m := maskOf ((List.range 4).filter (fun q => s.block (q + 3) == .quiescing))
  { s with pins := { s.pins with quayRst := clearBits s.pins.quayRst m, quayResume := s.pins.quayResume ||| m } }

end Sys2Proof.Laws
end

