-- ==== Sys2Proof/Laws/Quays.lean ====
section
/-! SUPPORT. Commands of cranes and quays through the dictionary. -/

namespace Sys2Proof.Laws

open Sys2Proof.Machine

theorem sp_craneCmd (r : Req) (g : Fin 64) (v bs s) : writeSpecial r (Obj.craneCmd g.val) v bs s = some (craneCmdWrite g.val v s) := by
  have hg := g.isLt
  have hi : (Obj.craneCmd g.val).idx = 0x4200 + g.val := rfl
  have hs : (Obj.craneCmd g.val).sub = 2 := rfl
  have h1 : 0x4200 + g.val - 0x4200 = g.val := by omega
  generalize Obj.craneCmd g.val = o at *
  unfold writeSpecial
  rw [hi, if_neg (by omega), if_pos (by omega)]
  unfold writeQuay
  rw [if_pos (by omega), hi, h1]

theorem bitsOf_pow (g : Fin 64) : bitsOf 64 (2 ^ g.val) = [g.val] := by revert g; decide

theorem small8 (v : BitVec 8) : v.toNat < 256 ^ 1 := v.isLt

theorem startCrane_crane (q : List Instr) (g : Nat) (s : State) (w : s.Wf q) :
    (startCrane g s).crane g = { Crane.zero with st := .running, pc := s.get (Obj.entry g), pendStart := (s.crane g).pendStart, divRestarts := (s.crane g).divRestarts + 1 } := by
  have hk := crane_keys w
  have h := (modCrane_within (Within.start (g := g) hk) (fun c => { Crane.zero with st := .running, pc := s.get (Obj.entry g), pendStart := c.pendStart, divRestarts := c.divRestarts + 1 })).crane
  unfold startCrane
  have e : ∀ x : State, (settleCauseNine x).cranes = x.cranes := by
    intro x; unfold settleCauseNine dropCriterion; split
    · rfl
    · rfl
  unfold State.crane at h ⊢
  rw [e]; exact h

theorem gang_one (g : Fin 64) : masked (2 ^ g.val) = [g.val] := bitsOf_pow g

theorem sp_quay (r : Req) (u : Fin 4) (o : Obj) (hi : o.idx = 0x4100 + u.val) (v bs s) :
    (o.sub = 1 → writeSpecial r o v bs s = some (commitQueued o (quayCommit u.val) s)) ∧
    (o.sub = 3 → writeSpecial r o v bs s = some (writeQuayFlags u.val v s)) ∧ (o.sub = 4 → writeSpecial r o v bs s = some (clearQuayIrq u.val v s)) := by
  have := u.isLt
  have h1 : 0x4100 + u.val - 0x4100 = u.val := by omega
  unfold writeSpecial
  rw [hi, if_neg (by omega), if_pos (by omega)]
  unfold writeQuay
  simp only [hi, h1]
  rw [if_neg (by omega), if_pos (by omega)]
  refine ⟨fun h => ?_, fun h => ?_, fun h => ?_⟩ <;> rw [h] <;> rfl

theorem sp_fifo (r : Req) (g : Fin 64) (o : Obj) (hi : o.idx = 0x5400 + g.val) (v bs s) :
    writeSpecial r o v bs s = (if o.sub = 3 then some (clearWrite o 8 v s) else if o.sub = 0xC then some (fifoFlushWrite g.val v s) else none) := by
  have := g.isLt
  have h1 : 0x5400 + g.val - 0x5400 = g.val := by omega
  have hn : ∀ p : Obj, p.idx < 0x5400 → o ≠ p := by intro p hp e; rw [e] at hi; omega
  unfold writeSpecial
  rw [hi, if_neg (by omega), if_pos (by omega)]
  unfold writeQuay
  simp only [hi, h1]
  rw [if_neg (by omega), if_neg (by omega), if_neg (hn _ (by decide)), if_neg (hn _ (by decide)), if_neg (hn _ (by decide)), if_neg (hn _ (by decide)), if_neg (hn _ (by decide)), if_neg (hn _ (by decide))]
  have a : 21504 + g.val < 21568 := by omega
  have b : 21504 ≤ 21504 + g.val := by omega
  simp only [a, b, true_and]

theorem put_get (s : State) (o : Obj) (v : Nat) (hk : keysFrom 0 s.objs) : (s.put o v).get o = v % 2 ^ (8 * o.ty.size) := get_put_self _ _ _ hk

theorem configCommit_get (s : State) (o : Obj) (hk : keysFrom 0 s.objs) (h : o.key ≠ Obj.savedGen.key) : (configCommit s).get o = s.get o := by
  unfold configCommit
  split
  · exact get_put_ne _ _ _ _ hk h
  · rfl

theorem quayCommit_ne (u : Fin 4) : (Obj.quayCommit u.val).key ≠ Obj.savedGen.key := by revert u; decide

end Sys2Proof.Laws
end

