-- ==== Sys2Proof/Laws/TallyMem.lean ====
section
/-! SUPPORT. Tally Memory: the first place that differs. -/

namespace Sys2Proof.Laws

open Sys2Proof.Machine

theorem mem_addr {a n w : Nat} (h : w ∈ (List.range n).map (a + ·)) : ∃ i, i < n ∧ w = a + i := by
  simp at h; obtain ⟨i, h1, h2⟩ := h; exact ⟨i, h1, h2.symm⟩

theorem find_none {a n : Nat} {p : Nat → Bool} (h : ∀ i, i < n → p (a + i) = false) : ((List.range n).map (a + ·)).find? p = none := by
  refine List.find?_eq_none.2 (fun x hx => ?_)
  obtain ⟨i, h1, rfl⟩ := mem_addr hx
  simp [h i h1]

theorem find_first {a n i : Nat} {p : Nat → Bool} (hi : i < n) (h : p (a + i) = true) (hb : ∀ k, k < i → p (a + k) = false) : ((List.range n).map (a + ·)).find? p = some (a + i) := by
  rw [List.find?_map, List.find?_range_eq_some.2 ⟨?_, ?_, ?_⟩]
  · rfl
  · exact h
  · simp [hi]
  · intro j hj; simp [hb j hj]

theorem tally_idle_load (r : Req) (bs : List Byte) (s : State) (v : Nat) : writeSpecial r Obj.tallyLoad v bs s = some (tallyLoad bs s) := rfl

theorem stage_load (r : Req) (bs : List Byte) (s : State) (v : Nat) : writeSpecial r Obj.stageLoad v bs s = some (stageLoad bs s) := rfl

theorem tallyCorrected_passes (k : Nat) (fetch : Bool) (s : State) (hk : keysFrom 0 s.objs) : (tallyCorrected k fetch s).get Obj.tallyCePasses = s.get Obj.tallyCePasses := by
  show (((noteTallyErr k false fetch s).bump Obj.tallyCeCnt)).get Obj.tallyCePasses = _
  refine (bump_ne (noteTallyErr k false fetch s) _ _ (key_put _ _ _ hk) (by decide)).trans ?_
  exact get_put_ne _ _ _ _ hk (by decide)

end Sys2Proof.Laws
end

