-- ==== Sys2Proof/Laws/Boundary.lean ====
section
/-! SUPPORT. Sampling the inputs. -/

namespace Sys2Proof.Laws

open Sys2Proof.Machine

theorem sampleInputs_pins (s : State) : { sampleInputs s with pins := s.pins } = s := by
  unfold sampleInputs
  have : ∀ (l : List Nat) (b : State), { l.foldl (fun s q => sampleQuay q s) b with pins := s.pins } = { b with pins := s.pins } := by
    intro l
    induction l with
    | nil => intro b; rfl
    | cons a l ih => intro b; rw [List.foldl_cons, ih]; rfl
  rw [this]

end Sys2Proof.Laws
end

