-- ==== Sys2Proof/Laws/CanOrder.lean ====
section
/-! SUPPORT. The order of CAN messages. -/

namespace Sys2Proof.Laws

open Sys2Proof.Machine

theorem sp_can (r : Req) (k : Fin 8) (o : Obj) (v : Nat) (bs : List Byte) (s : State) :
    (o.idx = 0x6000 + k.val → o.sub = 6 → writeSpecial r o v bs s = some (commitQueued o (canCommit k) s)) ∧
    (o.idx = 0x6000 + k.val → o.sub = 8 → writeSpecial r o v bs s = some (canCmdWrite k v s)) ∧
    (o.idx = 0x6100 + k.val → o.sub = 3 → writeSpecial r o v bs s = some (clearWrite o 0x200 v s)) := by
  have := k.isLt
  have h1 : 0x6000 + k.val - 0x6000 = k.val := by omega
  refine ⟨fun hi hs => ?_, fun hi hs => ?_, fun hi hs => ?_⟩
  · unfold writeSpecial
    rw [hi, if_neg (by omega), if_neg (by omega), if_pos (by omega)]
    unfold writeCan
    rw [hi, if_pos ⟨by omega, by omega, hs⟩, h1]
  · unfold writeSpecial
    rw [hi, if_neg (by omega), if_neg (by omega), if_pos (by omega)]
    unfold writeCan
    rw [hi, if_neg (by omega), if_pos ⟨by omega, by omega, hs⟩, h1]
  · unfold writeSpecial
    rw [hi, if_neg (by omega), if_neg (by omega), if_pos (by omega)]
    unfold writeCan
    rw [hi, if_neg (by omega), if_neg (by omega), if_pos ⟨by omega, by omega, hs⟩]

theorem least_none : ∀ l, least l = none → l = []
  | [], _ => rfl
  | a :: t, h => by
    unfold least at h
    split at h
    · split at h <;> exact absurd h (by simp)
    · exact absurd h (by simp)

theorem least_spec : ∀ (l : List (Nat × Nat)) a, least l = some a → a ∈ l ∧ ∀ e ∈ l, a.2 ≤ e.2
  | [], a, h => by simp [least] at h
  | x :: t, a, h => by
    unfold least at h
    cases hb : least t with
    | none =>
      rw [hb] at h
      simp at h; subst h
      rw [least_none t hb]; simp
    | some b =>
      rw [hb] at h
      have ih := least_spec t b hb
      dsimp only at h
      split at h
      · simp at h; subst h
        refine ⟨by simp [ih.1], ?_⟩
        intro e he
        simp at he
        rcases he with rfl | he
        · omega
        · exact ih.2 e he
      · simp at h; subst h
        refine ⟨by simp, ?_⟩
        intro e he
        simp at he
        rcases he with rfl | he
        · exact Nat.le_refl _
        · have := ih.2 e he; omega

theorem find_lowest {p : Nat → Bool} {n i : Nat} (h : (List.range n).find? p = some i) : p i ∧ ∀ j, j < i → p j = false := by
  rw [List.find?_range_eq_some] at h
  exact ⟨h.1, fun j hj => by simpa using h.2.2 j hj⟩

theorem canCommit_ne (k : Fin 8) : (Obj.canCommit k).key ≠ Obj.savedGen.key := by revert k; decide

end Sys2Proof.Laws
end

