-- ==== Sys2Proof/Laws/Gate.lean ====
section
/-! SUPPORT. What turning the gate of the Gangway off leaves. -/

namespace Sys2Proof.Laws

open Sys2Proof.Machine

theorem mapGet_filter_keep {α : Type} (d : α) (p : Nat × α → Bool) (k : Nat) (hp : ∀ v, p (k, v) = true) : ∀ m : List (Nat × α), mapGet d (m.filter p) k = mapGet d m k
  | [] => rfl
  | (j, v) :: m => by
    have ih := mapGet_filter_keep d p k hp m
    by_cases hj : k = j
    · subst hj; simp [List.filter_cons, hp, mapGet]
    · simp only [List.filter_cons]
      split
      · simp [mapGet, hj, ih]
      · simp [mapGet, hj, ih]

theorem haltCrane_kept (g : Nat) (s : State) (hk : keysFrom 0 s.objs) (hg : g < 64) (o : Obj) (ho : keptKey o.key = true) :
    (haltCrane g s).get o = s.get o ∧ keysFrom 0 (haltCrane g s).objs := by
  unfold haltCrane
  extract_lets c
  split
  · refine ⟨get_put_ne _ _ _ _ hk ?_, key_put _ _ _ hk⟩
    intro e
    rw [e] at ho
    simp [keptKey, Obj.haltInfo, Obj.key] at ho
    omega
  · exact ⟨rfl, hk⟩

theorem fold_kept {α : Type} (f : State → α → State) (o : Obj) (P : α → Prop) (h : ∀ b a, P a → keysFrom 0 b.objs → (f b a).get o = b.get o ∧ keysFrom 0 (f b a).objs) :
    ∀ (l : List α) (b : State), (∀ a ∈ l, P a) → keysFrom 0 b.objs → (l.foldl f b).get o = b.get o ∧ keysFrom 0 (l.foldl f b).objs
  | [], b, _, hb => ⟨rfl, hb⟩
  | a :: l, b, hl, hb => by
    have h1 := h b a (hl a (by simp)) hb
    have h2 := fold_kept f o P h l (f b a) (fun x hx => hl x (by simp [hx])) h1.2
    exact ⟨h2.1.trans h1.1, h2.2⟩

theorem genDrive_objs (n : Nat) (s : State) : (genDrive n s).objs = s.objs := by
  obtain ⟨p, t, h⟩ := genDrive_shape n s
  rw [h]

theorem genStop_objs (n : Nat) (s : State) : (genStop n s).objs = s.objs := by
  unfold genStop
  extract_lets g
  split
  · rw [genDrive_objs]; rfl
  · rfl

theorem haltAllCranes_kept (s : State) (hk : keysFrom 0 s.objs) (o : Obj) (ho : keptKey o.key = true) :
    (haltAllCranes s).get o = s.get o ∧ keysFrom 0 (haltAllCranes s).objs := by
  unfold haltAllCranes
  have hr : ∀ a ∈ List.range 64, a < 64 := fun a ha => List.mem_range.1 ha
  generalize List.range 64 = l at hr ⊢
  exact fold_kept _ o (· < 64) (fun b a ha hb => haltCrane_kept a b hb ha o ho) l s hr hk

theorem pulsesStop_objs (s : State) : (pulsesStop s).objs = s.objs := by
  unfold pulsesStop
  generalize List.range 16 = l
  exact foldl_keep (State.objs) _ (fun b a => genStop_objs a b) _ _

theorem keepersHold_objs (s : State) : (keepersHold s).objs = s.objs := rfl

theorem canStopAll_objs (s : State) : (canStopAll s).objs = s.objs := by
  unfold canStopAll
  generalize List.range 8 = l
  exact foldl_keep (State.objs) (fun s k => modCtl k (fun c => { c with st := .off, tx := none, applyDue := false }) s) (fun b a => rfl) _ _

theorem loseOwnership_objs (s : State) : (loseOwnership s).objs = if s.node.owns then (haltAllCranes s).objs else s.objs := by
  have e : ∃ v : State, v.objs = (haltAllCranes s).objs ∧ loseOwnership s =
      (if s.node.owns then { v with node := { v.node with owns := false, resume := false }, pins := { v.pins with clocks := 0 } } else s) := by
    refine ⟨canStopAll (keepersHold (pulsesStop (haltAllCranes s))), ?_, rfl⟩
    generalize haltAllCranes s = u
    rw [canStopAll_objs, keepersHold_objs, pulsesStop_objs]
  obtain ⟨v, h1, h2⟩ := e
  rw [h2]
  split
  · exact h1
  · rfl

theorem loseOwnership_kept (s : State) (hk : keysFrom 0 s.objs) (o : Obj) (ho : keptKey o.key = true) :
    (loseOwnership s).get o = s.get o ∧ keysFrom 0 (loseOwnership s).objs := by
  have h := haltAllCranes_kept s hk o ho
  have e := loseOwnership_objs s
  split at e
  · exact ⟨(get_congr e o).trans h.1, by rw [e]; exact h.2⟩
  · exact ⟨get_congr e o, by rw [e]; exact hk⟩

theorem powerLost_facts (s : State) (hk : keysFrom 0 s.objs) : (powerLost s).gw = s.gw ∧ (powerLost s).flash = s.flash ∧ (powerLost s).pending = s.pending ∧
    (s.node.mode ≠ .approach → (powerLost s).node.mode = .approach ∧ (powerLost s).rst.reinsert ∧ (powerLost s).rst.asserted ∧ (powerLost s).node.claim = false ∧ (powerLost s).pins.drive = 0) ∧
    keysFrom 0 (powerLost s).objs ∧
    ∀ o : Obj, keptKey o.key = true → (powerLost s).get o = s.get o := by
  unfold powerLost
  split
  · next h => exact ⟨rfl, rfl, rfl, fun h2 => absurd h h2, hk, fun _ _ => rfl⟩
  · have k := (loseOwnership_keep s).1.trans (stopPickup_keep _)
    have kk := loseOwnership_kept s hk
    have ko : (stopPickup false (loseOwnership s)).objs = (loseOwnership s).objs := by
      unfold stopPickup
      split <;> rfl
    have hs := keysFrom_filter (fun e : Nat × Nat => keptKey e.1) (stopPickup false (loseOwnership s)).objs 0 (by rw [ko]; exact (kk Obj.porCnt (by decide)).2)
    refine ⟨k.gw, k.flash, k.pend, fun _ => ⟨rfl, rfl, rfl, rfl, rfl⟩, hs, fun o ho => ?_⟩
    exact (mapGet_filter_keep _ _ _ (fun v => ho) _).trans ((get_congr ko o).trans (kk o ho).1)

theorem gateOff_facts (cause : Nat) (to_ : GwSt) (o : Obj) (s : State) (hk : keysFrom 0 s.objs) (ho : keptKey o.key = true) (hn : o.key ≠ Obj.gwLastEvent.key) (hs : o.ty.size = 4) :
    GateOff cause to_ o s ((gateOff cause to_ s).bump o) := by
  unfold gateOff
  extract_lets left a b
  have ka : keysFrom 0 a.objs := key_put _ _ _ hk
  have kb : keysFrom 0 b.objs := ka
  have gb : ∀ p : Obj, p.key ≠ Obj.gwLastEvent.key → b.get p = s.get p := fun p hp => get_put_ne _ _ _ _ hk hp
  have gl : b.get Obj.gwLastEvent = (capAt 0xFFFF (s.gw.cur / 10) * 2 ^ 16 + s.gw.st.code * 2 ^ 8 + cause) % 2 ^ 32 := get_put_self _ _ _ hk
  have pl := powerLost_facts b kb
  have hg : ∀ p : Obj, keptKey p.key = true → p.key ≠ o.key → ((if left = .good then powerLost b else b).bump o).get p = b.get p := by
    intro p hp hpo
    split
    · exact (get_put_ne _ _ _ _ pl.2.2.2.2.1 hpo).trans (pl.2.2.2.2.2 p hp)
    · exact get_put_ne _ _ _ _ kb hpo
  have ho' : ((if left = .good then powerLost b else b).bump o).get o = (s.get o + 1) % 2 ^ 32 := by
    split
    · refine (get_put_self _ _ _ pl.2.2.2.2.1).trans ?_
      rw [pl.2.2.2.2.2 o ho, gb o hn, hs]
    · refine (get_put_self _ _ _ kb).trans ?_
      rw [gb o hn, hs]
  refine ⟨?_, ?_, ?_, ho', ?_, ?_, ?_⟩
  · split
    · show (powerLost b).gw.st = _; rw [pl.1]; rfl
    · rfl
  · split
    · show (powerLost b).gw.timer = 0 ∧ _
      exact ⟨by rw [pl.1]; rfl, by show (powerLost b).gw.clean = 0; rw [pl.1]; rfl, by show (powerLost b).gw.under = 0; rw [pl.1]; rfl, by show (powerLost b).gw.above = 0; rw [pl.1]; rfl, by show (powerLost b).gw.delayDone = false; rw [pl.1]; rfl, by show (powerLost b).gw.limiting = false; rw [pl.1]; rfl⟩
    · exact ⟨rfl, rfl, rfl, rfl, rfl, rfl⟩
  · rw [hg Obj.gwLastEvent (by decide) hn.symm]; exact gl
  · intro h1 h2
    rw [if_pos (show left = .good from h1)]
    exact pl.2.2.2.1 h2
  · intro h1
    rw [if_neg (show ¬ left = .good from h1)]
    exact ⟨rfl, fun p h3 h4 => (get_put_ne _ _ _ _ kb h3).trans (gb p h4)⟩
  · split
    · exact ⟨pl.2.1, by show (powerLost b).gw.dt1 = _; rw [pl.1]; rfl, by show (powerLost b).gw.dt2 = _; rw [pl.1]; rfl, pl.2.2.1⟩
    · exact ⟨rfl, rfl, rfl, rfl⟩

theorem gwTrip_facts (cause : Nat) (s : State) (hk : keysFrom 0 s.objs) (hg : s.gw.st.gateOn) :
    GateOff cause .latched Obj.gwTripCnt s (gwTrip cause s) ∧ (gwTrip cause s).gw.cooling ∧ (gwTrip cause s).gw.enLow = false := by
  have h := gateOff_facts cause .latched Obj.gwTripCnt s hk (by decide) (by decide) rfl
  unfold gwTrip
  rw [if_pos hg]
  generalize (gateOff cause .latched s).bump Obj.gwTripCnt = u at h ⊢
  exact ⟨⟨h.state, h.cleared, h.event, h.counted, h.power, fun hn => ⟨(h.frame hn).1, (h.frame hn).2⟩, h.kept⟩, rfl, rfl⟩

theorem gwDrop_facts (cause : Nat) (s : State) (hk : keysFrom 0 s.objs) (hg : s.gw.st.gateOn) :
    GateOff cause (if s.gw.en then .qualify else .disabled) Obj.gwDropCnt s (gwDrop cause s) := by
  have h := gateOff_facts cause (if s.gw.en then .qualify else .disabled) Obj.gwDropCnt s hk (by decide) (by decide) rfl
  unfold gwDrop
  rw [if_pos hg]
  exact h

end Sys2Proof.Laws
end

