-- ==== Sys2Proof/Laws/ChecksReset.lean ====
section
/-! SUPPORT. Check units after a reset. -/

namespace Sys2Proof.Laws

open Sys2Proof.Machine

theorem chk_fresh (t : State) (h : t.chk = chkReset) : ∀ u, u < 4 → ∃ poly par, [3, 1, 2, 4][u]? = some poly ∧ crcPar poly = some par ∧
    t.unit u = ⟨poly, par.init, 0, false, false, []⟩ := by
  intro u hu
  unfold State.unit
  rw [h]
  rcases u with _ | _ | _ | _ | u
  · exact ⟨_, _, rfl, rfl, rfl⟩
  · exact ⟨_, _, rfl, rfl, rfl⟩
  · exact ⟨_, _, rfl, rfl, rfl⟩
  · exact ⟨_, _, rfl, rfl, rfl⟩
  · omega

end Sys2Proof.Laws
end

