-- ==== Sys2Proof/Laws/Edges.lean ====
section
/-! SUPPORT. The edges of a pin, and pulse generators. -/

namespace Sys2Proof.Laws

open Sys2Proof.Machine

theorem find_last (l : List (Nat × Nat)) (pin t q : Nat) :
    ((l.filter (fun e => e.1 != pin) ++ [(pin, t)]).find? (fun e => e.1 == q)) = if q = pin then some (pin, t) else l.find? (fun e => e.1 == q) := by
  induction l with
  | nil =>
    by_cases h : q = pin
    · subst h; simp
    · rw [if_neg h]; simp; exact fun e => h e.symm
  | cons a l ih =>
    by_cases ha : a.1 = pin
    · have : (a :: l).filter (fun e => e.1 != pin) = l.filter (fun e => e.1 != pin) := by simp [ha]
      rw [this, ih]
      by_cases h : q = pin
      · rw [if_pos h, if_pos h]
      · rw [if_neg h, if_neg h, List.find?_cons_of_neg]
        simp [ha]; exact fun e => h e.symm
    · have : (a :: l).filter (fun e => e.1 != pin) = a :: l.filter (fun e => e.1 != pin) := by simp [ha]
      rw [this, List.cons_append, List.find?_cons, List.find?_cons]
      by_cases hq : a.1 = q
      · have : ¬ q = pin := fun e => ha (hq.trans e)
        simp [hq, this]
      · have hb : (a.1 == q) = false := by simpa using hq
        rw [hb]; exact ih

theorem pulse_taken (r : Req) (n : Fin 16) (w : Nat) (now : Int) (s : State) (h : TakenVal r (Obj.pgControl n.val) w s) :
    pulseWrite r w now n s = accepted r (Obj.pgControl n.val) (pgControlWrite n w now s) := by
  have hg : s.gateCode r (Obj.pgControl n.val) (bytesOf 8 w) = ecOk := h.gate
  simp [pulseWrite, serve, h.served, withObj, h.present, hg, accepted, ecOk]

end Sys2Proof.Laws
end

