-- ==== Sys2Proof/Laws/Exec.lean ====
section
/-! SUPPORT. The meaning that each arm of exec calls. -/

namespace Sys2Proof.Laws

open Sys2Proof.Machine

theorem exec_powerOn (a0 a1 a2 a3) (s : State) : exec (.powerOn a0 a1 a2 a3) s = execPowerOn a0 a1 a2 a3 s := rfl

theorem exec_resetNAssert (a0 a1) (s : State) : exec (.resetNAssert a0 a1) s = execResetNAssert a0 a1 s := rfl

theorem exec_resetNRelease (s : State) : exec (.resetNRelease) s = execResetNRelease s := rfl

theorem exec_watchdogKick (a0 a1) (s : State) : exec (.watchdogKick a0 a1) s = execWatchdogKick a0 a1 s := rfl

theorem exec_wdtPeriodWrite (a0 a1) (s : State) : exec (.wdtPeriodWrite a0 a1) s = execWdtPeriodWrite a0 a1 s := rfl

theorem exec_watchdogExpiry (s : State) : exec (.watchdogExpiry) s = execWatchdogExpiry s := rfl

theorem exec_resetCmdWrite (a0 a1) (s : State) : exec (.resetCmdWrite a0 a1) s = execResetCmdWrite a0 a1 s := rfl

theorem exec_resetCmdAssert (s : State) : exec (.resetCmdAssert) s = execResetCmdAssert s := rfl

theorem exec_criticalStateError (a0 a1) (s : State) : exec (.criticalStateError a0 a1) s = execCriticalStateError a0 a1 s := rfl

theorem exec_criticalResetTimer (s : State) : exec (.criticalResetTimer) s = execCriticalResetTimer s := rfl

theorem exec_resetAssertionEnd (s : State) : exec (.resetAssertionEnd) s = execResetAssertionEnd s := rfl

theorem exec_domainRelease (a0 a1) (s : State) : exec (.domainRelease a0 a1) s = execDomainRelease a0 a1 s := rfl

theorem exec_domainClockTimeout (s : State) : exec (.domainClockTimeout) s = execDomainClockTimeout s := rfl

theorem exec_optionLoadComplete (a0) (s : State) : exec (.optionLoadComplete a0) s = execOptionLoadComplete a0 s := rfl

theorem exec_savedStateLoad (s : State) : exec (.savedStateLoad) s = execSavedStateLoad s := rfl

theorem exec_berthingComplete (a0) (s : State) : exec (.berthingComplete a0) s = execBerthingComplete a0 s := rfl

theorem exec_positionBClaimTimeout (s : State) : exec (.positionBClaimTimeout) s = execPositionBClaimTimeout s := rfl

theorem exec_slipwayKeyWrite (a0 a1) (s : State) : exec (.slipwayKeyWrite a0 a1) s = execSlipwayKeyWrite a0 a1 s := rfl

theorem exec_slipwayKeyWindowEnd (s : State) : exec (.slipwayKeyWindowEnd) s = execSlipwayKeyWindowEnd s := rfl

theorem exec_blockResetWrite (a0 a1) (s : State) : exec (.blockResetWrite a0 a1) s = execBlockResetWrite a0 a1 s := rfl

theorem exec_blockQuiesceEnd (a0 a1) (s : State) : exec (.blockQuiesceEnd a0 a1) s = execBlockQuiesceEnd a0 a1 s := rfl

theorem exec_blockResetRelease (a0 a1) (s : State) : exec (.blockResetRelease a0 a1) s = execBlockResetRelease a0 a1 s := rfl

theorem exec_blockClockTimeout (a0) (s : State) : exec (.blockClockTimeout a0) s = execBlockClockTimeout a0 s := rfl

theorem exec_blockResetAbort (a0) (s : State) : exec (.blockResetAbort a0) s = execBlockResetAbort a0 s := rfl

theorem exec_vioOutOfRange (a0) (s : State) : exec (.vioOutOfRange a0) s = execVioOutOfRange a0 s := rfl

theorem exec_vioRestore (a0 a1) (s : State) : exec (.vioRestore a0 a1) s = execVioRestore a0 a1 s := rfl

theorem exec_supplyMonitorBad (s : State) : exec (.supplyMonitorBad) s = execSupplyMonitorBad s := rfl

theorem exec_supplyMonitorGood (s : State) : exec (.supplyMonitorGood) s = execSupplyMonitorGood s := rfl

theorem exec_tapReset (s : State) : exec (.tapReset) s = execTapReset s := rfl

theorem exec_tapIdcode (s : State) : exec (.tapIdcode) s = execTapIdcode s := rfl

theorem exec_tapSamplePreload (s : State) : exec (.tapSamplePreload) s = execTapSamplePreload s := rfl

theorem exec_tapExtest (s : State) : exec (.tapExtest) s = execTapExtest s := rfl

theorem exec_tapClamp (s : State) : exec (.tapClamp) s = execTapClamp s := rfl

theorem exec_tapHighz (s : State) : exec (.tapHighz) s = execTapHighz s := rfl

theorem exec_tapBypass (a0) (s : State) : exec (.tapBypass a0) s = execTapBypass a0 s := rfl

theorem exec_tickBoundary (a0) (s : State) : exec (.tickBoundary a0) s = execTickBoundary a0 s := rfl

theorem exec_scheduledEntryDue (a0) (s : State) : exec (.scheduledEntryDue a0) s = execScheduledEntryDue a0 s := rfl

theorem exec_schedFrameReceive (a0) (s : State) : exec (.schedFrameReceive a0) s = execSchedFrameReceive a0 s := rfl

theorem exec_tickMarkerReceive (a0 a1) (s : State) : exec (.tickMarkerReceive a0 a1) s = execTickMarkerReceive a0 a1 s := rfl

theorem exec_tidePlanCommit (a0) (s : State) : exec (.tidePlanCommit a0) s = execTidePlanCommit a0 s := rfl

theorem exec_tidePlanCheckComplete (s : State) : exec (.tidePlanCheckComplete) s = execTidePlanCheckComplete s := rfl

theorem exec_objectWrite (a0 a1 a2 a3) (s : State) : exec (.objectWrite a0 a1 a2 a3) s = execObjectWrite a0 a1 a2 a3 s := rfl

theorem exec_detectProbe (a0 a1 a2) (s : State) : exec (.detectProbe a0 a1 a2) s = execDetectProbe a0 a1 a2 s := rfl

theorem exec_pilotTimeout (a0 a1) (s : State) : exec (.pilotTimeout a0 a1) s = execPilotTimeout a0 a1 s := rfl

theorem exec_bitLockCheckComplete (a0 a1) (s : State) : exec (.bitLockCheckComplete a0 a1) s = execBitLockCheckComplete a0 a1 s := rfl

theorem exec_bitLockTimeout (a0 a1) (s : State) : exec (.bitLockTimeout a0 a1) s = execBitLockTimeout a0 a1 s := rfl

theorem exec_blockLockAchieved (a0) (s : State) : exec (.blockLockAchieved a0) s = execBlockLockAchieved a0 s := rfl

theorem exec_blockLockTimeout (a0 a1) (s : State) : exec (.blockLockTimeout a0 a1) s = execBlockLockTimeout a0 a1 s := rfl

theorem exec_harbourBlockReceive (a0 a1) (s : State) : exec (.harbourBlockReceive a0 a1) s = execHarbourBlockReceive a0 a1 s := rfl

theorem exec_harbourTimeout (a0 a1) (s : State) : exec (.harbourTimeout a0 a1) s = execHarbourTimeout a0 a1 s := rfl

theorem exec_bringupTimeout (a0 a1) (s : State) : exec (.bringupTimeout a0 a1) s = execBringupTimeout a0 a1 s := rfl

theorem exec_trainingMarkReceive (a0 a1 a2) (s : State) : exec (.trainingMarkReceive a0 a1 a2) s = execTrainingMarkReceive a0 a1 a2 s := rfl

theorem exec_syncError (a0 a1) (s : State) : exec (.syncError a0 a1) s = execSyncError a0 a1 s := rfl

theorem exec_controlBlockCheckFail (a0) (s : State) : exec (.controlBlockCheckFail a0) s = execControlBlockCheckFail a0 s := rfl

theorem exec_clockLaneLoss (a0) (s : State) : exec (.clockLaneLoss a0) s = execClockLaneLoss a0 s := rfl

theorem exec_elasticBufferOverflow (a0) (s : State) : exec (.elasticBufferOverflow a0) s = execElasticBufferOverflow a0 s := rfl

theorem exec_spanNoticeReceive (a0 a1) (s : State) : exec (.spanNoticeReceive a0 a1) s = execSpanNoticeReceive a0 a1 s := rfl

theorem exec_returnHoldExpiry (a0) (s : State) : exec (.returnHoldExpiry a0) s = execReturnHoldExpiry a0 s := rfl

theorem exec_laneFail (a0 a1 a2) (s : State) : exec (.laneFail a0 a1 a2) s = execLaneFail a0 a1 a2 s := rfl

theorem exec_lanemapReceive (a0 a1 a2) (s : State) : exec (.lanemapReceive a0 a1 a2) s = execLanemapReceive a0 a1 a2 s := rfl

theorem exec_ebbBlockReceive (a0 a1) (s : State) : exec (.ebbBlockReceive a0 a1) s = execEbbBlockReceive a0 a1 s := rfl

theorem exec_mooringNoReceiverTimeout (s : State) : exec (.mooringNoReceiverTimeout) s = execMooringNoReceiverTimeout s := rfl

theorem exec_ebbExitLockResult (a0 a1 a2) (s : State) : exec (.ebbExitLockResult a0 a1 a2) s = execEbbExitLockResult a0 a1 a2 s := rfl

theorem exec_loopModeWrite (a0 a1 a2) (s : State) : exec (.loopModeWrite a0 a1 a2) s = execLoopModeWrite a0 a1 a2 s := rfl

theorem exec_loopRequestReceive (a0 a1) (s : State) : exec (.loopRequestReceive a0 a1) s = execLoopRequestReceive a0 a1 s := rfl

theorem exec_farLoopTickTimeout (a0) (s : State) : exec (.farLoopTickTimeout a0) s = execFarLoopTickTimeout a0 s := rfl

theorem exec_prbsGenerateSet (a0 a1 a2) (s : State) : exec (.prbsGenerateSet a0 a1 a2) s = execPrbsGenerateSet a0 a1 a2 s := rfl

theorem exec_prbsCheckSet (a0 a1 a2) (s : State) : exec (.prbsCheckSet a0 a1 a2) s = execPrbsCheckSet a0 a1 a2 s := rfl

theorem exec_prbsCountersClear (a0 a1 a2) (s : State) : exec (.prbsCountersClear a0 a1 a2) s = execPrbsCountersClear a0 a1 a2 s := rfl

theorem exec_laneRetrain (a0 a1 a2) (s : State) : exec (.laneRetrain a0 a1 a2) s = execLaneRetrain a0 a1 a2 s := rfl

theorem exec_laneRetrainComplete (a0 a1 a2) (s : State) : exec (.laneRetrainComplete a0 a1 a2) s = execLaneRetrainComplete a0 a1 a2 s := rfl

theorem exec_portRetrain (a0 a1) (s : State) : exec (.portRetrain a0 a1) s = execPortRetrain a0 a1 s := rfl

theorem exec_surveyNoticeSend (s : State) : exec (.surveyNoticeSend) s = execSurveyNoticeSend s := rfl

theorem exec_surveyNoticeReceive (s : State) : exec (.surveyNoticeReceive) s = execSurveyNoticeReceive s := rfl

theorem exec_surveyNodeExpiry (a0) (s : State) : exec (.surveyNodeExpiry a0) s = execSurveyNodeExpiry a0 s := rfl

theorem exec_axisScanComplete (a0 a1 a2 a3 a4 a5 a6) (s : State) : exec (.axisScanComplete a0 a1 a2 a3 a4 a5 a6) s = execAxisScanComplete a0 a1 a2 a3 a4 a5 a6 s := rfl

theorem exec_eyeMapComplete (a0 a1 a2) (s : State) : exec (.eyeMapComplete a0 a1 a2) s = execEyeMapComplete a0 a1 a2 s := rfl

theorem exec_dfeUpdate (a0 a1 a2 a3) (s : State) : exec (.dfeUpdate a0 a1 a2 a3) s = execDfeUpdate a0 a1 a2 a3 s := rfl

theorem exec_slackWaterStart (a0 a1) (s : State) : exec (.slackWaterStart a0 a1) s = execSlackWaterStart a0 a1 s := rfl

theorem exec_slackWaterReceive (a0 a1 a2 a3 a4 a5) (s : State) : exec (.slackWaterReceive a0 a1 a2 a3 a4 a5) s = execSlackWaterReceive a0 a1 a2 a3 a4 a5 s := rfl

theorem exec_trialAnswerTimeout (a0 a1) (s : State) : exec (.trialAnswerTimeout a0 a1) s = execTrialAnswerTimeout a0 a1 s := rfl

theorem exec_asymWindowEnd (a0) (s : State) : exec (.asymWindowEnd a0) s = execAsymWindowEnd a0 s := rfl

theorem exec_asymSurveySend (s : State) : exec (.asymSurveySend) s = execAsymSurveySend s := rfl

theorem exec_asymSurveyReceive (s : State) : exec (.asymSurveyReceive) s = execAsymSurveyReceive s := rfl

theorem exec_asymCompute (s : State) : exec (.asymCompute) s = execAsymCompute s := rfl

theorem exec_ringFrameReceive (a0 a1) (s : State) : exec (.ringFrameReceive a0 a1) s = execRingFrameReceive a0 a1 s := rfl

theorem exec_orphanWordDrop (a0 a1) (s : State) : exec (.orphanWordDrop a0 a1) s = execOrphanWordDrop a0 a1 s := rfl

theorem exec_outputFrameStart (a0 a1 a2) (s : State) : exec (.outputFrameStart a0 a1 a2) s = execOutputFrameStart a0 a1 a2 s := rfl

theorem exec_creditWordReceive (a0 a1) (s : State) : exec (.creditWordReceive a0 a1) s = execCreditWordReceive a0 a1 s := rfl

theorem exec_creditWordInsert (a0) (s : State) : exec (.creditWordInsert a0) s = execCreditWordInsert a0 s := rfl

theorem exec_outputStall (a0) (s : State) : exec (.outputStall a0) s = execOutputStall a0 s := rfl

theorem exec_lingerExpiry (a0) (s : State) : exec (.lingerExpiry a0) s = execLingerExpiry a0 s := rfl

theorem exec_sharedPeakRead (a0) (s : State) : exec (.sharedPeakRead a0) s = execSharedPeakRead a0 s := rfl

theorem exec_reseqPeakRead (a0 a1) (s : State) : exec (.reseqPeakRead a0 a1) s = execReseqPeakRead a0 a1 s := rfl

theorem exec_postedWriteIssue (a0 a1 a2) (s : State) : exec (.postedWriteIssue a0 a1 a2) s = execPostedWriteIssue a0 a1 a2 s := rfl

theorem exec_postedWriteReceive (a0) (s : State) : exec (.postedWriteReceive a0) s = execPostedWriteReceive a0 s := rfl

theorem exec_postedWriteResume (a0) (s : State) : exec (.postedWriteResume a0) s = execPostedWriteResume a0 s := rfl

theorem exec_targetWaitExpiry (a0) (s : State) : exec (.targetWaitExpiry a0) s = execTargetWaitExpiry a0 s := rfl

theorem exec_requestIssue (a0 a1 a2 a3 a4) (s : State) : exec (.requestIssue a0 a1 a2 a3 a4) s = execRequestIssue a0 a1 a2 a3 a4 s := rfl

theorem exec_tagWaitResume (s : State) : exec (.tagWaitResume) s = execTagWaitResume s := rfl

theorem exec_readRequestReceive (a0) (s : State) : exec (.readRequestReceive a0) s = execReadRequestReceive a0 s := rfl

theorem exec_writeRequestReceive (a0) (s : State) : exec (.writeRequestReceive a0) s = execWriteRequestReceive a0 s := rfl

theorem exec_badOpRequest (a0) (s : State) : exec (.badOpRequest a0) s = execBadOpRequest a0 s := rfl

theorem exec_readResponseReceive (s : State) : exec (.readResponseReceive) s = execReadResponseReceive s := rfl

theorem exec_writeResponseReceive (s : State) : exec (.writeResponseReceive) s = execWriteResponseReceive s := rfl

theorem exec_readTimeout (a0) (s : State) : exec (.readTimeout a0) s = execReadTimeout a0 s := rfl

theorem exec_tagReissueHoldEnd (a0) (s : State) : exec (.tagReissueHoldEnd a0) s = execTagReissueHoldEnd a0 s := rfl

theorem exec_responseRoomWaitEnd (s : State) : exec (.responseRoomWaitEnd) s = execResponseRoomWaitEnd s := rfl

theorem exec_transferAbort (s : State) : exec (.transferAbort) s = execTransferAbort s := rfl

theorem exec_prefetchReadAhead (s : State) : exec (.prefetchReadAhead) s = execPrefetchReadAhead s := rfl

theorem exec_prefetchHoldExpiry (s : State) : exec (.prefetchHoldExpiry) s = execPrefetchHoldExpiry s := rfl

theorem exec_popWindowRead (a0 a1) (s : State) : exec (.popWindowRead a0 a1) s = execPopWindowRead a0 a1 s := rfl

theorem exec_userWindowRead (a0 a1) (s : State) : exec (.userWindowRead a0 a1) s = execUserWindowRead a0 a1 s := rfl

theorem exec_userWindowWrite (a0 a1 a2) (s : State) : exec (.userWindowWrite a0 a1 a2) s = execUserWindowWrite a0 a1 a2 s := rfl

theorem exec_workTimeWindowRead (a0) (s : State) : exec (.workTimeWindowRead a0) s = execWorkTimeWindowRead a0 s := rfl

theorem exec_manifestCommit (a0) (s : State) : exec (.manifestCommit a0) s = execManifestCommit a0 s := rfl

theorem exec_manifestCommitComplete (s : State) : exec (.manifestCommitComplete) s = execManifestCommitComplete s := rfl

theorem exec_craneWait (a0) (s : State) : exec (.craneWait a0) s = execCraneWait a0 s := rfl

theorem exec_waitWake (a0 a1 a2) (s : State) : exec (.waitWake a0 a1 a2) s = execWaitWake a0 a1 a2 s := rfl

theorem exec_craneShin (a0) (s : State) : exec (.craneShin a0) s = execCraneShin a0 s := rfl

theorem exec_craneShout (a0) (s : State) : exec (.craneShout a0) s = execCraneShout a0 s := rfl

theorem exec_shiftEnd (a0 a1 a2 a3) (s : State) : exec (.shiftEnd a0 a1 a2 a3) s = execShiftEnd a0 a1 a2 a3 s := rfl

theorem exec_cranePush (a0) (s : State) : exec (.cranePush a0) s = execCranePush a0 s := rfl

theorem exec_pushRoomWake (a0) (s : State) : exec (.pushRoomWake a0) s = execPushRoomWake a0 s := rfl

theorem exec_cranePull (a0) (s : State) : exec (.cranePull a0) s = execCranePull a0 s := rfl

theorem exec_pullWordWake (a0) (s : State) : exec (.pullWordWake a0) s = execPullWordWake a0 s := rfl

theorem exec_craneSet (a0) (s : State) : exec (.craneSet a0) s = execCraneSet a0 s := rfl

theorem exec_craneMov (a0 a1) (s : State) : exec (.craneMov a0 a1) s = execCraneMov a0 a1 s := rfl

theorem exec_craneJmp (a0) (s : State) : exec (.craneJmp a0) s = execCraneJmp a0 s := rfl

theorem exec_craneLoop (a0) (s : State) : exec (.craneLoop a0) s = execCraneLoop a0 s := rfl

theorem exec_sigFlagSet (a0) (s : State) : exec (.sigFlagSet a0) s = execSigFlagSet a0 s := rfl

theorem exec_sigFlagClear (a0 a1) (s : State) : exec (.sigFlagClear a0 a1) s = execSigFlagClear a0 a1 s := rfl

theorem exec_sigIrq (a0) (s : State) : exec (.sigIrq a0) s = execSigIrq a0 s := rfl

theorem exec_sigNote (a0) (s : State) : exec (.sigNote a0) s = execSigNote a0 s := rfl

theorem exec_craneStamp (a0) (s : State) : exec (.craneStamp a0) s = execCraneStamp a0 s := rfl

theorem exec_craneSync (a0) (s : State) : exec (.craneSync a0) s = execCraneSync a0 s := rfl

theorem exec_syncRelease (a0) (s : State) : exec (.syncRelease a0) s = execSyncRelease a0 s := rfl

theorem exec_craneChk (a0 a1) (s : State) : exec (.craneChk a0 a1) s = execCraneChk a0 a1 s := rfl

theorem exec_chkUnitWake (a0) (s : State) : exec (.chkUnitWake a0) s = execChkUnitWake a0 s := rfl

theorem exec_instructionDelayEnd (a0) (s : State) : exec (.instructionDelayEnd a0) s = execInstructionDelayEnd a0 s := rfl

theorem exec_tallyFetchError (a0 a1) (s : State) : exec (.tallyFetchError a0 a1) s = execTallyFetchError a0 a1 s := rfl

theorem exec_craneHalt (a0 a1) (s : State) : exec (.craneHalt a0 a1) s = execCraneHalt a0 a1 s := rfl

theorem exec_craneRestart (a0 a1) (s : State) : exec (.craneRestart a0 a1) s = execCraneRestart a0 a1 s := rfl

theorem exec_craneStart (a0 a1) (s : State) : exec (.craneStart a0 a1) s = execCraneStart a0 a1 s := rfl

theorem exec_gangStart (a0 a1) (s : State) : exec (.gangStart a0 a1) s = execGangStart a0 a1 s := rfl

theorem exec_gangHalt (a0 a1) (s : State) : exec (.gangHalt a0 a1) s = execGangHalt a0 a1 s := rfl

theorem exec_clockRestart (a0 a1) (s : State) : exec (.clockRestart a0 a1) s = execClockRestart a0 a1 s := rfl

theorem exec_quayCommit (a0 a1) (s : State) : exec (.quayCommit a0 a1) s = execQuayCommit a0 a1 s := rfl

theorem exec_quayFlagsWrite (a0 a1 a2) (s : State) : exec (.quayFlagsWrite a0 a1 a2) s = execQuayFlagsWrite a0 a1 a2 s := rfl

theorem exec_quayIrqClear (a0 a1 a2) (s : State) : exec (.quayIrqClear a0 a1 a2) s = execQuayIrqClear a0 a1 a2 s := rfl

theorem exec_tallyLoad (a0 a1) (s : State) : exec (.tallyLoad a0 a1) s = execTallyLoad a0 a1 s := rfl

theorem exec_tallyReadDataRead (a0) (s : State) : exec (.tallyReadDataRead a0) s = execTallyReadDataRead a0 s := rfl

theorem exec_stageLoad (a0 a1) (s : State) : exec (.stageLoad a0 a1) s = execStageLoad a0 a1 s := rfl

theorem exec_swapArm (a0) (s : State) : exec (.swapArm a0) s = execSwapArm a0 s := rfl

theorem exec_swapCancel (a0) (s : State) : exec (.swapCancel a0) s = execSwapCancel a0 s := rfl

theorem exec_swapCopyComplete (s : State) : exec (.swapCopyComplete) s = execSwapCopyComplete s := rfl

theorem exec_scrubRead (a0) (s : State) : exec (.scrubRead a0) s = execScrubRead a0 s := rfl

theorem exec_fifoParityError (a0) (s : State) : exec (.fifoParityError a0) s = execFifoParityError a0 s := rfl

theorem exec_fifoFlush (a0 a1 a2) (s : State) : exec (.fifoFlush a0 a1 a2) s = execFifoFlush a0 a1 a2 s := rfl

theorem exec_noticePendClear (a0 a1 a2) (s : State) : exec (.noticePendClear a0 a1 a2) s = execNoticePendClear a0 a1 a2 s := rfl

theorem exec_checkFeed (a0 a1 a2 a3 a4) (s : State) : exec (.checkFeed a0 a1 a2 a3 a4) s = execCheckFeed a0 a1 a2 a3 a4 s := rfl

theorem exec_checkAccessWaitEnd (a0) (s : State) : exec (.checkAccessWaitEnd a0) s = execCheckAccessWaitEnd a0 s := rfl

theorem exec_checkResultWrite (a0 a1) (s : State) : exec (.checkResultWrite a0 a1) s = execCheckResultWrite a0 a1 s := rfl

theorem exec_checkUnitInit (a0) (s : State) : exec (.checkUnitInit a0) s = execCheckUnitInit a0 s := rfl

theorem exec_checkPolyChange (a0 a1) (s : State) : exec (.checkPolyChange a0 a1) s = execCheckPolyChange a0 a1 s := rfl

theorem exec_checkParityError (a0) (s : State) : exec (.checkParityError a0) s = execCheckParityError a0 s := rfl

theorem exec_canFrameReceive (a0 a1 a2) (s : State) : exec (.canFrameReceive a0 a1 a2) s = execCanFrameReceive a0 a1 a2 s := rfl

theorem exec_canRxError (a0 a1 a2 a3) (s : State) : exec (.canRxError a0 a1 a2 a3) s = execCanRxError a0 a1 a2 a3 s := rfl

theorem exec_canTxChoose (a0) (s : State) : exec (.canTxChoose a0) s = execCanTxChoose a0 s := rfl

theorem exec_canArbLost (a0) (s : State) : exec (.canArbLost a0) s = execCanArbLost a0 s := rfl

theorem exec_canTxComplete (a0 a1 a2) (s : State) : exec (.canTxComplete a0 a1 a2) s = execCanTxComplete a0 a1 a2 s := rfl

theorem exec_canTxError (a0 a1 a2 a3 a4) (s : State) : exec (.canTxError a0 a1 a2 a3 a4) s = execCanTxError a0 a1 a2 a3 a4 s := rfl

theorem exec_canRecover (a0 a1) (s : State) : exec (.canRecover a0 a1) s = execCanRecover a0 a1 s := rfl

theorem exec_canRecoveryComplete (a0) (s : State) : exec (.canRecoveryComplete a0) s = execCanRecoveryComplete a0 s := rfl

theorem exec_canBufferTransmit (a0 a1 a2) (s : State) : exec (.canBufferTransmit a0 a1 a2) s = execCanBufferTransmit a0 a1 a2 s := rfl

theorem exec_canBufferAbort (a0 a1) (s : State) : exec (.canBufferAbort a0 a1) s = execCanBufferAbort a0 a1 s := rfl

theorem exec_canBufferRelease (a0 a1) (s : State) : exec (.canBufferRelease a0 a1) s = execCanBufferRelease a0 a1 s := rfl

theorem exec_canGwQueueEmpty (a0 a1) (s : State) : exec (.canGwQueueEmpty a0 a1) s = execCanGwQueueEmpty a0 a1 s := rfl

theorem exec_canRxQueueEmpty (a0 a1) (s : State) : exec (.canRxQueueEmpty a0 a1) s = execCanRxQueueEmpty a0 a1 s := rfl

theorem exec_canCommit (a0 a1) (s : State) : exec (.canCommit a0 a1) s = execCanCommit a0 a1 s := rfl

theorem exec_canConfigApply (a0) (s : State) : exec (.canConfigApply a0) s = execCanConfigApply a0 s := rfl

theorem exec_canIrqClear (a0 a1 a2) (s : State) : exec (.canIrqClear a0 a1 a2) s = execCanIrqClear a0 a1 a2 s := rfl

theorem exec_canBusJoin (a0) (s : State) : exec (.canBusJoin a0) s = execCanBusJoin a0 s := rfl

theorem exec_timeWordsReceive (a0 a1 a2 a3) (s : State) : exec (.timeWordsReceive a0 a1 a2 a3) s = execTimeWordsReceive a0 a1 a2 a3 s := rfl

theorem exec_echoWordsReceive (a0 a1 a2 a3 a4) (s : State) : exec (.echoWordsReceive a0 a1 a2 a3 a4) s = execEchoWordsReceive a0 a1 a2 a3 a4 s := rfl

theorem exec_ppsEdge (a0) (s : State) : exec (.ppsEdge a0) s = execPpsEdge a0 s := rfl

theorem exec_ppsMissTimeout (s : State) : exec (.ppsMissTimeout) s = execPpsMissTimeout s := rfl

theorem exec_timeSetWrite (a0 a1) (s : State) : exec (.timeSetWrite a0 a1) s = execTimeSetWrite a0 a1 s := rfl

theorem exec_domainSwitchWrite (a0 a1) (s : State) : exec (.domainSwitchWrite a0 a1) s = execDomainSwitchWrite a0 a1 s := rfl

theorem exec_pinEdge (a0 a1 a2 a3) (s : State) : exec (.pinEdge a0 a1 a2 a3) s = execPinEdge a0 a1 a2 a3 s := rfl

theorem exec_pulseArm (a0 a1 a2 a3) (s : State) : exec (.pulseArm a0 a1 a2 a3) s = execPulseArm a0 a1 a2 a3 s := rfl

theorem exec_pulseStop (a0 a1 a2) (s : State) : exec (.pulseStop a0 a1 a2) s = execPulseStop a0 a1 a2 s := rfl

theorem exec_pulseEdge (a0) (s : State) : exec (.pulseEdge a0) s = execPulseEdge a0 s := rfl

theorem exec_pulseTargetRelease (a0 a1 a2) (s : State) : exec (.pulseTargetRelease a0 a1 a2) s = execPulseTargetRelease a0 a1 a2 s := rfl

theorem exec_heartbeatReceive (a0) (s : State) : exec (.heartbeatReceive a0) s = execHeartbeatReceive a0 s := rfl

theorem exec_healthReportReceive (a0) (s : State) : exec (.healthReportReceive a0) s = execHealthReportReceive a0 s := rfl

theorem exec_twinFrameDrop (a0) (s : State) : exec (.twinFrameDrop a0) s = execTwinFrameDrop a0 s := rfl

theorem exec_selftestCycleEnd (s : State) : exec (.selftestCycleEnd) s = execSelftestCycleEnd s := rfl

theorem exec_giveUp (s : State) : exec (.giveUp) s = execGiveUp s := rfl

theorem exec_handover (a0) (s : State) : exec (.handover a0) s = execHandover a0 s := rfl

theorem exec_handoverAbort (a0) (s : State) : exec (.handoverAbort a0) s = execHandoverAbort a0 s := rfl

theorem exec_stateSave (a0) (s : State) : exec (.stateSave a0) s = execStateSave a0 s := rfl

theorem exec_savedStateWriteComplete (a0) (s : State) : exec (.savedStateWriteComplete a0) s = execSavedStateWriteComplete a0 s := rfl

theorem exec_stateCopyReceive (a0 a1) (s : State) : exec (.stateCopyReceive a0 a1) s = execStateCopyReceive a0 a1 s := rfl

theorem exec_copyAckReceive (a0) (s : State) : exec (.copyAckReceive a0) s = execCopyAckReceive a0 s := rfl

theorem exec_copyRetryTimer (s : State) : exec (.copyRetryTimer) s = execCopyRetryTimer s := rfl

theorem exec_takeoverStart (s : State) : exec (.takeoverStart) s = execTakeoverStart s := rfl

theorem exec_pickupSample (a0) (s : State) : exec (.pickupSample a0) s = execPickupSample a0 s := rfl

theorem exec_ownershipClaim (a0) (s : State) : exec (.ownershipClaim a0) s = execOwnershipClaim a0 s := rfl

theorem exec_keeperRelease (s : State) : exec (.keeperRelease) s = execKeeperRelease s := rfl

theorem exec_claimWaitExpiry (s : State) : exec (.claimWaitExpiry) s = execClaimWaitExpiry s := rfl

theorem exec_faultEvent (a0) (s : State) : exec (.faultEvent a0) s = execFaultEvent a0 s := rfl

theorem exec_recordStoreParity (a0) (s : State) : exec (.recordStoreParity a0) s = execRecordStoreParity a0 s := rfl

theorem exec_faultListRead (a0) (s : State) : exec (.faultListRead a0) s = execFaultListRead a0 s := rfl

theorem exec_faultClearOne (a0 a1 a2) (s : State) : exec (.faultClearOne a0 a1 a2) s = execFaultClearOne a0 a1 a2 s := rfl

theorem exec_faultClearCorrected (a0) (s : State) : exec (.faultClearCorrected a0) s = execFaultClearCorrected a0 s := rfl

theorem exec_faultClearContained (a0) (s : State) : exec (.faultClearContained a0) s = execFaultClearContained a0 s := rfl

theorem exec_faultInjectRecord (a0 a1 a2 a3) (s : State) : exec (.faultInjectRecord a0 a1 a2 a3) s = execFaultInjectRecord a0 a1 a2 a3 s := rfl

theorem exec_faultInjectSingleBit (a0 a1 a2 a3 a4) (s : State) : exec (.faultInjectSingleBit a0 a1 a2 a3 a4) s = execFaultInjectSingleBit a0 a1 a2 a3 a4 s := rfl

theorem exec_faultInjectDoubleBit (a0 a1 a2 a3 a4) (s : State) : exec (.faultInjectDoubleBit a0 a1 a2 a3 a4) s = execFaultInjectDoubleBit a0 a1 a2 a3 a4 s := rfl

theorem exec_gwSample (a0 a1 a2 a3) (s : State) : exec (.gwSample a0 a1 a2 a3) s = execGwSample a0 a1 a2 a3 s := rfl

theorem exec_gwEnHigh (s : State) : exec (.gwEnHigh) s = execGwEnHigh s := rfl

theorem exec_gwEnLowDrop (s : State) : exec (.gwEnLowDrop) s = execGwEnLowDrop s := rfl

theorem exec_gwInsertDelayEnd (s : State) : exec (.gwInsertDelayEnd) s = execGwInsertDelayEnd s := rfl

theorem exec_gwFastTrip (a0) (s : State) : exec (.gwFastTrip a0) s = execGwFastTrip a0 s := rfl

theorem exec_gwRampTimeout (s : State) : exec (.gwRampTimeout) s = execGwRampTimeout s := rfl

theorem exec_gwFaultTimerExpiry (s : State) : exec (.gwFaultTimerExpiry) s = execGwFaultTimerExpiry s := rfl

theorem exec_gwDiodeReading (a0) (s : State) : exec (.gwDiodeReading a0) s = execGwDiodeReading a0 s := rfl

theorem exec_gwCooldownEnd (s : State) : exec (.gwCooldownEnd) s = execGwCooldownEnd s := rfl

theorem exec_gwPowerGood (s : State) : exec (.gwPowerGood) s = execGwPowerGood s := rfl

theorem exec_gwUndervoltageDrop (s : State) : exec (.gwUndervoltageDrop) s = execGwUndervoltageDrop s := rfl

theorem exec_gwOvervoltageDrop (s : State) : exec (.gwOvervoltageDrop) s = execGwOvervoltageDrop s := rfl

theorem exec_gwPeakTRead (a0) (s : State) : exec (.gwPeakTRead a0) s = execGwPeakTRead a0 s := rfl

theorem exec_segRead (a0 a1 a2 a3 a4) (s : State) : exec (.segRead a0 a1 a2 a3 a4) s = execSegRead a0 a1 a2 a3 a4 s := rfl

theorem exec_segWrite (a0 a1 a2 a3 a4 a5) (s : State) : exec (.segWrite a0 a1 a2 a3 a4 a5) s = execSegWrite a0 a1 a2 a3 a4 a5 s := rfl

theorem exec_segAbort (a0 a1 a2) (s : State) : exec (.segAbort a0 a1 a2) s = execSegAbort a0 a1 a2 s := rfl

theorem exec_objInfo (a0 a1 a2) (s : State) : exec (.objInfo a0 a1 a2) s = execObjInfo a0 a1 a2 s := rfl

theorem exec_segTimeoutExpiry (a0 a1 a2) (s : State) : exec (.segTimeoutExpiry a0 a1 a2) s = execSegTimeoutExpiry a0 a1 a2 s := rfl

theorem exec_gangplankDatagram (a0) (s : State) : exec (.gangplankDatagram a0) s = execGangplankDatagram a0 s := rfl

theorem exec_arpRequest (a0) (s : State) : exec (.arpRequest a0) s = execArpRequest a0 s := rfl

theorem exec_lockOpen (a0 a1) (s : State) : exec (.lockOpen a0 a1) s = execLockOpen a0 a1 s := rfl

theorem exec_lockClose (a0) (s : State) : exec (.lockClose a0) s = execLockClose a0 s := rfl

theorem exec_lockTimeoutExpiry (s : State) : exec (.lockTimeoutExpiry) s = execLockTimeoutExpiry s := rfl

theorem exec_lockLockoutEnd (s : State) : exec (.lockLockoutEnd) s = execLockLockoutEnd s := rfl

theorem exec_updOpen (a0) (s : State) : exec (.updOpen a0) s = execUpdOpen a0 s := rfl

theorem exec_updOpenResume (a0) (s : State) : exec (.updOpenResume a0) s = execUpdOpenResume a0 s := rfl

theorem exec_updEraseComplete (s : State) : exec (.updEraseComplete) s = execUpdEraseComplete s := rfl

theorem exec_updChunkWrite (a0 a1) (s : State) : exec (.updChunkWrite a0 a1) s = execUpdChunkWrite a0 a1 s := rfl

theorem exec_updVerify (a0) (s : State) : exec (.updVerify a0) s = execUpdVerify a0 s := rfl

theorem exec_updVerifyComplete (s : State) : exec (.updVerifyComplete) s = execUpdVerifyComplete s := rfl

theorem exec_updActivate (a0) (s : State) : exec (.updActivate a0) s = execUpdActivate a0 s := rfl

theorem exec_activateRecordVerified (s : State) : exec (.activateRecordVerified) s = execActivateRecordVerified s := rfl

theorem exec_activateLoadComplete (s : State) : exec (.activateLoadComplete) s = execActivateLoadComplete s := rfl

theorem exec_updConfirm (a0) (s : State) : exec (.updConfirm a0) s = execUpdConfirm a0 s := rfl

theorem exec_updClose (a0) (s : State) : exec (.updClose a0) s = execUpdClose a0 s := rfl

theorem exec_updAbort (a0) (s : State) : exec (.updAbort a0) s = execUpdAbort a0 s := rfl

theorem exec_updTrialExpiry (s : State) : exec (.updTrialExpiry) s = execUpdTrialExpiry s := rfl

theorem exec_relayOpen (s : State) : exec (.relayOpen) s = execRelayOpen s := rfl

theorem exec_relayBlock (s : State) : exec (.relayBlock) s = execRelayBlock s := rfl

theorem exec_relayVerify (s : State) : exec (.relayVerify) s = execRelayVerify s := rfl

theorem exec_relayActivate (s : State) : exec (.relayActivate) s = execRelayActivate s := rfl

theorem exec_relayConfirm (s : State) : exec (.relayConfirm) s = execRelayConfirm s := rfl

theorem exec_relayClose (s : State) : exec (.relayClose) s = execRelayClose s := rfl

theorem exec_relayFrameDrop (s : State) : exec (.relayFrameDrop) s = execRelayFrameDrop s := rfl

theorem exec_vaonInvalid (s : State) : exec (.vaonInvalid) s = execVaonInvalid s := rfl

theorem exec_dieTempUpdate (a0) (s : State) : exec (.dieTempUpdate a0) s = execDieTempUpdate a0 s := rfl

end Sys2Proof.Laws
end

