-- ==== Sys2Proof/Laws/FormDictCommands.lean ====
section
/-! SUPPORT. Every operation of Machine/DictCommands.lean keeps the form of the state and leaves the queue alone (`State.Wf`). -/

namespace Sys2Proof.Machine

set_option linter.unusedVariables false
set_option maxRecDepth 2000

variable {q : List Instr}

theorem readVal_wf (a0 a1 s) (h : State.Wf q s) : State.Wf q (readVal a0 a1 s) := by grind only [readVal, shown_wf, dictRead_wf, wf_mk, foldl_wf, State.Wf.claims, State.Wf.owner, State.Wf.origin]

theorem pulseWrite_wf (a0 a1 a2 a3 s) (h : State.Wf q s) : State.Wf q (pulseWrite a0 a1 a2 a3 s) := by grind only [pulseWrite, shown_wf, serve_wf, withObj_wf, lockRestart_wf, pgControlWrite_wf, wf_mk, foldl_wf, State.Wf.claims, State.Wf.owner, State.Wf.origin]

theorem writeBytes_wf (a0 a1 a2 s) (h : State.Wf q s) : State.Wf q (writeBytes a0 a1 a2 s) := by grind only [writeBytes, shown_wf, dictWrite_wf, wf_mk, foldl_wf, State.Wf.claims, State.Wf.owner, State.Wf.origin]

theorem execUpdChunkWrite_wf (a0 a1 s t) (h : State.Wf q s) (e : execUpdChunkWrite a0 a1 s = .next t) : State.Wf q t := by grind only [execUpdChunkWrite, writeBytes_wf, wf_mk, foldl_wf, State.Wf.claims, State.Wf.owner, State.Wf.origin]

theorem execReseqPeakRead_wf (a0 a1 s t) (h : State.Wf q s) (e : execReseqPeakRead a0 a1 s = .next t) : State.Wf q t := by grind only [execReseqPeakRead, readVal_wf, wf_mk, foldl_wf, State.Wf.claims, State.Wf.owner, State.Wf.origin]

theorem writeVal_wf (a0 a1 a2 s) (h : State.Wf q s) : State.Wf q (writeVal a0 a1 a2 s) := by grind only [writeVal, shown_wf, dictWrite_wf, wf_mk, foldl_wf, State.Wf.claims, State.Wf.owner, State.Wf.origin]

theorem execCanCommit_wf (a0 a1 s t) (h : State.Wf q s) (e : execCanCommit a0 a1 s = .next t) : State.Wf q t := by grind only [execCanCommit, writeVal_wf, wf_mk, foldl_wf, State.Wf.claims, State.Wf.owner, State.Wf.origin]

theorem execPulseArm_wf (a0 a1 a2 a3 s t) (h : State.Wf q s) (e : execPulseArm a0 a1 a2 a3 s = .next t) : State.Wf q t := by grind only [execPulseArm, pulseWrite_wf, wf_mk, foldl_wf, State.Wf.claims, State.Wf.owner, State.Wf.origin]

theorem execUpdActivate_wf (a0 s t) (h : State.Wf q s) (e : execUpdActivate a0 s = .next t) : State.Wf q t := by grind only [execUpdActivate, writeVal_wf, wf_mk, foldl_wf, State.Wf.claims, State.Wf.owner, State.Wf.origin]

theorem execGangStart_wf (a0 a1 s t) (h : State.Wf q s) (e : execGangStart a0 a1 s = .next t) : State.Wf q t := by grind only [execGangStart, writeVal_wf, wf_mk, foldl_wf, State.Wf.claims, State.Wf.owner, State.Wf.origin]

theorem execQuayCommit_wf (a0 a1 s t) (h : State.Wf q s) (e : execQuayCommit a0 a1 s = .next t) : State.Wf q t := by grind only [execQuayCommit, writeVal_wf, wf_mk, foldl_wf, State.Wf.claims, State.Wf.owner, State.Wf.origin]

theorem execResetCmdWrite_wf (a0 a1 s t) (h : State.Wf q s) (e : execResetCmdWrite a0 a1 s = .next t) : State.Wf q t := by grind only [execResetCmdWrite, writeVal_wf, wf_mk, foldl_wf, State.Wf.claims, State.Wf.owner, State.Wf.origin]

theorem execPrbsGenerateSet_wf (a0 a1 a2 s t) (h : State.Wf q s) (e : execPrbsGenerateSet a0 a1 a2 s = .next t) : State.Wf q t := by grind only [execPrbsGenerateSet, writeVal_wf, wf_mk, foldl_wf, State.Wf.claims, State.Wf.owner, State.Wf.origin]

theorem execObjectWrite_wf (a0 a1 a2 a3 s t) (h : State.Wf q s) (e : execObjectWrite a0 a1 a2 a3 s = .next t) : State.Wf q t := by grind only [execObjectWrite, shown_wf, dictWrite_wf, wf_mk, foldl_wf, State.Wf.claims, State.Wf.owner, State.Wf.origin]

theorem execCraneHalt_wf (a0 a1 s t) (h : State.Wf q s) (e : execCraneHalt a0 a1 s = .next t) : State.Wf q t := by grind only [execCraneHalt, writeVal_wf, wf_mk, foldl_wf, State.Wf.claims, State.Wf.owner, State.Wf.origin]

theorem execFaultClearContained_wf (a0 s t) (h : State.Wf q s) (e : execFaultClearContained a0 s = .next t) : State.Wf q t := by grind only [execFaultClearContained, writeVal_wf, wf_mk, foldl_wf, State.Wf.claims, State.Wf.owner, State.Wf.origin]

theorem execUpdClose_wf (a0 s t) (h : State.Wf q s) (e : execUpdClose a0 s = .next t) : State.Wf q t := by grind only [execUpdClose, writeVal_wf, wf_mk, foldl_wf, State.Wf.claims, State.Wf.owner, State.Wf.origin]

theorem execPulseTargetRelease_wf (a0 a1 a2 s t) (h : State.Wf q s) (e : execPulseTargetRelease a0 a1 a2 s = .next t) : State.Wf q t := by grind only [execPulseTargetRelease, pulseWrite_wf, wf_mk, foldl_wf, State.Wf.claims, State.Wf.owner, State.Wf.origin]

theorem execUpdConfirm_wf (a0 s t) (h : State.Wf q s) (e : execUpdConfirm a0 s = .next t) : State.Wf q t := by grind only [execUpdConfirm, writeVal_wf, wf_mk, foldl_wf, State.Wf.claims, State.Wf.owner, State.Wf.origin]

theorem execPrbsCheckSet_wf (a0 a1 a2 s t) (h : State.Wf q s) (e : execPrbsCheckSet a0 a1 a2 s = .next t) : State.Wf q t := by grind only [execPrbsCheckSet, writeVal_wf, wf_mk, foldl_wf, State.Wf.claims, State.Wf.owner, State.Wf.origin]

theorem execStageLoad_wf (a0 a1 s t) (h : State.Wf q s) (e : execStageLoad a0 a1 s = .next t) : State.Wf q t := by grind only [execStageLoad, writeBytes_wf, wf_mk, foldl_wf, State.Wf.claims, State.Wf.owner, State.Wf.origin]

theorem execPortRetrain_wf (a0 a1 s t) (h : State.Wf q s) (e : execPortRetrain a0 a1 s = .next t) : State.Wf q t := by grind only [execPortRetrain, writeVal_wf, wf_mk, foldl_wf, State.Wf.claims, State.Wf.owner, State.Wf.origin]

theorem execLockOpen_wf (a0 a1 s t) (h : State.Wf q s) (e : execLockOpen a0 a1 s = .next t) : State.Wf q t := by grind only [execLockOpen, writeVal_wf, wf_mk, foldl_wf, State.Wf.claims, State.Wf.owner, State.Wf.origin]

theorem execLockTimeoutExpiry_wf (s t) (h : State.Wf q s) (e : execLockTimeoutExpiry s = .next t) : State.Wf q t := by grind only [execLockTimeoutExpiry, lockClose_wf, wf_mk, foldl_wf, State.Wf.claims, State.Wf.owner, State.Wf.origin]

theorem execLaneRetrain_wf (a0 a1 a2 s t) (h : State.Wf q s) (e : execLaneRetrain a0 a1 a2 s = .next t) : State.Wf q t := by grind only [execLaneRetrain, writeVal_wf, wf_mk, foldl_wf, State.Wf.claims, State.Wf.owner, State.Wf.origin]

theorem execPulseStop_wf (a0 a1 a2 s t) (h : State.Wf q s) (e : execPulseStop a0 a1 a2 s = .next t) : State.Wf q t := by grind only [execPulseStop, pulseWrite_wf, wf_mk, foldl_wf, State.Wf.claims, State.Wf.owner, State.Wf.origin]

theorem execUpdVerify_wf (a0 s t) (h : State.Wf q s) (e : execUpdVerify a0 s = .next t) : State.Wf q t := by grind only [execUpdVerify, writeVal_wf, wf_mk, foldl_wf, State.Wf.claims, State.Wf.owner, State.Wf.origin]

theorem execStateSave_wf (a0 s t) (h : State.Wf q s) (e : execStateSave a0 s = .next t) : State.Wf q t := by grind only [execStateSave, writeVal_wf, wf_mk, foldl_wf, State.Wf.claims, State.Wf.owner, State.Wf.origin]

theorem execFaultClearOne_wf (a0 a1 a2 s t) (h : State.Wf q s) (e : execFaultClearOne a0 a1 a2 s = .next t) : State.Wf q t := by grind only [execFaultClearOne, writeVal_wf, wf_mk, foldl_wf, State.Wf.claims, State.Wf.owner, State.Wf.origin]

theorem execLoopModeWrite_wf (a0 a1 a2 s t) (h : State.Wf q s) (e : execLoopModeWrite a0 a1 a2 s = .next t) : State.Wf q t := by grind only [execLoopModeWrite, writeVal_wf, wf_mk, foldl_wf, State.Wf.claims, State.Wf.owner, State.Wf.origin]

theorem execFaultListRead_wf (a0 s t) (h : State.Wf q s) (e : execFaultListRead a0 s = .next t) : State.Wf q t := by grind only [execFaultListRead, readVal_wf, wf_mk, foldl_wf, State.Wf.claims, State.Wf.owner, State.Wf.origin]

theorem execFaultInjectSingleBit_wf (a0 a1 a2 a3 a4 s t) (h : State.Wf q s) (e : execFaultInjectSingleBit a0 a1 a2 a3 a4 s = .next t) : State.Wf q t := by grind only [execFaultInjectSingleBit, writeVal_wf, wf_mk, foldl_wf, State.Wf.claims, State.Wf.owner, State.Wf.origin]

theorem execBlockResetAbort_wf (a0 s t) (h : State.Wf q s) (e : execBlockResetAbort a0 s = .next t) : State.Wf q t := by grind only [execBlockResetAbort, writeVal_wf, wf_mk, foldl_wf, State.Wf.claims, State.Wf.owner, State.Wf.origin]

theorem execQuayFlagsWrite_wf (a0 a1 a2 s t) (h : State.Wf q s) (e : execQuayFlagsWrite a0 a1 a2 s = .next t) : State.Wf q t := by grind only [execQuayFlagsWrite, writeVal_wf, wf_mk, foldl_wf, State.Wf.claims, State.Wf.owner, State.Wf.origin]

theorem execSwapCancel_wf (a0 s t) (h : State.Wf q s) (e : execSwapCancel a0 s = .next t) : State.Wf q t := by grind only [execSwapCancel, writeVal_wf, wf_mk, foldl_wf, State.Wf.claims, State.Wf.owner, State.Wf.origin]

theorem execCanGwQueueEmpty_wf (a0 a1 s t) (h : State.Wf q s) (e : execCanGwQueueEmpty a0 a1 s = .next t) : State.Wf q t := by grind only [execCanGwQueueEmpty, writeVal_wf, wf_mk, foldl_wf, State.Wf.claims, State.Wf.owner, State.Wf.origin]

theorem execTimeSetWrite_wf (a0 a1 s t) (h : State.Wf q s) (e : execTimeSetWrite a0 a1 s = .next t) : State.Wf q t := by grind only [execTimeSetWrite, writeVal_wf, wf_mk, foldl_wf, State.Wf.claims, State.Wf.owner, State.Wf.origin]

theorem execHandover_wf (a0 s t) (h : State.Wf q s) (e : execHandover a0 s = .next t) : State.Wf q t := by grind only [execHandover, writeVal_wf, wf_mk, foldl_wf, State.Wf.claims, State.Wf.owner, State.Wf.origin]

theorem execCanRecover_wf (a0 a1 s t) (h : State.Wf q s) (e : execCanRecover a0 a1 s = .next t) : State.Wf q t := by grind only [execCanRecover, writeVal_wf, wf_mk, foldl_wf, State.Wf.claims, State.Wf.owner, State.Wf.origin]

theorem execWdtPeriodWrite_wf (a0 a1 s t) (h : State.Wf q s) (e : execWdtPeriodWrite a0 a1 s = .next t) : State.Wf q t := by grind only [execWdtPeriodWrite, writeVal_wf, wf_mk, foldl_wf, State.Wf.claims, State.Wf.owner, State.Wf.origin]

theorem execCanIrqClear_wf (a0 a1 a2 s t) (h : State.Wf q s) (e : execCanIrqClear a0 a1 a2 s = .next t) : State.Wf q t := by grind only [execCanIrqClear, writeVal_wf, wf_mk, foldl_wf, State.Wf.claims, State.Wf.owner, State.Wf.origin]

theorem execUpdOpen_wf (a0 s t) (h : State.Wf q s) (e : execUpdOpen a0 s = .next t) : State.Wf q t := by grind only [execUpdOpen, writeVal_wf, wf_mk, foldl_wf, State.Wf.claims, State.Wf.owner, State.Wf.origin]

theorem execCraneRestart_wf (a0 a1 s t) (h : State.Wf q s) (e : execCraneRestart a0 a1 s = .next t) : State.Wf q t := by grind only [execCraneRestart, writeVal_wf, wf_mk, foldl_wf, State.Wf.claims, State.Wf.owner, State.Wf.origin]

theorem execUpdAbort_wf (a0 s t) (h : State.Wf q s) (e : execUpdAbort a0 s = .next t) : State.Wf q t := by grind only [execUpdAbort, writeVal_wf, wf_mk, foldl_wf, State.Wf.claims, State.Wf.owner, State.Wf.origin]

theorem execDomainSwitchWrite_wf (a0 a1 s t) (h : State.Wf q s) (e : execDomainSwitchWrite a0 a1 s = .next t) : State.Wf q t := by grind only [execDomainSwitchWrite, writeVal_wf, wf_mk, foldl_wf, State.Wf.claims, State.Wf.owner, State.Wf.origin]

theorem execGwPeakTRead_wf (a0 s t) (h : State.Wf q s) (e : execGwPeakTRead a0 s = .next t) : State.Wf q t := by grind only [execGwPeakTRead, readVal_wf, wf_mk, foldl_wf, State.Wf.claims, State.Wf.owner, State.Wf.origin]

theorem execSharedPeakRead_wf (a0 s t) (h : State.Wf q s) (e : execSharedPeakRead a0 s = .next t) : State.Wf q t := by grind only [execSharedPeakRead, readVal_wf, wf_mk, foldl_wf, State.Wf.claims, State.Wf.owner, State.Wf.origin]

theorem execManifestCommit_wf (a0 s t) (h : State.Wf q s) (e : execManifestCommit a0 s = .next t) : State.Wf q t := by grind only [execManifestCommit, writeVal_wf, wf_mk, foldl_wf, State.Wf.claims, State.Wf.owner, State.Wf.origin]

theorem execGangHalt_wf (a0 a1 s t) (h : State.Wf q s) (e : execGangHalt a0 a1 s = .next t) : State.Wf q t := by grind only [execGangHalt, writeVal_wf, wf_mk, foldl_wf, State.Wf.claims, State.Wf.owner, State.Wf.origin]

theorem execUpdOpenResume_wf (a0 s t) (h : State.Wf q s) (e : execUpdOpenResume a0 s = .next t) : State.Wf q t := by grind only [execUpdOpenResume, writeVal_wf, wf_mk, foldl_wf, State.Wf.claims, State.Wf.owner, State.Wf.origin]

theorem execCanRxQueueEmpty_wf (a0 a1 s t) (h : State.Wf q s) (e : execCanRxQueueEmpty a0 a1 s = .next t) : State.Wf q t := by grind only [execCanRxQueueEmpty, writeVal_wf, wf_mk, foldl_wf, State.Wf.claims, State.Wf.owner, State.Wf.origin]

theorem execLockClose_wf (a0 s t) (h : State.Wf q s) (e : execLockClose a0 s = .next t) : State.Wf q t := by grind only [execLockClose, writeVal_wf, wf_mk, foldl_wf, State.Wf.claims, State.Wf.owner, State.Wf.origin]

theorem execSwapArm_wf (a0 s t) (h : State.Wf q s) (e : execSwapArm a0 s = .next t) : State.Wf q t := by grind only [execSwapArm, writeVal_wf, wf_mk, foldl_wf, State.Wf.claims, State.Wf.owner, State.Wf.origin]

theorem execNoticePendClear_wf (a0 a1 a2 s t) (h : State.Wf q s) (e : execNoticePendClear a0 a1 a2 s = .next t) : State.Wf q t := by grind only [execNoticePendClear, writeVal_wf, wf_mk, foldl_wf, State.Wf.claims, State.Wf.owner, State.Wf.origin]

theorem execFaultInjectDoubleBit_wf (a0 a1 a2 a3 a4 s t) (h : State.Wf q s) (e : execFaultInjectDoubleBit a0 a1 a2 a3 a4 s = .next t) : State.Wf q t := by grind only [execFaultInjectDoubleBit, writeVal_wf, wf_mk, foldl_wf, State.Wf.claims, State.Wf.owner, State.Wf.origin]

theorem execTidePlanCommit_wf (a0 s t) (h : State.Wf q s) (e : execTidePlanCommit a0 s = .next t) : State.Wf q t := by grind only [execTidePlanCommit, writeVal_wf, wf_mk, foldl_wf, State.Wf.claims, State.Wf.owner, State.Wf.origin]

theorem execWatchdogKick_wf (a0 a1 s t) (h : State.Wf q s) (e : execWatchdogKick a0 a1 s = .next t) : State.Wf q t := by grind only [execWatchdogKick, writeVal_wf, wf_mk, foldl_wf, State.Wf.claims, State.Wf.owner, State.Wf.origin]

theorem execHandoverAbort_wf (a0 s t) (h : State.Wf q s) (e : execHandoverAbort a0 s = .next t) : State.Wf q t := by grind only [execHandoverAbort, handOn_wf, writeVal_wf, wf_mk, foldl_wf, State.Wf.claims, State.Wf.owner, State.Wf.origin]

theorem execCraneStart_wf (a0 a1 s t) (h : State.Wf q s) (e : execCraneStart a0 a1 s = .next t) : State.Wf q t := by grind only [execCraneStart, writeVal_wf, wf_mk, foldl_wf, State.Wf.claims, State.Wf.owner, State.Wf.origin]

theorem execTallyLoad_wf (a0 a1 s t) (h : State.Wf q s) (e : execTallyLoad a0 a1 s = .next t) : State.Wf q t := by grind only [execTallyLoad, writeBytes_wf, wf_mk, foldl_wf, State.Wf.claims, State.Wf.owner, State.Wf.origin]

theorem execPrbsCountersClear_wf (a0 a1 a2 s t) (h : State.Wf q s) (e : execPrbsCountersClear a0 a1 a2 s = .next t) : State.Wf q t := by grind only [execPrbsCountersClear, writeVal_wf, wf_mk, foldl_wf, State.Wf.claims, State.Wf.owner, State.Wf.origin]

theorem execClockRestart_wf (a0 a1 s t) (h : State.Wf q s) (e : execClockRestart a0 a1 s = .next t) : State.Wf q t := by grind only [execClockRestart, writeVal_wf, wf_mk, foldl_wf, State.Wf.claims, State.Wf.owner, State.Wf.origin]

theorem execBlockResetWrite_wf (a0 a1 s t) (h : State.Wf q s) (e : execBlockResetWrite a0 a1 s = .next t) : State.Wf q t := by grind only [execBlockResetWrite, writeVal_wf, wf_mk, foldl_wf, State.Wf.claims, State.Wf.owner, State.Wf.origin]

theorem execTallyReadDataRead_wf (a0 s t) (h : State.Wf q s) (e : execTallyReadDataRead a0 s = .next t) : State.Wf q t := by grind only [execTallyReadDataRead, readVal_wf, wf_mk, foldl_wf, State.Wf.claims, State.Wf.owner, State.Wf.origin]

theorem execFaultClearCorrected_wf (a0 s t) (h : State.Wf q s) (e : execFaultClearCorrected a0 s = .next t) : State.Wf q t := by grind only [execFaultClearCorrected, writeVal_wf, wf_mk, foldl_wf, State.Wf.claims, State.Wf.owner, State.Wf.origin]

theorem execLockLockoutEnd_wf (s t) (h : State.Wf q s) (e : execLockLockoutEnd s = .next t) : State.Wf q t := by grind only [execLockLockoutEnd, wf_mk, foldl_wf, State.Wf.claims, State.Wf.owner, State.Wf.origin]

theorem execSlipwayKeyWrite_wf (a0 a1 s t) (h : State.Wf q s) (e : execSlipwayKeyWrite a0 a1 s = .next t) : State.Wf q t := by grind only [execSlipwayKeyWrite, writeVal_wf, wf_mk, foldl_wf, State.Wf.claims, State.Wf.owner, State.Wf.origin]

theorem execQuayIrqClear_wf (a0 a1 a2 s t) (h : State.Wf q s) (e : execQuayIrqClear a0 a1 a2 s = .next t) : State.Wf q t := by grind only [execQuayIrqClear, writeVal_wf, wf_mk, foldl_wf, State.Wf.claims, State.Wf.owner, State.Wf.origin]

theorem execFifoFlush_wf (a0 a1 a2 s t) (h : State.Wf q s) (e : execFifoFlush a0 a1 a2 s = .next t) : State.Wf q t := by grind only [execFifoFlush, writeVal_wf, wf_mk, foldl_wf, State.Wf.claims, State.Wf.owner, State.Wf.origin]

theorem execFaultInjectRecord_wf (a0 a1 a2 a3 s t) (h : State.Wf q s) (e : execFaultInjectRecord a0 a1 a2 a3 s = .next t) : State.Wf q t := by grind only [execFaultInjectRecord, writeVal_wf, wf_mk, foldl_wf, State.Wf.claims, State.Wf.owner, State.Wf.origin]

end Sys2Proof.Machine
end

