-- ==== Sys2Proof/Laws/Modify.lean ====
section
/-! SUPPORT. Changing one element of a list twice. -/

namespace Sys2Proof.Laws

open Sys2Proof.Machine

theorem modifyAt_modifyAt {α : Type} (f g : α → α) : ∀ (l : List α) (i : Nat), modifyAt (modifyAt l i f) i g = modifyAt l i (fun a => g (f a))
  | [], i => by cases i <;> rfl
  | a :: l, 0 => rfl
  | a :: l, i + 1 => congrArg (a :: ·) (modifyAt_modifyAt f g l i)

end Sys2Proof.Laws
end

