-- ==== Sys2Proof/Laws/Frames.lean ====
section
/-! SUPPORT. Frames: words, delimiting, and the ports. -/

namespace Sys2Proof.Laws

open Sys2Proof.Machine

theorem delimit_frame (l : Cargo) (hl : l.kind = .last) : ∀ pay : List Cargo, (∀ w ∈ pay, w.kind = .middle) →
    delimit (pay.length + 1) (pay ++ [l]) = ⟨pay ++ [l], false, false⟩ := by
  intro pay
  induction pay with
  | nil => intro _; simp [delimit, delimit.endsFrame', hl]
  | cons a t ih =>
    intro h
    have ha : a.kind = .middle := h a (by simp)
    have := ih (fun w hw => h w (by simp [hw]))
    simp [delimit, delimit.endsFrame', ha, this]

theorem portWord_clean (w : Cargo) (h : w.bytes.toNat ≤ 8) : portWord w = w := by
  unfold portWord; rw [if_neg (by omega)]

theorem words_clean (f : Frame) : ((Frame.words f).map portWord).filter (·.v) = Frame.words f := by
  have h1 : (Frame.words f).map portWord = Frame.words f := by
    refine Eq.trans (List.map_congr_left ?_) (List.map_id _)
    intro w hw
    apply portWord_clean
    simp [Frame.words] at hw
    rcases hw with rfl | ⟨_, _, rfl⟩ | rfl <;> exact Nat.le_refl 8
  rw [h1]
  apply List.filter_eq_self.mpr
  intro w hw
  simp [Frame.words] at hw
  rcases hw with rfl | ⟨_, _, rfl⟩ | rfl <;> rfl

theorem delimit_words (f : Frame) (hl : hLen f.hdr = f.pay.length) : delimit (hLen f.hdr + 2) (Frame.words f) = ⟨Frame.words f, false, false⟩ := by
  have h := delimit_frame ⟨true, .last, 8, false, f.trl⟩ rfl (f.pay.map (fun w => (⟨true, .middle, 8, w.p, w.data⟩ : Cargo)))
    (by intro w hw; simp at hw; obtain ⟨_, _, rfl⟩ := hw; rfl)
  rw [List.length_map] at h
  rw [hl]
  simp only [Frame.words, delimit, delimit.endsFrame', h]
  simp

theorem getD_modifyAt {α : Type} (f : α → α) (d : α) : ∀ (l : List α) (i : Nat), i < l.length → (modifyAt l i f).getD i d = f (l.getD i d)
  | [], i, h => absurd h (Nat.not_lt_zero _)
  | a :: l, 0, _ => rfl
  | a :: l, i + 1, h => getD_modifyAt f d l i (Nat.lt_of_succ_lt_succ h)

theorem length_modifyAt {α : Type} (f : α → α) : ∀ (l : List α) (i : Nat), (modifyAt l i f).length = l.length
  | [], i => by cases i <;> rfl
  | a :: l, 0 => rfl
  | a :: l, i + 1 => congrArg (· + 1) (length_modifyAt f l i)

theorem modPort_port (p : Nat) (f : Port → Port) (s : State) (h : p < s.ring.ports.length) : (modPort p f s).port p = f (s.port p) := by
  unfold modPort modRing State.port
  dsimp only
  exact getD_modifyAt _ _ _ _ h

theorem modPort_len (p : Nat) (f : Port → Port) (s : State) : (modPort p f s).ring.ports.length = s.ring.ports.length := by
  exact length_modifyAt _ _ _

theorem port_of_put (s : State) (o : Obj) (v p : Nat) : (s.put o v).port p = s.port p := rfl

theorem settled_port {α : Type} (f : Port → α) (hf : ∀ q : Port, f { q with stalled := false, starved := 0 } = f q) (p : Nat) (u v : State)
    (h : p < u.ring.ports.length) (hv : v = u ∨ v = modPort p (fun q => { q with stalled := false, starved := 0 }) u) : f ((outputReturn p v).port p) = f (u.port p) := by
  have e : (outputReturn p v).port p = v.port p := by unfold outputReturn; split <;> rfl
  rw [e]
  rcases hv with rfl | rfl
  · rfl
  · rw [modPort_port _ _ _ h]; exact hf _

theorem outputReturn_port (p q : Nat) (s : State) : (outputReturn p s).port q = s.port q := by
  unfold outputReturn; split <;> rfl

theorem outputReturn_hold (p : Nat) (s : State) : (outputReturn p s).hold = s.hold := by
  unfold outputReturn; split <;> rfl

end Sys2Proof.Laws
end

