-- ==== Sys2Proof/Laws/Pair.lean ====
section
/-! SUPPORT. The twin pair. -/

namespace Sys2Proof.Laws

open Sys2Proof.Machine

theorem sp_twin (r : Req) (o : Obj) (v : Nat) (bs : List Byte) (s : State) :
    (o = Obj.handover → writeSpecial r o v bs s = some (handoverWrite v s)) ∧ (o = Obj.stateSave → writeSpecial r o v bs s = some (stateSaveWrite s)) := by
  constructor
  · rintro rfl; rfl
  · rintro rfl; rfl

theorem keepersRelease_twin (s : State) : (keepersRelease s).twin = s.twin ∧ (keepersRelease s).rst = s.rst := by
  constructor <;> rfl

theorem lockRestart_twin (o : Obj) (t : State) : (lockRestart o t).twin = t.twin := by
  unfold lockRestart; split <;> rfl

theorem accepted_twin (r : Req) (o : Obj) (t : State) : (accepted r o t).twin = t.twin := by
  unfold accepted shown settle
  exact lockRestart_twin o t

theorem keepersRelease_get (s : State) (o : Obj) : (keepersRelease s).get o = s.get o := rfl

theorem setSlot_node (i : Nat) (bs : List Byte) (s : State) : (setSlot i bs s).node = s.node := by
  unfold setSlot; split <;> rfl

end Sys2Proof.Laws
end

