-- ==== Sys2Proof/Laws/PortWrites.lean ====
section
/-! SUPPORT. Port and lane objects of the dictionary. -/

namespace Sys2Proof.Laws

open Sys2Proof.Machine

theorem sp_port (r : Req) (p : Fin 3) (o : Obj) (hi : o.idx = 0x2000 + p.val * 256) (v bs s) :
    (o.sub = 0xC → writeSpecial r o v bs s = some (loopModeWrite p.val v s)) ∧
    (o.sub = 0xE → writeSpecial r o v bs s = some (prbsWrite p.val v s)) ∧
    (o.sub = 0xF → writeSpecial r o v bs s = some (portRetrainWrite p.val s)) := by
  have := p.isLt
  have h1 : (0x2000 + p.val * 256 - 0x2000) / 256 = p.val := by omega
  have h2 : (0x2000 + p.val * 256) % 256 = 0 := by omega
  have hn : ∀ q : Obj, 0x2300 ≤ q.idx → o ≠ q := by intro q hp e; rw [e] at hi; omega
  unfold writeSpecial
  rw [hi, if_pos (by omega)]
  unfold writeRing
  rw [hi, if_neg (hn _ (by decide)), if_neg (hn _ (by decide)), if_pos (by omega)]
  simp only [h1]
  refine ⟨fun h => ?_, fun h => ?_, fun h => ?_⟩ <;> rw [h] <;> rfl

theorem sp_lane (r : Req) (p : Fin 3) (l : Fin 5) (v bs s) : writeSpecial r (Obj.laneRetrain p.val l.val) v bs s = some (laneRetrainWrite p.val l.val s) := by
  have hp := p.isLt
  have hl := l.isLt
  have hi : (Obj.laneRetrain p.val l.val).idx = 0x2000 + p.val * 256 + 0x10 + l.val := by simp [Obj.laneRetrain]; omega
  have hs : (Obj.laneRetrain p.val l.val).sub = 7 := rfl
  have h1 : (0x2000 + p.val * 256 + 0x10 + l.val - 0x2000) / 256 = p.val := by omega
  have h2 : (0x2000 + p.val * 256 + 0x10 + l.val) % 256 - 0x10 = l.val := by omega
  have hn : ∀ q : Obj, 0x2300 ≤ q.idx → Obj.laneRetrain p.val l.val ≠ q := by intro q hq e; rw [e] at hi; omega
  generalize Obj.laneRetrain p.val l.val = o at *
  unfold writeSpecial
  rw [hi, if_pos (by omega)]
  unfold writeRing
  rw [hi, if_neg (hn _ (by decide)), if_neg (hn _ (by decide)), if_neg (by omega), if_pos (by omega)]
  simp only [h1, h2]

end Sys2Proof.Laws
end

