-- ==== Sys2Proof/Laws/Posted.lean ====
section
/-! SUPPORT. Posted writes and refused requests. -/

namespace Sys2Proof.Laws

open Sys2Proof.Machine

theorem cut30_ne (n : Nat) (l : List W64) : cut30 (n + 1) l ≠ [] := by
  unfold cut30; split <;> simp

theorem cut30_len : ∀ (n : Nat) (l : List W64), ∀ x ∈ cut30 n l, x.length ≤ 30 := by
  intro n
  induction n with
  | zero => intro l x hx; simp [cut30] at hx
  | succ n ih =>
    intro l x hx
    unfold cut30 at hx
    split at hx
    · simp at hx; subst hx; assumption
    · simp at hx
      rcases hx with rfl | hx
      · rw [List.length_take]; omega
      · exact ih _ _ hx

theorem posted_mem (addr : W64) (words : List W64) (ack : Bool) (n : Nat) (r : LocalReq) (h : r ∈ postedFrames addr words ack .core n) :
    r.dport = aSpace addr ∧ r.dnode = aNode addr ∧ r.cls = 1 ∧ r.ack = ack ∧ r.pay.length ≤ 31 ∧ r.src = .core ∧ r.xid = n := by
  unfold postedFrames at h
  simp only [List.mem_map, List.mem_range] at h
  obtain ⟨i, hi, rfl⟩ := h
  refine ⟨rfl, rfl, rfl, rfl, ?_, rfl, rfl⟩
  have := cut30_len _ _ _ (List.getElem_mem hi)
  simp only [List.length_cons, List.length_map, List.getD_eq_getElem?_getD, List.getElem?_eq_getElem hi, Option.getD_some]
  omega

theorem posted_cons (addr : W64) (words : List W64) (ack : Bool) (n : Nat) : ∃ r t, postedFrames addr words ack .core n = r :: t := by
  have h : (postedFrames addr words ack .core n).length ≠ 0 := by
    unfold postedFrames
    simp only [List.length_map, List.length_range]
    intro h
    exact cut30_ne _ _ (List.length_eq_zero_iff.mp h)
  cases hl : postedFrames addr words ack .core n with
  | nil => rw [hl] at h; exact absurd rfl h
  | cons r t => exact ⟨r, t, rfl⟩

theorem issue_space (s : State) (r : LocalReq) (h : spaceExists r.dport = false) : s.issueCode r = bsSpace := by
  unfold State.issueCode; rw [if_pos (by simp [h])]

theorem issue_unreach (s : State) (r : LocalReq) (h : spaceExists r.dport) (g : (s.outsFor r).isEmpty) : s.issueCode r = bsUnreachable := by
  unfold State.issueCode; rw [if_neg (by simp [h]), if_pos g]

theorem issue_ok (s : State) (r : LocalReq) (h : spaceExists r.dport) (g : (s.outsFor r).isEmpty = false) : s.issueCode r = bsOk := by
  unfold State.issueCode; rw [if_neg (by simp [h]), if_neg (by simp [g])]

theorem refuse_space (s : State) (r : LocalReq) (h : r.src = .core) : refuseIssue bsSpace r s = tellCore r.xid bsSpace 0 [] s := by
  unfold refuseIssue tellFailure; rw [h]; rfl

theorem refuse_unreach (s : State) (r : LocalReq) (h : r.src = .core) : refuseIssue bsUnreachable r s = tellCore r.xid bsUnreachable 0 [] (s.bump Obj.unreachableCnt) := by
  unfold refuseIssue tellFailure; rw [h]; rfl

theorem exec_posted (addr words ack s r t) (h : postedFrames addr words ack .core s.bridge.nextXfer = r :: t) :
    exec (.postedWriteIssue addr words ack) s = .next (if s.issueCode r ≠ bsOk then refuseIssue (s.issueCode r) r (beginXfer (!ack) s)
      else if s.roomForAll (r :: t) then acceptPosted ack (r :: t) s else s) := by
  show execPostedWriteIssue addr words ack s = _
  unfold execPostedWriteIssue
  rw [h]

end Sys2Proof.Laws
end

