-- ==== Sys2Proof/Laws/Sessions.lean ====
section
/-! SUPPORT. Update sessions. -/

namespace Sys2Proof.Laws

open Sys2Proof.Machine

theorem sp_upd (r : Req) (v : Nat) (bs : List Byte) (s : State) : writeSpecial r Obj.updCmd v bs s = some (updCmdWrite v s) := rfl

theorem sp_chunk (r : Req) (v : Nat) (bs : List Byte) (s : State) : writeSpecial r Obj.updChunk v bs s = some (updChunkWrite bs s) := rfl

theorem upd_ok {r : Req} {v c : Nat} {s t : State} (h : TakenVal r Obj.updCmd v s) (hv : v < 256)
    (hw : updCmdWrite v s = updAnswer (c, t)) (hc : c = 0) : writeVal r Obj.updCmd v s = accepted r Obj.updCmd t := by
  refine writeVal_special h hv ((sp_upd r v _ s).trans ?_)
  rw [hw, hc]; rfl

theorem upd_bad {r : Req} {v c : Nat} {s t : State} (h : TakenVal r Obj.updCmd v s) (hv : v < 256)
    (hw : updCmdWrite v s = updAnswer (c, t)) (hc : c ≠ 0) : writeVal r Obj.updCmd v s = refusedWith r Obj.updCmd ecCheck (updResult c t) := by
  refine writeVal_refused h hv (by decide) ((sp_upd r v _ s).trans ?_)
  rw [hw]; unfold updAnswer; rw [if_neg hc]

theorem setImage_image (i : Nat) (bs : List Byte) (s : State) : (setImage i bs s).image i = bs := by
  unfold setImage State.image
  by_cases h : i = 0
  · rw [if_pos h, if_pos h]
  · rw [if_neg h, if_neg h]

theorem setImage_upd (i : Nat) (bs : List Byte) (s : State) : (setImage i bs s).upd = s.upd ∧ (setImage i bs s).node = s.node := by
  unfold setImage; split <;> exact ⟨rfl, rfl⟩

theorem updOpen_new (s : State) (h : s.openCode true = 0) : updOpen false true s = (0, ((setImage s.spareImage [] (modUpd (fun u => { u with
      isOpen := true, resumable := false, state := 1, erasing := true, verifying := false, guardEnd := false })
      { (updResult 0 s) with node := { (updResult 0 s).node with toDryDock := true, leaveDryDock := false } })).put Obj.updReceived 0).put Obj.updCmd stBusy) := by
  unfold updOpen
  dsimp only
  rw [h, if_neg (by decide), if_neg (by simp)]
  rfl

theorem updOpen_resume (s : State) (h : s.openCode true = 0) (hr : s.upd.resumable) : updOpen true true s = (0, (modUpd (fun u => { u with
      isOpen := true, resumable := false, state := 1, erasing := false, verifying := false, guardEnd := false })
      { (updResult 0 s) with node := { (updResult 0 s).node with toDryDock := true, leaveDryDock := false } }).put Obj.updCmd stDone) := by
  have hk : (true && (updResult 0 s).upd.resumable) = true := by rw [show (updResult 0 s).upd.resumable = s.upd.resumable from rfl, hr]; rfl
  unfold updOpen
  dsimp only
  rw [h, if_neg (by decide), hk, if_pos rfl]
  rfl

theorem openCode_zero (s : State) : s.openCode true = 0 ↔ (s.node.mode = .anchored ∨ s.node.mode = .working ∨ s.node.mode = .reduced) ∧ s.upd.isOpen = false ∧ s.upd.mnv ∧
      s.upd.batt = false ∧ 21600 ≤ s.gw.vin := by
  unfold State.openCode State.supplyOk
  rw [if_neg (by decide)]
  by_cases h1 : (s.node.mode == .anchored || s.node.mode == .working || s.node.mode == .reduced) = true
  · rw [if_neg (by rw [h1]; decide)]
    simp at h1
    cases h2 : s.upd.isOpen <;> cases h3 : s.upd.mnv <;> cases h4 : s.upd.batt <;> simp [h1, or_assoc] <;> simp [or_assoc] at h1 <;> try exact fun _ => h1
  · have h1' := h1
    simp at h1'
    rw [if_pos (by simp at h1 ⊢; exact h1)]
    constructor
    · intro h; exact absurd h (by decide)
    · rintro ⟨h, _⟩
      simp [h1'.1.1, h1'.1.2, h1'.2] at h

theorem relayDone_none (n : Nat) (s : State) (h : s.upd.relay = none) : relayDone n s = s := by
  unfold relayDone; rw [h]

end Sys2Proof.Laws
end

