-- ==== Sys2Proof/Laws/Taps.lean ====
section
/-! SUPPORT. Tap fields. -/

namespace Sys2Proof.Laws

open Sys2Proof.Machine

theorem taps_fields (a b c : Nat) (h1 : a < 8) (h2 : c < 64) (h3 : b < 64) : tapPre (tapsOf a b c) = a ∧ tapMain (tapsOf a b c) = b ∧ tapPost (tapsOf a b c) = c := by
  simp only [tapPre, tapMain, tapPost, tapsOf, fld]; omega

end Sys2Proof.Laws
end

