-- ==== Sys2Proof/Laws/UserWindows.lean ====
section
/-! SUPPORT. User windows and manifests. -/

namespace Sys2Proof.Laws

open Sys2Proof.Machine

theorem winAt_user (g : Fin 64) : winAt (0x10 + g.val / 16) (g.val % 16 * 0x100 + 0xC0) =
    some ⟨7, 0x10 + g.val / 16, g.val % 16 * 0x100 + 0xC0, g.val % 16 * 0x100 + 0x100, 8, g.val⟩ := by
  revert g; decide

theorem merge_all : ∀ old v : W64, mergeBytes old v 255 = v := by
  intro old v
  unfold mergeBytes w64
  apply BitVec.eq_of_toNat_eq
  rw [BitVec.toNat_ofNat]
  have e : (List.range 8).map (fun i => byte ((if bit 255 i then v else old).toNat / 2 ^ (8 * i))) = bytesOf 8 v.toNat := by
    simp only [List.range, List.range.loop, List.map]
    simp [bit, bytesOf, Nat.testBit, Nat.div_div_eq_div_mul, byte]
  rw [e, ofBytes_bytesOf 8 v.toNat v.isLt]
  exact Nat.mod_eq_of_lt v.isLt

theorem firstRec_none {n code : Nat} {p : Nat → Bool} (h : firstRec n code p = none) : ∀ i, i < n → p i = false := by
  unfold firstRec at h
  rw [Option.map_eq_none_iff, List.find?_eq_none] at h
  intro i hi
  have := h i (List.mem_range.mpr hi)
  simpa using this

theorem configCommit_man (s : State) : (configCommit s).man = s.man := by
  unfold configCommit; split <;> rfl

theorem unstageIf_keeps (o : Obj) (v : Option (List Byte)) (s : State) : (unstageIf o v s).man = s.man ∧ (unstageIf o v s).objs = s.objs := by
  unfold unstageIf; split <;> exact ⟨rfl, rfl⟩

end Sys2Proof.Laws
end

