-- ==== Sys2Proof/Tests/Slice0.lean ====
section
/-! SUPPORT. The model's own tests: ill-formed commands, commands read from words, and for every statement states and operands that meet its
hypotheses. -/

namespace Sys2Proof.Tests

open Sys2Proof Sys2Proof.Machine

set_option maxRecDepth 100000
set_option Elab.async false

/-- The dictionary takes the bytes: what `Taken` says, as a test. -/
def takesBytes (r : Req) (o : Obj) (bs : List Byte) (s : State) : Bool :=
  s.serveCode o.idx o.sub == ecOk && s.findObj o.idx o.sub == some o && s.gateCode r o bs == ecOk && s.valueOk o bs

/-- The dictionary takes the value: what `TakenVal` says, as a test. -/
def takes (r : Req) (o : Obj) (v : Nat) (s : State) : Bool := takesBytes r o (bytesOf o.ty.size v) s

theorem taken_of {r : Req} {o : Obj} {bs : List Byte} {s : State} (h : takesBytes r o bs s) : Taken r o bs s := by
  simp only [takesBytes, Bool.and_eq_true, beq_iff_eq] at h
  exact ⟨h.1.1.1, h.1.1.2, h.1.2, h.2⟩

theorem takenVal_of {r : Req} {o : Obj} {v : Nat} {s : State} (h : takes r o v s) : TakenVal r o v s := taken_of h

/-- An object can be read: what `Readable` says, as a test. -/
def reads (o : Obj) (s : State) : Bool :=
  s.serveCode o.idx o.sub == ecOk && s.findObj o.idx o.sub == some o && s.modeCode o == ecOk && o.acc != .wo

theorem readable_of {o : Obj} {s : State} (h : reads o s) : Readable o s := by
  simp only [reads, Bool.and_eq_true, beq_iff_eq, bne_iff_ne] at h
  exact ⟨h.1.1.1, h.1.1.2, h.1.2, h.2⟩

/-- A node at work: Working, the field pins its own, every domain released, position A of pair 1, the local core holding the owner lock. -/
def up : State :=
  { State.reset with
    node := { State.reset.node with mode := .working, owns := true, claim := true, pair := 1 }
    rst := { State.reset.rst with asserted := false, supplies := true, wdt := true, optEnded := true, doms := List.replicate 8 .released }
    pins := { State.reset.pins with inBuf := 15, clocks := 15, clkGood := 15 }
    dict := { dictReset with holder := some .core } }

/-- The form that every command keeps, as a test. -/
def formed (s : State) : Bool :=
  s.pending.isEmpty && keysFrom 0 s.objs && keysFrom 0 s.blobs && mapWf Crane.zero s.cranes && mapWf Fifo.empty s.fifos && mapWf 0 s.users &&
    mapWf 0 s.tally.words && mapWf 0 s.tally.stage && decide (s.faults.recs.map (·.place)).Nodup && s.faults.recs.all (fun r => decide (r.place < 64)) &&
    s.chk.length == 4 && (!s.node.owns || (s.node.claim && s.node.mode.mayOwn && (s.node.mode != .dryDock || s.node.origin.mayOwn)))

theorem wf_of {s : State} (h : formed s) : s.Wf [] := by
  simp only [formed, Bool.and_eq_true, decide_eq_true_eq, List.isEmpty_iff, List.all_eq_true, beq_iff_eq, Bool.or_eq_true, Bool.not_eq_true', bne_iff_ne] at h
  obtain ⟨⟨⟨⟨⟨⟨⟨⟨⟨⟨⟨a, b⟩, c⟩, d⟩, e⟩, f⟩, g⟩, i⟩, j⟩, k⟩, l⟩, m⟩ := h
  refine ⟨a, b, c, d, e, f, g, i, ⟨j, k⟩, l, ?_, ?_, ?_⟩ <;> intro n <;> simp only [n, Bool.true_eq_false, false_or] at m
  · exact m.1.1
  · exact m.1.2
  · intro o; exact m.2.resolve_left (by simp [o])

/-- The same node in another mode, without the field pins. -/
def inMode (m : Mode) : State := { up with node := { up.node with mode := m, owns := false, claim := false, origin := .working } }

/-- The directions of the three ports in a state of their bring-up, all lanes up. -/
def ports (x : Nat) (s : State) : State :=
  (List.range 3).foldl (fun s p => ((s.put (Obj.txState p) x).put (Obj.rxState p) x).put (Obj.rxSet p) (if p = 2 then 1 else 15)) s


/-! Hypotheses of the statements met: `takes` is `TakenVal`, `takesBytes` is `Taken`, `reads` is `Readable`, `formed` is `State.Wf []`. -/

theorem witness_StepRunsFront : up.pending = [] := rfl

theorem witness_StepKeepsForm : (∃ t, step { up with pending := [.tapReset] } = .next t) ∧ formed up := ⟨⟨_, rfl⟩, by decide +kernel⟩

/-- A node with every kind of reset about to come. -/
def doomed : State := { up with rst := { up.rst with cmd := some 5, crit := .running } }

theorem witness_ResetSources : formed doomed ∧ doomed.rst.vaon ∧ (!doomed.rst.pinLow) ∧ doomed.rst.wdt ∧ doomed.rst.cmd = some 5 ∧
    doomed.rst.crit = .running := by and_intros <;> decide +kernel

theorem witness_PowerOnAndOff : Obj.wdtPeriod.key ≠ Obj.porCnt.key ∧ Obj.wdtPeriod.key ≠ Obj.resetCause.key := by and_intros <;> decide +kernel

/-- A node in its release sequence: D1 is due, or reset is still asserted. -/
def rising (low held : Bool) : State :=
  { inMode .berthing with rst := { up.rst with doms := State.reset.rst.doms, pinLow := low, asserted := held, loading := true, cold := false } }

theorem witness_ReleaseSequence : formed (rising true false) ∧ (rising true false).rst.pinLow ∧ (rising true false).node.mode ≠ .approach ∧
    (rising true false).dueDomain = some 1 ∧ (rising true false).rst.loading ∧ (rising true false).rst.cold = false ∧
    (rising true false).rst.bootSel ≠ 3 ∧ (rising false true).rst.asserted ∧ (!(rising false true).rst.pinLow) ∧
    (rising false true).node.mode ≠ .approach := by and_intros <;> decide +kernel

/-- A node in Berthing whose flash holds one valid slot. -/
def berthing (posB line : Bool) : State :=
  { ports dActive (inMode .berthing) with
    node := { (inMode .berthing).node with loaded := true, posB := posB, twinLow := line, waitB := posB, keyWindow := false }
    flash := { up.flash with saved1 := slotBytes 0 1 1 1 1 1 [] } }

theorem witness_SavedStateLoad : (berthing false true).node.mode = .berthing ∧ (berthing false true).released 5 ∧
    (berthing false true).latestSlot = some 1 := by and_intros <;> decide +kernel

theorem witness_BerthingEnds : (berthing false true).berthed ∧ (!(berthing false true).node.claim) ∧
    ((berthing true false).berthed ∧ ¬ ((false = true ∧ !(berthing true false).node.claim) ∨ (berthing true false).hbSeen) ∧
      (!(berthing true false).node.keptOwn) ∧ (berthing true false).node.posB ∧ (berthing true false).node.waitB ∧ !(berthing true false).node.twinLow) ∧
    (berthing false false).berthed ∧ !(berthing false false).node.posB := by and_intros <;> decide +kernel

/-- A node with its four bank supplies good. -/
def lit : State := { up with rst := { up.rst with vio := List.replicate 4 ⟨1, false, false⟩ } }

/-- A node in Approach as the last condition comes. -/
def approaching : State := { State.reset with rst := { up.rst with pinLow := false }, gw := { up.gw with st := .good } }

theorem witness_Supplies : formed lit ∧ (lit.rst.vio.getD 3 ⟨0, true, false⟩).level ≠ 0 ∧ lit.node.mode ≠ .approach ∧
    approaching.node.mode = .approach ∧ approaching.gwPg ∧ approaching.rst.supplies ∧ (!approaching.rst.pinLow) ∧ approaching.rst.vaon ∧
    (!approaching.rst.reinsert) ∧
    (let s := { approaching with rst := { approaching.rst with reinsert := true } }; formed s ∧ s.node.mode = .approach ∧ s.gwPg ∧ s.rst.reinsert) := by
  and_intros <;> decide +kernel

theorem witness_TestAccessPort : ¬ (1 ≤ (0 : BitVec 8).toNat ∧ (0 : BitVec 8).toNat ≤ 5) ∧ ¬ (1 ≤ (6 : BitVec 8).toNat ∧ (6 : BitVec 8).toNat ≤ 5) := by and_intros <;> decide +kernel

/-- A node with every block in one state of its reset. -/
def blocks (x : BlockSt) : State := { up with rst := { up.rst with blocks := List.replicate 22 x } }

theorem witness_BlockResetsAndDie : formed (blocks .quiescing) ∧ (blocks .quiescing).released 4 ∧ (blocks .quiescing).block 21 = .quiescing ∧
    (let s := { blocks .quiescing with tide := { up.tide with beat := 10000 } }; formed s ∧ s.block 0 = .quiescing ∧ s.rst.blkAsked + s.get Obj.quiesceTicks ≤ s.tide.beat) ∧
    formed (blocks .inReset) ∧ (blocks .inReset).block 0 = .inReset := by and_intros <;> decide +kernel

/-- A node whose queue of tide writes is full. -/
def tideFull : State := { up with tide := { up.tide with queue := List.replicate 64 (0, []) } }

theorem witness_ObjectWrites :
    (Obj.wdtPeriod.eff = .immediate ∧ Obj.wdtPeriod.ty.size ≠ 0 ∧ takes .core Obj.manReadIndex 2047 up ∧
      writeSpecial .core Obj.manReadIndex 2047 (bytesOf 2 2047) up = none) ∧
    (Obj.fifoCeWarn.eff = .tide ∧ takes .core Obj.fifoCeWarn 1 tideFull ∧ writeSpecial .core Obj.fifoCeWarn 1 (bytesOf 2 1) tideFull = none ∧
      64 ≤ (tideFull.tide.queue.filter (fun e => e.1 != Obj.fifoCeWarn.key)).length ∧ takes .core Obj.fifoCeWarn 1 up) ∧
    (Obj.swapReq.ty.size = 0 ∧ takesBytes .core Obj.swapReq (List.replicate 16 0) up ∧
      writeSpecial .core Obj.swapReq 0 (List.replicate 16 0) up = none) ∧
    ((Obj.tallyBase 63).eff = .commit ∧ takes .core (Obj.tallyBase 63) 1023 up ∧ writeSpecial .core (Obj.tallyBase 63) 1023 (bytesOf 2 1023) up = none) ∧
    (up.serveCode Obj.dictReqCnt.idx Obj.dictReqCnt.sub = 0 ∧ up.findObj Obj.dictReqCnt.idx Obj.dictReqCnt.sub = some Obj.dictReqCnt ∧
      up.gateCode .core Obj.dictReqCnt (bytesOf 4 0) ≠ 0) ∧
    (up.findObj 0x0FFF 1 = none ∧ up.serveCode 0x0FFF 1 = 0) := by
  refine ⟨?_, ?_, ?_, ?_, ?_, ?_⟩ <;> decide +kernel

/-- The requester of the ring that does not hold the lock. -/
def far : Req := .ring 2

theorem witness_OwnerLock : takes .core Obj.ownerLock (2 ^ 56 + (2 ^ 32 - 1)) up ∧ up.dict.holder = some .core ∧ up.dict.lockout = false ∧
    takes far Obj.ownerLock (2 ^ 56) up ∧ Req.core ≠ far ∧ takes .core Obj.ownerLock (2 * 2 ^ 56) up := by and_intros <;> decide +kernel

/-- A node in Berthing while the key window is open. -/
def keyOpen : State := { inMode .berthing with node := { (inMode .berthing).node with keyWindow := true, slipLow := true } }

theorem witness_ResetCommands :
    (takes .core Obj.wdtKick 0xA5 up ∧ takes .core Obj.wdtKick 0xA4 up ∧ takes .core Obj.wdtPeriod 60000 up) ∧
    (takes .core Obj.resetCmd 0x5AFE0001 up ∧ up.rst.cmd = none ∧ takes .core Obj.resetCmd 0x5AFE0000 up) ∧
    takes .core Obj.slipwayKey 0 keyOpen ∧
    (takes .core Obj.blockReset (2 ^ 22 - 1) up ∧ up.get Obj.blockReset ≠ 2 ∧ ∀ b ∈ bitsOf 22 (2 ^ 22 - 1), up.released (blockDomain b)) ∧
    (takes .core Obj.blockReset (2 ^ 31) up ∧
      let s := (blocks .quiescing).put Obj.blockReset 2
      takes .core Obj.blockReset (2 ^ 31) s ∧ s.get Obj.blockReset = 2 ∧ s.rst.blkDone = false ∧ s.rst.blocks.any (· == .inReset) = false) := by
  refine ⟨?_, ?_, ?_, ?_, ?_⟩ <;> decide +kernel

/-- An event of an error in a tag of the Hold, which the collector counts and records. -/
def ev (src : BitVec 8) : Event := { src := src, inst := 3, detail := 7 }

/-- A record of a class in place 0. -/
def rec1 (cls : FClass) : FaultRec := ⟨0, 9, 0, 0x25, cls, false, false, false, 2, 3, 0⟩

/-- A node with a record. -/
def recorded (cls : FClass) : State := { up with faults := { up.faults with recs := [rec1 cls] } }

/-- A node with every place of the record store taken. -/
def storeFull : State := { up with faults := { up.faults with recs := (List.range 60).map (fun p => { rec1 .corrected with place := p, inst := 4 + p }) } }

theorem witness_FaultEvents : formed up ∧ up.released 4 ∧ up.node.mode ≠ .approach ∧ up.node.mode ≠ .quarantine ∧
    (faultCodes.contains (ev 0x25).src.toNat ∧ srcClass (ev 0x25).src.toNat ≠ .fatal ∧ (ev 0x25).src.toNat ≠ 0x35) ∧
    State.reset.released 4 = false ∧ formed State.reset ∧
    (up.openRec 0x25 3 = false ∧ freePlace up.faults.recs 0 60 = some 0) ∧ (formed (recorded .contained) ∧ (recorded .contained).openRec 0x25 3) ∧
    (formed storeFull ∧ storeFull.openRec 0x10 3 = false ∧ freePlace storeFull.faults.recs 0 60 = none ∧ srcClass 0x10 = .corrected) := by and_intros <;> decide +kernel

theorem witness_FaultListAndClear : up.released 4 ∧ reads Obj.faultList up ∧
    takes .core Obj.faultClear (9 * 2 ^ 16 + 2 * 2 ^ 8 + 1) (recorded .contained) ∧ takes .core Obj.faultClear 2 up ∧ takes .core Obj.faultClear 3 up := by and_intros <;> decide +kernel

/-- A node in Slipway. -/
def slip : State := { up with node := { up.node with mode := .slipway } }

theorem witness_FaultInjection : (let v := injectValue 1 0x25 3 0 7; takes .core Obj.faultInject v slip ∧ slip.injectCode v = 0) ∧
    (let v := injectValue 2 0x12 0 71 5; takes .core Obj.faultInject v slip ∧ slip.injectCode v = 0 ∧ fiSrc v = 0x12 ∧ 2 ≤ fiMethod v) ∧
    (let v := injectValue 3 0x12 0 71 5; takes .core Obj.faultInject v slip ∧ slip.injectCode v = 0 ∧ fiSrc v = 0x12 ∧ 2 ≤ fiMethod v) ∧
    (let v := injectValue 1 0 3 0 7; takes .core Obj.faultInject v slip ∧ slip.injectCode v ≠ 0) := by and_intros <;> decide +kernel

/-- The Gangway in a state. -/
def gate (x : GwSt) : State := { up with gw := { up.gw with st := x, en := true, vin := 24000, timer := 4000, under := 100, above := 2, clean := 1000, cooling := false } }

theorem witness_GangwayStates : formed (gate .ramp) ∧ (gate .ramp).rst.vaon ∧ (gate .ramp).gw.st.gateOn ∧ (gate .ramp).gw.st = .ramp ∧
    (gate .good).gw.st.gateOn ∧ (gate .ramp).get Obj.gwFaultTime ≤ (gate .ramp).gw.timer ∧ 100 ≤ (gate .ramp).gw.under ∧ 2 ≤ (gate .ramp).gw.above ∧
    2 * (gate .ramp).get Obj.gwVcl * 1000 ≤ (2 ^ 32 - 1 : BitVec 32).toNat ∧
    (gate .disabled).gw.st = .disabled ∧ (gate .latched).gw.st = .latched ∧ (!(gate .latched).gw.cooling) ∧
    ((gate .qualify).startWindow (gate .qualify).gw.vin ∧ (gate .qualify).gw.en) ∧ ((gate .settle).gw.st = .settle ∧ (gate .settle).gw.clean = 1000) ∧
    (gate .settle).node.mode ≠ .approach ∧ (up.get Obj.gwTau1 ≠ 0 ∧ up.get Obj.gwTau2 ≠ 0) ∧ reads Obj.gwPeakT up ∧
    ({ (gate .latched).gw with enLow := true }.enLow ∧ { (gate .latched).gw with diode := true }.diode) ∧
    (let s := { State.reset with gw := { State.reset.gw with diode := true, reading := some 250, cooling := true } }; s.gw.cooling ∧ s.coolEnough) := by and_intros <;> decide +kernel

/-- A crane 0 that runs a program of one word. -/
def crane (w : Nat) (c : Crane) : State :=
  { (up.put (Obj.tallyLen 0) 1) with cranes := [(0, c)], tally := { up.tally with words := [(0, w)] } }

/-- An instruction word with an operation and an operand. -/
def ins (op side operand : Nat) : Nat := op * 2 ^ 20 + side * 2 ^ 16 + operand

def runs : Crane := { Crane.zero with st := .running }

/-- What `Fetches` says of crane 0, as a test. -/
def fetches (w : Nat) (s : State) : Bool :=
  s.atInstr 0 && decide ((s.crane 0).pc < s.get (Obj.tallyLen 0)) && s.tallyWord (s.get (Obj.tallyBase 0) + (s.crane 0).pc) == w &&
    popCount 24 (s.tallyInv (s.get (Obj.tallyBase 0) + (s.crane 0).pc)) == 0 && s.insCause 0 w == none

theorem fetches_of {w : Nat} {s : State} (h : fetches w s) : Fetches 0 w s := by
  simp only [fetches, Bool.and_eq_true, beq_iff_eq, decide_eq_true_eq] at h
  exact ⟨h.1.1.1.1, h.1.1.1.2, h.1.1.2, h.1.2, h.2⟩

/-- Crane 0 stands before a word that it can run. -/
def at0 (w : Nat) : Bool := fetches w (crane w runs) && formed (crane w runs)

theorem witness_CraneRegisters : at0 (ins 5 0 0x1FFF) ∧ at0 (ins 5 0 (2 * 2 ^ 13)) ∧ at0 (ins 5 0 (3 * 2 ^ 13 + 0x1FFF)) ∧ at0 (ins 5 0 (7 * 2 ^ 13)) ∧
    at0 (ins 6 0 0) ∧ at0 (ins 6 0 (1 * 2 ^ 12)) ∧ at0 (ins 6 0 (2 * 2 ^ 12)) ∧ at0 (ins 6 0 (5 * 2 ^ 12)) ∧
    (at0 (ins 6 0 (9 * 2 ^ 12)) ∧ ((crane (ins 6 0 (9 * 2 ^ 12)) runs).movValue 0 (ins 6 0 (9 * 2 ^ 12)) 0).toNat ≤ 64) ∧ at0 (ins 6 0 (10 * 2 ^ 12)) ∧
    (let c := { runs with x := 65 }
     let w := ins 6 0 (10 * 2 ^ 12)
     fetches w (crane w c) ∧ 64 < ((crane w c).movValue 0 w 0).toNat) ∧
    at0 (ins 7 0 0) ∧ at0 (ins 8 0 0) := by and_intros <;> decide +kernel

/-- Crane 0 in a phase of the instruction w. -/
def phased (w : Nat) (p : Phase) : State := crane w { runs with st := .stalled, phase := p }

/-- Cranes 0 and 1 make up gang 63, both waiting. -/
def gang : State :=
  { ((phased (ins 11 0 0) .sync).put (Obj.craneCtrl 0) (63 * 2 ^ 16)).put (Obj.craneCtrl 1) (63 * 2 ^ 16) with
    cranes := [(0, { runs with st := .stalled, phase := .sync }), (1, { runs with st := .stalled, phase := .sync })] }

/-- Cranes 0 and 16, of two quays, make up gang 63, both waiting, so many boundaries after they arrived. -/
def wide (n : Nat) : State :=
  { ((phased (ins 11 0 0) .sync).put (Obj.craneCtrl 0) (63 * 2 ^ 16)).put (Obj.craneCtrl 16) (63 * 2 ^ 16) with
    cranes := [(0, { runs with st := .stalled, phase := .sync }), (16, { runs with st := .stalled, phase := .sync })]
    tide := { up.tide with beat := n } }

theorem witness_CraneWaits :
    (at0 (ins 0 0 (6 * 2 ^ 13)) ∧
      (let w := ins 0 0 (2 * 2 ^ 13 + 16 * 2 ^ 6)
       let s := crane w { runs with st := .stalled, phase := .waiting, usrRd := true }
       formed s ∧ (s.crane 0).active ∧ (s.crane 0).phase = .waiting ∧ s.insWord 0 = w ∧ s.waitSeen 0 w false 0) ∧
      (let w := ins 0 0 (2 * 2 ^ 13 + 17 * 2 ^ 6); formed (phased w .waiting) ∧ (phased w .waiting).waitSeen 0 w true 0 = false)) ∧
    (at0 (ins 11 0 0) ∧ (crane (ins 11 0 0) runs).gangOf 0 = 0) ∧
    (let s := { gang with cranes := [(0, runs)] }; fetches (ins 11 0 0) s ∧ formed s ∧ s.gangOf 0 ≠ 0) ∧
    (formed gang ∧ gang.gangMembers 63 = [0, 1] ∧ (∀ k ∈ gang.gangMembers 63, gang.inSync k) ∧
      ∀ k ∈ gang.gangMembers 63, ∀ j ∈ gang.gangMembers 63, k / 16 = j / 16) ∧
    (formed (wide 1) ∧ (wide 1).gangMembers 63 = [0, 16] ∧ (∀ k ∈ (wide 1).gangMembers 63, (wide 1).inSync k) ∧
      (∀ k ∈ (wide 1).gangMembers 63, ((wide 1).crane k).syncBeat < (wide 1).tide.beat)) ∧
    ((∀ k ∈ (wide 0).gangMembers 63, (wide 0).inSync k) ∧ 0 ∈ (wide 0).gangMembers 63 ∧ 16 ∈ (wide 0).gangMembers 63 ∧
      (wide 0).tide.beat ≤ ((wide 0).crane 0).syncBeat) ∧
    ((phased 0 (.delay 3)).crane 0).active ∧ ((phased 0 (.delay 3)).crane 0).phase = .delay 3 := by and_intros <;> decide +kernel

/-- Crane 0 with field pin 0 as its input and its output, pin 1 as its side pin. -/
def wired (w : Nat) (c : Crane) : State :=
  ((crane w c).put (Obj.pinIn 0) (1 * 2 ^ 8 + 1)).put (Obj.pinOut 0) (1 * 2 ^ 8 + 1)

theorem witness_CraneShifts :
    (let w := ins 1 0 7
     fetches w (wired w runs) ∧ formed (wired w runs) ∧ (shiftOf w).out = false ∧ (shiftOf w).frame = false) ∧
    (let w := ins 2 0 7
     fetches w (wired w runs) ∧ formed (wired w runs) ∧ (shiftOf w).out = true ∧ (shiftOf w).duplex = false ∧ (shiftOf w).frame = false) ∧
    (let s := phased (ins 1 0 7) .shifting
     formed s ∧ (s.crane 0).active ∧ (s.crane 0).phase = .shifting ∧ s.insWord 0 = ins 1 0 7 ∧ (s.crane 0).lateHalt = false) := by and_intros <;> decide +kernel

/-- Crane 0 with words in its FIFOs. -/
def stocked (w n : Nat) (c : Crane) : State :=
  { crane w c with fifos := [(0, { Fifo.empty with words := List.replicate n ⟨true, .only, 8, false, 0⟩ }),
      (64, { Fifo.empty with words := List.replicate n ⟨true, .only, 8, false, 5⟩ })] }

theorem witness_CraneFifos :
    (at0 (ins 3 0 (3 * 2 ^ 13)) ∧ (pushTry 0 (ins 3 0 (3 * 2 ^ 13)) (applySides 0 (ins 3 0 (3 * 2 ^ 13)) (crane (ins 3 0 (3 * 2 ^ 13)) runs))).isSome) ∧
    (let w := ins 3 0 (2 ^ 15 + 3 * 2 ^ 13); let s := stocked w 64 runs
     fetches w s ∧ formed s ∧ pushTry 0 w (applySides 0 w s) = none ∧ bit (operand w) 15) ∧
    (let w := ins 3 0 (3 * 2 ^ 13); let s := stocked w 64 runs
     fetches w s ∧ pushTry 0 w (applySides 0 w s) = none ∧ !bit (operand w) 15) ∧
    (let w := ins 3 0 (2 ^ 15 + 3 * 2 ^ 13); let s := phased w .pushWait
     formed s ∧ (s.crane 0).active ∧ s.insWord 0 = w ∧ (pushTry 0 w s).isSome) ∧
    (let w := ins 10 0 (2 ^ 15 + 1 * 2 ^ 13); let s := phased w .stampWait
     formed s ∧ (s.crane 0).active ∧ s.insWord 0 = w ∧ (stampTry 0 w s).isSome) ∧
    (let w := ins 4 0 0; let s := stocked w 1 runs
     fetches w s ∧ formed s ∧ (pullWord 0 ((applySides 0 w s).fifo 64).words.length (applySides 0 w s)).1.isSome ∧
       popCount 72 (s.fifoInv 64 (s.fifoPlace 64 (s.fifo 64).pend.length)) = 0) ∧
    (at0 (ins 4 0 (2 ^ 15)) ∧ ((applySides 0 (ins 4 0 (2 ^ 15)) (crane (ins 4 0 (2 ^ 15)) runs)).fifo 64).words = []) ∧
    (at0 (ins 4 0 0) ∧ ((applySides 0 (ins 4 0 0) (crane (ins 4 0 0) runs)).fifo 64).words = []) ∧
    (let w := ins 4 0 (2 ^ 15); let s := stocked w 1 { runs with st := .stalled, phase := .pullWait }
     formed s ∧ (s.crane 0).active ∧ s.insWord 0 = w ∧ (pullWord 0 (s.fifo 64).words.length s).1.isSome) ∧
    (at0 (ins 10 0 (1 * 2 ^ 13)) ∧ (stampTry 0 (ins 10 0 (1 * 2 ^ 13)) (crane (ins 10 0 (1 * 2 ^ 13)) runs)).isSome) ∧
    (let w := ins 10 0 (1 * 2 ^ 13); let s := stocked w 64 runs
     fetches w s ∧ stampTry 0 w (applySides 0 w s) = none) ∧
    (let w := ins 10 0 (2 ^ 15 + 1 * 2 ^ 13); let s := stocked w 64 runs
     fetches w s ∧ stampTry 0 w (applySides 0 w s) = none) := by and_intros <;> decide +kernel

/-- Crane 0 with its check unit in use. -/
def checking (w : Nat) (c : Crane) : State := (crane w c).put (Obj.craneCtrl 0) (2 ^ 7)

theorem witness_CraneSignals : (at0 (ins 9 0 (15 * 2 ^ 10)) ∧ sigFn 0 (ins 9 0 (15 * 2 ^ 10))) ∧ (at0 (ins 9 0 (1 * 2 ^ 14)) ∧ sigFn 1 (ins 9 0 (1 * 2 ^ 14))) ∧
    (at0 (ins 9 0 (2 * 2 ^ 14 + 7 * 2 ^ 10)) ∧ sigFn 2 (ins 9 0 (2 * 2 ^ 14 + 7 * 2 ^ 10))) ∧ (at0 (ins 9 0 (3 * 2 ^ 14)) ∧ sigFn 3 (ins 9 0 (3 * 2 ^ 14))) ∧
    (let w := ins 12 0 0
     fetches w (checking w runs) ∧ formed (checking w runs) ∧ (applySides 0 w (checking w runs)).chkQueue ((applySides 0 w (checking w runs)).chkUnit 0) = []) ∧
    (let w := ins 12 0 0
     let s := { phased w .chkWait with chk := (phased w .chkWait).chk.modify ((phased w .chkWait).chkUnit 0) (fun u => { u with waiting := [⟨1, 0, false, some 0⟩] }) }
     formed s ∧ s.chkQueue (s.chkUnit 0) = [⟨1, 0, false, some 0⟩] ∧ s.insWord 0 = w) := by and_intros <;> decide +kernel

theorem witness_CraneFetchFaults :
    (let w := ins 8 0 1; formed (crane w runs) ∧ (crane w runs).atInstr 0 ∧ (crane w runs).insCause 0 w = some 3 ∧ opc w = 8) ∧
    (let w := ins 15 0 0; (crane w runs).insCause 0 w = some 1) ∧
    (let s := crane 0 { runs with pc := 1 }; s.atInstr 0 ∧ s.get (Obj.tallyLen 0) ≤ (s.crane 0).pc) ∧
    (let s := crane 0 runs; popCount 24 ((tallyUpset 0 1 s).tallyInv 0) = 1 ∧ 2 ≤ popCount 24 ((tallyUpset 0 (2 ^ 24 - 1) s).tallyInv 0)) := by
  and_intros <;> decide +kernel

/-- A node that does not own the field pins, with crane 63 halted. -/
def halted : State := { up with cranes := [(63, { Crane.zero with st := .halted })] }

/-- A node with crane 63 running. -/
def busy : State := { up with cranes := [(63, runs)] }

theorem witness_CraneCommands :
    (takes .core (Obj.craneCmd 63) 1 busy ∧ formed busy ∧ (busy.crane 63).phase ≠ .shifting ∧ (busy.crane 63).active) ∧
    (takes .core (Obj.craneCmd 0) 3 up ∧ up.node.owns ∧ !up.craneActive 0) ∧ (takes .core (Obj.craneCmd 63) 3 busy ∧ busy.node.owns ∧ busy.craneActive 63) ∧
    (takes .core (Obj.craneCmd 63) 2 halted ∧ formed halted ∧ (halted.crane 63).st = .halted ∧ !(halted.crane 63).changed) ∧
    (takes .core Obj.gangStart 3 up ∧ (∀ g ∈ masked 3, !up.craneActive g) ∧ oneQuay 3) ∧
    (takes .core Obj.gangStart (2 ^ 63 + 1) up ∧ (∀ g ∈ masked (2 ^ 63 + 1), !up.craneActive g) ∧ !oneQuay (2 ^ 63 + 1)) ∧
    takes .core Obj.gangHalt (2 ^ 64 - 1) up ∧ takes .core Obj.clockRestart (2 ^ 63) busy ∧ oneQuay (2 ^ 63) ∧
    takes .core Obj.clockRestart (2 ^ 63 + 1) busy := by and_intros <;> decide +kernel

/-- A staged range past the Tally. -/
def badRange : State := { up with staged := [((Obj.tallyBase 0).key, bytesOf 2 1023), ((Obj.tallyLen 0).key, bytesOf 2 2)] }

theorem witness_QuayCommands :
    (takes .core (Obj.quayCommit 3) 1 up ∧ (queueTide (Obj.quayCommit 3).key [1] up).isSome ∧ up.quayFault 3 = none) ∧
    (takes .core (Obj.quayCommit 0) 1 badRange ∧ (queueTide (Obj.quayCommit 0).key [1] badRange).isSome ∧ badRange.quayFault 0 = some (1, 0) ∧ formed badRange) ∧
    takes .core (Obj.quayFlags 3) 0xFFFF up ∧ takes .core (Obj.quayIrq 0) 0xFF up ∧ (takes .core (Obj.fifoFlush 63) 1 up ∧ !up.craneActive 63) ∧
    takes .core (Obj.fifoFlush 63) 2 up ∧ takes .core (Obj.fifoFlush 63) 3 up ∧ takes .core (Obj.fifoFlush 63) 3 busy ∧ takes .core (Obj.noticePend 63) 7 up := by
  and_intros <;> decide +kernel

theorem witness_CheckUnits : (3 : Fin 4).val < up.chk.length ∧ (4 : Fin 5).val ≠ (up.unit 0).poly ∧ (up.unit 3).poly < 5 ∧
    up.chkQueue 3 = [] ∧
    (let s := { up with chk := up.chk.modify 0 (fun u => { u with waiting := [⟨8, 0, false, none⟩] }) }
     (0 : Fin 4).val < s.chk.length ∧ s.chkQueue 0 = [⟨8, 0, false, none⟩]) ∧
    (let w := ins 12 0 0
     let s := { phased w .chkWait with chk := (phased w .chkWait).chk.modify 0 (fun u => { u with waiting := [⟨1, 0, false, some 0⟩] }) }
     (0 : Fin 4).val < s.chk.length ∧ s.chkQueue 0 = [⟨1, 0, false, some 0⟩]) := by and_intros <;> decide +kernel

/-- A record that loads one word at the last place of the Tally. -/
def lastWord : List Byte := bytesOf 2 1023 ++ bytesOf 2 0 ++ bytesOf 3 5

/-- A node whose scrubber is about to read the last word, corrected once before. -/
def scrubbing (inv passes : Nat) : State :=
  { up.put Obj.tallyCePasses passes with tally := { up.tally with scrub := 1087, inv := [(1087, inv)], cePass := [(1087, 1)] } }

theorem witness_TallyMemory :
    (takesBytes .core Obj.tallyLoad lastWord up ∧ tallyRecord 1024 lastWord = some (1023, [5]) ∧ !up.swapPending 63 ∧ !up.pageBusy 63) ∧
    (takesBytes .core Obj.tallyLoad [0] up ∧ tallyRecord 1024 [0] = none) ∧
    (let s := { (up.put (Obj.tallyBase 63) 1023).put (Obj.tallyLen 63) 1 with cranes := [(63, runs)] }
     takesBytes .core Obj.tallyLoad lastWord s ∧ s.pageBusy 63 ∧ !s.swapPending 63 ∧ formed s) ∧
    (let bs := bytesOf 2 63 ++ bytesOf 2 0 ++ bytesOf 3 5
     takesBytes .core Obj.stageLoad bs up ∧ tallyRecord 64 bs = some (63, [5]) ∧ up.tally.swap = .idle) ∧
    reads Obj.tallyReadData up ∧
    (formed (scrubbing 0 3) ∧ popCount 24 ((tallyUpset 1087 0 (scrubbing 0 3)).tallyInv 1087) = 0) ∧
    (popCount 24 ((tallyUpset 1087 1 (scrubbing 0 3)).tallyInv 1087) = 1 ∧ mapGet 0 (scrubbing 0 3).tally.cePass 1087 + 1 < (scrubbing 0 3).get Obj.tallyCePasses) ∧
    (popCount 24 ((tallyUpset 1087 0 (scrubbing 1 2)).tallyInv 1087) = 1 ∧ (scrubbing 1 2).get Obj.tallyCePasses ≤ mapGet 0 (scrubbing 1 2).tally.cePass 1087 + 1) ∧
    (2 ≤ popCount 24 ((tallyUpset 1087 (2 ^ 24 - 1) (scrubbing 0 3)).tallyInv 1087)) := by and_intros <;> decide +kernel

/-- A node with a swap in a state. -/
def swapping (x : SwapSt) : State := { up with tally := { up.tally with swap := x } }

/-- A swap descriptor of one page whose content matches the staging window. -/
def swapDesc : Nat := crc16 (bytesOf 3 0) * 2 ^ 48 + 1 * 2 ^ 31

theorem witness_TideSwap :
    (let s := up.putBlob Obj.swapReq (bytesOf 16 swapDesc); takes .core Obj.swapCmd 1 s ∧ s.tally.swap = .idle ∧ s.swapFault (num (s.blob Obj.swapReq) 0 16) = none) ∧
    (takes .core Obj.swapCmd 1 up ∧ up.swapFault (num (up.blob Obj.swapReq) 0 16) ≠ none) ∧ takes .core Obj.swapCmd 2 (swapping .armed) ∧
    takes .core Obj.swapCmd 2 (swapping (.copying true)) ∧ (swapping (.copying false)).tally.swap = .copying false ∧ takes .core Obj.swapCmd 2 up ∧ up.node.owns := by and_intros <;> decide +kernel

/-- A plan of one entry from this pair to every chip, in force. -/
def plan : Plan := ⟨[], 0, 0, 1, 100, 5, 1, 1, 1, 1, [⟨0x1000, 0x20, 1, 0, 0, 1, 1, 255, 1, 1⟩]⟩

/-- A node that sends by the plan. -/
def sailing : State := { up with tide := { up.tide with placed := true, active := some plan, tick := 7 } }

/-- The frame of the plan's entry at tick 7. -/
def planFrame : Frame :=
  ⟨mkHdr 255 1 1 0 (plan.seqOf 7 0 ⟨0x1000, 0x20, 1, 0, 0, 1, 1, 255, 1, 1⟩) 1 9 0, [⟨0, false⟩], mkTrl 7 [⟨0, false⟩]⟩

/-- Plan bytes of the right form whose CRC does not match. -/
def planBytes : List Byte := bytesOf 2 1 ++ List.replicate 30 0

theorem witness_TidePlans : takes .core Obj.tidePlanCommit 1 up ∧ (up.planFail []).isSome ∧ (planOf []).format ≠ 1 ∧
    ((planOf planBytes).format = 1 ∧ planBytes.length = 32 + 16 * (planOf planBytes).count ∧ (planOf planBytes).crc ≠ crc32c (slice planBytes 0 28 ++ planBytes.drop 32)) ∧
    ({ up.tide with checking := some planBytes }.checking = some planBytes ∧ up.planFail planBytes ≠ none) ∧
    (let s := { sailing with tide := { sailing.tide with armed := some plan } }; s.tide.placed ∧ plan.actTick ≤ s.tide.tick) ∧
    (let s := { sailing with tide := { sailing.tide with armed := some { plan with actTick := 8 } } }; s.tide.tick < { plan with actTick := 8 }.actTick) ∧
    up.tide.armed = none := by and_intros <;> decide +kernel

theorem witness_PlanPasses : (∃ s : State, s.planFail
    (let head := bytesOf 2 1 ++ bytesOf 1 1 ++ bytesOf 1 0 ++ bytesOf 4 2 ++ bytesOf 8 1000 ++ bytesOf 2 100 ++ bytesOf 2 0 ++ bytesOf 4 0 ++ bytesOf 4 0
     head ++ bytesOf 4 (crc32c head)) = none) := ⟨up, by decide +kernel⟩

/-- The TICK block of a lane that carries the whole set and a tick number. -/
def tickBlock (l n : Nat) : W64 := sealBlock (15 * 2 ^ 51 + l * 2 ^ 48 + n)

/-- A tick marker with good TICK blocks on four lanes, or with none. -/
def tickMark (n tick : Nat) : TickMark := ⟨(List.range 5).map (fun l => if n = 0 ∨ 4 ≤ l then none else some (tickBlock l tick)), 0, 0, 0⟩

theorem witness_TickBoundary : up.released 4 ∧ State.reset.released 4 = false ∧ up.tide.armed = none ∧
    (objAt Obj.fifoCeWarn.idx Obj.fifoCeWarn.sub = some Obj.fifoCeWarn ∧ Obj.fifoCeWarn.idx < 0x4000 ∧ Obj.fifoCeWarn.sub < 256 ∨
      objAt Obj.stallTicks.idx Obj.stallTicks.sub = some Obj.stallTicks ∧ Obj.stallTicks.idx < 0x4000 ∧ Obj.stallTicks.sub < 256) ∧
    (up.listens 0 ∧ up.rx 0 < dBlock) ∧ (let s := ports dActive sailing; s.listens 1 ∧ dBlock ≤ s.rx 1 ∧ s.rx 1 ≤ dActive ∧ s.rxOpen 1) ∧
    goodTicks (tickMark 0 0) = [] ∧ goodTicks (tickMark 5 9) = (List.range 4).map (fun l => tickBlock l 9) ∧
    (sailing.tide.placed ∧ sailing.tide.tick = 7 ∧ !sailing.timeLocked ∧ sailing.tide.tick ≠ 9) ∧ 0 < { up.tide with pause := 2 }.pause := by
  and_intros <;> decide +kernel

/-- A node whose local input holds as many bays as it may. -/
def crowded : State :=
  { up with hold := { up.hold with tags := (List.range 64).map (fun b => (b, { BayTag.zero with owner := 0x78, input := 7 })) } }

/-- The frames of the Hold as they stand when port 4 takes the next scheduled one of them. -/
def schedTaken (ws : List Cargo) (s : State) : Option (Option Frame × Nat) :=
  let t := enqueue 0 4 .ring ws s
  (t.localNext 4 (fun j => j.sched)).map (fun j => (frameOf (departJob j t).1, t.tide.tick % 2 ^ 16))

theorem witness_ScheduledFrames : (sailing.tide.active = some plan ∧ sailing.sends ∧ (plan.entries.getD 0 ⟨0, 0, 0, 0, 0, 0, 0, 0, 0, 0⟩).snode = sailing.node.pair ∧
      sailing.node.pair ≠ 0 ∧ (plan.entries.getD 0 ⟨0, 0, 0, 0, 0, 0, 0, 0, 0, 0⟩).due sailing.tide.tick) ∧
    (Frame.crcOk planFrame ∧ (sailing.schedEntry planFrame.hdr).isSome ∧ up.schedEntry planFrame.hdr = none) ∧
    (0 ∉ sailing.tide.delivered ∧ 0 ∈ { sailing.tide with delivered := [0] }.delivered) ∧ Frame.crcOk { planFrame with trl := 0 } = false ∧
    ((schedTaken (Frame.words planFrame) sailing).any (fun x => x.1.any (fun f => tTick f.trl == x.2))) ∧
    ((schedTaken (Frame.words planFrame) { sailing with tide := { sailing.tide with tick := 8 } }).any (fun x => x.1.any (fun f => tTick f.trl != x.2))) ∧
    ((schedTaken ((Frame.words planFrame).take 2) sailing).any (fun x => x.1.isNone)) ∧ sailing.localNext 4 (fun j => j.sched) = none ∧
    (sailing.tide.waits = [] ∧ bayCount planFrame.pay.length ≤ sailing.ownRoom 7 0) ∧
    (sailing.tide.candidates = [] ∧ ∃ c ∈ { sailing.tide with candidates := [⟨0, planFrame⟩] }.candidates, c.entry = 0) ∧
    crowded.ownRoom 7 0 < bayCount planFrame.pay.length := by and_intros <;> decide +kernel

/-- A node whose three ports are in one state of bring-up. -/
def at_ (x : Nat) : State := ports x up

/-- A node at work whose ports are Active, with node 2, its twin, at the far end of port 0. -/
def linked : State := (at_ dActive).put (Obj.farHarbour 0) (2 ^ 45)

/-- A control block with a good CHECK. -/
def good (v : Nat) : W64 := sealBlock v

/-- The lanes of port 0 in a state. -/
def lanes (x : Nat) (s : State) : State := (List.range 5).foldl (fun s l => s.put (Obj.laneState 0 l) x) s

/-- A training frame that begins with a MARK. -/
def training (m : W64) : TrainFrame := ⟨2, BitVec.ofNat 72 (tyMark * 2 ^ 64 + m.toNat), []⟩

theorem witness_PortBringUp : (up.released 3 ∧ State.reset.released 3 = false) ∧
    (let s := (at_ dDetect).put (Obj.txState 0) dPilot
     s.rx 0 = dDetect ∧ s.tx 0 ≠ dDetect ∧ s.tx 0 ≠ dEbb ∧ (List.filter (fun l => [true, true].getD l false) (Machine.lanesOf 0)).length < lanesNeeded 0) ∧
    ((at_ dDetect).rx 0 = dDetect ∧ (at_ dDetect).tx 0 = dDetect ∧
      lanesNeeded 0 ≤ (List.filter (fun l => [true, true, true, true, false].getD l false) (Machine.lanesOf 0)).length) ∧
    ((at_ dPilot).tx 0 = dPilot ∧ (at_ dPilot).rx 2 = dPilot) ∧ ((at_ dBit).rx 1 = dBit ∧ (at_ dBit).tx 1 = dBit) ∧
    ((lanes 1 (at_ dBit)).rx 0 = dBit ∧
      lanesNeeded 0 ≤ laneNum (((bitsOf 5 ((lanes 1 (at_ dBit)).upLanes 0)).foldl (fun s l => if [true, true, true, true, false].getD l false then s else failLane 0 l 2 s)
        (lanes 1 (at_ dBit))).upLanes 0) ∧
      laneNum (((bitsOf 5 ((lanes 1 (at_ dBit)).upLanes 0)).foldl (fun s l => if [true].getD l false then s else failLane 0 l 2 s) (lanes 1 (at_ dBit))).upLanes 0) < lanesNeeded 0) ∧
    ((at_ dBlock).rx 0 = dBlock ∧ (at_ dBlock).tx 0 = dBlock) ∧
    ((at_ dHarbour).listens 0 ∧ (at_ dHarbour).rx 0 = dHarbour ∧ blockOk (good 0) ∧ blockOk (good 0 ^^^ 1) = false) ∧
    (let s := { at_ dHarbour with tide := { up.tide with placed := true } }
     (harbourAdopt 0 (good 0) ((returned 0 [.ctrl tyHarbour (good 0)] s).put (Obj.farHarbour 0) (good 0).toNat)).harbourCode 0 (good 0) ≠ 0) ∧
    ((at_ dHarbour).get (Obj.harbourResult 0) = 0 ∧ (at_ dHarbour).tx 0 = dHarbour ∧ (at_ dHarbour).rx 0 = dHarbour ∧
      ((at_ dHarbour).put (Obj.harbourResult 0) 1).get (Obj.harbourResult 0) ≠ 0) ∧ ((at_ dPilot).tx 0 ≠ dActive ∧ (at_ dPilot).rx 0 ≠ dActive) ∧
    (at_ dDetect).tx 2 = dDetect ∧
    ((at_ dPilot).listens 0 ∧ dPilot ≤ (at_ dPilot).rx 0 ∧ (4 : Fin 5).val < laneCount 0 ∧ (at_ dPilot).get (Obj.rxPolarity 0 4) = 0 ∧
      (⟨(training (good 0)).hdr.toNat, (training (good 0)).body.toNat⟩ : Line).isMark ∧ blockOk (w64 (training (good 0)).body.toNat) ∧
      wfld (w64 (training (good 0)).body.toNat) 6 3 ≠ 4 ∧ blockOk (w64 (training (good 0 ^^^ 1)).body.toNat) = false) := by
  and_intros <;> decide +kernel

theorem witness_LaneFailures : (4 < laneCount 0 ∧ 4 < laneCount 1 ∧ (0 : Nat) < laneCount 2 ∧ laneCount 2 ≤ 1) ∧
    (let s := modPort 0 (fun x => { x with errs := [0, 0, 0, 0, 99] }) up; s.get (Obj.laneErrLimit 0) < (s.port 0).errs.getD 4 0) ∧
    ((up.port 0).errs.getD 4 0 ≤ up.get (Obj.laneErrLimit 0) ∧ up.get (Obj.laneState 0 4) = 0 ∧ (lanes 5 up).get (Obj.laneState 0 4) = 5) ∧
    (let s := (lanes 1 (at_ dActive)).put (Obj.laneState 0 4) 3
     let u := fun s => modPort 0 (fun x => { x with failing := setBit x.failing 1 true }) (failLane 0 1 7 s)
     s.get (Obj.laneState 0 1) = 1 ∧ bit (s.get (Obj.rxSet 0)) 1 ∧ (failLane 0 1 7 s).rx 0 = dActive ∧ (u s).spareLane 0 = some 4 ∧
       (failLane 0 1 7 (s.put (Obj.laneState 0 4) 5)).rx 0 = dActive ∧ (u (s.put (Obj.laneState 0 4) 5)).spareLane 0 = none) ∧
    (laneNum 3 < 3 ∧ 3 ≤ laneNum 7 ∧ (at_ dActive).tx 0 = dActive) ∧
    ((at_ dActive).listens 0 ∧ readLine ⟨3, 0⟩ = .bad (badWord 0) ∧ (3 : BitVec 2).toNat = 3 ∧ dPilot ≤ (at_ dPilot).rx 2 ∧ (at_ dPilot).listens 2 ∧
      (at_ dActive).rx 0 = dActive) ∧
    ((lanes 4 (at_ dActive)).rx 0 ≠ dEbb ∧ (lanes 4 (at_ dActive)).get (Obj.laneState 0 4) = 4 ∧ (lanes 4 (at_ dActive)).longAgo ((lanes 4 (at_ dActive)).laneCal 0 4).ebbAt = false ∧
      bit ((lanes 4 (at_ dActive)).port 0).reqSet 4 = false ∧ bit ((modPort 0 (fun x => { x with reqSet := 16 }) up).port 0).reqSet 4) ∧
    (takes .core (Obj.laneRetrain 0 4) 1 (lanes 5 (at_ dActive)) ∧ (lanes 5 (at_ dActive)).get (Obj.laneState 0 4) = 5 ∧
      bit ((lanes 5 (at_ dActive)).get (Obj.rxSet 0)) 4 = false) ∧ (takes .core (Obj.laneRetrain 2 0) 1 up ∧ up.get (Obj.laneState 2 0) ≠ 5) ∧
    (let s := modLane 0 4 (fun c => { c with retrain := dBlock }) (lanes 6 (at_ dPilot)); s.get (Obj.laneState 0 4) = 6 ∧ (s.laneCal 0 4).retrain = dBlock ∧ s.rx 0 ≠ dActive) ∧
    (let s := (modLane 0 4 (fun c => { c with retrain := dBlock }) (lanes 6 (at_ dActive))).put (Obj.rxSet 0) 7
     s.get (Obj.laneState 0 4) = 6 ∧ (s.laneCal 0 4).retrain = dBlock ∧ s.rx 0 = dActive ∧ laneNum (s.get (Obj.rxSet 0)) = 3) ∧
    (takes .core (Obj.retrain 0) 1 (at_ dPilot) ∧ (at_ dPilot).rx 0 ≠ dActive) ∧
    (takes .core (Obj.retrain 0) 1 (at_ dActive) ∧ (at_ dActive).get (Obj.admin 0) ≠ 1 ∧ (at_ dActive).rx 0 = dActive ∧ (at_ dActive).tx 0 = dActive) := by
  and_intros <;> decide +kernel

/-- A node whose port 0 is out of service. -/
def outOf : State := (at_ dActive).put (Obj.admin 0) 1

/-- A notice of node 9 of its direction to node 8, or of another origin. -/
def notice (origin : Nat) : W64 := good (origin * 2 ^ 48 + 8 * 2 ^ 40 + 2 ^ 39)

theorem witness_PortControl : ((at_ dActive).listens 0 ∧ (at_ dActive).rxOpen 1 ∧ blockOk (good 5) ∧ blockOk (good 5 ^^^ 1) = false) ∧
    (wfld (notice 9) 40 8 ≠ (at_ dActive).nodeNumber ∧ wfld (notice 9) 48 8 ≠ (at_ dActive).nodeNumber ∧
      (at_ dActive).ring.relayed.contains (wfld (notice 9) 48 8, wfld (notice 9) 32 4) = false ∧
      ((applySpan 9 8 true (at_ dActive)).bump Obj.spanNoticeCnt).tx 1 = dActive) ∧ wfld (notice up.nodeNumber) 48 8 = up.nodeNumber ∧
    ((at_ dActive).tx 0 = dActive ∧ 3 ≤ laneNum (wfld (good (7 * 2 ^ 51)) 51 5) ∧ laneNum (wfld (good (3 * 2 ^ 51)) 51 5) < 3) ∧
    ((at_ dActive).rx 0 = dActive ∧ (at_ dActive).get (Obj.rxSet 0) ≠ 0 ∧ (at_ dActive).get (Obj.rxSet 0) &&& wfld (good (31 * 2 ^ 51)) 51 5 = (at_ dActive).get (Obj.rxSet 0) ∧
      (at_ dActive).get (Obj.rxSet 0) &&& wfld (good (16 * 2 ^ 51)) 51 5 ≠ (at_ dActive).get (Obj.rxSet 0)) ∧
    (dHarbour ≤ (at_ dHarbour).rx 2 ∧ (at_ dHarbour).listens 2) ∧
    (let s := modPort 0 (fun x => { x with asked := true }) up; wfld (good (2 ^ 48 + 2 ^ 38)) 48 8 = s.nodeNumber ∧ (s.port 0).asked ∧ wfld (good (2 ^ 48 + 2 ^ 38)) 38 2 = 1) ∧
    (let s := outOf.put (Obj.farLoopAccept 0) 1; let m := good (5 * 2 ^ 48 + 2 ^ 40 + 2 ^ 38)
     wfld m 48 8 ≠ s.nodeNumber ∧ wfld m 40 8 = s.nodeNumber ∧ s.nodeNumber ≠ 0 ∧ wfld m 38 2 = 1 ∧ s.get (Obj.farLoopAccept 0) = 1 ∧ s.loopAllowed 0) ∧
    (let s := modPort 0 (fun x => { x with returning := true }) up; let m := good (5 * 2 ^ 48 + 2 ^ 40 + 2 * 2 ^ 38)
     wfld m 40 8 = s.nodeNumber ∧ wfld m 38 2 = 2 ∧ (s.port 0).returning ∧ (up.port 0).returning = false) ∧
    (takes .core (Obj.loopMode 0) 2 outOf ∧ outOf.loopAllowed 0 ∧ outOf.get (Obj.loopMode 0) = 0 ∧ takes .core (Obj.loopMode 2) 1 up) ∧
    (takes .core (Obj.loopMode 1) 3 up ∧ up.loopAllowed 1 = false) ∧ takes .core (Obj.prbsCtrl 2) 3 up ∧ takes .core (Obj.prbsCtrl 2) 7 up := by
  and_intros <;> decide +kernel

/-- A request frame for a dictionary object of node 2, of class 10. -/
def asked (dnode dport : Nat) (pay : List PWord) : Frame := ⟨mkHdr dnode 2 dport 2 0 pay.length 9 0, pay, mkTrl 0 pay⟩

/-- A frame in the Hold for an output. -/
def held (out : Nat) (f : Frame) (s : State) : State := enqueue 0 out .ring (Frame.words f) s

/-- A lane of port 0 with a trial. -/
def trialing (st : TrialSt) (taps : Nat) : State :=
  modCal 0 (fun c => { c with trial := some ⟨4, 6, st, 0, 8, taps, false⟩ }) (at_ dActive)

theorem witness_LaneCalibration : (at_ dActive).tx 2 = dActive ∧ ((at_ dActive).listens 0 ∧ (at_ dActive).rxOpen 0) ∧
    (let s := trialing .requested 1; (s.calPort 0).trial = some ⟨4, 6, .requested, 0, 8, 1, false⟩ ∧ (s.laneCal 0 4).farTaps ≠ 1) ∧
    (let s := modLane 0 4 (fun x => { x with farTaps := 7 }) (trialing .reverting 7); (s.calPort 0).trial = some ⟨4, 6, .reverting, 0, 8, 7, false⟩ ∧ (s.laneCal 0 4).farTaps = 7) ∧
    ((lanes 3 (at_ dActive)).monitored 0 4 ∧ ((lanes 3 (at_ dActive)).laneCal 0 4).axis = false) ∧
    (let s := modLane 0 4 (fun x => { x with axis := true }) (lanes 3 (at_ dActive)); s.monitored 0 4 ∧ (s.laneCal 0 4).axis) ∧
    ((lanes 3 (at_ dActive)).eqFrozen 0 = false ∧ (at_ dEbb).eqFrozen 0) := by and_intros <;> decide +kernel

/-- A node at a tick. -/
def when (n : Nat) : State := { up with tide := { up.tide with tick := n, beat := n, placed := true } }

/-- The next management frame of a kind at port 7 is read in full, so many words long and none of them poisoned. -/
def mgmt (port len : Nat) (s : State) : Bool :=
  (s.mgmtNext port).any (fun j => (localFrame j s).1.any (fun f => f.pay.length == len && f.pay.all (fun w => !w.p)))

theorem witness_SpanSurveys : ((when 64).tide.tick % 64 = 0 ∧ 64 ≤ (when 64).tide.tick) ∧
    ((when 65).released 4 ∧ (when 65).tide.tick % 64 = 1 ∧ 65 ≤ (when 65).tide.tick ∧ 4 ≤ (when 65).ownRoom 7 2) ∧
    ((when 72).tide.tick % 64 = 8 ∧ 72 ≤ (when 72).tide.tick) ∧
    (((when 72).mapNodes.map ((when 72).surveyFor ((when 72).tide.tick / 64 % 16))).filterMap id).length ≠ (when 72).mapNodes.length ∧
    mgmt 0xFD 2 (held 7 (asked 255 0xFD [⟨1, false⟩, ⟨2, false⟩]) up) ∧ mgmt 0xFE 1 (held 7 (asked 255 0xFE [⟨1, false⟩]) up) ∧
    ((when 1024).released 4 ∧ (when 1024).nodeNumber ≠ 0 ∧ 2 ≤ (when 1024).ownRoom 7 2 ∧ (when 1024).ring.surveyTick + 1024 ≤ (when 1024).tide.beat) ∧
    (let s := { up with ring := { up.ring with lastSurvey := w64 up.surveyWord } }
     s.ring.lastSurvey.toNat / 2 ^ 16 = s.surveyWord / 2 ^ 16 ∧ s.tide.beat < s.ring.surveyTick + 1024) := by and_intros <;> decide +kernel

theorem witness_FramesArrive : ((at_ dActive).listens 0 ∧ (at_ dActive).rxOpen 0) ∧
    (hdrOk planFrame.hdr ∧ hLen planFrame.hdr = planFrame.pay.length ∧ ¬ (hClass planFrame.hdr = 2)) ∧
    ((Cargo.mk true .middle 8 false 0).v ∧ beginsFrame ⟨true, .middle, 8, false, 0⟩ = false) ∧
    (hDnode (asked 5 0 []).hdr ≠ 255 ∧ hDnode (asked 5 0 []).hdr ≠ up.nodeNumber ∧ up.inPair (hDnode (asked 5 0 []).hdr) = false ∧
      hTtl (asked 5 0 []).hdr ≠ 0 ∧ hTtl (setTtl (asked 5 0 []).hdr 0) = 0 ∧ (1 ≠ up.twinSide ∨ 0 ≠ up.twinSide)) ∧
    (hDnode (asked 255 0 []).hdr = 255 ∧ up.consumes (asked 255 0 []).hdr = false ∧ up.workingChip) ∧
    (hDnode (asked 1 0x30 []).hdr = up.nodeNumber ∧ up.nodeNumber ≠ 255 ∧ chipPort (hDport (asked 1 0x30 []).hdr)) ∧
    (let h := (asked 1 0x10 []).hdr; hDnode h ≠ 255 ∧ chipPort (hDport h) = false ∧ (inMode .anchored).inPair (hDnode h) ∧ pairPort (hDport h) ∧
      (inMode .anchored).workingChip = false) := by and_intros <;> decide +kernel

/-- A node whose output 0 is up with credit. -/
def flowing : State := modPort 0 (fun p => { p with farLimit := 64, fresh := true }) (at_ dActive)

theorem witness_OutputsAndCredit :
    (let s := schedGo (held 0 (asked 5 0 [⟨1, false⟩]) flowing)
     s.txUp 0 ∧ s.get (Obj.outState 0) = 0 ∧ s.faults.lanesIdle = false ∧ ((s.turns 0).find? (s.mayStart 0 true 1000)).any (fun j => !s.manifestStale j)) ∧
    (let s := (held 0 (asked 5 0 [⟨1, false⟩]) flowing).put Obj.manifestGen 1
     let t : State := schedGo { s with
       hold := { s.hold with jobs := s.hold.jobs.map (fun j => { j with mdest := some ⟨5, 0, 0, 0⟩ }) }
       man := { s.man with disable := [5 * 2 ^ 24] } }
     t.txUp 0 ∧ t.get (Obj.outState 0) = 0 ∧ ((t.turns 0).find? (t.mayStart 0 true 1000)).any (fun j => t.manifestStale j)) ∧
    ((at_ dActive).listens 0 ∧ (at_ dActive).rxOpen 0 ∧ good 1 ≠ 0 ∧ good 1 ^^^ 1 ≠ 0 ∧ blockOk (good 1 ^^^ 1) = false ∧ wfld (good (2 ^ 52)) 52 4 = 1 ∧ blockOk (good (2 ^ 52)) ∧
      (at_ dActive).ring.ports.length = 3) ∧
    (let s := modPort 0 (fun p => { p with freed := 1 }) (at_ dActive); s.tx 0 = dActive ∧ s.faults.lanesIdle = false ∧ (s.port 0).freed ≠ (s.port 0).freedSent) ∧
    (let s := modPort 0 (fun p => { p with starved := 32 }) (at_ dActive); s.txUp 0 ∧ s.get (Obj.outState 0) = 0 ∧ (s.port 0).stalled = false ∧
      s.get Obj.stallTicks ≤ (s.port 0).starved) ∧
    (formed up ∧ up.get (Obj.outState 2) = 0 ∧ up.get Obj.lingerTicks ≠ 0) ∧
    (let s := up.put (Obj.outState 1) 1; s.get (Obj.outState 1) = 1 ∧ (s.port 1).linger = 0) ∧ reads Obj.sharedPeak up ∧ reads (Obj.reseqPeak 7) up := by
  and_intros <;> decide +kernel

/-- A node with every tag in a use. -/
def tagged (u : TagUse) (src : Req) : State :=
  { at_ dActive with bridge := { up.bridge with tags := List.replicate 16 ⟨u, 2, 1, 0, 2, false, src, 0, false, 0⟩ } }

/-- A request of the local core to node 2. -/
def req5 : LocalReq := ⟨7, 2, false, 2, 0x30, [⟨0, false⟩, ⟨0, false⟩], .core, 1, none, false, false⟩

theorem witness_BridgeIssues : spaceExists 0x02 = false ∧ aSpace (ringAddr 5 2 0) = 2 ∧ spaceExists 0x40 ∧ aSpace (ringAddr 5 0x40 0) = 0x40 ∧
    (∀ r ∈ postedFrames (ringAddr 5 0x40 0) [1, 2] true .core 1, (up.outsFor r).isEmpty) ∧
    ((∀ r ∈ postedFrames (ringAddr 2 0x30 0) [1, 2] false .core 1, ((linked).outsFor r).isEmpty = false) ∧
      (linked).roomForAll (postedFrames (ringAddr 2 0x30 0) [1, 2] false .core 1)) ∧
    (let s := { linked with hold := crowded.hold }
     (∀ r ∈ postedFrames (ringAddr 2 0x30 0) [1, 2] false .core 1, (s.outsFor r).isEmpty = false) ∧ s.roomForAll (postedFrames (ringAddr 2 0x30 0) [1, 2] false .core 1) = false) ∧
    ((up.outsFor req5).isEmpty ∧ ((linked).outsFor req5).isEmpty = false) ∧
    (req5.cls = 2 ∧ (linked).roomFor req5 ∧ (linked).freeTag = some 0 ∧ (linked).bridge.reqWait = []) ∧
    (tagged .held .core).freeTag = none ∧ (trySend req5 (linked)).isSome ∧ (trySend req5 (tagged .held .core)).isNone := by and_intros <;> decide +kernel

/-- A response frame from node 2 to the local bridge: OP, STATUS, RSEQ 0 of class 10. -/
def answered_ (op status : Nat) : Frame := asked 1 1 [⟨cmdWord op 3 1 0 status 0 0 2, false⟩]

/-- A node that holds a response at port 7. -/
def hears (f : Frame) (s : State) : State := held 7 f s

/-- The frame is the next response of an operation at port 7, and its tag, if any, is i. -/
def heard (op : Nat) (tag : Option Nat) (s : State) : Bool :=
  (s.localNext 7 (Job.forBridge (fun _ w => cOp w == op))).any (fun j =>
    match localFrame j s with
    | (some f, t) => (f.pay.getD 0 ⟨0, true⟩).p == false && t.tagFor .waiting f == tag
    | _ => false)

theorem witness_BridgeAnswers : heard 3 (some 0) (hears (answered_ 3 0) (tagged .waiting .core)) ∧ cStatus (Frame.word (answered_ 3 0) 0) = bsOk ∧
    heard 4 (some 0) (hears (answered_ 4 5) (tagged .waiting .core)) ∧ cStatus (Frame.word (answered_ 4 5) 0) ≠ bsOk ∧
    heard 3 none (hears (answered_ 3 0) up) ∧ cRcls (Frame.word (answered_ 3 0) 0) = 2 ∧
    (let s := { tagged .waiting .core with tide := { up.tide with beat := 8 } }
     let x := s.bridge.tags.getD 15 Tag.zero
     x.use = .waiting ∧ s.tagLeft x ∧ x.tick + s.get Obj.readTimeout ≤ s.tide.beat ∧ x.msg = false ∧
       s.tagLeft { x with msg := true } ∧ (⟨.held, 2, 1, 0, 2, false, .core, 0, false, 0⟩ : Tag).tick + s.get Obj.readTimeout ≤ s.tide.beat) ∧
    (let y : Xfer := ⟨1, 0, false, false⟩
     let s := modBridge (fun b => { b with xfers := [y], reqWait := [req5] }) (at_ dActive)
     s.bridge.xfers.find? (fun x => !x.aborted) = some y ∧ s.unsentOf y.id ≠ 0 ∧ (modBridge (fun b => { b with reqWait := [] }) s).unsentOf y.id = 0) ∧
    up.bridge.xfers.find? (fun x => !x.aborted) = none ∧
    (let s := modBridge (fun b => { b with respWait := [req5] }) (at_ dActive); s.bridge.respWait = [req5] ∧ s.roomFor req5) ∧
    (let s := modBridge (fun b => { b with refusals := [req5] }) (at_ dActive); s.bridge.respWait = [] ∧ s.bridge.refusals = [req5] ∧ s.roomFor req5) := by
  and_intros <;> decide +kernel

/-- A request of a space, to this node: OP, SIZE, COUNT. -/
def wants (space op size count off : Nat) (data : List PWord) : Frame :=
  asked 1 space (⟨cmdWord op size count 0 0 0 0 0, false⟩ :: ⟨ringAddr 1 space off, false⟩ :: data)

/-- The frame is the next request at local port q that a test picks. -/
def waits (q : Nat) (test : W64 → W64 → Bool) (f : Frame) : Bool :=
  let s := held (3 + q) f up
  (s.localNext (3 + q) (Job.forBridge test)).any (fun j => (localFrame j s).1 == some f)

/-- The checks of a request at this node answer a status. -/
def admitted (f : Frame) (code : Nat) (s : State) : Bool :=
  (admitReq 0 (tTick f.trl) f.hdr (Frame.word f 1) s).1 == code

/-- A node whose crane 0 has a full transmit FIFO. -/
def clogged : State := { up with fifos := [(64, { Fifo.empty with words := List.replicate 8 ⟨true, .only, 8, false, 0⟩ })] }

theorem witness_RequestsServed :
    waits 3 (fun h w => !badOp h w && isReadOp (cOp w)) (wants 0x40 1 3 1 0 []) ∧
    waits 0 (fun h w => !badOp h w && !isReadOp (cOp w)) (wants 1 2 3 1 0x20 [⟨1, false⟩]) ∧
    waits 4 (fun h w => badOp h w && !isRespOp (cOp w)) (wants 0 0xF 3 1 0 []) ∧ up.localNext 5 (Job.forBridge (fun _ _ => true)) = none ∧
    (admitted (wants 1 1 3 1 0 []) bsOk up ∧ badOp (wants 1 1 3 1 0 []).hdr (Frame.word (wants 1 1 3 1 0 []) 0) = false ∧
      hDnode (wants 1 1 3 1 0 []).hdr ≠ 255 ∧ cOp (Frame.word (wants 1 1 3 1 0 []) 0) ≠ 8) ∧ badOp (wants 0 0xF 3 1 0 []).hdr (Frame.word (wants 0 0xF 3 1 0 []) 0) ∧
    (admitted (wants 0 1 2 1 0 []) bsOk up ∧ aSpace (Frame.word (wants 0 1 2 1 0 []) 1) = 0 ∧ aSpace (Frame.word (wants 1 1 3 1 0 []) 1) ≠ 0) ∧
    (admitted (wants 1 1 3 1 0 []) bsNotWorking (inMode .anchored) ∧
      (inMode .anchored).spaceCode (wants 1 1 3 1 0 []).hdr (Frame.word (wants 1 1 3 1 0 []) 1) = bsNotWorking) ∧
    (let s := modBridge (fun b => { b with order := [(2, 1, 9)] }) up
     s.spaceCode (wants 1 1 3 1 0 []).hdr (Frame.word (wants 1 1 3 1 0 []) 1) = bsOk ∧ orderTake 0 2 8 s = none ∧ (orderTake 0 2 10 s).isSome) ∧
    winAt 1 0xFFFFFF = none ∧ ((winAt 1 0).any (fun w => !isPop w.kind && readCheck w 0 3 1 == bsOk)) ∧
    ((winAt 0x10 0x40).any (fun w => isPop w.kind && readCheck w 0x40 4 1 == bsOk)) ∧
    ((winAt 1 0x20).any (fun w => writeCheck w 0x20 3 1 true == bsOk && (writeElems w 8 0 0x20 (unpackElems 8 1 ⟨1, false⟩) up).1 == bsOk)) ∧
    ((winAt 0x30 0x28).any (fun w => writeCheck w 0x28 3 1 true == bsOk && (writeElems w 8 0 0x28 (unpackElems 8 1 ⟨7, false⟩) up).1 != bsOk)) := by
  and_intros <;> decide +kernel

/-- A posted write of one word to the output image. -/
def posted (ack : Nat) : Frame :=
  let pay : List PWord := [⟨ringAddr 1 1 0x20, false⟩, ⟨5, false⟩]
  ⟨mkHdr 1 2 1 1 0 2 9 ack, pay, mkTrl 0 pay⟩

theorem witness_PostedWritesAndPrefetch :
    (let s := held 3 (posted 0) up
     s.postWaits 3 = none ∧ (s.localNext 3 (fun j => hClass j.hdr == 1)).any (fun j => (readWords j.bays 0 j.words s).1 == Frame.words (posted 0) && !j.own &&
       frameOf (Frame.words (posted 0)) == some (posted 0) && Frame.crcOk (posted 0))) ∧ up.localNext 3 (fun j => hClass j.hdr == 1) = none ∧
    (let a := Frame.word (posted 0) 0
     up.spaceCode (posted 0).hdr a = bsOk ∧ (admitReq 0 0 (posted 0).hdr a up).1 = bsOk ∧ up.postedCheck a 1 = bsOk ∧ (performPosted a [⟨5, false⟩] up).isSome) ∧
    (let a := ringAddr 1 0x10 0
     let h := mkHdr 1 2 0x10 1 0 2 9 1
     hAck h ∧ clogged.spaceCode h a = bsOk ∧ (admitReq 0 0 h a clogged).1 = bsOk ∧ hAck (mkHdr 1 2 0x10 1 0 2 9 0) = false ∧ clogged.postedCheck a 1 = bsOk ∧ (performPosted a [⟨5, false⟩] clogged).isNone) ∧
    (hAck (posted 0).hdr = false ∧ hAck (posted 1).hdr ∧ hDnode (posted 0).hdr ≠ 255 ∧ hDnode (posted 1).hdr ≠ 255) ∧
    (let w : PostWait := ⟨posted 0, none, 3, 0⟩
     let s := modBridge (fun b => { b with postWait := [w] }) { up with tide := { up.tide with beat := 1 } }
     s.postWaits 3 = some w ∧ (tryPosted w.frame (unwait w s)).isSome ∧ s.spaceCode w.frame.hdr (Frame.word w.frame 0) = bsOk ∧
       w.tick + s.get Obj.targetWait ≤ s.tide.beat) ∧
    (let s := modBridge (fun b => { b with ahead := some (2, ⟨5, 0x10, 0x40, 0x48, 8, 0⟩, 0x40) }) (up.put Obj.prefetchEn (2 ^ 5))
     s.bridge.ahead = some (2, ⟨5, 0x10, 0x40, 0x48, 8, 0⟩, 0x40) ∧ s.prefetches ⟨5, 0x10, 0x40, 0x48, 8, 0⟩ ∧ s.serves 0x10 ∧ isPop 5) := by and_intros <;> decide +kernel

/-- CAN controller 7 on the bus, FD enabled, with buffer 63 a transmit buffer in a state. -/
def can (st : CanSt) (status : Nat) (tx : Option CanTx) : State :=
  { (up.put (Obj.canCtrl 7) 3).put (Obj.bufDir 7) (2 ^ 63) with
    can := ⟨[(7, { Can.zero with st := st, ctrl := 3, tx := tx, bufs := [(63, { CanBuf.zero with status := status, words := [2 ^ 60] })] })], []⟩ }

/-- A classic CAN frame. -/
def canFrame : CanFrame := ⟨0x123, false, false, false, false, false, [1, 2]⟩

/-- The same controller with a message in its gateway queue. -/
def queued : State := { can .on 0 none with fifos := [(gwQueue 7, { Fifo.empty with words := [⟨true, .first, 8, false, 2 ^ 60⟩, ⟨true, .last, 8, false, 0⟩] })] }

theorem witness_CanMessages : ((can .on 0 none).servesPair ∧ (can .on 0 none).canTxBuf 7 63 ∧ ((can .on 0 none).canBuf 7 63).status = 0) ∧
    (((can .on 1 none).canBuf 7 63).status = 1 ∧ ((can .busOff 5 none).canBuf 7 63).status = 5) ∧
    (((can .on 2 (some ⟨63, false, 0, []⟩)).canBuf 7 63).status = 2 ∧ (can .on 2 (some ⟨63, false, 0, []⟩)).sending 7 63 ∧ (can .on 2 none).sending 7 63 = false) ∧ ((can .on 9 none).canBuf 7 63).status = 9 ∧
    (((can .on 0 none).ctl 7).st = .on ∧ ((can .on 0 none).ctl 7).tx = none ∧ (!((can .on 0 none).ctl 7).applyDue) ∧ ccMode ((can .on 0 none).ctl 7).ctrl = 0 ∧
      (can .on 0 none).candidates 7 = []) ∧
    ((least ((can .on 1 none).candidates 7)).any (fun e => e.1 == 63) ∧ (bufBad 7 63 (can .on 1 none)).1 = false) ∧
    ((least (queued.candidates 7)).any (fun e => e.1 == 65) ∧ queued.gwBad 7 = false) ∧
    (((can .on 2 (some ⟨63, false, 0, []⟩)).ctl 7).tx = some ⟨63, false, 0, []⟩ ∧ ((can .on 0 (some ⟨65, false, 0, []⟩)).ctl 7).tx = some ⟨65, false, 0, []⟩) ∧ (CanFrame.valid canFrame ∧ canFrame.fdf = false) ∧
    (((can .on 0 none).putBlob (Obj.canFilters 7) (bytesOf 16 0 ++ bytesOf 16 (0x123 * 2 ^ 99 + 2 ^ 64))).filterFor 7 canFrame = some 1) := by
  and_intros <;> decide +kernel

theorem witness_CanControl : ((can .on 0 none).ctl 7).st = .on ∧ ccMode ((can .on 0 none).ctl 7).ctrl = 0 ∧
    (let s := { can .on 0 none with can := ⟨[(7, { Can.zero with st := .on, ctrl := 7 })], []⟩ }; (s.ctl 7).st = .on ∧ ccMode (s.ctl 7).ctrl ≠ 0) ∧
    (takes .core (Obj.canCmd 7) 1 (can .busOff 0 none) ∧ takes .core (Obj.canCmd 7) 1 (can .on 0 none) ∧ takes .core (Obj.canCmd 7) 2 up ∧
      takes .core (Obj.canCmd 7) 3 up) ∧ ((can .recovering 0 none).ctl 7).st = .recovering ∧ ((can .joining 0 none).ctl 7).st = .joining ∧
    (let s := modCtl 7 (fun c => { c with applyDue := true }) (can .on 0 none); (s.ctl 7).applyDue ∧ (s.ctl 7).tx = none) ∧
    takes .core (Obj.canIrq 7) 0x1FF up ∧ (takes .core (Obj.canCommit 7) 1 up ∧ (queueTide (Obj.canCommit 7).key [1] up).isSome) ∧
    ((up.canFault 0).isSome ∨ up.canFault 0 = none) := by and_intros <;> decide +kernel

/-- Eight words whose last one carries the right CRC. -/
def eight (w0 w2 w3 : W64) : List Cargo :=
  let ws : List W64 := [w0, 0, w2, w3, 0, 0, 0]
  (ws ++ [w64 (crc32c (bytesOfWords ws))]).map (fun d => ⟨true, .middle, 8, false, d⟩)

/-- A node that leads domain A. -/
def master : State := up.put Obj.masterA 1

theorem witness_TimesReceived :
    (let s := returned 1 ([].map .word) (at_ dActive); s.listens 1 ∧ s.rxOpen 1 ∧ checkEight ([] ++ [] ++ [⟨true, .middle, 8, false, 0⟩]) = false) ∧
    (let ws := eight (2 ^ 52) 1 8
     checkEight (ws.take 4 ++ (ws.drop 4).take 3 ++ [ws.getD 7 Cargo.empty]) ∧ checkEight (ws.take 4 ++ [ws.getD 4 Cargo.empty] ++ (ws.drop 5).take 2 ++ [ws.getD 7 Cargo.empty]) ∧
       ws.any (·.p) = false ∧ (at_ dActive).echoSample 1 ws = none) ∧
    (let ws := eight (2 ^ 48 - 1) 1 0
     let s := modPort 1 (fun q => { q with lastStamp := some 0 }) (at_ dActive)
     checkEight ws ∧ ws.any (·.p) = false ∧ (s.echoSample 1 ws).isSome) ∧ up.released 7 ∧
    (let s := { up with time := { up.time with pps := some 0 } }; s.time.pps = some 0 ∧ 1000000 * 65536 < ((0 : Int) - 0 - (secUnits : Int)).natAbs ∧
      up.masters 0 = false) ∧ up.time.pps = none ∧ up.masters 0 = false ∧ up.masters 1 = false ∧
    ((master.put Obj.ppsState 1).masters 0 ∧ bit ((master.put Obj.masterSrc 1).get Obj.masterSrc) 0 ∧ (master.domain 0).setTo = none ∧ master.masters 1 = false) ∧
    (let s := (master.put Obj.ppsState 1).put Obj.masterSrc 1
     s.get Obj.ppsState = 1 ∧ (s.masters 0 && bit (s.get Obj.masterSrc) 0 || s.masters 1 && bit (s.get Obj.masterSrc) 4) = true) ∧
    (let s := up.put Obj.ppsState 1; (s.masters 0 && bit (s.get Obj.masterSrc) 0 || s.masters 1 && bit (s.get Obj.masterSrc) 4) = false) ∧
    (takes .core Obj.timeSet 999999999 master ∧ master.masters 0 ∧ fld 999999999 0 32 < 1000000000 ∧ takes .core Obj.timeSet 1000000000 master ∧ 1000000000 ≤ fld 1000000000 0 32) ∧ takes .core Obj.timeSet 0 up ∧
    (takes .core Obj.domainSwitch (2 * 2 ^ 16) up ∧ up.switchCode (1 * 2 ^ 16) ≠ 0) := by and_intros <;> decide +kernel

theorem witness_DomainSwitch : ∃ s : State, takes .core Obj.domainSwitch (2 * 2 ^ 16) s ∧ s.switchCode (2 * 2 ^ 16) = 0 :=
  ⟨(up.put (Obj.domState 0) 2).put (Obj.domState 1) 2, by and_intros <;> decide +kernel⟩

/-- A node with pulse generator 15 in a state. -/
def pulse (st : Nat) (active : Bool) : State := setGen 15 { up.gen 15 with st := st, active := active } up

theorem witness_PinsAndPulses : (256 ≤ (263 : Fin 264).val ∧ up.released 7 ∧ State.reset.released 7 = false ∧ (255 : Fin 264).val < 256 ∧ lit.hears 255 ∧ State.reset.hears 255 = false) ∧ (bit State.reset.pins.inBuf (255 / 64) = false ∧ bit up.pins.inBuf (255 / 64)) ∧
    (((pulse 1 false).gen 15).st = 1 ∧ ((pulse 1 false).gen 15).active = false ∧ ((pulse 2 true).gen 15).st = 2 ∧ ((pulse 2 true).gen 15).active) ∧
    ((up.gen 15).st ≠ 1 ∧ (up.gen 15).st ≠ 2) ∧
    (takes .core (Obj.pgControl 15) ((5 : W64) ||| 0x10000).toNat up ∧ takes .core (Obj.pgControl 15) (clearBits ((5 : W64) ||| 0x20000).toNat 0x10000) up ∧
      takes .core (Obj.pgControl 15) (up.get (Obj.pgControl 15) / 2 ^ 9 * 2 ^ 9 + 5) up) ∧
    (bit 0x20000 16 = false ∧ bit 0x20000 17 ∧ bit 0x10000 16 ∧ bit 0x10000 17 = false) ∧ (genRelease 0 0 up).armCode 0 0x10000 ≠ 0 := by
  and_intros <;> decide +kernel

theorem witness_PulseArms : (let s := up.put (Obj.pgWidth 0) (4 * 2 ^ 16); let v := 0x10000 + 511; (genRelease 0 (fld v 0 9) s).armCode 0 v = 0) ∧
    bit (0x10000 + 511) 16 ∧ bit (0x10000 + 511) 17 = false := by decide +kernel

/-- A frame of the twin. -/
def twinFrame (kind rest : Nat) (n : Nat) : Frame := asked 1 0xFB (⟨w64 (kind * 2 ^ 56 + rest), false⟩ :: List.replicate (n - 1) ⟨0, false⟩)

/-- A node that waits for the acknowledgement of a copy. -/
def copying (tries : Nat) : State :=
  { at_ dActive with twin := { up.twin with sending := some (slotBytes 0 1 1 1 1 1 []), tries := tries, retryWait := true } }

/-- An Anchored node that listens to its twin. -/
def second : State := ports dActive (inMode .anchored)

theorem witness_TwinFrames : (at_ dActive).takesTwin (twinFrame 1 0 6) 1 6 ∧ (at_ dActive).takesTwin (twinFrame 2 0 4) 2 4 ∧
    ((at_ dActive).isTwinFrame { twinFrame 1 0 6 with trl := 1 } ∧ Frame.crcOk { twinFrame 1 0 6 with trl := 1 } = false) ∧
    ((at_ dActive).isTwinFrame (twinFrame 5 0 1) ∧ 4 < twinKind (twinFrame 5 0 1)) ∧
    (second.takesTwin (twinFrame 3 0 32) 3 32 ∧ second.takesCopy ∧ wfld (Frame.word (twinFrame 3 0 32) 0) 0 16 = 0 ∧
      bit (Frame.word (twinFrame 3 0 32) 0).toNat 55 = false) ∧ slotValid [] = false ∧
    (slotValid (slotBytes 0 1 1 1 1 1 []) ∧ slPair (slotBytes 0 1 1 1 1 1 []) = second.node.pair ∧ second.twin.rxBad = false) ∧
    ((copying 3).takesTwin (twinFrame 4 (1 * 2 ^ 16) 1) 4 1 ∧ wfld (Frame.word (twinFrame 4 (1 * 2 ^ 16) 1) 0) 16 32 = slGen (slotBytes 0 1 1 1 1 1 []) ∧
      wfld (Frame.word (twinFrame 4 (1 * 2 ^ 16) 1) 0) 8 8 = 0 ∧ wfld (Frame.word (twinFrame 4 (1 * 2 ^ 16 + 2 * 2 ^ 8) 1) 0) 8 8 = 2 ∧
      3 ≤ (copying 3).twin.tries ∧ (copying 0).twin.tries < 3 ∧ (copying 0).twin.retryWait) := by and_intros <;> decide +kernel

/-- An owner whose twin reports itself ready. -/
def paired (crit : Nat) : State :=
  { up with twin := { up.twin with health := some [w64 (2 ^ 43)], healthAge := 31, crit := crit } }

/-- An Anchored chip ready to take the pins. -/
def taker (pick : PickSt) : State :=
  { second with node := { second.node with loaded := true }, twin := { up.twin with pick := pick, stDone := true } }

theorem witness_OwnershipPasses : ((paired 4).giveUpCode.isSome ∧ (paired 4).mayRelease ∧ (paired 4).twinReady) ∧
    (takes .core Obj.handover 1 (paired 0) ∧ (paired 0).get Obj.handover ≠ stBusy ∧ (paired 0).abortNext = false ∧ (paired 0).mayRelease ∧
      { paired 0 with pending := [.handoverAbort .core] }.abortNext) ∧ (up.mayRelease ∧ up.twinReady = false) ∧
    (takes .core Obj.handover 1 (inMode .dryDock) ∧ (inMode .dryDock).mayRelease = false) ∧
    (let s := { paired 0 with twin := { (paired 0).twin with handPend := true } }; takes .core Obj.handover 2 s ∧ s.twin.handPend) ∧
    ((taker .none).anchored ∧ (taker .none).healthGood ∧ (taker .none).node.loaded ∧ (taker .none).twin.claimWait = false ∧ (taker .none).twin.pick = .none ∧
      (taker .none).upd.state ≠ 3 ∧ (taker .none).upd.state ≠ 5 ∧ (taker .none).node.claim = false) ∧ (taker .started).twin.pick = .started ∧ (taker (.sampling 2)).twin.pick = .sampling 2 ∧
    ((taker .driven).twin.pick = .driven ∧ (taker .driven).anchored) ∧
    (second.node.claim = false ∧ second.node.mode ≠ .approach ∧ second.twin.handed = false ∧ second.rst.crit ≠ .waitKeepers) ∧
    (let s := { second.put Obj.handover 2 with twin := { up.twin with handed := true } }; formed s ∧ s.twin.handed ∧ s.twin.lateAbort = false ∧ s.get Obj.handover = stBusy) ∧
    (let s := { second with twin := { up.twin with claimWait := true } }; s.twin.claimWait ∧ s.anchored ∧ s.ownLine ∧ s.upd.state ≠ 3 ∧ s.upd.state ≠ 5 ∧
      takes .core Obj.handover 2 s ∧ s.twin.handPend = false ∧ (modTwin (fun t => { t with handed := true }) s).twin.handed) ∧
    { second with rst := { second.rst with crit := .waitKeepers } }.rst.crit = .waitKeepers := by
  and_intros <;> decide +kernel

/-- An owner whose saved state is being written. -/
def writing : State := { up with twin := { up.twin with writing := some (slotBytes 0 1 1 1 1 1 []), saveDue := true } }

theorem witness_SavedState : second.anchored ∧ (takes .core Obj.stateSave 1 up ∧ up.get Obj.stateSave ≠ stBusy ∧ up.node.owns) ∧
    (let s := up.put Obj.stateSave 2; let o := Obj.stateSave
     s.serveCode o.idx o.sub = ecOk ∧ s.findObj o.idx o.sub = some o ∧ s.modeCode o = ecOk ∧ s.rightCode .core o = ecOk ∧ s.get o = stBusy) ∧
    (writing.twin.writing = some (slotBytes 0 1 1 1 1 1 []) ∧ writing.cfgWriting = false ∧ writing.node.mode = .working ∧ writing.get Obj.stateSave ≠ stBusy ∧
      writing.twin.saveDue) := by and_intros <;> decide +kernel

/-- A node at work with a good supply and a manifest-valid update path, its session in a state. -/
def session (f : UpdState → UpdState) : State := { up with upd := f { up.upd with mnv := true }, gw := { up.gw with vin := 21600 } }

/-- A session that is open for delivery. -/
def s524 : State := session (fun u => { u with isOpen := true, state := 1 })

theorem witness_UpdateSession : (takes .core Obj.updCmd 1 (session id) ∧ (session id).openCode true = 0) ∧ (takes .core Obj.updCmd 1 up ∧ up.openCode true ≠ 0) ∧
    (let s := session (fun u => { u with resumable := true }); takes .core Obj.updCmd 2 s ∧ s.openCode true = 0 ∧ s.upd.resumable) ∧
    (session (fun u => { u with erasing := true })).upd.erasing ∧
    (let s := session (fun u => { u with isOpen := true, state := 1 }); let bs := bytesOf 4 0 ++ [7]
     takesBytes .core Obj.updChunk bs s ∧ 5 ≤ bs.length ∧ s.upd.isOpen ∧ s.upd.erasing = false ∧ s.upd.state = 1 ∧ num bs 0 4 = s.get Obj.updReceived ∧
       num bs 0 4 + (bs.length - 4) ≤ 524288 ∧ takes .core Obj.updCmd 3 s ∧ takes .core Obj.updCmd 6 s ∧ s.upd.state < 3) ∧
    (let s := session (fun u => { u with verifying := true }); s.upd.verifying ∧ s.upd.guardEnd = false ∧ (modUpd (fun u => { u with guardEnd := true }) s).upd.guardEnd) ∧
    (s524.upd.isOpen ∧ takesBytes .core Obj.updChunk (bytesOf 4 524288 ++ [7]) s524 ∧ 524288 < num (bytesOf 4 524288 ++ [7]) 0 4 + 1) ∧
    (takes .core Obj.updCmd 3 up ∧ up.upd.isOpen = false ∧ takes .core Obj.updCmd 6 up) := by and_intros <;> decide +kernel

/-- A verified image of a kind in the spare slot. -/
def verified (kind : Nat) (g : UpdState → UpdState) : State :=
  let s := session (fun u => g { u with isOpen := true, state := 2 })
  { s with flash := { s.flash with image1 := bytesOf 2 1 ++ bytesOf 1 kind } }

theorem witness_UpdateActivation :
    (let s := verified 1 id; takes .core Obj.updCmd 4 s ∧ s.upd.isOpen ∧ s.upd.state = 2 ∧ s.upd.verifying = false ∧ s.guardCode = 0 ∧ imKind (s.image s.spareImage) ≠ 2) ∧
    (let s := verified 2 id; takes .core Obj.updCmd 4 s ∧ s.guardCode = 0 ∧ imKind (s.image s.spareImage) = 2) ∧
    (let s := verified 1 (fun u => { u with mnv := false }); takes .core Obj.updCmd 4 s ∧ s.guardCode ≠ 0) ∧
    (let s := session (fun u => { u with state := 3 }); s.upd.state = 3 ∧ s.upd.config = false ∧ s.upd.pause = false ∧ s.upd.relay = none) ∧
    (let s := session (fun u => { u with state := 3, pause := true }); s.upd.pause ∧ s.upd.state = 3) ∧
    (let s := session (fun u => { u with state := 4 }); takes .core Obj.updCmd 5 s ∧ s.upd.state = 4 ∧ s.upd.config = false ∧ takes .core Obj.updCmd 7 s ∧ s.upd.state ≠ 3) ∧
    (let s := session (fun u => { u with state := 4, config := true }); s.upd.state = 4 ∧ s.upd.config) ∧
    (let s := (session (fun u => { u with state := 3 })).put Obj.updCmd 2; takes .core Obj.updCmd 7 s ∧ s.upd.state = 3 ∧ s.upd.config = false) ∧
    (let s := (session (fun u => { u with state := 3, config := true })).put Obj.updCmd 2; takes .core Obj.updCmd 7 s ∧ s.upd.cfgReady = false ∧ s.tide.pause = 0) ∧
    (let s := session (fun u => { u with state := 5, pause := true }); s.upd.pause ∧ s.upd.state = 5) ∧
    (takes .core Obj.updCmd 4 up ∧ up.upd.isOpen = false ∧ takes .core Obj.updCmd 5 up ∧ up.upd.state ≠ 4) := by
  and_intros <;> decide +kernel

/-- A relay frame of a kind from node 2. -/
def relay (kind : Nat) (p : Bool) : Frame :=
  let pay : List PWord := [⟨w64 (kind * 2 ^ 56), p⟩]
  ⟨mkHdr 1 2 0 2 0 1 9 4, pay, mkTrl 0 pay⟩

/-- Port 7 holds it as its next relay frame of the kinds a test picks. -/
def relays (test : Nat → Bool) (f : Frame) : Bool :=
  let s := held 7 f up
  (s.localNext 7 (Job.relayed test)).any (fun j => (localFrame j s).1 == some f)

theorem witness_RelayPath : relays (· == 1) (relay 1 false) ∧ relays (· == 6) (relay 6 false) ∧ relays (· == 1) (relay 1 true) ∧
    ((relay 1 true).pay.any (·.p) ∧ (relay 1 false).pay.any (·.p) = false) ∧ (up.upd.pause = false ∧ up.tide.pause = 0) ∧
    (relays (fun k => k == 0 || decide (6 < k)) (relay 7 false) ∧ rKind (Frame.word (relay 7 false) 0) ≠ 0x81) ∧
    (relays (fun k => k == 0 || decide (6 < k)) (relay 0x81 false) ∧ rKind (Frame.word (relay 0x81 false) 0) = 0x81) ∧
    (up.holds (relayReq (relay 1 false)) = false ∧ { up with dict := { up.dict with holder := some (.ring 2) } }.holds (relayReq (relay 1 false))) ∧
    up.get Obj.updCmd ≠ stBusy := by and_intros <;> decide +kernel

/-- A context of a download of 8 bytes, half of it done. -/
def half : Ctx := ⟨.core, Obj.swapReq.idx, Obj.swapReq.sub, true, 16, [1, 2, 3, 4], 0⟩

/-- A node that keeps it. -/
def loading : State := { up with dict := { up.dict with ctxs := [half] } }

theorem witness_SegmentedTransfers : (up.serveCode Obj.swapReq.idx Obj.swapReq.sub = ecOk ∧ up.findObj Obj.swapReq.idx Obj.swapReq.sub = some Obj.swapReq ∧
      up.modeCode Obj.swapReq = ecOk ∧ Obj.swapReq.acc ≠ .wo ∧ copyObj Obj.swapReq = false) ∧
    (openCtx .core Obj.swapReq ⟨.core, Obj.swapReq.idx, Obj.swapReq.sub, false, 0, [], 0⟩ up).isSome ∧
    (let s := { up with dict := { up.dict with ctxs := List.replicate 8 ⟨.ring 9, 0, 0, false, 0, [], 0⟩ } }
     openCtx .core Obj.swapReq ⟨.core, Obj.swapReq.idx, Obj.swapReq.sub, false, 0, [], 0⟩ s = none) ∧ up.ctxOf .core Obj.swapReq = none ∧
    (loading.otherDownload (.ring 9) Obj.swapReq ∧ up.otherDownload (.ring 9) Obj.swapReq = false ∧ up.segOpenCode .core Obj.swapReq = ecOk ∧
      (inMode .slipway).segOpenCode (.ring 9) Obj.swapReq ≠ ecOk) ∧
    (loading.ctxOf .core Obj.swapReq = some half ∧ half.download ∧ half.data.length + [5].length < half.total ∧ half.data.length + (List.replicate 12 5).length = half.total) ∧
    loading.dict.ctxs.any (fun c => c.req == .core && c.idx == Obj.swapReq.idx && c.sub == Obj.swapReq.sub) := by and_intros <;> decide +kernel

/-- A request to read an object of node 1, as a datagram to a UDP port. -/
def datagram (port : BitVec 16) (bad : Bool) : Datagram :=
  let h := 1 * 2 ^ 56 + 2 * 2 ^ 38 + 2 * 2 ^ 20
  ⟨7, 1000, port, bad, bytesOf 2 1 ++ bytesOf 2 9 ++ bytesOf 1 1 ++ bytesOf 3 0 ++ bytesOf 8 h ++ bytesOf 8 (cmdWord 1 2 1 0 0 0 0 0).toNat ++
    bytesOf 8 (ringAddr 1 0 0).toNat⟩

theorem witness_GangplankHost : (up.released 5 ∧ up.node.mode ≠ .approach ∧ (datagram 47271 false).dstPort.toNat = 47271 ∧ up.dict.waiting.length < 16 ∧ up.paused = false) ∧
    (Datagram.good (datagram 47270 true) = false) ∧ (Datagram.good (datagram 47270 false) ∧ up.gpRole (datagram 47270 false) = false) ∧
    (up.gpRole (datagram 47271 false) ∧ up.gpOwn (datagram 47271 false)) ∧
    (let s := (up.put Obj.gpHostAddr 7).put Obj.gpRxCnt 1
     let d : Datagram := { datagram 47270 false with bytes := (datagram 47270 false).bytes.set 15 2 }
     Datagram.good d ∧ s.gpRole d ∧ s.gpOwn d = false) ∧ ({ up with tide := { up.tide with pause := 1 } }.paused ∧
      16 ≤ { up with dict := { up.dict with waiting := List.replicate 16 (datagram 47271 false) } }.dict.waiting.length) ∧
    (let pay := bytesOf 8 (ringAddr 2 0x30 0).toNat ++ bytesOf 8 5
     let d : Datagram := { datagram 47270 false with bytes := bytesOf 8 0 ++ bytesOf 8 (2 * 2 ^ 56 + 0x30 * 2 ^ 40 + 1 * 2 ^ 38 + 2 * 2 ^ 20) ++ pay }
     let t := { linked with hold := crowded.hold }
     t.issueCode (Datagram.frame d) = bsOk ∧ (Datagram.frame d).cls = 1 ∧ t.roomFor (Datagram.frame d) = false) ∧
    up.gpAddr < 2 ^ 32 := by and_intros <;> decide +kernel

theorem witness_LocalWindows : up.serves 0x10 ∧ up.serves 0x40 ∧ (fifoPop 63 up).1.v = false ∧ ((63 : Fin 180).val < 64 ∧ 128 ≤ (135 : Fin 180).val ∧ 144 ≤ (179 : Fin 180).val) ∧
    (let s := modBridge (fun b => { b with latch := some (0, 4) }) { up with tide := { up.tide with beat := 5 } }; s.bridge.latch = some (0, 4) ∧ s.tide.beat ≤ 4 + 1 ∧ 4 + 1 < { s.tide with beat := 6 }.beat) ∧
    up.bridge.latch = none ∧ (inMode .slipway).serves 0x10 = false ∧ (inMode .slipway).serves 0x40 = false := by
  and_intros <;> decide +kernel

/-- A manifest record of entry 2047: CAN frames of controller 7 with an identifier go to crane 63. -/
def manRec (pad : Nat) : List Byte := bytesOf 2 2047 ++ bytesOf 2 pad ++ bytesOf 16 0

theorem witness_ManifestCommits : takes .core Obj.manifestCommit 1 up ∧ up.man.checking = none ∧ formed up ∧ (manFail manReset (manRec 1) none).isSome ∧
    manFail manReset (manRec 0) none = none ∧ 0 < (manRec 0).length / 20 ∧
    { up with man := { up.man with checking := some (manRec 0, none) } }.man.checking = some (manRec 0, none) := by and_intros <;> decide +kernel

theorem witness_FifoParity : formed (recorded .contained) ∧ (recorded .contained).released 4 ∧ (recorded .contained).openRec 0x25 (fifoInst 3) ∧
    (up.openRec 0x25 (fifoInst 179) = false ∧ freePlace up.faults.recs 0 60 = some 0) := by and_intros <;> decide +kernel

theorem witness_CheckUnitsAtReset : formed doomed ∧ doomed.rst.vaon ∧ (!doomed.rst.pinLow) ∧ doomed.rst.wdt ∧ doomed.rst.cmd.isSome ∧
    doomed.rst.crit = .running ∧ doomed.node.mode ≠ .approach ∧ formed (blocks .quiescing) ∧ (blocks .quiescing).block 15 = .quiescing ∧
    (blocks .quiescing).block 18 = .quiescing ∧
    (blocks .quiescing).rst.blkAsked + (blocks .quiescing).get Obj.quiesceTicks ≤ { (blocks .quiescing).tide with beat := 64 }.beat ∧
    (let s := { approaching with rst := { approaching.rst with reinsert := true } }; formed s ∧ s.node.mode = .approach ∧ s.gwPg ∧ s.rst.pinLow = false ∧ s.rst.vaon ∧ s.rst.reinsert) := by
  and_intros <;> decide +kernel

/-! Ill-formed commands: one for each check of `Instr.wellFormed`. -/

theorem test_ill_formed :
    let words := fun n => List.replicate n (Cargo.mk true .middle 8 false 0)
    let f : Frame := ⟨0, List.replicate 33 ⟨0, false⟩, 0⟩
    ([.tickBoundary ⟨[0], [0, 0, 0], 0, 0, false, true, false⟩, .tickBoundary ⟨[0, 0, 0], [], 0, 0, false, true, false⟩,
      .tickMarkerReceive 0 ⟨List.replicate 6 none, 0, 0, 0⟩, .segWrite .core 0 0 0 0 (List.replicate 256 0), .detectProbe 2 [true, true] true,
      .bitLockCheckComplete 0 [true], .eyeMapComplete 0 0 [], .trainingMarkReceive 0 0 ⟨2, 0, List.replicate 64 0⟩,
      .axisScanComplete 0 0 0 [] (List.replicate 16 0) (List.replicate 30 0) (List.replicate 30 0),
      .axisScanComplete 0 0 0 (List.replicate 16 0) (List.replicate 17 0) (List.replicate 30 0) (List.replicate 30 0),
      .axisScanComplete 0 0 0 (List.replicate 16 0) (List.replicate 16 0) (List.replicate 29 0) (List.replicate 30 0),
      .axisScanComplete 0 0 0 (List.replicate 16 0) (List.replicate 16 0) (List.replicate 30 0) [],
      .ringFrameReceive 0 ⟨[], 0, 0⟩, .postedWriteIssue 0 [] false, .requestIssue 1 3 1 0 (List.replicate 31 0),
      .shiftEnd 0 2 true [1], .canFrameReceive 0 ⟨0x800, false, false, false, false, false, []⟩ 0, .canFrameReceive 0 ⟨1, false, false, false, true, false, [1]⟩ 0,
      .canFrameReceive 0 ⟨1, false, false, false, false, false, List.replicate 9 0⟩ 0, .timeWordsReceive 0 (words 5) (words 3) Cargo.empty,
      .timeWordsReceive 0 (words 4) (words 2) Cargo.empty, .echoWordsReceive 0 (words 2) Cargo.empty (words 3) Cargo.empty,
      .echoWordsReceive 0 (words 3) Cargo.empty (words 4) Cargo.empty, .heartbeatReceive f, .healthReportReceive f, .twinFrameDrop f,
      .stateCopyReceive f true, .copyAckReceive f] : List Instr).all (fun c => !c.wellFormed) := by
  decide +kernel

theorem test_ill_formed_bytes (v : List Byte) (h : 65536 < v.length) : Instr.wellFormed (.objectWrite .core 0 0 v) = false ∧
    Instr.wellFormed (.tallyLoad .core v) = false ∧ Instr.wellFormed (.stageLoad .core v) = false ∧ Instr.wellFormed (.updChunkWrite .core v) = false := by
  simp [Instr.wellFormed, bytesOk, h]

theorem test_ill_formed_datagram (v : List Byte) (h : 65507 < v.length) : Instr.wellFormed (.gangplankDatagram ⟨0, 0, 0, false, v⟩) = false := by
  simp [Instr.wellFormed, h]

theorem test_no_word_spells_a_command (n w : Nat) (s : State) : decodeTableWord n w = none ∧ s.withFetchWord n w = s := ⟨rfl, rfl⟩

/-- The nine bytes of the check values of R337. -/
def nine : List Byte := [0x31, 0x32, 0x33, 0x34, 0x35, 0x36, 0x37, 0x38, 0x39]

/-- R337: the check value of each polynomial. -/
theorem test_check_values : (List.range 5).map (fun c => (crcPar c).map (fun p => crcOut p (crcFeed p p.init nine))) =
    [some 0x4B, some 0x29B1, some 0xCBF43926, some 0xE3069283, some 0x6C40DF5F0B497347] := by decide +kernel

/-- The pieces of the worked example of R329 and R330, pushed into a closed packing FIFO. -/
def pieces (n : Nat) : State :=
  ([(Kind.first, [1, 2, 3, 4]), (.middle, [5, 6]), (.middle, [7, 8]), (.middle, [9, 10]), (.last, [11])].take n).foldl (fun s p => (writePiece 0 p.1 p.2 s).getD s) up

/-- The worked example of one frame of eleven bytes from a bulk crane. -/
theorem test_pack : ((pieces 2).fifo 0).words = [] ∧ ((pieces 3).fifo 0).words.map (fun w => (w.kind, w.bytes)) = [(Kind.first, 8)] ∧
    ((pieces 4).fifo 0).words.length = 1 ∧ ((pieces 5).fifo 0).words.map (fun w => (w.kind, w.bytes, w.data)) =
      [(Kind.first, 8, 0x0807060504030201), (.last, 3, 0x0B0A09)] ∧ (pieces 5).get (Obj.rxFrameCnt 0) = 1 := by and_intros <;> decide +kernel

/-- The worked example of a bus-off: one failed attempt counts 8, the sixteenth makes the controller error passive, the next sixteen end in bus-off. -/
def failed (n : Nat) : State :=
  let s := { can .on 2 (some ⟨63, false, 0, []⟩) with can := ⟨[(7, { (can .on 2 (some ⟨63, false, 0, []⟩)).ctl 7 with txErr := n })], []⟩ }
  match exec (.canTxError 7 0 0 false true) s with
  | .next t => t
  | _ => s

theorem test_bus_off : ((failed 0).ctl 7).txErr = 8 ∧ ((failed 240).ctl 7).st = .on ∧ ((failed 248).ctl 7).st = .busOff := by and_intros <;> decide +kernel

/-- The state that a command answers, where it answers one. -/
def after (c : Instr) (s : State) : State :=
  match exec c s with
  | .next t => t
  | _ => s

/-- R288, R273: `SET X, imm` on crane 0 writes X and goes on to the next word. -/
theorem test_set :
    let t := after (.craneSet 0) ((crane (ins 5 0 (3 * 2 ^ 13 + 0x1FFF)) runs).put (Obj.tallyLen 0) 2)
    (t.crane 0).x = 0x1FFF ∧ (t.crane 0).pc = 1 ∧ (t.crane 0).st = .running := by decide +kernel

/-- R452: a write of 0x5AFE_0001 to `RESET_CMD` by the local core is a reset of source 0x07. -/
theorem test_reset_cmd : (after (.resetCmdWrite .core 0x5AFE0001) up).rst.cmd = some 7 := by decide +kernel

/-- R40: a warm reset of an owner without a ready twin keeps `TWIN_OWN_N`. -/
theorem test_warm_reset :
    let t := after .watchdogExpiry up
    t.node.claim = true ∧ t.node.owns = false ∧ t.node.mode = .berthing := by decide +kernel

/-- The numbers of field pins and cranes (R15): pin 5 of quay 2 is pin 133, and a pin of quay 2 is isolated with its bank. -/
theorem test_vio :
    let t := after (.vioOutOfRange 2) { lit with pins := { lit.pins with drive := 2 ^ 133 + 2 ^ 5 } }
    t.pins.drive = 2 ^ 5 ∧ t.pins.inBuf = 11 := by decide +kernel

/-- R78, R79, R76: a word and a listed control block read as they were sent, a header of equal bits or an unlisted TYPE is a bad block, and swapped wires invert every bit. -/
theorem test_lines : readLine (Sym.line (.word ⟨true, .first, 8, false, 5⟩)) = .sym (.word ⟨true, .first, 8, false, 5⟩) ∧
    readLine (Sym.line (.ctrl tyTick 7)) = .sym (.ctrl tyTick 7) ∧ readLine ⟨3, 0⟩ = .bad (badWord 0) ∧ readLine ⟨2, 0⟩ = .bad (badWord 0) ∧
    Line.swapped (Line.swapped ⟨2, 12345⟩) = ⟨2, 12345⟩ := by and_intros <;> decide +kernel

/-- R83: the seeds of the five lanes differ and none is zero. -/
theorem test_seeds : ((List.range 5).map seedOf).Nodup ∧ 0 ∉ (List.range 5).map seedOf := by decide +kernel

end Sys2Proof.Tests
end

/-! Proofs of the statements of chapter 9: a parity error in a FIFO's frame marks or pointers (R335), and the check units at a reset (R345). -/

namespace Sys2Proof.Laws

open Sys2Proof.Machine

/-! Emptying a FIFO (R335, R336): the rest of the state, the FIFO itself, the objects, and the streams. -/

/-- FIFO x as emptying leaves it: the corrected errors of the pass alone stay counted (R334, R335). -/
def clearedFifo (x : Fifo) : Fifo := { Fifo.empty with ce := x.ce, warned := x.warned }

theorem fifoCount_shape (o : Nat → Obj) (f n : Nat) (s : State) : ∃ objs, fifoCount o f n s = { s with objs := objs } := by
  unfold fifoCount
  split
  · exact ⟨_, rfl⟩
  · exact ⟨s.objs, rfl⟩

theorem fifoEmpty_shape (f : Nat) (s : State) :
    ∃ objs, fifoEmpty f s = { s.setFifo f (clearedFifo (s.fifo f)) with objs := objs } := fifoCount_shape ..

@[simp] theorem fifoEmpty_fifos (f : Nat) (s : State) : (fifoEmpty f s).fifos = (s.setFifo f (clearedFifo (s.fifo f))).fifos := by
  obtain ⟨objs, h⟩ := fifoEmpty_shape f s
  rw [h]

@[simp] theorem fifoEmpty_cranes (f : Nat) (s : State) : (fifoEmpty f s).cranes = s.cranes := by
  obtain ⟨objs, h⟩ := fifoEmpty_shape f s
  rw [h, setFifo_cranes]

@[simp] theorem fifoEmpty_rst (f : Nat) (s : State) : (fifoEmpty f s).rst = s.rst := by
  obtain ⟨objs, h⟩ := fifoEmpty_shape f s
  rw [h, setFifo_rst]

@[simp] theorem fifoEmpty_faults (f : Nat) (s : State) : (fifoEmpty f s).faults = s.faults := by
  obtain ⟨objs, h⟩ := fifoEmpty_shape f s
  rw [h, setFifo_faults]

@[simp] theorem fifoEmpty_tide (f : Nat) (s : State) : (fifoEmpty f s).tide = s.tide := by
  obtain ⟨objs, h⟩ := fifoEmpty_shape f s
  rw [h, setFifo_tide]

theorem fifoEmpty_fifo_self (f : Nat) (s : State) (h : keysFrom 0 s.fifos) : (fifoEmpty f s).fifo f = clearedFifo (s.fifo f) :=
  (fifo_frame (fifoEmpty_fifos f s) f).trans (fifo_setFifo_self s f _ h)

theorem fifoEmpty_fifo_ne (f k : Nat) (s : State) (h : keysFrom 0 s.fifos) (hk : k ≠ f) : (fifoEmpty f s).fifo k = s.fifo k :=
  (fifo_frame (fifoEmpty_fifos f s) k).trans (fifo_setFifo_ne s f k _ h hk)

/-- The counter of a crane's FIFO takes the words lost. -/
theorem fifoEmpty_flushLostCnt (f : Nat) (s : State) (h : keysFrom 0 s.objs) (hf : f < 128) :
    (fifoEmpty f s).get (Obj.flushLostCnt (f % 64)) = (s.get (Obj.flushLostCnt (f % 64)) + (s.fifo f).lost) % 2 ^ 32 := by
  unfold fifoEmpty fifoCount
  simp only [if_pos hf]
  exact get_put_self (s.setFifo f (clearedFifo (s.fifo f))) _ _ h

/-- Every object but that counter reads as before. -/
theorem fifoEmpty_get_ne (f : Nat) (s : State) (h : keysFrom 0 s.objs) (o : Obj) (ho : o.key ≠ (Obj.flushLostCnt (f % 64)).key) :
    (fifoEmpty f s).get o = s.get o := by
  unfold fifoEmpty fifoCount
  dsimp only
  split
  · exact get_put_ne (s.setFifo f (clearedFifo (s.fifo f))) _ _ _ h ho
  · rfl

theorem losePending_streams (f : Nat) (s : State) : ∀ st, st ∈ (losePending f s).bridge.streams → onFifo f st = false := by
  intro st hst
  simpa using (List.mem_filter.1 hst).2

theorem released_congr {s t : State} (h : t.rst = s.rst) (d : Nat) : t.released d = s.released d := by
  unfold State.released
  rw [h]

/-! The event of the parity error (source 0x25) and the counter of the words lost are different objects. -/

theorem srcCnt_ne_flushLostCnt (src g : Nat) (hg : g < 64) : (Obj.srcCnt src).key ≠ (Obj.flushLostCnt g).key := by
  simp only [Obj.srcCnt, Obj.flushLostCnt, Obj.key]
  omega

theorem flushLostCnt_not_raiseKey (src g : Nat) (hg : g < 64) : ¬ raiseKey src (Obj.flushLostCnt g).key := by
  simp only [raiseKey, Obj.srcCnt, Obj.flushLostCnt, Obj.faultEventCnt, Obj.faultLostCnt, Obj.key]
  omega

theorem srcClass_fifoParity : srcClass 0x25 = .contained := by decide

/-- Settles O59: the FIFO is emptied and its streams lost first, and a contained event leaves FIFOs, cranes and streams as they are. That a new record
takes the first free place is log entry 15, and that the streams go uncounted is log entry 114. -/
theorem fifoParity : Obligations.FifoParity := by
  intro q s f w
  have hc : srcClass 0x25 ≠ .fatal := by rw [srcClass_fifoParity]; decide
  have hg : f.val % 64 < 64 := Nat.mod_lt _ (by decide)
  have hfifos : keysFrom 0 s.fifos := ((mapWf_iff _ _).1 w.fifos).1
  let u := losePending f.val (fifoEmpty f.val s)
  have hu : u.Wf q := losePending_wf _ _ (fifoEmpty_wf _ _ w)
  let t := raise 0x25 (fifoInst f.val) ((s.fifo f.val).lost % 256) u
  have fifo_t (k : Nat) : t.fifo k = (fifoEmpty f.val s).fifo k := fifo_frame (raise_fifos _ _ _ u hc) k
  refine ⟨t, exec_fifoParityError f s, ?_, ?_, ?_, ?_, ?_, ?_⟩
  · rw [fifo_t, fifoEmpty_fifo_self _ _ hfifos]
    exact ⟨rfl, rfl, rfl, rfl⟩
  · have hb : t.bridge = u.bridge := raise_bridge _ _ _ u hc
    rw [hb]
    exact losePending_streams _ _
  · intro hf
    calc t.get (Obj.flushLostCnt (f.val % 64))
        = u.get (Obj.flushLostCnt (f.val % 64)) := raise_get _ _ _ u hc hu.objs _ (flushLostCnt_not_raiseKey _ _ hg)
      _ = _ := fifoEmpty_flushLostCnt _ _ w.objs hf
  · intro h4
    have hfaults : u.faults = s.faults := fifoEmpty_faults _ _
    have htide : u.tide = s.tide := fifoEmpty_tide _ _
    have h4u : u.released 4 := by
      rw [← h4]
      exact released_congr (fifoEmpty_rst f.val s) 4
    have hcnt : u.get (Obj.srcCnt 0x25) = s.get (Obj.srcCnt 0x25) := fifoEmpty_get_ne _ _ w.objs _ (srcCnt_ne_flushLostCnt _ _ hg)
    obtain ⟨counted, -, new, repeated, -⟩ := raise_event q 0x25 (fifoInst f.val) ((s.fifo f.val).lost % 256) u hu hc h4u
    rw [hcnt] at counted
    rw [openRec_congr s u hfaults, hfaults, htide] at new
    rw [openRec_congr s u hfaults, hfaults] at repeated
    have hdetail : (s.fifo f.val).lost % 256 % 2 ^ 32 = (s.fifo f.val).lost % 256 := by omega
    refine ⟨⟨srcClass_fifoParity, counted⟩, fun p hopen hp => ?_, fun hopen => (repeated hopen).2⟩
    rw [(new p hopen hp).1, srcClass_fifoParity, hdetail]
    rfl
  · exact (raise_cranes _ _ _ u hc).trans (fifoEmpty_cranes _ _)
  · intro k hk
    rw [fifo_t, fifoEmpty_fifo_ne _ _ _ hfifos hk]

/-! The check units at a reset (R345): every reset of the node leaves them at `chkReset`. -/

/-- A command answers a state whose check units are as a reset leaves them. -/
def ResetsChecks (c : Instr) (s : State) : Prop := ∃ t, exec c s = .next t ∧ t.chk = chkReset

theorem assertReset_chk (src : Nat) (cold : Bool) (s : State) : (assertReset src cold s).chk = chkReset := rfl

theorem powerLost_chk (s : State) (h : s.node.mode ≠ .approach) : (powerLost s).chk = chkReset := by
  unfold powerLost
  rw [if_neg h]
  rfl

theorem resetsChecks_powerOn (roleB : Bool) (boot : BitVec 2) (slipLow diode : Bool) (s : State) :
    ResetsChecks (.powerOn roleB boot slipLow diode) s := ⟨_, exec_powerOn .., rfl⟩

theorem resetsChecks_vaonInvalid (s : State) : ResetsChecks .vaonInvalid s := ⟨_, exec_vaonInvalid s, rfl⟩

theorem resetsChecks_resetNAssert (roleB : Bool) (boot : BitVec 2) (s : State) (hv : s.rst.vaon) (hp : !s.rst.pinLow) :
    ResetsChecks (.resetNAssert roleB boot) s := by
  refine ⟨_, exec_resetNAssert .., ?_⟩
  rw [if_pos ⟨hv, hp⟩]
  exact assertReset_chk 3 (!s.warmPin) s

theorem resetsChecks_watchdogExpiry (s : State) (h : s.rst.wdt) : ResetsChecks .watchdogExpiry s := by
  refine ⟨_, exec_watchdogExpiry s, ?_⟩
  rw [if_pos h]
  exact assertReset_chk ..

theorem resetsChecks_resetCmdAssert (s : State) (h : s.rst.cmd.isSome) : ResetsChecks .resetCmdAssert s := by
  obtain ⟨c, hc⟩ := Option.isSome_iff_exists.1 h
  refine ⟨_, exec_resetCmdAssert s, ?_⟩
  rw [hc]
  exact assertReset_chk ..

theorem resetsChecks_criticalResetTimer (s : State) (h : s.rst.crit = .running) : ResetsChecks .criticalResetTimer s := by
  refine ⟨_, exec_criticalResetTimer s, ?_⟩
  rw [if_pos h]
  exact assertReset_chk ..

theorem resetsChecks_supplyMonitorBad (s : State) (h : s.node.mode ≠ .approach) : ResetsChecks .supplyMonitorBad s := by
  refine ⟨_, exec_supplyMonitorBad s, ?_⟩
  rw [if_neg h]
  exact powerLost_chk s h

theorem tryBerthing_chk (s : State) (hm : s.node.mode = .approach) (hg : s.gwPg) (hs : s.rst.supplies) (hp : s.rst.pinLow = false)
    (hv : s.rst.vaon) (hr : s.rst.reinsert) : (tryBerthing s).chk = chkReset := by
  unfold tryBerthing
  rw [if_pos ⟨hm, hg, hs, by simp [hp], hv⟩, if_pos hr]
  exact assertReset_chk 2 true s

theorem resetsChecks_supplyMonitorGood (s : State) (hm : s.node.mode = .approach) (hg : s.gwPg) (hp : s.rst.pinLow = false)
    (hv : s.rst.vaon) (hr : s.rst.reinsert) : ResetsChecks .supplyMonitorGood s :=
  ⟨_, exec_supplyMonitorGood s, tryBerthing_chk { s with rst := { s.rst with supplies := true } } hm hg rfl hp hv hr⟩

/-- The reset of the block of a check unit gives the unit its value of `chkReset`. -/
theorem blockClear_unit (u : Nat) (hu : u < 4) (s : State) (h : s.chk.length = 4) :
    (blockClear (15 + u) s).unit u = { s with chk := chkReset }.unit u := by
  unfold blockClear
  rw [if_neg (by omega), if_neg (by omega), if_neg (by omega), if_pos (by omega), Nat.add_sub_cancel_left]
  simp [State.unit, h, hu]

theorem blockQuiesceEnd_unit (u : Fin 4) (b : Fin 22) (forced : Bool) (s : State) (h : s.chk.length = 4) (hb : b.val = 15 + u.val)
    (hq : s.block b.val = .quiescing) (hend : !forced ∨ s.rst.blkAsked + s.get Obj.quiesceTicks ≤ s.tide.beat) :
    ∃ t, exec (.blockQuiesceEnd b forced) s = .next t ∧ t.unit u.val = { s with chk := chkReset }.unit u.val := by
  refine ⟨_, exec_blockQuiesceEnd b forced s, ?_⟩
  rw [if_pos ⟨hq, hend⟩, hb]
  refine blockClear_unit u u.isLt _ ?_
  split <;> exact h

/-- Settles O60: each way to a reset ends in `assertReset`, `powerLost` or a power cycle, which leave `chkReset`; a block reset writes the one unit. -/
theorem checkUnitsAtReset : Obligations.CheckUnitsAtReset := by
  intro q s w fresh all
  have all_of (c : Instr) (h : ResetsChecks c s) : all c := by
    obtain ⟨t, he, hchk⟩ := h
    exact ⟨t, he, chk_fresh t hchk⟩
  refine ⟨fun src cold => chk_fresh _ (assertReset_chk src cold s), fun roleB boot slipLow diode => all_of _ (resetsChecks_powerOn ..),
    all_of _ (resetsChecks_vaonInvalid s), fun roleB boot hv hp => all_of _ (resetsChecks_resetNAssert roleB boot s hv hp),
    fun h => all_of _ (resetsChecks_watchdogExpiry s h), fun h => all_of _ (resetsChecks_resetCmdAssert s h),
    fun h => all_of _ (resetsChecks_criticalResetTimer s h), fun h => all_of _ (resetsChecks_supplyMonitorBad s h),
    fun hm hg hp hv hr => all_of _ (resetsChecks_supplyMonitorGood s hm hg hp hv hr), ?_⟩
  intro u b forced hb hq hend
  obtain ⟨t, he, ht⟩ := blockQuiesceEnd_unit u b forced s w.chk hb hq (by simpa using hend)
  obtain ⟨poly, par, hpoly, hpar, hunit⟩ := chk_fresh { s with chk := chkReset } rfl u u.isLt
  exact ⟨t, he, poly, par, hpoly, hpar, ht.trans hunit⟩

end Sys2Proof.Laws

/-! Every step: it runs the front command, keeps the form of the state, and completes. -/

namespace Sys2Proof.Laws

open Sys2Proof.Machine

/-- Each command's meaning keeps the form of the state: one lemma a command. -/
theorem exec_wf (q : List Instr) (c : Instr) (s t : State) (h : s.Wf q) (e : exec c s = .next t) : t.Wf q := by
  cases c with
  | powerOn => exact execPowerOn_wf _ _ _ _ _ _ h ((exec_powerOn ..).symm.trans e)
  | resetNAssert => exact execResetNAssert_wf _ _ _ _ h ((exec_resetNAssert ..).symm.trans e)
  | resetNRelease => exact execResetNRelease_wf _ _ h ((exec_resetNRelease ..).symm.trans e)
  | watchdogKick => exact execWatchdogKick_wf _ _ _ _ h ((exec_watchdogKick ..).symm.trans e)
  | wdtPeriodWrite => exact execWdtPeriodWrite_wf _ _ _ _ h ((exec_wdtPeriodWrite ..).symm.trans e)
  | watchdogExpiry => exact execWatchdogExpiry_wf _ _ h ((exec_watchdogExpiry ..).symm.trans e)
  | resetCmdWrite => exact execResetCmdWrite_wf _ _ _ _ h ((exec_resetCmdWrite ..).symm.trans e)
  | resetCmdAssert => exact execResetCmdAssert_wf _ _ h ((exec_resetCmdAssert ..).symm.trans e)
  | criticalStateError => exact execCriticalStateError_wf _ _ _ _ h ((exec_criticalStateError ..).symm.trans e)
  | criticalResetTimer => exact execCriticalResetTimer_wf _ _ h ((exec_criticalResetTimer ..).symm.trans e)
  | resetAssertionEnd => exact execResetAssertionEnd_wf _ _ h ((exec_resetAssertionEnd ..).symm.trans e)
  | domainRelease => exact execDomainRelease_wf _ _ _ _ h ((exec_domainRelease ..).symm.trans e)
  | domainClockTimeout => exact execDomainClockTimeout_wf _ _ h ((exec_domainClockTimeout ..).symm.trans e)
  | optionLoadComplete => exact execOptionLoadComplete_wf _ _ _ h ((exec_optionLoadComplete ..).symm.trans e)
  | savedStateLoad => exact execSavedStateLoad_wf _ _ h ((exec_savedStateLoad ..).symm.trans e)
  | berthingComplete => exact execBerthingComplete_wf _ _ _ h ((exec_berthingComplete ..).symm.trans e)
  | positionBClaimTimeout => exact execPositionBClaimTimeout_wf _ _ h ((exec_positionBClaimTimeout ..).symm.trans e)
  | slipwayKeyWrite => exact execSlipwayKeyWrite_wf _ _ _ _ h ((exec_slipwayKeyWrite ..).symm.trans e)
  | slipwayKeyWindowEnd => exact execSlipwayKeyWindowEnd_wf _ _ h ((exec_slipwayKeyWindowEnd ..).symm.trans e)
  | blockResetWrite => exact execBlockResetWrite_wf _ _ _ _ h ((exec_blockResetWrite ..).symm.trans e)
  | blockQuiesceEnd => exact execBlockQuiesceEnd_wf _ _ _ _ h ((exec_blockQuiesceEnd ..).symm.trans e)
  | blockResetRelease => exact execBlockResetRelease_wf _ _ _ _ h ((exec_blockResetRelease ..).symm.trans e)
  | blockClockTimeout => exact execBlockClockTimeout_wf _ _ _ h ((exec_blockClockTimeout ..).symm.trans e)
  | blockResetAbort => exact execBlockResetAbort_wf _ _ _ h ((exec_blockResetAbort ..).symm.trans e)
  | vioOutOfRange => exact execVioOutOfRange_wf _ _ _ h ((exec_vioOutOfRange ..).symm.trans e)
  | vioRestore => exact execVioRestore_wf _ _ _ _ h ((exec_vioRestore ..).symm.trans e)
  | supplyMonitorBad => exact execSupplyMonitorBad_wf _ _ h ((exec_supplyMonitorBad ..).symm.trans e)
  | supplyMonitorGood => exact execSupplyMonitorGood_wf _ _ h ((exec_supplyMonitorGood ..).symm.trans e)
  | tapReset => exact execTapReset_wf _ _ h ((exec_tapReset ..).symm.trans e)
  | tapIdcode => exact execTapIdcode_wf _ _ h ((exec_tapIdcode ..).symm.trans e)
  | tapSamplePreload => exact execTapSamplePreload_wf _ _ h ((exec_tapSamplePreload ..).symm.trans e)
  | tapExtest => exact execTapExtest_wf _ _ h ((exec_tapExtest ..).symm.trans e)
  | tapClamp => exact execTapClamp_wf _ _ h ((exec_tapClamp ..).symm.trans e)
  | tapHighz => exact execTapHighz_wf _ _ h ((exec_tapHighz ..).symm.trans e)
  | tapBypass => exact execTapBypass_wf _ _ _ h ((exec_tapBypass ..).symm.trans e)
  | tickBoundary => exact execTickBoundary_wf _ _ _ h ((exec_tickBoundary ..).symm.trans e)
  | scheduledEntryDue => exact execScheduledEntryDue_wf _ _ _ h ((exec_scheduledEntryDue ..).symm.trans e)
  | schedFrameReceive => exact execSchedFrameReceive_wf _ _ _ h ((exec_schedFrameReceive ..).symm.trans e)
  | tickMarkerReceive => exact execTickMarkerReceive_wf _ _ _ _ h ((exec_tickMarkerReceive ..).symm.trans e)
  | tidePlanCommit => exact execTidePlanCommit_wf _ _ _ h ((exec_tidePlanCommit ..).symm.trans e)
  | tidePlanCheckComplete => exact execTidePlanCheckComplete_wf _ _ h ((exec_tidePlanCheckComplete ..).symm.trans e)
  | objectWrite => exact execObjectWrite_wf _ _ _ _ _ _ h ((exec_objectWrite ..).symm.trans e)
  | detectProbe => exact execDetectProbe_wf _ _ _ _ _ h ((exec_detectProbe ..).symm.trans e)
  | pilotTimeout => exact execPilotTimeout_wf _ _ _ _ h ((exec_pilotTimeout ..).symm.trans e)
  | bitLockCheckComplete => exact execBitLockCheckComplete_wf _ _ _ _ h ((exec_bitLockCheckComplete ..).symm.trans e)
  | bitLockTimeout => exact execBitLockTimeout_wf _ _ _ _ h ((exec_bitLockTimeout ..).symm.trans e)
  | blockLockAchieved => exact execBlockLockAchieved_wf _ _ _ h ((exec_blockLockAchieved ..).symm.trans e)
  | blockLockTimeout => exact execBlockLockTimeout_wf _ _ _ _ h ((exec_blockLockTimeout ..).symm.trans e)
  | harbourBlockReceive => exact execHarbourBlockReceive_wf _ _ _ _ h ((exec_harbourBlockReceive ..).symm.trans e)
  | harbourTimeout => exact execHarbourTimeout_wf _ _ _ _ h ((exec_harbourTimeout ..).symm.trans e)
  | bringupTimeout => exact execBringupTimeout_wf _ _ _ _ h ((exec_bringupTimeout ..).symm.trans e)
  | trainingMarkReceive => exact execTrainingMarkReceive_wf _ _ _ _ _ h ((exec_trainingMarkReceive ..).symm.trans e)
  | syncError => exact execSyncError_wf _ _ _ _ h ((exec_syncError ..).symm.trans e)
  | controlBlockCheckFail => exact execControlBlockCheckFail_wf _ _ _ h ((exec_controlBlockCheckFail ..).symm.trans e)
  | clockLaneLoss => exact execClockLaneLoss_wf _ _ _ h ((exec_clockLaneLoss ..).symm.trans e)
  | elasticBufferOverflow => exact execElasticBufferOverflow_wf _ _ _ h ((exec_elasticBufferOverflow ..).symm.trans e)
  | spanNoticeReceive => exact execSpanNoticeReceive_wf _ _ _ _ h ((exec_spanNoticeReceive ..).symm.trans e)
  | returnHoldExpiry => exact execReturnHoldExpiry_wf _ _ _ h ((exec_returnHoldExpiry ..).symm.trans e)
  | laneFail => exact execLaneFail_wf _ _ _ _ _ h ((exec_laneFail ..).symm.trans e)
  | lanemapReceive => exact execLanemapReceive_wf _ _ _ _ _ h ((exec_lanemapReceive ..).symm.trans e)
  | ebbBlockReceive => exact execEbbBlockReceive_wf _ _ _ _ h ((exec_ebbBlockReceive ..).symm.trans e)
  | mooringNoReceiverTimeout => exact execMooringNoReceiverTimeout_wf _ _ h ((exec_mooringNoReceiverTimeout ..).symm.trans e)
  | ebbExitLockResult => exact execEbbExitLockResult_wf _ _ _ _ _ h ((exec_ebbExitLockResult ..).symm.trans e)
  | loopModeWrite => exact execLoopModeWrite_wf _ _ _ _ _ h ((exec_loopModeWrite ..).symm.trans e)
  | loopRequestReceive => exact execLoopRequestReceive_wf _ _ _ _ h ((exec_loopRequestReceive ..).symm.trans e)
  | farLoopTickTimeout => exact execFarLoopTickTimeout_wf _ _ _ h ((exec_farLoopTickTimeout ..).symm.trans e)
  | prbsGenerateSet => exact execPrbsGenerateSet_wf _ _ _ _ _ h ((exec_prbsGenerateSet ..).symm.trans e)
  | prbsCheckSet => exact execPrbsCheckSet_wf _ _ _ _ _ h ((exec_prbsCheckSet ..).symm.trans e)
  | prbsCountersClear => exact execPrbsCountersClear_wf _ _ _ _ _ h ((exec_prbsCountersClear ..).symm.trans e)
  | laneRetrain => exact execLaneRetrain_wf _ _ _ _ _ h ((exec_laneRetrain ..).symm.trans e)
  | laneRetrainComplete => exact execLaneRetrainComplete_wf _ _ _ _ _ h ((exec_laneRetrainComplete ..).symm.trans e)
  | portRetrain => exact execPortRetrain_wf _ _ _ _ h ((exec_portRetrain ..).symm.trans e)
  | surveyNoticeSend => exact execSurveyNoticeSend_wf _ _ h ((exec_surveyNoticeSend ..).symm.trans e)
  | surveyNoticeReceive => exact execSurveyNoticeReceive_wf _ _ h ((exec_surveyNoticeReceive ..).symm.trans e)
  | surveyNodeExpiry => exact execSurveyNodeExpiry_wf _ _ _ h ((exec_surveyNodeExpiry ..).symm.trans e)
  | axisScanComplete => exact execAxisScanComplete_wf _ _ _ _ _ _ _ _ _ h ((exec_axisScanComplete ..).symm.trans e)
  | eyeMapComplete => exact execEyeMapComplete_wf _ _ _ _ _ h ((exec_eyeMapComplete ..).symm.trans e)
  | dfeUpdate => exact execDfeUpdate_wf _ _ _ _ _ _ h ((exec_dfeUpdate ..).symm.trans e)
  | slackWaterStart => exact execSlackWaterStart_wf _ _ _ _ h ((exec_slackWaterStart ..).symm.trans e)
  | slackWaterReceive => exact execSlackWaterReceive_wf _ _ _ _ _ _ _ _ h ((exec_slackWaterReceive ..).symm.trans e)
  | trialAnswerTimeout => exact execTrialAnswerTimeout_wf _ _ _ _ h ((exec_trialAnswerTimeout ..).symm.trans e)
  | asymWindowEnd => exact execAsymWindowEnd_wf _ _ _ h ((exec_asymWindowEnd ..).symm.trans e)
  | asymSurveySend => exact execAsymSurveySend_wf _ _ h ((exec_asymSurveySend ..).symm.trans e)
  | asymSurveyReceive => exact execAsymSurveyReceive_wf _ _ h ((exec_asymSurveyReceive ..).symm.trans e)
  | asymCompute => exact execAsymCompute_wf _ _ h ((exec_asymCompute ..).symm.trans e)
  | ringFrameReceive => exact execRingFrameReceive_wf _ _ _ _ h ((exec_ringFrameReceive ..).symm.trans e)
  | orphanWordDrop => exact execOrphanWordDrop_wf _ _ _ _ h ((exec_orphanWordDrop ..).symm.trans e)
  | outputFrameStart => exact execOutputFrameStart_wf _ _ _ _ _ h ((exec_outputFrameStart ..).symm.trans e)
  | creditWordReceive => exact execCreditWordReceive_wf _ _ _ _ h ((exec_creditWordReceive ..).symm.trans e)
  | creditWordInsert => exact execCreditWordInsert_wf _ _ _ h ((exec_creditWordInsert ..).symm.trans e)
  | outputStall => exact execOutputStall_wf _ _ _ h ((exec_outputStall ..).symm.trans e)
  | lingerExpiry => exact execLingerExpiry_wf _ _ _ h ((exec_lingerExpiry ..).symm.trans e)
  | sharedPeakRead => exact execSharedPeakRead_wf _ _ _ h ((exec_sharedPeakRead ..).symm.trans e)
  | reseqPeakRead => exact execReseqPeakRead_wf _ _ _ _ h ((exec_reseqPeakRead ..).symm.trans e)
  | postedWriteIssue => exact execPostedWriteIssue_wf _ _ _ _ _ h ((exec_postedWriteIssue ..).symm.trans e)
  | postedWriteReceive => exact execPostedWriteReceive_wf _ _ _ h ((exec_postedWriteReceive ..).symm.trans e)
  | postedWriteResume => exact execPostedWriteResume_wf _ _ _ h ((exec_postedWriteResume ..).symm.trans e)
  | targetWaitExpiry => exact execTargetWaitExpiry_wf _ _ _ h ((exec_targetWaitExpiry ..).symm.trans e)
  | requestIssue => exact execRequestIssue_wf _ _ _ _ _ _ _ h ((exec_requestIssue ..).symm.trans e)
  | tagWaitResume => exact execTagWaitResume_wf _ _ h ((exec_tagWaitResume ..).symm.trans e)
  | readRequestReceive => exact execReadRequestReceive_wf _ _ _ h ((exec_readRequestReceive ..).symm.trans e)
  | writeRequestReceive => exact execWriteRequestReceive_wf _ _ _ h ((exec_writeRequestReceive ..).symm.trans e)
  | badOpRequest => exact execBadOpRequest_wf _ _ _ h ((exec_badOpRequest ..).symm.trans e)
  | readResponseReceive => exact execReadResponseReceive_wf _ _ h ((exec_readResponseReceive ..).symm.trans e)
  | writeResponseReceive => exact execWriteResponseReceive_wf _ _ h ((exec_writeResponseReceive ..).symm.trans e)
  | readTimeout => exact execReadTimeout_wf _ _ _ h ((exec_readTimeout ..).symm.trans e)
  | tagReissueHoldEnd => exact execTagReissueHoldEnd_wf _ _ _ h ((exec_tagReissueHoldEnd ..).symm.trans e)
  | responseRoomWaitEnd => exact execResponseRoomWaitEnd_wf _ _ h ((exec_responseRoomWaitEnd ..).symm.trans e)
  | transferAbort => exact execTransferAbort_wf _ _ h ((exec_transferAbort ..).symm.trans e)
  | prefetchReadAhead => exact execPrefetchReadAhead_wf _ _ h ((exec_prefetchReadAhead ..).symm.trans e)
  | prefetchHoldExpiry => exact execPrefetchHoldExpiry_wf _ _ h ((exec_prefetchHoldExpiry ..).symm.trans e)
  | popWindowRead => exact execPopWindowRead_wf _ _ _ _ h ((exec_popWindowRead ..).symm.trans e)
  | userWindowRead => exact execUserWindowRead_wf _ _ _ _ h ((exec_userWindowRead ..).symm.trans e)
  | userWindowWrite => exact execUserWindowWrite_wf _ _ _ _ _ h ((exec_userWindowWrite ..).symm.trans e)
  | workTimeWindowRead => exact execWorkTimeWindowRead_wf _ _ _ h ((exec_workTimeWindowRead ..).symm.trans e)
  | manifestCommit => exact execManifestCommit_wf _ _ _ h ((exec_manifestCommit ..).symm.trans e)
  | manifestCommitComplete => exact execManifestCommitComplete_wf _ _ h ((exec_manifestCommitComplete ..).symm.trans e)
  | craneWait => exact execCraneWait_wf _ _ _ h ((exec_craneWait ..).symm.trans e)
  | waitWake => exact execWaitWake_wf _ _ _ _ _ h ((exec_waitWake ..).symm.trans e)
  | craneShin => exact execCraneShin_wf _ _ _ h ((exec_craneShin ..).symm.trans e)
  | craneShout => exact execCraneShout_wf _ _ _ h ((exec_craneShout ..).symm.trans e)
  | shiftEnd => exact execShiftEnd_wf _ _ _ _ _ _ h ((exec_shiftEnd ..).symm.trans e)
  | cranePush => exact execCranePush_wf _ _ _ h ((exec_cranePush ..).symm.trans e)
  | pushRoomWake => exact execPushRoomWake_wf _ _ _ h ((exec_pushRoomWake ..).symm.trans e)
  | cranePull => exact execCranePull_wf _ _ _ h ((exec_cranePull ..).symm.trans e)
  | pullWordWake => exact execPullWordWake_wf _ _ _ h ((exec_pullWordWake ..).symm.trans e)
  | craneSet => exact execCraneSet_wf _ _ _ h ((exec_craneSet ..).symm.trans e)
  | craneMov => exact execCraneMov_wf _ _ _ _ h ((exec_craneMov ..).symm.trans e)
  | craneJmp => exact execCraneJmp_wf _ _ _ h ((exec_craneJmp ..).symm.trans e)
  | craneLoop => exact execCraneLoop_wf _ _ _ h ((exec_craneLoop ..).symm.trans e)
  | sigFlagSet => exact execSigFlagSet_wf _ _ _ h ((exec_sigFlagSet ..).symm.trans e)
  | sigFlagClear => exact execSigFlagClear_wf _ _ _ _ h ((exec_sigFlagClear ..).symm.trans e)
  | sigIrq => exact execSigIrq_wf _ _ _ h ((exec_sigIrq ..).symm.trans e)
  | sigNote => exact execSigNote_wf _ _ _ h ((exec_sigNote ..).symm.trans e)
  | craneStamp => exact execCraneStamp_wf _ _ _ h ((exec_craneStamp ..).symm.trans e)
  | craneSync => exact execCraneSync_wf _ _ _ h ((exec_craneSync ..).symm.trans e)
  | syncRelease => exact execSyncRelease_wf _ _ _ h ((exec_syncRelease ..).symm.trans e)
  | craneChk => exact execCraneChk_wf _ _ _ _ h ((exec_craneChk ..).symm.trans e)
  | chkUnitWake => exact execChkUnitWake_wf _ _ _ h ((exec_chkUnitWake ..).symm.trans e)
  | instructionDelayEnd => exact execInstructionDelayEnd_wf _ _ _ h ((exec_instructionDelayEnd ..).symm.trans e)
  | tallyFetchError => exact execTallyFetchError_wf _ _ _ _ h ((exec_tallyFetchError ..).symm.trans e)
  | craneHalt => exact execCraneHalt_wf _ _ _ _ h ((exec_craneHalt ..).symm.trans e)
  | craneRestart => exact execCraneRestart_wf _ _ _ _ h ((exec_craneRestart ..).symm.trans e)
  | craneStart => exact execCraneStart_wf _ _ _ _ h ((exec_craneStart ..).symm.trans e)
  | gangStart => exact execGangStart_wf _ _ _ _ h ((exec_gangStart ..).symm.trans e)
  | gangHalt => exact execGangHalt_wf _ _ _ _ h ((exec_gangHalt ..).symm.trans e)
  | clockRestart => exact execClockRestart_wf _ _ _ _ h ((exec_clockRestart ..).symm.trans e)
  | quayCommit => exact execQuayCommit_wf _ _ _ _ h ((exec_quayCommit ..).symm.trans e)
  | quayFlagsWrite => exact execQuayFlagsWrite_wf _ _ _ _ _ h ((exec_quayFlagsWrite ..).symm.trans e)
  | quayIrqClear => exact execQuayIrqClear_wf _ _ _ _ _ h ((exec_quayIrqClear ..).symm.trans e)
  | tallyLoad => exact execTallyLoad_wf _ _ _ _ h ((exec_tallyLoad ..).symm.trans e)
  | tallyReadDataRead => exact execTallyReadDataRead_wf _ _ _ h ((exec_tallyReadDataRead ..).symm.trans e)
  | stageLoad => exact execStageLoad_wf _ _ _ _ h ((exec_stageLoad ..).symm.trans e)
  | swapArm => exact execSwapArm_wf _ _ _ h ((exec_swapArm ..).symm.trans e)
  | swapCancel => exact execSwapCancel_wf _ _ _ h ((exec_swapCancel ..).symm.trans e)
  | swapCopyComplete => exact execSwapCopyComplete_wf _ _ h ((exec_swapCopyComplete ..).symm.trans e)
  | scrubRead => exact execScrubRead_wf _ _ _ h ((exec_scrubRead ..).symm.trans e)
  | fifoParityError => exact execFifoParityError_wf _ _ _ h ((exec_fifoParityError ..).symm.trans e)
  | fifoFlush => exact execFifoFlush_wf _ _ _ _ _ h ((exec_fifoFlush ..).symm.trans e)
  | noticePendClear => exact execNoticePendClear_wf _ _ _ _ _ h ((exec_noticePendClear ..).symm.trans e)
  | checkFeed => exact execCheckFeed_wf _ _ _ _ _ _ _ h ((exec_checkFeed ..).symm.trans e)
  | checkAccessWaitEnd => exact execCheckAccessWaitEnd_wf _ _ _ h ((exec_checkAccessWaitEnd ..).symm.trans e)
  | checkResultWrite => exact execCheckResultWrite_wf _ _ _ _ h ((exec_checkResultWrite ..).symm.trans e)
  | checkUnitInit => exact execCheckUnitInit_wf _ _ _ h ((exec_checkUnitInit ..).symm.trans e)
  | checkPolyChange => exact execCheckPolyChange_wf _ _ _ _ h ((exec_checkPolyChange ..).symm.trans e)
  | checkParityError => exact execCheckParityError_wf _ _ _ h ((exec_checkParityError ..).symm.trans e)
  | canFrameReceive => exact execCanFrameReceive_wf _ _ _ _ _ h ((exec_canFrameReceive ..).symm.trans e)
  | canRxError => exact execCanRxError_wf _ _ _ _ _ _ h ((exec_canRxError ..).symm.trans e)
  | canTxChoose => exact execCanTxChoose_wf _ _ _ h ((exec_canTxChoose ..).symm.trans e)
  | canArbLost => exact execCanArbLost_wf _ _ _ h ((exec_canArbLost ..).symm.trans e)
  | canTxComplete => exact execCanTxComplete_wf _ _ _ _ _ h ((exec_canTxComplete ..).symm.trans e)
  | canTxError => exact execCanTxError_wf _ _ _ _ _ _ _ h ((exec_canTxError ..).symm.trans e)
  | canRecover => exact execCanRecover_wf _ _ _ _ h ((exec_canRecover ..).symm.trans e)
  | canRecoveryComplete => exact execCanRecoveryComplete_wf _ _ _ h ((exec_canRecoveryComplete ..).symm.trans e)
  | canBufferTransmit => exact execCanBufferTransmit_wf _ _ _ _ _ h ((exec_canBufferTransmit ..).symm.trans e)
  | canBufferAbort => exact execCanBufferAbort_wf _ _ _ _ h ((exec_canBufferAbort ..).symm.trans e)
  | canBufferRelease => exact execCanBufferRelease_wf _ _ _ _ h ((exec_canBufferRelease ..).symm.trans e)
  | canGwQueueEmpty => exact execCanGwQueueEmpty_wf _ _ _ _ h ((exec_canGwQueueEmpty ..).symm.trans e)
  | canRxQueueEmpty => exact execCanRxQueueEmpty_wf _ _ _ _ h ((exec_canRxQueueEmpty ..).symm.trans e)
  | canCommit => exact execCanCommit_wf _ _ _ _ h ((exec_canCommit ..).symm.trans e)
  | canConfigApply => exact execCanConfigApply_wf _ _ _ h ((exec_canConfigApply ..).symm.trans e)
  | canIrqClear => exact execCanIrqClear_wf _ _ _ _ _ h ((exec_canIrqClear ..).symm.trans e)
  | canBusJoin => exact execCanBusJoin_wf _ _ _ h ((exec_canBusJoin ..).symm.trans e)
  | timeWordsReceive => exact execTimeWordsReceive_wf _ _ _ _ _ _ h ((exec_timeWordsReceive ..).symm.trans e)
  | echoWordsReceive => exact execEchoWordsReceive_wf _ _ _ _ _ _ _ h ((exec_echoWordsReceive ..).symm.trans e)
  | ppsEdge => exact execPpsEdge_wf _ _ _ h ((exec_ppsEdge ..).symm.trans e)
  | ppsMissTimeout => exact execPpsMissTimeout_wf _ _ h ((exec_ppsMissTimeout ..).symm.trans e)
  | timeSetWrite => exact execTimeSetWrite_wf _ _ _ _ h ((exec_timeSetWrite ..).symm.trans e)
  | domainSwitchWrite => exact execDomainSwitchWrite_wf _ _ _ _ h ((exec_domainSwitchWrite ..).symm.trans e)
  | pinEdge => exact execPinEdge_wf _ _ _ _ _ _ h ((exec_pinEdge ..).symm.trans e)
  | pulseArm => exact execPulseArm_wf _ _ _ _ _ _ h ((exec_pulseArm ..).symm.trans e)
  | pulseStop => exact execPulseStop_wf _ _ _ _ _ h ((exec_pulseStop ..).symm.trans e)
  | pulseEdge => exact execPulseEdge_wf _ _ _ h ((exec_pulseEdge ..).symm.trans e)
  | pulseTargetRelease => exact execPulseTargetRelease_wf _ _ _ _ _ h ((exec_pulseTargetRelease ..).symm.trans e)
  | heartbeatReceive => exact execHeartbeatReceive_wf _ _ _ h ((exec_heartbeatReceive ..).symm.trans e)
  | healthReportReceive => exact execHealthReportReceive_wf _ _ _ h ((exec_healthReportReceive ..).symm.trans e)
  | twinFrameDrop => exact execTwinFrameDrop_wf _ _ _ h ((exec_twinFrameDrop ..).symm.trans e)
  | selftestCycleEnd => exact execSelftestCycleEnd_wf _ _ h ((exec_selftestCycleEnd ..).symm.trans e)
  | giveUp => exact execGiveUp_wf _ _ h ((exec_giveUp ..).symm.trans e)
  | handover => exact execHandover_wf _ _ _ h ((exec_handover ..).symm.trans e)
  | handoverAbort => exact execHandoverAbort_wf _ _ _ h ((exec_handoverAbort ..).symm.trans e)
  | stateSave => exact execStateSave_wf _ _ _ h ((exec_stateSave ..).symm.trans e)
  | savedStateWriteComplete => exact execSavedStateWriteComplete_wf _ _ _ h ((exec_savedStateWriteComplete ..).symm.trans e)
  | stateCopyReceive => exact execStateCopyReceive_wf _ _ _ _ h ((exec_stateCopyReceive ..).symm.trans e)
  | copyAckReceive => exact execCopyAckReceive_wf _ _ _ h ((exec_copyAckReceive ..).symm.trans e)
  | copyRetryTimer => exact execCopyRetryTimer_wf _ _ h ((exec_copyRetryTimer ..).symm.trans e)
  | takeoverStart => exact execTakeoverStart_wf _ _ h ((exec_takeoverStart ..).symm.trans e)
  | pickupSample => exact execPickupSample_wf _ _ _ h ((exec_pickupSample ..).symm.trans e)
  | ownershipClaim => exact execOwnershipClaim_wf _ _ _ h ((exec_ownershipClaim ..).symm.trans e)
  | keeperRelease => exact execKeeperRelease_wf _ _ h ((exec_keeperRelease ..).symm.trans e)
  | claimWaitExpiry => exact execClaimWaitExpiry_wf _ _ h ((exec_claimWaitExpiry ..).symm.trans e)
  | faultEvent => exact execFaultEvent_wf _ _ _ h ((exec_faultEvent ..).symm.trans e)
  | recordStoreParity => exact execRecordStoreParity_wf _ _ _ h ((exec_recordStoreParity ..).symm.trans e)
  | faultListRead => exact execFaultListRead_wf _ _ _ h ((exec_faultListRead ..).symm.trans e)
  | faultClearOne => exact execFaultClearOne_wf _ _ _ _ _ h ((exec_faultClearOne ..).symm.trans e)
  | faultClearCorrected => exact execFaultClearCorrected_wf _ _ _ h ((exec_faultClearCorrected ..).symm.trans e)
  | faultClearContained => exact execFaultClearContained_wf _ _ _ h ((exec_faultClearContained ..).symm.trans e)
  | faultInjectRecord => exact execFaultInjectRecord_wf _ _ _ _ _ _ h ((exec_faultInjectRecord ..).symm.trans e)
  | faultInjectSingleBit => exact execFaultInjectSingleBit_wf _ _ _ _ _ _ _ h ((exec_faultInjectSingleBit ..).symm.trans e)
  | faultInjectDoubleBit => exact execFaultInjectDoubleBit_wf _ _ _ _ _ _ _ h ((exec_faultInjectDoubleBit ..).symm.trans e)
  | gwSample => exact execGwSample_wf _ _ _ _ _ _ h ((exec_gwSample ..).symm.trans e)
  | gwEnHigh => exact execGwEnHigh_wf _ _ h ((exec_gwEnHigh ..).symm.trans e)
  | gwEnLowDrop => exact execGwEnLowDrop_wf _ _ h ((exec_gwEnLowDrop ..).symm.trans e)
  | gwInsertDelayEnd => exact execGwInsertDelayEnd_wf _ _ h ((exec_gwInsertDelayEnd ..).symm.trans e)
  | gwFastTrip => exact execGwFastTrip_wf _ _ _ h ((exec_gwFastTrip ..).symm.trans e)
  | gwRampTimeout => exact execGwRampTimeout_wf _ _ h ((exec_gwRampTimeout ..).symm.trans e)
  | gwFaultTimerExpiry => exact execGwFaultTimerExpiry_wf _ _ h ((exec_gwFaultTimerExpiry ..).symm.trans e)
  | gwDiodeReading => exact execGwDiodeReading_wf _ _ _ h ((exec_gwDiodeReading ..).symm.trans e)
  | gwCooldownEnd => exact execGwCooldownEnd_wf _ _ h ((exec_gwCooldownEnd ..).symm.trans e)
  | gwPowerGood => exact execGwPowerGood_wf _ _ h ((exec_gwPowerGood ..).symm.trans e)
  | gwUndervoltageDrop => exact execGwUndervoltageDrop_wf _ _ h ((exec_gwUndervoltageDrop ..).symm.trans e)
  | gwOvervoltageDrop => exact execGwOvervoltageDrop_wf _ _ h ((exec_gwOvervoltageDrop ..).symm.trans e)
  | gwPeakTRead => exact execGwPeakTRead_wf _ _ _ h ((exec_gwPeakTRead ..).symm.trans e)
  | segRead => exact execSegRead_wf _ _ _ _ _ _ _ h ((exec_segRead ..).symm.trans e)
  | segWrite => exact execSegWrite_wf _ _ _ _ _ _ _ _ h ((exec_segWrite ..).symm.trans e)
  | segAbort => exact execSegAbort_wf _ _ _ _ _ h ((exec_segAbort ..).symm.trans e)
  | objInfo => exact execObjInfo_wf _ _ _ _ _ h ((exec_objInfo ..).symm.trans e)
  | segTimeoutExpiry => exact execSegTimeoutExpiry_wf _ _ _ _ _ h ((exec_segTimeoutExpiry ..).symm.trans e)
  | gangplankDatagram => exact execGangplankDatagram_wf _ _ _ h ((exec_gangplankDatagram ..).symm.trans e)
  | arpRequest => exact execArpRequest_wf _ _ _ h ((exec_arpRequest ..).symm.trans e)
  | lockOpen => exact execLockOpen_wf _ _ _ _ h ((exec_lockOpen ..).symm.trans e)
  | lockClose => exact execLockClose_wf _ _ _ h ((exec_lockClose ..).symm.trans e)
  | lockTimeoutExpiry => exact execLockTimeoutExpiry_wf _ _ h ((exec_lockTimeoutExpiry ..).symm.trans e)
  | lockLockoutEnd => exact execLockLockoutEnd_wf _ _ h ((exec_lockLockoutEnd ..).symm.trans e)
  | updOpen => exact execUpdOpen_wf _ _ _ h ((exec_updOpen ..).symm.trans e)
  | updOpenResume => exact execUpdOpenResume_wf _ _ _ h ((exec_updOpenResume ..).symm.trans e)
  | updEraseComplete => exact execUpdEraseComplete_wf _ _ h ((exec_updEraseComplete ..).symm.trans e)
  | updChunkWrite => exact execUpdChunkWrite_wf _ _ _ _ h ((exec_updChunkWrite ..).symm.trans e)
  | updVerify => exact execUpdVerify_wf _ _ _ h ((exec_updVerify ..).symm.trans e)
  | updVerifyComplete => exact execUpdVerifyComplete_wf _ _ h ((exec_updVerifyComplete ..).symm.trans e)
  | updActivate => exact execUpdActivate_wf _ _ _ h ((exec_updActivate ..).symm.trans e)
  | activateRecordVerified => exact execActivateRecordVerified_wf _ _ h ((exec_activateRecordVerified ..).symm.trans e)
  | activateLoadComplete => exact execActivateLoadComplete_wf _ _ h ((exec_activateLoadComplete ..).symm.trans e)
  | updConfirm => exact execUpdConfirm_wf _ _ _ h ((exec_updConfirm ..).symm.trans e)
  | updClose => exact execUpdClose_wf _ _ _ h ((exec_updClose ..).symm.trans e)
  | updAbort => exact execUpdAbort_wf _ _ _ h ((exec_updAbort ..).symm.trans e)
  | updTrialExpiry => exact execUpdTrialExpiry_wf _ _ h ((exec_updTrialExpiry ..).symm.trans e)
  | relayOpen => exact execRelayOpen_wf _ _ h ((exec_relayOpen ..).symm.trans e)
  | relayBlock => exact execRelayBlock_wf _ _ h ((exec_relayBlock ..).symm.trans e)
  | relayVerify => exact execRelayVerify_wf _ _ h ((exec_relayVerify ..).symm.trans e)
  | relayActivate => exact execRelayActivate_wf _ _ h ((exec_relayActivate ..).symm.trans e)
  | relayConfirm => exact execRelayConfirm_wf _ _ h ((exec_relayConfirm ..).symm.trans e)
  | relayClose => exact execRelayClose_wf _ _ h ((exec_relayClose ..).symm.trans e)
  | relayFrameDrop => exact execRelayFrameDrop_wf _ _ h ((exec_relayFrameDrop ..).symm.trans e)
  | vaonInvalid => exact execVaonInvalid_wf _ _ h ((exec_vaonInvalid ..).symm.trans e)
  | dieTempUpdate => exact execDieTempUpdate_wf _ _ _ h ((exec_dieTempUpdate ..).symm.trans e)

/-- The queue is no part of what the form says of the rest of the state. -/
theorem wf_setPending (p q : List Instr) (s : State) (h : s.Wf p) : State.Wf q { s with pending := q } := { h with queue := rfl }

/-- Settles O4, by the lemma of the front command, and by that of the training frames on an empty queue. -/
theorem stepKeepsForm : Obligations.StepKeepsForm := by
  intro s t h e
  unfold step at e
  split at e
  case h_1 hq =>
    cases e
    rw [hq] at h ⊢
    exact trainPorts_wf s h
  case h_2 c rest hq =>
    rw [hq]
    exact exec_wf rest c _ t (wf_setPending _ rest s h) e

/-- Settles O3: the stores of the reset state are empty, and the chip owns nothing. -/
theorem resetKeepsForm : Obligations.ResetKeepsForm where
  queue := rfl
  objs := rfl
  blobs := rfl
  cranes := rfl
  fifos := rfl
  users := rfl
  words := rfl
  stage := rfl
  recs := ⟨List.nodup_nil, fun _ h => absurd h List.not_mem_nil⟩
  chk := rfl
  claims := fun h => Bool.noConfusion h
  owner := fun h => Bool.noConfusion h
  origin := fun h => Bool.noConfusion h

theorem execManifestCommitComplete_next (s : State) : ∃ t, execManifestCommitComplete s = .next t := by
  unfold execManifestCommitComplete
  split
  · exact ⟨_, rfl⟩
  · dsimp only
    split <;> exact ⟨_, rfl⟩

theorem execTidePlanCheckComplete_next (s : State) : ∃ t, execTidePlanCheckComplete s = .next t := by
  unfold execTidePlanCheckComplete
  split
  · exact ⟨_, rfl⟩
  · dsimp only
    split <;> exact ⟨_, rfl⟩

/-- Every command answers a next state; two of them choose it in their own branches. A command whose guard fails, or that is ill formed, is no
refusal in this model (log entries 12 and 91). -/
theorem exec_next (c : Instr) (s : State) : ∃ t, exec c s = .next t := by
  cases c with
  | manifestCommitComplete => exact execManifestCommitComplete_next s
  | tidePlanCheckComplete => exact execTidePlanCheckComplete_next s
  | _ => exact ⟨_, rfl⟩

theorem step_next (s : State) : ∃ t, step s = .next t := by
  unfold step
  split
  · exact ⟨_, rfl⟩
  · exact exec_next _ _

theorem run_next (M : Host.Core) (n : Nat) (s t : M.State) (h : M.step s = .next t) : M.run (n + 1) s = M.run n t := by
  simp only [Host.Core.run, h]

theorem safeFor_all (n : Nat) : ∀ s : State, safeFor n s := by
  induction n with
  | zero => exact fun _ => rfl
  | succ n ih =>
    intro s
    obtain ⟨t, ht⟩ := step_next s
    unfold safeFor
    rw [run_next core n s t ht]
    exact ih t

/-- Settles O5: each command's meaning answers a next state, so any number of steps do (log entries 12 and 91). -/
theorem everyCommandCompletes : Obligations.EveryCommandCompletes := ⟨exec_next, safeFor_all⟩

/-- A port none of whose lanes trains sends no training frame. -/
theorem trainPort_idle (p : Nat) (s : State) (h : s.trainLanes p = 0) : trainPort p s = s := if_pos h

theorem trainPorts_idle (s : State) (h : ∀ p, p < 3 → s.trainLanes p = 0) : trainPorts s = s := by
  rw [trainPorts, trainPort_idle 0 s (h 0 (by decide)), trainPort_idle 1 s (h 1 (by decide)), trainPort_idle 2 s (h 2 (by decide))]

theorem step_empty (s : State) (h : s.pending = []) : step s = .next (trainPorts s) := by
  rw [step, h]

/-- Settles O1: `step` matches on the queue; where no port trains, no training frame leaves. -/
theorem stepRunsFront : Obligations.StepRunsFront := by
  refine ⟨fun c q s => rfl, step_empty, fun s h ht => ?_⟩
  rw [step_empty s h, trainPorts_idle s ht]

end Sys2Proof.Laws


/-! The node at reset, the reset commands, the release sequence, Berthing, supplies and the test access port. -/

namespace Sys2Proof.Laws

open Sys2Proof.Machine

/-- A command whose meaning is guarded acts as its first branch where the guard holds. -/
theorem next_pos {p : Prop} [Decidable p] {a b : State} (h : p) :
    (Host.Outcome.next (if p then a else b) : Host.Outcome State Fault Refusal) = .next a := by rw [if_pos h]

theorem next_neg {p : Prop} [Decidable p] {a b : State} (h : ¬ p) :
    (Host.Outcome.next (if p then a else b) : Host.Outcome State Fault Refusal) = .next b := by rw [if_neg h]

theorem next_eq {a b : State} (h : a = b) : (Host.Outcome.next a : Host.Outcome State Fault Refusal) = .next b := by rw [h]

/-- Settles O2: the reset state is a constant with empty stores. -/
theorem resetValues : Obligations.ResetValues := by
  refine ⟨rfl, rfl, rfl, rfl, rfl, rfl, rfl, rfl, rfl, rfl, rfl, rfl, rfl, rfl, rfl, rfl, fun _ => rfl, fun _ => rfl, fun _ => rfl, ?_⟩
  decide

/-- Settles O6: each command asserts the reset of its source, and `RESET_N` notes the straps besides. -/
theorem resetSources : Obligations.ResetSources := by
  intro q s w both taken
  have of (src : Nat) (cold : Bool) : taken src cold (assertReset src cold s) := assertReset_taken q src cold s w
  refine ⟨fun roleB boot hv hp => ?_, fun h => ⟨_, next_pos h, of 4 false⟩, fun src h => ⟨_, ?_, of src false⟩,
    fun h => ⟨_, next_pos h, of 8 false⟩⟩
  · obtain ⟨asserted, coldNow, domains, history, mode, owns, claim, unnumbered, pads, cleared, faults, tide, kept, objects⟩ := of 3 (!s.warmPin)
    exact ⟨_, next_pos ⟨hv, hp⟩, ⟨asserted, coldNow, domains, history, mode, owns, claim, unnumbered, pads, cleared, faults, tide, kept, objects⟩,
      rfl, rfl, rfl⟩
  · rw [exec_resetCmdAssert, execResetCmdAssert, h]

/-- The two objects that power-on counts and notes are no others'. -/
theorem powerOn_get (o : Obj) (h1 : o.key ≠ Obj.porCnt.key) (h2 : o.key ≠ Obj.resetCause.key) :
    ((State.reset.put Obj.porCnt 1).put Obj.resetCause 0x8001).get o = o.dflt := by
  have hk : keysFrom 0 (State.reset.put Obj.porCnt 1).objs := key_put State.reset _ _ rfl
  rw [get_put_ne _ _ _ _ hk h2, get_put_ne State.reset _ _ _ rfl h1]
  rfl

theorem powerOn_porCnt : ((State.reset.put Obj.porCnt 1).put Obj.resetCause 0x8001).get Obj.porCnt = 1 := by decide

theorem powerOn_resetCause : ((State.reset.put Obj.porCnt 1).put Obj.resetCause 0x8001).get Obj.resetCause = 0x8001 := by decide

/-- Settles O7: both answer the reset state with the outside kept. -/
theorem powerOnAndOff : Obligations.PowerOnAndOff := by
  intro s roleB boot slipLow diode cold
  refine ⟨⟨_, rfl, ?_, rfl, rfl, rfl, rfl, rfl, rfl, rfl, rfl, ?_, ?_, powerOn_get⟩, ⟨_, rfl, ?_, rfl, rfl, fun _ => rfl⟩⟩
  · exact ⟨rfl, rfl, rfl, rfl, rfl, rfl, rfl, rfl, rfl, rfl, rfl, rfl, rfl, rfl, rfl, rfl, rfl, rfl⟩
  · exact powerOn_porCnt
  · exact powerOn_resetCause
  · exact ⟨rfl, rfl, rfl, rfl, rfl, rfl, rfl, rfl, rfl, rfl, rfl, rfl, rfl, rfl, rfl, rfl, rfl, rfl⟩

/-- Berthing stays out of reach while one of its conditions is missing. -/
theorem tryBerthing_same (u : State) (h : u.node.mode ≠ .approach ∨ !u.gwPg ∨ !u.rst.supplies ∨ u.rst.pinLow ∨ !u.rst.vaon) : tryBerthing u = u := by
  refine if_neg fun ⟨hm, hg, hs, hp, hv⟩ => ?_
  rcases h with h | h | h | h | h
  · exact h hm
  · simp [hg] at h
  · simp [hs] at h
  · simp [h] at hp
  · simp [hv] at h

/-- A domain in reset is due to be released or held. -/
theorem execDomainRelease_due (us : BitVec 32) (edges : Bool) (s : State) (d : Nat) (h : s.dueDomain = some d) :
    exec (.domainRelease us edges) s = .next ((domainEffect d edges (setDomain d .released s)).put Obj.releaseUs us.toNat) := by
  refine (exec_domainRelease ..).trans (next_eq ?_)
  rw [domainRelease, h]

/-- Holding a domain: the history and the counter, and before the release of D4 the event put off. -/
theorem domainHeld_due (s : State) (hk : keysFrom 0 s.objs) (d : Nat) (h : s.dueDomain = some d) :
    (domainHeld s).rst.doms = s.rst.doms.set d .held ∧
    (domainHeld s).rst.history = (histEntry s.tide.tick s.rst.cold d s.rst.source :: s.rst.history).take 8 ∧
    (domainHeld s).get Obj.clockFailCnt = (s.get Obj.clockFailCnt + 1) % 2 ^ 32 := by
  have hget : ((pushHistory (histEntry s.tide.tick s.rst.cold d s.rst.source) (setDomain d .held s)).bump Obj.clockFailCnt).get Obj.clockFailCnt =
      (s.get Obj.clockFailCnt + 1) % 2 ^ 32 := bump_self _ _ hk
  have hkeys : keysFrom 0 ((pushHistory (histEntry s.tide.tick s.rst.cold d s.rst.source) (setDomain d .held s)).bump Obj.clockFailCnt).objs :=
    bump_keys _ _ hk
  have hc : srcClass 0x38 ≠ .fatal := by decide
  have hn : ¬ raiseKey 0x38 Obj.clockFailCnt.key := by
    rintro (h | h | h) <;> revert h <;> decide
  unfold domainHeld
  rw [h]
  dsimp only
  split
  · exact ⟨rfl, rfl, hget⟩
  · obtain ⟨l, hl⟩ := raiseOrDelay_rst 0x38 d 0
      ((pushHistory (histEntry s.tide.tick s.rst.cold d s.rst.source) (setDomain d .held s)).bump Obj.clockFailCnt) hc
    exact ⟨congrArg ResetState.doms hl, congrArg ResetState.history hl, (raiseOrDelay_get _ _ _ _ hc hkeys _ hn).trans hget⟩

/-- The end of option loading: an accepted word's options, else the built-in ones. -/
theorem optionsLoaded_rst (w : Nat) (s : State) :
    (optionsLoaded w s).rst.loading = false ∧ (optionsLoaded w s).rst.optEnded ∧
    (optionsLoaded w s).rst.opts = if s.rst.bootSel = 2 ∨ optError w ≠ 0 then builtinOpts else w % 2 ^ 64 := by
  have hc : srcClass 0x3A ≠ .fatal := by decide
  unfold optionsLoaded
  dsimp only
  split
  case isTrue hb => exact ⟨rfl, rfl, (if_pos (Or.inl hb)).symm⟩
  case isFalse hb =>
    split
    case isTrue he => exact ⟨rfl, rfl, (if_neg (by simp [hb, he])).symm⟩
    case isFalse he =>
      obtain ⟨l, hl⟩ := raiseOrDelay_rst 0x3A 0 (optError w)
        { s with rst := { s.rst with loading := false, optEnded := true, opts := builtinOpts } } hc
      exact ⟨congrArg ResetState.loading hl, congrArg ResetState.optEnded hl, (congrArg ResetState.opts hl).trans (if_pos (Or.inr he)).symm⟩

theorem domainEffect_keys (d : Nat) (edges : Bool) (q : List Instr) (s : State) (w : s.Wf q) : keysFrom 0 (domainEffect d edges s).objs :=
  (domainEffect_wf _ _ _ w).objs

/-- Settles O8: the guards of the release sequence, and what a held domain and the option word leave. -/
theorem releaseSequence : Obligations.ReleaseSequence := by
  intro q s w
  refine ⟨fun h => next_pos h, tryBerthing_same, fun ha hp hm => next_pos ⟨ha, hp, hm⟩, fun us edges d h => ⟨execDomainRelease_due us edges s d h, ?_⟩,
    fun edges u => ⟨rfl, rfl, rfl, rfl, rfl, rfl, rfl⟩, fun d h => ⟨_, rfl, domainHeld_due s w.objs d h⟩,
    fun v h => ⟨_, next_pos h, optionsLoaded_rst v.toNat s⟩⟩
  have hw : (setDomain d .released s).Wf q := setDomain_wf _ _ _ w
  rw [put_get _ _ _ (domainEffect_keys d edges q _ hw)]
  exact Nat.mod_eq_of_lt us.isLt

/-- Settles O9: the guards of the end of Berthing, and what entering Working leaves. -/
theorem berthingEnds : Obligations.BerthingEnds := by
  intro s
  refine ⟨fun i hm h5 hi => ?_, fun n bs => ⟨rfl, rfl⟩, fun line => ?_, fun hb hw ht hh => next_pos ⟨hb, hw, ht, hh⟩, enterWorking_facts s, fun h => next_pos h⟩
  · refine (next_pos ⟨hm, h5⟩).trans (next_eq ?_)
    simp only [hi, decide_eq_true_eq]
  · intro u hu
    refine ⟨fun h => (next_pos hu).trans (next_pos h), fun h hk => (next_pos hu).trans ((next_neg h).trans (next_pos hk)), fun h hk hb => ?_⟩
    exact (next_pos hu).trans ((next_neg h).trans (next_neg (by simp_all [u])))

end Sys2Proof.Laws


/-! Supplies, the test access port, the die temperature and block resets. -/

namespace Sys2Proof.Laws

open Sys2Proof.Machine

theorem vioDropCnt_not_raiseKey : ¬ raiseKey 0x27 Obj.vioDropCnt.key := by
  rintro (h | h | h) <;> revert h <;> decide

theorem srcClass_vioDrop : srcClass 0x27 ≠ .fatal := by decide

/-- Losing the supplies of D1 to D7 outside Approach. -/
theorem powerLost_off (s : State) (h : s.node.mode ≠ .approach) :
    (powerLost s).rst.doms = [.released, .inReset, .inReset, .inReset, .inReset, .inReset, .inReset, .inReset] ∧
    (powerLost s).node.owns = false ∧ (powerLost s).pins.keep = 0 ∧ (powerLost s).pins.inBuf = 0 ∧
    (powerLost s).cranes = [] ∧ (powerLost s).tally = tallyReset := by
  have hn : (stopPickup false (loseOwnership s)).node.owns = false := by
    rw [stopPickup_node]
    exact loseOwnership_owns s
  unfold powerLost
  rw [if_neg h]
  exact ⟨rfl, hn, rfl, rfl, rfl, rfl⟩

theorem recordReset_supplies (src : Nat) (cold : Bool) (s : State) : (recordReset src cold s).rst.supplies = s.rst.supplies := by
  simp only [recordReset, pushHistory]
  cases s.rst.loading <;> cases s.resetting <;> by_cases hi : s.rst.source = 0 <;> simp [hi]

theorem assertReset_supplies (src : Nat) (cold : Bool) (s : State) : (assertReset src cold s).rst.supplies = s.rst.supplies := by
  have hk := (loseOwnership_keep (recordReset src cold s)).1.trans (stopPickup_keep _)
  unfold assertReset
  dsimp only
  split
  all_goals exact (congrArg ResetState.supplies hk.rst).trans (recordReset_supplies src cold s)

theorem assertReset_reinsert (cold : Bool) (s : State) : (assertReset 2 cold s).rst.reinsert = false := Bool.and_false _

/-- Settles O10: the event of a bank is contained, and the return of the supplies is a cold reset of source 2 (log entry 20). -/
theorem supplies : Obligations.Supplies := by
  intro q s w
  refine ⟨fun b h => ⟨next_neg h, ?_⟩, fun b high => rfl, fun h => ⟨_, rfl, ?_⟩, fun h => ?_, ?_⟩
  · have hc := srcClass_vioDrop
    let u := (isolateBank b.val s).bump Obj.vioDropCnt
    have hr := raise_rst 0x27 b.val 0 u hc
    have hp := raise_pins 0x27 b.val 0 u hc
    refine ⟨congrArg ResetState.vio hr, congrArg PinState.drive hp, congrArg PinState.keep hp, congrArg PinState.inBuf hp, ?_,
      raise_cranes _ _ _ u hc, raise_node _ _ _ u hc, raise_tally _ _ _ u hc⟩
    rw [raise_get _ _ _ u hc (bump_keys _ _ w.objs) _ vioDropCnt_not_raiseKey]
    exact bump_self _ _ w.objs
  · obtain ⟨-, -, -, lost, -⟩ := powerLost_facts s w.objs
    obtain ⟨hm, hre, ha, hcl, hd⟩ := lost h
    obtain ⟨hdoms, ho, hke, hin, hcr, ht⟩ := powerLost_off s h
    rw [if_neg h]
    exact ⟨rfl, ha, hre, hdoms, hm, ho, hcl, hd, hke, hin, hcr, ht⟩
  · exact next_eq (by rw [if_pos h])
  · intro u
    refine ⟨fun h => next_eq (tryBerthing_same u ?_), fun hm hg hp hv hr => ?_, fun hm hg hp hv hr => ?_⟩
    · rcases h with h | h | h | h
      · exact .inl h
      · exact .inr (.inl h)
      · exact .inr (.inr (.inr (.inl h)))
      · exact .inr (.inr (.inr (.inr h)))
    · refine (next_pos (show _ ∧ _ from ⟨hm, hg, rfl, hp, hv⟩)).trans (next_eq ?_)
      rw [if_neg (by simp [hr])]
      rfl
    · have w' : u.Wf q := wf_mk _ _ _ _ _ _ _ _ _ _ _ _ _ _ _ _ _ _ _ _ _ w w.claims w.owner w.origin
      have taken := assertReset_taken q 2 true u w'
      refine ⟨toMode .berthing (assertReset 2 true u), ?_, rfl, taken.asserted, assertReset_supplies 2 true u, assertReset_reinsert true u,
        taken.owns, ?_, ?_, taken.history⟩
      · refine (next_pos (show _ ∧ _ from ⟨hm, hg, rfl, hp, hv⟩)).trans (next_eq ?_)
        rw [if_pos hr]
      · exact taken.cleared.2.2.1
      · exact taken.cleared.2.2.2.2.2.2.1

theorem tapBypass_unlisted (code : BitVec 8) (h : ¬ (1 ≤ code.toNat ∧ code.toNat ≤ 5)) :
    ¬ (code = 1 ∨ code = 2 ∨ code = 3 ∨ code = 4 ∨ code = 5) := by
  rintro (rfl | rfl | rfl | rfl | rfl) <;> exact h (by decide)

/-- Settles O11: each instruction writes the port's state alone. -/
theorem testAccessPort : Obligations.TestAccessPort := by
  intro s only strapped
  exact ⟨rfl, rfl, rfl, rfl, rfl, rfl, fun code h => next_neg (tapBypass_unlisted code h)⟩

theorem getI_put_self16 (s : State) (o : Obj) (v : BitVec 16) (hk : keysFrom 0 s.objs) (ho : o.ty.size = 2) : (s.put o v.toNat).getI o = v.toInt := by
  unfold State.getI
  rw [put_get s o _ hk, ho]
  exact toSigned16 v

theorem getI_put_ne (s : State) (o p : Obj) (v : Nat) (hk : keysFrom 0 s.objs) (h : p.key ≠ o.key) : (s.put o v).getI p = s.getI p := by
  unfold State.getI
  rw [get_put_ne s o p v hk h]

/-- A reading of the die sensor: the reading, the greatest one, and nothing else. -/
theorem dieTempUpdate_facts (v : BitVec 16) (s : State) (hk : keysFrom 0 s.objs) (h4 : s.released 4) :
    ∃ t, exec (.dieTempUpdate v) s = .next t ∧ t.getI Obj.dieTemp = v.toInt ∧ t.getI Obj.dieTempMax = max (s.getI Obj.dieTempMax) v.toInt ∧
      { t with objs := s.objs } = s ∧ ∀ o : Obj, o.key ≠ Obj.dieTemp.key → o.key ≠ Obj.dieTempMax.key → t.get o = s.get o := by
  have hne : Obj.dieTempMax.key ≠ Obj.dieTemp.key := by decide
  let u := s.put Obj.dieTemp v.toNat
  have ku : keysFrom 0 u.objs := key_put _ _ _ hk
  have temp : u.getI Obj.dieTemp = v.toInt := getI_put_self16 s _ v hk rfl
  have max_u : u.getI Obj.dieTempMax = s.getI Obj.dieTempMax := getI_put_ne s _ _ _ hk hne
  by_cases h : u.getI Obj.dieTempMax < v.toInt
  · refine ⟨u.put Obj.dieTempMax v.toNat, (next_pos h4).trans (next_pos h), ?_, ?_, rfl, fun o h1 h2 => ?_⟩
    · rw [getI_put_ne u _ _ _ ku hne.symm, temp]
    · rw [getI_put_self16 u _ v ku rfl]
      rw [max_u] at h
      exact (Int.max_eq_right (Int.le_of_lt h)).symm
    · rw [get_put_ne u _ _ _ ku h2, get_put_ne s _ _ _ hk h1]
  · refine ⟨u, (next_pos h4).trans (next_neg h), temp, ?_, rfl, fun o h1 _ => get_put_ne s _ _ _ hk h1⟩
    rw [max_u] at h ⊢
    exact (Int.max_eq_left (Int.not_lt.1 h)).symm

/-- The block of a crane's quay, cleared, is the quay cleared. -/
theorem blockClear_quay (g : Nat) (hg : g < 64) (s : State) : blockClear (3 + g / 16) s = quayClear (g / 16) s := by
  unfold blockClear
  rw [if_neg (by omega), if_pos (by omega), Nat.add_sub_cancel_left]

/-- Settles O12: the guards of the steps of a block reset; the clear of a quay empties its cranes and their FIFOs (log entry 55). -/
theorem blockResetsAndDie : Obligations.BlockResetsAndDie := by
  intro q s w
  refine ⟨fun v h4 => dieTempUpdate_facts v s w.objs h4, fun b forced hq hf => next_pos ⟨hq, hf⟩,
    fun b h => ⟨next_pos h, next_pos h⟩, fun b h => next_pos h, fun g hg => ?_⟩
  rw [blockClear_quay g hg]
  exact quayClear_facts s (crane_keys w) ((mapWf_iff _ _).1 w.fifos).1 g hg

/-- A write of bytes to a present object: the dictionary's request is `writeBytes`. -/
theorem exec_objectWrite_eq (r : Req) (idx : BitVec 16) (sub : BitVec 8) (bs : List Byte) (o : Obj) (s : State) (hi : idx.toNat = o.idx)
    (hs : sub.toNat = o.sub) : exec (.objectWrite r idx sub bs) s = .next (writeBytes r o bs s) := by
  rw [exec_objectWrite, execObjectWrite, hi, hs, writeBytes]

theorem writeStored_now (o : Obj) (bs : List Byte) (s : State) (h : o.eff = .immediate ∨ o.eff = .none) : writeStored o bs s = (storeObj o bs s, ecOk) := by
  unfold writeStored
  rcases h with h | h <;> rw [h]

theorem writeStored_commit (o : Obj) (bs : List Byte) (s : State) (h : o.eff = .commit) : writeStored o bs s = (s.stage o bs, ecOk) := by
  unfold writeStored
  rw [h]

theorem writeStored_tide (o : Obj) (bs : List Byte) (s : State) (h : o.eff = .tide) (hl : (s.tide.queue.filter (fun e => e.1 != o.key)).length < 64) :
    writeStored o bs s = ({ s with tide := { s.tide with queue := s.tide.queue.filter (fun e => e.1 != o.key) ++ [(o.key, bs)] } }, ecOk) := by
  unfold writeStored queueTide
  rw [h]
  dsimp only
  rw [if_neg (by omega)]
  rfl

theorem writeStored_full (o : Obj) (bs : List Byte) (s : State) (h : o.eff = .tide) (hl : 64 ≤ (s.tide.queue.filter (fun e => e.1 != o.key)).length) :
    writeStored o bs s = (s, ecTideFull) := by
  unfold writeStored queueTide
  rw [h]
  dsimp only
  rw [if_pos hl]

theorem writeBytes_storedRefused {r : Req} {o : Obj} {bs : List Byte} {s t : State} {c : Nat} (h : Taken r o bs s) (hc : c ≠ 0)
    (hw : writeSpecial r o (ofBytes bs) bs s = none) (hs : writeStored o bs s = (t, c)) : writeBytes r o bs s = refusedWith r o c t := by
  have hc' : c ≠ ecOk := hc
  have e : writeObj r o bs s = (t, c) := by
    simp [writeObj, h.gate, h.value, hw, hs, hc']
  simp [writeBytes, dictWrite, serve, h.served, withObj, h.present, e, refusedWith]

theorem writeBytes_absent {r : Req} {o : Obj} {bs : List Byte} {s : State} (h1 : s.serveCode o.idx o.sub = 0) (h2 : s.findObj o.idx o.sub = none) :
    writeBytes r o bs s = refusedWith r o 1 s := by
  have h1' : s.serveCode o.idx o.sub = ecOk := h1
  simp [writeBytes, dictWrite, serve, h1', withObj, h2, refusedWith, ecNoObject]

/-- An accepted request changes its answer, the lock's time and the count alone. -/
theorem accepted_facts (r : Req) (o : Obj) (s : State) (hk : keysFrom 0 s.objs) :
    (accepted r o s).dict = { s.dict with answer := ⟨0, false, []⟩, lockAt := if o.acc = .rwl then s.tide.clock else s.dict.lockAt } ∧
    (accepted r o s).get Obj.dictReqCnt = (s.get Obj.dictReqCnt + 1) % 2 ^ 32 ∧
    { accepted r o s with objs := s.objs, dict := s.dict } = s ∧
    ∀ p : Obj, p.key ≠ Obj.dictReqCnt.key → (accepted r o s).get p = s.get p := by
  have hs : accepted r o s = { s.bump Obj.dictReqCnt with dict := { s.dict with answer := ⟨0, false, []⟩, lockAt := if o.acc = .rwl then s.tide.clock else s.dict.lockAt } } := by
    unfold accepted lockRestart
    split <;> rfl
  rw [hs]
  exact ⟨rfl, bump_self s _ hk, rfl, fun p hp => bump_ne s _ p hk hp⟩

/-- A refused request changes its answer, the two counts and the last error alone. -/
theorem refusedWith_facts (r : Req) (o : Obj) (code : Nat) (hc : code ≠ 0) (s : State) (hk : keysFrom 0 s.objs) :
    (refusedWith r o code s).dict = { s.dict with answer := ⟨code, false, []⟩ } ∧
    (refusedWith r o code s).get Obj.dictRefusedCnt = (s.get Obj.dictRefusedCnt + 1) % 2 ^ 32 ∧
    { refusedWith r o code s with objs := s.objs, dict := s.dict } = s ∧
    ∀ p : Obj, p.key ≠ Obj.dictReqCnt.key → p.key ≠ Obj.dictRefusedCnt.key → p.key ≠ Obj.dictLastErr.key → (refusedWith r o code s).get p = s.get p := by
  have hcode : code ≠ ecOk := hc
  have k1 := bump_keys s Obj.dictReqCnt hk
  have k2 := bump_keys _ Obj.dictRefusedCnt k1
  have hne : Obj.dictRefusedCnt.key ≠ Obj.dictLastErr.key := by decide
  have hne2 : Obj.dictRefusedCnt.key ≠ Obj.dictReqCnt.key := by decide
  unfold refusedWith settle
  dsimp only
  rw [if_neg hcode]
  refine ⟨rfl, ?_, rfl, fun p h1 h2 h3 => ?_⟩
  · exact (get_put_ne _ _ _ _ k2 hne).trans ((bump_self _ _ k1).trans (by rw [bump_ne s _ _ hk hne2]; rfl))
  · exact (get_put_ne _ _ _ _ k2 h3).trans ((bump_ne _ _ _ k1 h2).trans (bump_ne s _ _ hk h1))

/-- Settles O13: a stored write by its effect time; a rewritten tide-applied one goes last (log entries 13 and 59). -/
theorem objectWrites : Obligations.ObjectWrites := by
  intro r idx sub bs o q s w hi hs
  have hexec := exec_objectWrite_eq r idx sub bs o s hi hs
  refine ⟨fun h hw => ⟨fun he hz => ?_, fun he hz => ?_, fun he => ?_, fun he hl => ?_, fun he hl => ?_⟩, fun h1 h2 h3 h4 h5 => ?_, fun h1 h2 => ?_,
    accepted_facts r o s w.objs, fun code hc => refusedWith_facts r o code hc s w.objs⟩
  · rw [hexec, writeBytes_stored h hw (writeStored_now o bs s he), storeObj, if_neg hz]
  · rw [hexec, writeBytes_stored h hw (writeStored_now o bs s he), storeObj, if_pos hz]
  · rw [hexec, writeBytes_stored h hw (writeStored_commit o bs s he)]
  · rw [hexec, writeBytes_stored h hw (writeStored_tide o bs s he hl)]
  · rw [hexec, writeBytes_storedRefused h (by decide) hw (writeStored_full o bs s he hl)]
    rfl
  · rw [hexec, writeBytes_gate h1 h2 h3 h4 h5]
  · rw [hexec, writeBytes_absent h1 h2]

end Sys2Proof.Laws


/-! The owner lock, the commands of the reset controller, the fault collector and fault injection. -/

namespace Sys2Proof.Laws

open Sys2Proof.Machine

/-- The fields of a value that opens the lock. -/
theorem openValue_fields (key : BitVec 32) : fld (2 ^ 56 + key.toNat) 56 8 = 1 ∧ fld (2 ^ 56 + key.toNat) 32 24 = 0 ∧ fld (2 ^ 56 + key.toNat) 0 32 = key.toNat := by
  have := key.isLt
  simp only [fld]
  omega

theorem openValue_lt (key : BitVec 32) : 2 ^ 56 + key.toNat < 256 ^ Obj.ownerLock.ty.size := by
  have := key.isLt
  simp only [Obj.ownerLock, OType.size]
  omega

/-- No other requester holds the lock. -/
theorem noOther {r : Req} {s : State} (h : s.dict.holder = none ∨ s.dict.holder = some r) : (s.dict.holder.isSome && !s.holds r) = false := by
  unfold State.holds
  rcases h with h | h <;> simp [h]

theorem anOther {r : Req} {s : State} (h : ∃ x, s.dict.holder = some x ∧ x ≠ r) : (s.dict.holder.isSome && !s.holds r) = true := by
  obtain ⟨x, hx, hne⟩ := h
  unfold State.holds
  simp [hx, hne]

theorem lockWrite_key (r : Req) (key : BitVec 32) (s : State) (h : s.dict.holder = none ∨ s.dict.holder = some r) (hl : s.dict.lockout = false)
    (hk : key.toNat = s.get Obj.ownerKey) : lockWrite r (2 ^ 56 + key.toNat) s =
      ({ s.put Obj.ownerLock 1 with dict := { s.dict with holder := some r, lockAt := s.tide.clock } }, ecOk) := by
  obtain ⟨h1, h2, h3⟩ := openValue_fields key
  unfold lockWrite
  simp only [h1, h2, h3, noOther h, hl, if_pos hk]
  rfl

theorem lockWrite_wrong (r : Req) (key : BitVec 32) (s : State) (h : s.dict.holder = none ∨ s.dict.holder = some r) (hl : s.dict.lockout = false)
    (hk : key.toNat ≠ s.get Obj.ownerKey) :
    let w := s.tide.clock :: s.dict.wrong.filter (fun t => decide (s.tide.clock < t + 2400000))
    lockWrite r (2 ^ 56 + key.toNat) s = ({ s.bump Obj.lockRefusedCnt with
      dict := { s.dict with wrong := if 8 ≤ w.length then [] else w, lockout := decide (8 ≤ w.length) } }, ecValue) := by
  obtain ⟨h1, h2, h3⟩ := openValue_fields key
  intro w
  unfold lockWrite
  simp only [h1, h2, h3, noOther h, hl, if_neg hk, decide_eq_true_eq]
  rfl

theorem lockWrite_other (r : Req) (key : BitVec 32) (s : State) (h : ∃ x, s.dict.holder = some x ∧ x ≠ r) :
    lockWrite r (2 ^ 56 + key.toNat) s = (s, ecLocked) := by
  obtain ⟨h1, h2, -⟩ := openValue_fields key
  unfold lockWrite
  simp only [h1, h2, anOther h]
  rfl

theorem lockWrite_close (r : Req) (s : State) (h : s.dict.holder = none ∨ s.dict.holder = some r) :
    lockWrite r (2 * 2 ^ 56) s = ((lockClose s).put Obj.ownerLock 1, ecOk) := by
  simp [lockWrite, noOther h, fld, stDone]

/-- Settles O14: each write of the lock by its operation and its holder. The window is 2,400,000 periods of 25 us (log entry 8), and closing a
lock that nobody holds answers OK (log entry 57). -/
theorem ownerLock : Obligations.OwnerLock := by
  intro r s
  refine ⟨fun key h hh hl => ⟨fun hk => next_eq ?_, fun hk => ?_⟩, fun key h hh => next_eq ?_, fun h hh => next_eq ?_, rfl, rfl⟩
  · rw [Nat.one_mul]
    exact writeVal_special h (openValue_lt key) (congrArg some (lockWrite_key r key s hh hl hk))
  · intro w
    refine next_eq ?_
    rw [Nat.one_mul]
    exact writeVal_refused h (openValue_lt key) (by decide) (congrArg some (lockWrite_wrong r key s hh hl hk))
  · rw [Nat.one_mul]
    exact writeVal_refused h (openValue_lt key) (by decide) (congrArg some (lockWrite_other r key s hh))
  · exact writeVal_special h (by decide) (congrArg some (lockWrite_close r s hh))

/-- A value of a scalar stored at once. -/
theorem writeStored_val (o : Obj) (v : Nat) (s : State) (he : o.eff = .immediate ∨ o.eff = .none) (hz : o.ty.size ≠ 0) (hv : v < 256 ^ o.ty.size) :
    writeStored o (bytesOf o.ty.size v) s = (s.put o v, ecOk) := by
  rw [writeStored_now o _ s he, storeObj, if_neg hz, ofBytes_bytesOf _ _ hv]

theorem enterSlipway_facts (s : State) : (enterSlipway s).node.mode = .slipway ∧ (enterSlipway s).node.owns = s.ownLine ∧ (enterSlipway s).node.claim = s.ownLine := by
  have hm := setMode_mode .slipway s
  unfold enterSlipway
  dsimp only
  split
  · rw [canStartAll_node]
    exact ⟨hm, rfl, rfl⟩
  · exact ⟨hm, rfl, rfl⟩

/-- The value of `BLOCK_RESET` that names blocks: no reserved bit and no abort. -/
theorem blockValue_fields {v : Nat} (h : v < 2 ^ 22) : fld v 22 9 = 0 ∧ bit v 31 = false := by
  refine ⟨by simp only [fld]; omega, ?_⟩
  exact Nat.testBit_lt_two_pow (Nat.lt_of_lt_of_le h (by decide))

theorem blockResetWrite_taken (v : Nat) (s : State) (hv : v < 2 ^ 22) (hb : s.get Obj.blockReset ≠ 2) (hd : ∀ b ∈ bitsOf 22 v, s.released (blockDomain b)) :
    blockResetWrite v s = (blockStatus ((bitsOf 22 v).foldl (fun s b => if s.block b == .held then s else blockQuiesce b s)
      { s.put Obj.blockReset 2 with rst := { s.rst with blkDone := false, blkLate := false, blkClock := false, blkAsked := s.tide.beat } }), ecOk) := by
  obtain ⟨h1, h2⟩ := blockValue_fields hv
  have hany : (bitsOf 22 v).any (fun b => !s.released (blockDomain b)) = false := by
    rw [List.any_eq_false]
    intro b hbm
    simp [hd b hbm]
  unfold blockResetWrite
  simp only [h1, h2, stBusy, if_neg hb, hany]
  rfl

theorem abortValue_fields : fld (2 ^ 31) 22 9 = 0 ∧ bit (2 ^ 31) 31 = true := by decide

theorem blockResetWrite_idleAbort (s : State) (hb : s.get Obj.blockReset ≠ 2) : blockResetWrite (2 ^ 31) s = (s, ecOk) := by
  obtain ⟨h1, h2⟩ := abortValue_fields
  unfold blockResetWrite
  simp only [h1, h2, stBusy, if_neg hb]
  rfl

theorem setBlock_idle_block (b c : Nat) (s : State) : (setBlock b .idle s).block c = if c = b then .idle else s.block c := by
  unfold setBlock State.block
  simp only [List.getD_eq_getElem?_getD, List.getElem?_set]
  by_cases h : b = c
  · subst h
    by_cases hl : b < s.rst.blocks.length <;> simp [hl]
  · simp [h, Ne.symm h]

theorem foldl_setBlock_idle (l : List Nat) (c : Nat) : ∀ s : State, (l.foldl (fun s b => setBlock b .idle s) s).block c = if c ∈ l then .idle else s.block c := by
  induction l with
  | nil => exact fun s => rfl
  | cons b l ih =>
    intro s
    rw [List.foldl_cons, ih, setBlock_idle_block]
    by_cases h1 : c ∈ l <;> by_cases h2 : c = b <;> simp [h1, h2]

/-- The state that an abort leaves before the status: no block waits any more, and the quays that waited resume. -/
def blocksAborted (s : State) : State :=
  ((List.range 22).filter (fun b => s.block b == .quiescing)).foldl (fun s b => setBlock b .idle s) (abortPins s)

theorem blocksAborted_block (s : State) (b : Nat) (hb : b < 22) : (blocksAborted s).block b ≠ .quiescing := by
  unfold blocksAborted
  rw [foldl_setBlock_idle]
  split
  · decide
  · next h =>
    intro hq
    exact h (List.mem_filter.2 ⟨List.mem_range.2 hb, beq_iff_eq.2 hq⟩)

theorem blockResetWrite_abort (s : State) (hb : s.get Obj.blockReset = 2) (hd : s.rst.blkDone = false) (hr : s.rst.blocks.any (· == .inReset) = false) :
    blockResetWrite (2 ^ 31) s = ((blocksAborted s).put Obj.blockReset 3, ecOk) := by
  obtain ⟨h1, h2⟩ := abortValue_fields
  unfold blockResetWrite
  simp only [h1, h2, hb, hd, hr, stBusy]
  rfl

/-- Settles O15: each command is a write of its object. -/
theorem resetCommands : Obligations.ResetCommands := by
  intro r s
  refine ⟨fun h => next_eq (writeVal_special h (by decide) rfl), fun v hv h => next_eq (writeVal_refused (c := ecValue) h (small8 v) (by decide) ?_),
    fun v h => next_eq (writeVal_stored h v.isLt rfl (writeStored_val _ _ s (.inl rfl) (by decide) v.isLt)),
    fun h hc => next_eq (writeVal_special h (by decide) ?_), fun v hv h => next_eq (writeVal_refused (c := ecValue) h v.isLt (by decide) ?_),
    fun v h => next_eq ?_, enterSlipway_facts s, fun v h hv hb hd => ?_, fun h hb => next_eq ?_, fun h hb hd hr => ⟨blocksAborted s, next_eq ?_, blocksAborted_block s⟩⟩
  · have hn : v.toNat ≠ 0xA5 := fun e => hv (BitVec.eq_of_toNat_eq e)
    show some (s, if v.toNat = 0xA5 then ecOk else ecValue) = _
    rw [if_neg hn]
  · show some (resetCmdWrite r 0x5AFE0001 s) = _
    simp [resetCmdWrite, hc]
  · have hn : v.toNat ≠ 0x5AFE0001 := fun e => hv (BitVec.eq_of_toNat_eq e)
    show some (resetCmdWrite r v.toNat s) = _
    rw [resetCmdWrite, if_pos hn]
  · have hw : writeSpecial r Obj.slipwayKey v.toNat (bytesOf Obj.slipwayKey.ty.size v.toNat) s = some (slipwayKeyWrite v.toNat s) := rfl
    split
    case isTrue hk => exact writeVal_special h v.isLt (hw.trans (by rw [slipwayKeyWrite, if_pos hk]))
    case isFalse hk => exact writeVal_refused h v.isLt (by decide) (hw.trans (by rw [slipwayKeyWrite, if_neg hk]; rfl))
  · intro u
    exact next_eq (writeVal_special h v.isLt (congrArg some (blockResetWrite_taken v.toNat s hv hb hd)))
  · exact writeVal_special h (by decide) (congrArg some (blockResetWrite_idleAbort s hb))
  · exact writeVal_special h (by decide) (congrArg some (blockResetWrite_abort s hb hd hr))

end Sys2Proof.Laws


/-! Events of the fault collector: their records, Quarantine, the list and its clearing, and injection. -/

namespace Sys2Proof.Laws

open Sys2Proof.Machine

/-- Only objects and fault records changed, and the cause of Quarantine stayed. -/
structure RecordsOnly (s t : State) : Prop where
  frame : { t with objs := s.objs, faults := s.faults } = s
  cause : t.faults.cause = s.faults.cause

theorem RecordsOnly.refl (s : State) : RecordsOnly s s := ⟨rfl, rfl⟩

theorem RecordsOnly.trans {s t u : State} (a : RecordsOnly s t) (b : RecordsOnly t u) : RecordsOnly s u := by
  obtain ⟨fa, ca⟩ := a
  obtain ⟨fb, cb⟩ := b
  refine ⟨?_, cb.trans ca⟩
  rw [← fa, ← fb]

theorem RecordsOnly.after {s t u : State} (b : RecordsOnly t u) (a : RecordsOnly s t) : RecordsOnly s u := a.trans b

theorem faultIrq_records (c : FClass) (s : State) : RecordsOnly s (faultIrq c s) := by
  unfold faultIrq
  split
  · exact ⟨rfl, rfl⟩
  · exact .refl s

theorem faultLost_records (s : State) : RecordsOnly s (faultLost s) := ⟨rfl, rfl⟩

theorem storeRecord_records (p a b c : Nat) (i : Bool) (s : State) : RecordsOnly s (storeRecord p a b c i s) :=
  (faultIrq_records _ _).after ⟨rfl, rfl⟩

theorem newRecord_records (a b c : Nat) (i : Bool) (s : State) : RecordsOnly s (newRecord a b c i s) := by
  unfold newRecord
  split
  · exact storeRecord_records ..
  · split
    · exact faultLost_records s
    · split
      · exact (storeRecord_records ..).after ((faultLost_records _).after ⟨rfl, rfl⟩)
      · exact faultLost_records s
    · split
      · exact storeRecord_records ..
      · exact faultLost_records s

theorem eventNoted_records (i : Bool) (a b c : Nat) (s : State) : RecordsOnly s (eventNoted i a b c s) := by
  unfold eventNoted recordEvent
  split
  · exact (faultIrq_records _ _).after ⟨rfl, rfl⟩
  · exact (newRecord_records ..).after ⟨rfl, rfl⟩

theorem raise_records (a b c : Nat) (s : State) (h : srcClass a ≠ .fatal) : RecordsOnly s (raise a b c s) := by
  unfold raise raiseAs
  split
  · exact eventNoted_records ..
  · exact .refl s

/-- Only objects, fault records, FIFOs and the bridge changed, and the cause of Quarantine stayed. -/
structure StreamsOnly (s t : State) : Prop where
  frame : { t with objs := s.objs, faults := s.faults, fifos := s.fifos, bridge := s.bridge } = s
  cause : t.faults.cause = s.faults.cause

theorem StreamsOnly.refl (s : State) : StreamsOnly s s := ⟨rfl, rfl⟩

theorem StreamsOnly.trans {s t u : State} (a : StreamsOnly s t) (b : StreamsOnly t u) : StreamsOnly s u := by
  obtain ⟨fa, ca⟩ := a
  obtain ⟨fb, cb⟩ := b
  refine ⟨?_, cb.trans ca⟩
  rw [← fa, ← fb]

theorem StreamsOnly.after {s t u : State} (b : StreamsOnly t u) (a : StreamsOnly s t) : StreamsOnly s u := a.trans b

theorem RecordsOnly.streams {s t : State} (h : RecordsOnly s t) : StreamsOnly s t := by
  obtain ⟨hf, hc⟩ := h
  refine ⟨?_, hc⟩
  rw [← hf]

theorem streamsOnly_fold {α : Type} (f : State → α → State) (h : ∀ b a, StreamsOnly b (f b a)) : ∀ (l : List α) (b : State), StreamsOnly b (l.foldl f b)
  | [], b => .refl b
  | a :: l, b => (h b a).trans (streamsOnly_fold f h l _)

theorem sideEffectLost_streams (n : Nat) (w : Win) (a : Nat) (s : State) : StreamsOnly s (sideEffectLost n w a s) :=
  (eventNoted_records ..).streams.after ⟨rfl, rfl⟩

theorem dropStream_streams (st : Stream) (s : State) : StreamsOnly s (dropStream st s) := by
  unfold dropStream
  dsimp only
  split
  · exact ⟨rfl, rfl⟩
  · split
    · exact ⟨rfl, rfl⟩
    · split
      · exact (streamsOnly_fold _ (fun b a => sideEffectLost_streams _ _ _ b) _ _).after ⟨rfl, rfl⟩
      · exact ⟨rfl, rfl⟩

theorem dropStreams_streams (p : Stream → Bool) (s : State) : StreamsOnly s (dropStreams p s) :=
  streamsOnly_fold _ (fun b a => dropStream_streams a b) _ _

theorem StreamsOnly.rst {s t : State} (h : StreamsOnly s t) : t.rst = s.rst := (congrArg State.rst h.frame :)
theorem StreamsOnly.node {s t : State} (h : StreamsOnly s t) : t.node = s.node := (congrArg State.node h.frame :)
theorem StreamsOnly.dict {s t : State} (h : StreamsOnly s t) : t.dict = s.dict := (congrArg State.dict h.frame :)
theorem StreamsOnly.flash {s t : State} (h : StreamsOnly s t) : t.flash = s.flash := (congrArg State.flash h.frame :)
theorem StreamsOnly.gw {s t : State} (h : StreamsOnly s t) : t.gw = s.gw := (congrArg State.gw h.frame :)
theorem StreamsOnly.tide {s t : State} (h : StreamsOnly s t) : t.tide = s.tide := (congrArg State.tide h.frame :)

/-- Giving up the pins keeps the outside, the reset controller and the tick. -/
theorem releaseOwnership_keep (s : State) : Keeps s (releaseOwnership s) := by
  refine (loseOwnership_keep s).1.trans ?_
  unfold releaseOwnership stopPickup
  dsimp only
  split
  all_goals exact ⟨rfl, rfl, rfl, rfl, rfl, rfl, rfl, rfl, rfl⟩

/-- What a fatal event leaves of a node outside Approach and Quarantine (R483). -/
structure Quarantined (src inst : Nat) (s t : State) : Prop where
  mode : t.node.mode = .quarantine
  owns : t.node.owns = false
  claim : t.node.claim = false
  holder : t.dict.holder = none
  wdt : t.rst.wdt = false
  crit : src = 0x3C → t.rst.crit = .waitKeepers
  cause : t.faults.cause = src * 2 ^ 56 + inst % 256 * 2 ^ 48 + s.tide.tick
  idle : src = 0x3C → 1 ≤ inst → inst ≤ 4 → t.faults.lanesIdle
  kept : t.flash = s.flash ∧ t.gw = s.gw ∧ t.tide = s.tide

/-- A node on its way into Quarantine, before its streams end. -/
def leftForQuarantine (src inst : Nat) (s : State) : State :=
  let m := setMode .quarantine (releaseOwnership { s with faults := { s.faults with cause := src * 2 ^ 56 + inst % 256 * 2 ^ 48 + s.tide.tick } })
  lockClose { m with
    node := { m.node with toAnchored := false, waitB := false, toDryDock := false, leaveDryDock := false, keptOwn := false }
    rst := { m.rst with wdt := false, crit := if src = 0x3C then .waitKeepers else m.rst.crit } }

/-- The pins given up and the mode taken, of a node that enters Quarantine. -/
theorem leftForQuarantine_facts (src inst : Nat) (s : State) :
    let t := leftForQuarantine src inst s
    (t.node.mode = .quarantine ∧ t.node.owns = false ∧ t.node.claim = false) ∧ t.dict.holder = none ∧
    (t.rst.wdt = false ∧ (src = 0x3C → t.rst.crit = .waitKeepers)) ∧ t.faults.cause = src * 2 ^ 56 + inst % 256 * 2 ^ 48 + s.tide.tick ∧
    t.flash = s.flash ∧ t.gw = s.gw ∧ t.tide = s.tide := by
  let u := { s with faults := { s.faults with cause := src * 2 ^ 56 + inst % 256 * 2 ^ 48 + s.tide.tick } }
  have hk := releaseOwnership_keep u
  have ho := releaseOwnership_owns u
  obtain ⟨objs, node, hm, hmode, howns, hclaim, -⟩ := setMode_keep .quarantine (releaseOwnership u)
  have hc : (releaseOwnership u).node.claim = false := rfl
  intro t
  unfold t leftForQuarantine
  rw [hm]
  generalize releaseOwnership u = v at *
  exact ⟨⟨hmode, howns.trans ho, hclaim.trans hc⟩, rfl, ⟨rfl, fun h => if_pos h⟩, congrArg FaultState.cause hk.faults, hk.flash, hk.gw, hk.tide⟩

theorem quarantine_eq (src inst : Nat) (s : State) (hq : s.node.mode ≠ .quarantine) (ha : s.node.mode ≠ .approach) :
    let d := dropStreams (fun _ => true) (leftForQuarantine src inst s)
    quarantine src inst s = if src = 0x16 ∨ (src = 0x3C ∧ 1 ≤ inst ∧ inst ≤ 4) then { d with faults := { d.faults with lanesIdle := true } } else d :=
  if_neg (by simp [hq, ha])

theorem quarantine_facts (src inst : Nat) (s : State) (hq : s.node.mode ≠ .quarantine) (ha : s.node.mode ≠ .approach) :
    Quarantined src inst s (quarantine src inst s) := by
  rw [quarantine_eq src inst s hq ha]
  have facts := leftForQuarantine_facts src inst s
  have hd := dropStreams_streams (fun _ => true) (leftForQuarantine src inst s)
  generalize leftForQuarantine src inst s = l at *
  dsimp only at facts
  rw [← hd.node, ← hd.rst, ← hd.dict, ← hd.cause, ← hd.flash, ← hd.gw, ← hd.tide] at facts
  clear hd
  generalize dropStreams (fun _ => true) l = d at *
  obtain ⟨⟨mode, owns, claim⟩, holder, ⟨wdt, crit⟩, cause, kept⟩ := facts
  dsimp only
  split
  case isTrue h => exact ⟨mode, owns, claim, holder, wdt, crit, cause, fun _ _ _ => rfl, kept⟩
  case isFalse h => exact ⟨mode, owns, claim, holder, wdt, crit, cause, fun h1 h2 h3 => absurd (.inr ⟨h1, h2, h3⟩) h, kept⟩

theorem raise_fatal (src inst detail : Nat) (s : State) (h4 : s.released 4) (hf : srcClass src = .fatal) (ha : s.node.mode ≠ .approach)
    (hq : s.node.mode ≠ .quarantine) : Quarantined src inst s (raise src inst detail s) := by
  have hu := (eventNoted_records false src inst detail s).streams
  have hr : raise src inst detail s = quarantine src inst (eventNoted false src inst detail s) := by
    unfold raise raiseAs
    rw [if_pos h4]
    exact if_pos hf
  rw [hr]
  have hnode := hu.node
  obtain ⟨mode, owns, claim, holder, wdt, crit, cause, idle, flash, gw, tide⟩ :=
    quarantine_facts src inst (eventNoted false src inst detail s) (by rw [hnode]; exact hq) (by rw [hnode]; exact ha)
  rw [hu.tide] at cause tide
  exact ⟨mode, owns, claim, holder, wdt, crit, cause, idle, flash.trans hu.flash, gw.trans hu.gw, tide⟩

theorem raise_inReset (src inst detail : Nat) (s : State) (h4 : s.released 4 = false) : raise src inst detail s = s := by
  unfold raise raiseAs
  rw [if_neg (by simp [h4])]

theorem countBlock_frame (e : Event) (s : State) : { countBlock e s with objs := s.objs } = s := by
  unfold countBlock
  split
  · split <;> rfl
  · rfl

theorem countBlock_get (e : Event) (s : State) (hk : keysFrom 0 s.objs) (o : Obj) (h : blockCounter e.src.toNat e.inst.toNat = some o)
    (hp : (objAt o.idx o.sub).isSome) (hr : s.released (objDomain o.idx)) :
    (countBlock e s).get o = (s.get o + if e.src.toNat = 0x25 then e.detail.toNat % 256 else 1) % 2 ^ (8 * o.ty.size) := by
  unfold countBlock
  rw [h]
  dsimp only
  rw [if_pos ⟨hp, hr⟩]
  exact put_get s o _ hk

/-- The source of an instruction test has no block counter. -/
theorem countBlock_35 (e : Event) (s : State) (h : e.src.toNat = 0x35) : countBlock e s = s := by
  unfold countBlock
  rw [h]
  rfl

/-- Settles O16: an event that is not fatal changes objects and records alone; a new record takes the lowest free place (log entry 15). -/
theorem faultEvents : Obligations.FaultEvents := by
  refine ⟨fun q s e w => ⟨fun h => next_neg (by rw [h]; decide), fun h hn => ?_, fun h => ?_, countBlock_frame e s, fun o h hp hr => countBlock_get e s w.objs o h hp hr⟩,
    fun s unit bay => rfl, fun q s src inst detail w hi hd => ?_⟩
  · exact (next_pos h).trans (next_neg hn)
  · refine (next_pos (by rw [h]; decide)).trans ((next_pos h).trans ?_)
    rw [countBlock_35 e s h, h]
  · intro t
    have hi' : inst % 256 = inst := Nat.mod_eq_of_lt hi
    have hd' : detail % 2 ^ 32 = detail := Nat.mod_eq_of_lt hd
    refine ⟨raise_inReset src inst detail s, fun h4 hc => ?_, fun h4 hf ha hq => ?_⟩
    · have hev := raise_event q src inst detail s w hc h4
      rw [hi', hd'] at hev
      obtain ⟨counted, total, new, repeated, lost⟩ := hev
      exact ⟨counted, total, new, repeated, lost, (raise_records src inst detail s hc).frame⟩
    · obtain ⟨mode, owns, claim, holder, wdt, crit, cause, idle, flash, gw, tide⟩ := raise_fatal src inst detail s h4 hf ha hq
      rw [hi'] at cause
      exact ⟨mode, owns, claim, holder, wdt, crit, cause, idle, flash, gw, tide⟩

theorem clearValue_fields (seq : BitVec 16) (reps : BitVec 8) :
    let v := seq.toNat * 2 ^ 16 + reps.toNat * 2 ^ 8 + 1
    v < 256 ^ Obj.faultClear.ty.size ∧ fld v 0 8 = 1 ∧ fld v 16 16 = seq.toNat ∧ fld v 8 8 = reps.toNat := by
  have := seq.isLt
  have := reps.isLt
  simp only [fld, Obj.faultClear, OType.size]
  omega

theorem faultClear_one (v seq reps : Nat) (s : State) (h : fld v 0 8 = 1) (hs : fld v 16 16 = seq) (hr : fld v 8 8 = reps) :
    faultClear v s = (clearOne seq reps s, ecOk) := by
  unfold faultClear
  rw [h, hs, hr]
  rfl

/-- Settles O17: a read copies the list, a clear writes its result. -/
theorem faultListAndClear : Obligations.FaultListAndClear := by
  intro r s del many
  refine ⟨fun place h4 => next_pos h4, fun h => next_eq (readVal_ok h), fun seq reps h => next_eq ?_,
    fun h => next_eq (writeVal_special h (by decide) rfl), fun h => next_eq (writeVal_special h (by decide) rfl)⟩
  obtain ⟨hv, hop, hseq, hreps⟩ := clearValue_fields seq reps
  exact writeVal_special h hv (congrArg some (faultClear_one _ _ _ s hop hseq hreps))

/-- A value whose checks pass. -/
theorem injectWrite_taken (v : Nat) (s : State) (h : s.injectCode v = 0) :
    let done := ((s.put Obj.injectResult 0).bump Obj.injectCnt).put Obj.faultInject 1
    injectWrite v s = (if fiMethod v = 1 then raiseAs true (fiSrc v) (fiInst v) (fiArg v) done else injectBits v done, ecOk) := by
  unfold injectWrite
  rw [h]
  rfl

theorem injectWrite_refused (v : Nat) (s : State) (h : s.injectCode v ≠ 0) :
    injectWrite v s = ((s.put Obj.injectResult (s.injectCode v)).put Obj.faultInject 4, ecOk) := if_pos h

/-- The two bit methods invert bits of the location. -/
theorem injectBits_taken (m : Nat) (hm : m = 2 ∨ m = 3) (r : Req) (s : State) (src inst : BitVec 8) (bt : BitVec 7) (arg : BitVec 32)
    (h : TakenVal r Obj.faultInject (injectValue m src.toNat inst.toNat bt.toNat arg.toNat) s)
    (hc : s.injectCode (injectValue m src.toNat inst.toNat bt.toNat arg.toNat) = 0) :
    writeVal r Obj.faultInject (injectValue m src.toNat inst.toNat bt.toNat arg.toNat) s = accepted r Obj.faultInject
      (injectBits (injectValue m src.toNat inst.toNat bt.toNat arg.toNat) (((s.put Obj.injectResult 0).bump Obj.injectCnt).put Obj.faultInject 1)) := by
  have hlt : m < 4 := by omega
  obtain ⟨hmethod, -⟩ := inject_fields m hlt src inst bt arg
  have hne : fiMethod (injectValue m src.toNat inst.toNat bt.toNat arg.toNat) ≠ 1 := by omega
  refine writeVal_special h (injectValue_lt m hlt src inst bt arg) ((inject_special ..).trans (congrArg some ?_))
  rw [injectWrite_taken _ s hc, if_neg hne]

/-- The record method raises an injected event. -/
theorem injectRecord_taken (r : Req) (s : State) (src inst : BitVec 8) (arg : BitVec 32)
    (h : TakenVal r Obj.faultInject (injectValue 1 src.toNat inst.toNat 0 arg.toNat) s)
    (hc : s.injectCode (injectValue 1 src.toNat inst.toNat 0 arg.toNat) = 0) :
    writeVal r Obj.faultInject (injectValue 1 src.toNat inst.toNat 0 arg.toNat) s = accepted r Obj.faultInject
      (raiseAs true src.toNat inst.toNat arg.toNat (((s.put Obj.injectResult 0).bump Obj.injectCnt).put Obj.faultInject 1)) := by
  obtain ⟨hmethod, hsrc, hinst, harg, -⟩ := inject_fields 1 (by decide) src inst 0#7 arg
  rw [BitVec.toNat_ofNat, Nat.zero_mod] at hmethod hsrc hinst harg
  refine writeVal_special h (injectValue_lt 1 (by decide) src inst 0#7 arg) ((inject_special ..).trans (congrArg some ?_))
  rw [injectWrite_taken _ s hc, if_pos hmethod, hsrc, hinst, harg]

theorem injectBits_hold (n : Nat) (s : State) (hs : fiSrc n = 0x12) : injectBits n s = modHold (fun h =>
    { h with inv := flip (flipMask n 72) (fld (fiArg n) 0 11 * 8 + fld (fiArg n) 11 3) h.inv }) s := by
  unfold injectBits
  rw [hs]
  rfl

/-- Settles O18: the value carries its fields, and the checks of R488 decide. -/
theorem faultInjection : Obligations.FaultInjection := by
  intro r s src inst bt arg done v
  have hlt := injectValue_lt 1 (by decide) src inst 0#7 arg
  refine ⟨fun h hc => next_eq (injectRecord_taken r s src inst arg h hc), fun h hc => next_eq (injectBits_taken 2 (.inl rfl) r s src inst bt arg h hc),
    fun h hc => next_eq (injectBits_taken 3 (.inr rfl) r s src inst bt arg h hc), fun h hc => next_eq ?_, fun n hs hm => ?_⟩
  · exact writeVal_special h hlt ((inject_special ..).trans (congrArg some (injectWrite_refused _ s hc)))
  · rw [injectBits_hold n s hs]
    unfold Machine.flip flipMask
    rfl

end Sys2Proof.Laws


/-! The Gangway: what turns its gate off, the way to GOOD, and the measures of a sample. -/

namespace Sys2Proof.Laws

open Sys2Proof.Machine

theorem gateOn_ne_latched {st : GwSt} (h : st.gateOn) : st ≠ .latched := by
  rintro rfl
  exact Bool.noConfusion h

theorem tryUnlatch_other (s : State) (h : s.gw.st ≠ .latched) : tryUnlatch s = s := if_neg fun hl => h hl.1

/-- `GW_EN` going high in DISABLED. -/
theorem gwEnHigh_disabled (s : State) (hv : s.rst.vaon) (h : s.gw.st = .disabled) :
    exec .gwEnHigh s = .next { s with gw := { s.gw with en := true, st := .qualify, delayDone := false } } := by
  refine (next_pos hv).trans (next_eq ?_)
  unfold setGw
  simp only [h, if_true]
  exact tryUnlatch_other _ (by decide : GwSt.qualify ≠ .latched)

/-- `GW_EN` going high in LATCHED, its cooldown over and `GW_EN` low since. -/
theorem gwEnHigh_latched (s : State) (hv : s.rst.vaon) (h : s.gw.st = .latched) (hc : !s.gw.cooling) (he : s.gw.enLow) :
    exec .gwEnHigh s = .next { s with gw := { s.gw with en := true, st := .qualify, delayDone := false } } := by
  have hne : ¬ (GwSt.latched = .disabled) := by decide
  refine (next_pos hv).trans (next_eq ?_)
  unfold setGw
  simp only [h, if_neg hne]
  exact if_pos ⟨rfl, hc, he⟩

theorem thermalStep_terms (x : State) (h1 : x.get Obj.gwTau1 ≠ 0) (h2 : x.get Obj.gwTau2 ≠ 0) :
    let p := ((x.gw.vin : Int) - x.gw.vout) * x.gw.cur
    thermalStep x = { x with gw := { x.gw with
      dt1 := x.gw.dt1 + (p * x.get Obj.gwRth1 - x.gw.dt1) / x.get Obj.gwTau1
      dt2 := x.gw.dt2 + (p * x.get Obj.gwRth2 - x.gw.dt2) / x.get Obj.gwTau2 } } := by
  intro p
  unfold thermalStep thermalTerm
  simp only [if_neg h1, if_neg h2]
  rfl

/-- The decisions of a sample with the gate on. -/
theorem gwDecide_on (n : Nat) (x : State) (h : x.gw.st.gateOn) (ht : x.gw.timer < x.get Obj.gwFaultTime) :
    gwDecide n x = if x.degrees Obj.gwTTrip ≤ x.tEst then gwTrip 6 x
      else if x.gw.st = .ramp then (if 10000 ≤ n then setGw (fun g => { g with st := .settle, clean := 0 }) x else x)
      else if x.gw.st = .settle then
        let ok := decide (10000 ≤ n) && x.gw.timer == 0 && !x.gw.limiting && !x.belowRun x.gw.vin && !x.aboveRun x.gw.vin
        setGw (fun g => { g with clean := if ok then capAt 1000 (g.clean + 1) else 0 }) x
      else x := by
  have hlate : ¬ x.get Obj.gwFaultTime ≤ x.gw.timer := Nat.not_le.2 ht
  unfold gwDecide
  split
  case h_1 hq =>
    rw [hq] at h
    exact Bool.noConfusion h
  case h_5 _ hr hs hg =>
    cases hst : x.gw.st with
    | ramp => exact absurd hst hr
    | settle => exact absurd hst hs
    | good => exact absurd hst hg
    | disabled | qualify | latched =>
      rw [hst] at h
      exact Bool.noConfusion h
  all_goals exact if_neg hlate

theorem gwDecide_off (n : Nat) (x : State) (h : x.gw.st = .disabled ∨ x.gw.st = .latched) : gwDecide n x = x := by
  unfold gwDecide
  rcases h with h | h <;> rw [h]

theorem gwDecide_qualify (n : Nat) (x : State) (h : x.gw.st = .qualify) :
    gwDecide n x = if !x.startWindow x.gw.vin then { x with gw := { x.gw with delayDone := false } }
      else if x.gw.en ∧ x.gw.delayDone ∧ !x.gw.cooling then { x with gw := { x.gw with st := .ramp, timer := 0, calm := 0, limiting := false } } else x := by
  unfold gwDecide
  rw [h]
  rfl

/-- SETTLE counts the samples at which every condition of R501 holds. -/
theorem gwDecide_settle (n : Nat) (x : State) (h : x.gw.st = .settle) (ht : x.gw.timer < x.get Obj.gwFaultTime) (he : x.tEst < x.degrees Obj.gwTTrip) :
    gwDecide n x = { x with gw := { x.gw with clean :=
      if 10000 ≤ n ∧ x.gw.timer = 0 ∧ x.gw.limiting = false ∧ x.belowRun x.gw.vin = false ∧ x.aboveRun x.gw.vin = false then capAt 1000 (x.gw.clean + 1) else 0 } } := by
  have hcool : ¬ x.degrees Obj.gwTTrip ≤ x.tEst := Int.not_le.2 he
  have hne : ¬ x.gw.st = .ramp := by
    rw [h]
    decide
  rw [gwDecide_on n x (by rw [h]; rfl) ht, if_neg hcool, if_neg hne, if_pos h]
  unfold setGw
  simp only [Bool.and_eq_true, decide_eq_true_eq, beq_iff_eq, Bool.not_eq_true', and_assoc]

theorem peakStep_frame (s : State) : { peakStep s with objs := s.objs } = s := by
  unfold peakStep
  split <;> rfl

theorem peakStep_gw (s : State) : (peakStep s).gw = s.gw := (congrArg State.gw (peakStep_frame s) :)

/-- A cooldown ends, and LATCHED with it where `GW_EN` was low. -/
theorem gwCooldownEnd_taken (s : State) (hc : s.gw.cooling) (he : s.coolEnough) : exec .gwCooldownEnd s = .next (if s.gw.st = .latched ∧ s.gw.enLow
      then { s with gw := { s.gw with cooling := false, st := if s.gw.en then .qualify else .disabled, delayDone := false } }
      else { s with gw := { s.gw with cooling := false } }) := by
  refine (next_pos ⟨hc, he⟩).trans (next_eq ?_)
  by_cases h : s.gw.st = .latched ∧ s.gw.enLow
  · rw [if_pos h]
    exact if_pos ⟨h.1, rfl, h.2⟩
  · rw [if_neg h]
    exact if_neg fun hl => h ⟨hl.1, hl.2.2⟩

/-- The commands that turn the gate off, each on a state with the gate on. -/
theorem gwTurnsOff (q : List Instr) (s : State) (w : s.Wf q) (hv : s.rst.vaon) (hg : s.gw.st.gateOn) :
    let again := if s.gw.en then GwSt.qualify else GwSt.disabled
    let trip := fun cause t => GateOff cause .latched Obj.gwTripCnt s t ∧ t.gw.cooling ∧ t.gw.enLow = false
    (∀ vsns : BitVec 32, 2 * s.get Obj.gwVcl * 1000 ≤ vsns.toNat → ∃ t, exec (.gwFastTrip vsns) s = .next t ∧
      GateOff 5 .latched Obj.gwTripCnt { s with gw := { s.gw with cur := vsns.toNat * 1000 / s.get Obj.gwRsns } } t ∧ t.gw.cooling ∧ t.gw.enLow = false) ∧
    (s.gw.st = .ramp → ∃ t, exec .gwRampTimeout s = .next t ∧ trip 7 t) ∧
    (s.get Obj.gwFaultTime ≤ s.gw.timer → ∃ t, exec .gwFaultTimerExpiry s = .next t ∧ trip 4 t) ∧
    (∃ t, exec .gwEnLowDrop s = .next t ∧ GateOff 1 .disabled Obj.gwDropCnt { s with gw := { s.gw with en := false, enLow := true } } t) ∧
    (100 ≤ s.gw.under → ∃ t, exec .gwUndervoltageDrop s = .next t ∧ GateOff 2 again Obj.gwDropCnt s t) ∧
    (2 ≤ s.gw.above → ∃ t, exec .gwOvervoltageDrop s = .next t ∧ GateOff 3 again Obj.gwDropCnt s t) := by
  intro again trip
  refine ⟨fun vsns h => ⟨_, next_pos ⟨h, hg⟩, gwTrip_facts 5 { s with gw := { s.gw with cur := vsns.toNat * 1000 / s.get Obj.gwRsns } } w.objs hg⟩,
    fun h => ⟨_, next_pos h, gwTrip_facts 7 s w.objs hg⟩, fun h => ⟨_, next_pos h, gwTrip_facts 4 s w.objs hg⟩, ?_,
    fun h => ⟨_, next_pos h, gwDrop_facts 2 s w.objs hg⟩, fun h => ⟨_, next_pos h, gwDrop_facts 3 s w.objs hg⟩⟩
  exact ⟨_, (next_pos hv).trans (next_neg (gateOn_ne_latched hg)), gwDrop_facts 1 { s with gw := { s.gw with en := false, enLow := true } } w.objs hg⟩

/-- Settles O19: `gateOff` and the decisions of a sample. What the gate's going off clears is log entry 17, the thermal model's fixed point log entry 9. -/
theorem gangwayStates : Obligations.GangwayStates := by
  refine ⟨gwTurnsOff, fun r s => ⟨gwEnHigh_disabled s, gwEnHigh_latched s, fun h hw he hc => ?_, fun vin vout vgs vsns hv => next_pos hv,
    thermalStep_terms, fun n x => ⟨gwDecide_off n x, fun h hw => ?_, fun h hw => ?_, fun h ht he => ?_, fun h ht he => ⟨fun hr => ?_, fun hs => ?_, fun hg => ?_⟩⟩,
    fun v hd hv => ⟨_, next_pos ⟨hd, hv⟩, peakStep_gw _, ?_⟩, gwCooldownEnd_taken s, fun h hc => next_pos ⟨h, hc⟩, fun h hc hn => ?_,
    fun h => next_eq (readVal_ok h)⟩⟩
  · refine (next_pos ⟨h, hw⟩).trans (next_eq ?_)
    rw [gwDecide_qualify 0 _ (show (setGw (fun g => { g with delayDone := true }) s).gw.st = .qualify from h)]
    have hw' : (setGw (fun g => { g with delayDone := true }) s).startWindow s.gw.vin = true := hw
    exact (if_neg (by rw [show (setGw (fun g => { g with delayDone := true }) s).gw.vin = s.gw.vin from rfl, hw']; decide)).trans (if_pos ⟨he, rfl, hc⟩)
  · rw [gwDecide_qualify n x h, if_pos (by rw [hw]; rfl)]
  · rw [gwDecide_qualify n x h, if_neg (by rw [hw]; decide)]
  · rw [gwDecide_on n x h ht, if_pos he]
  · rw [gwDecide_on n x h ht, if_neg (Int.not_le.2 he), if_pos hr]
    rfl
  · exact gwDecide_settle n x hs ht he
  · rw [gwDecide_on n x h ht, if_neg (Int.not_le.2 he), hg]
    rfl
  · exact (congrArg (fun t : State => { t with gw := s.gw, objs := s.objs }) (peakStep_frame _) :)
  · refine (next_pos ⟨h, hc⟩).trans (next_eq (tryBerthing_same _ ?_))
    rcases hn with hn | hn
    · exact .inl hn
    · exact .inr (.inr (.inl hn))

end Sys2Proof.Laws


/-! Instructions of a crane that end in one step: SET, MOV, JMP, LOOP, and those that wait. -/

namespace Sys2Proof.Laws

open Sys2Proof.Machine

theorem hasOpc_self {n w : Nat} (h : opc w = n) : hasOpc n w = true := beq_iff_eq.2 h

/-- An instruction without a shift that changes its crane by f, and ends. -/
theorem finishAt_modCrane {g w : Nat} {s : State} (hk : keysFrom 0 s.cranes) (h1 : opc w ≠ 1) (h2 : opc w ≠ 2) (target : Option Nat) (f : Crane → Crane)
    (hpc : (f (s.crane g)).pc = (s.crane g).pc) :
    Stepped g { f (s.crane g) with st := .running, pc := s.nextPc g target, phase := if s.delayOf g w = 0 then .ready else .delay (s.delayOf g w) } s
      (finishAt g w target (modCrane g f (applySides g w s))) :=
  (finishAt_within (modCrane_within (applySides_other hk h1 h2) f) hpc).toStepped

/-- An instruction without a shift that sets levels or directions alone, and ends. -/
theorem finishAt_pins {g w : Nat} {s u : State} (hk : keysFrom 0 s.cranes) (h1 : opc w ≠ 1) (h2 : opc w ≠ 2) (target : Option Nat)
    (hp : PinsOnly (applySides g w s) u) : Stepped g (s.ended g w target) s (finishAt g w target u) :=
  (finishAt_within ((applySides_other hk h1 h2).pins hp) rfl).toStepped

theorem setTarget_directions (g w : Nat) (u : State) (h : fld (operand w) 13 3 = 1) : PinsOnly u (setTarget g w u) := by
  simp only [setTarget, h]
  refine PinsOnly.trans (pinsOnly_fold _ (fun s i => ?_) (List.range (u.outWidth g)) u) (pinsOnly_fold _ (fun s i => ?_) _ _)
  · exact ⟨rfl, rfl⟩
  · split
    · exact .refl s
    · exact ⟨rfl, rfl⟩

theorem setTarget_outs (g w : Nat) (u : State) (h : fld (operand w) 13 3 = 0) : setTarget g w u = setOuts g (fld (operand w) 0 13) u := by
  simp only [setTarget, h]

theorem setTarget_sides (g w : Nat) (u : State) (h : fld (operand w) 13 3 = 2) : setTarget g w u = setSides g (fld (operand w) 0 13) 4 u := by
  simp only [setTarget, h]

/-- Targets 0 to 2 of SET are pins. -/
theorem setTarget_pins (g w : Nat) (u : State) (h : fld (operand w) 13 3 < 3) : PinsOnly u (setTarget g w u) := by
  have h012 : fld (operand w) 13 3 = 0 ∨ fld (operand w) 13 3 = 1 ∨ fld (operand w) 13 3 = 2 := by omega
  rcases h012 with h | h | h
  · rw [setTarget_outs g w u h]
    exact setOuts_pins g _ u
  · exact setTarget_directions g w u h
  · rw [setTarget_sides g w u h]
    exact setSides_pins g _ 4 u

/-- CRANE_SET by its target (R271). -/
theorem craneSet_facts (s : State) (g : Fin 64) (w : Nat) (hk : keysFrom 0 s.cranes) (hf : Fetches g.val w s) (h : opc w = 5) :
    let c := s.ended g.val w none
    let imm := fld (operand w) 0 13
    let u := applySides g.val w s
    exec (.craneSet g) s = .next (finish g.val w (setTarget g.val w u)) ∧
      let t := finish g.val w (setTarget g.val w u)
      (fld (operand w) 13 3 < 3 → Stepped g.val c s t) ∧
      (fld (operand w) 13 3 = 0 → t.pins = (setOuts g.val imm u).pins) ∧
      (fld (operand w) 13 3 = 2 → t.pins = (setSides g.val imm 4 u).pins) ∧
      (fld (operand w) 13 3 = 3 → Stepped g.val { c with x := BitVec.ofNat 32 imm } s t) ∧
      (fld (operand w) 13 3 = 4 → Stepped g.val { c with y := BitVec.ofNat 32 imm } s t) ∧
      (fld (operand w) 13 3 = 5 → Stepped g.val { c with lc := BitVec.ofNat 16 imm } s t) ∧
      (fld (operand w) 13 3 = 6 → Stepped g.val { c with x := (c.x <<< 13) ||| BitVec.ofNat 32 imm } s t) ∧
      (fld (operand w) 13 3 = 7 → Stepped g.val { c with y := (c.y <<< 13) ||| BitVec.ofNat 32 imm } s t) := by
  intro c imm u
  have h1 : opc w ≠ 1 := by omega
  have h2 : opc w ≠ 2 := by omega
  have reg (f : Crane → Crane) (hpc : (f (s.crane g.val)).pc = (s.crane g.val).pc) (e : setTarget g.val w u = modCrane g.val f u) :
      Stepped g.val { f (s.crane g.val) with st := .running, pc := s.nextPc g.val none, phase := if s.delayOf g.val w = 0 then .ready else .delay (s.delayOf g.val w) }
        s (finish g.val w (setTarget g.val w u)) := by
    rw [e]
    exact finishAt_modCrane hk h1 h2 none f hpc
  refine ⟨next_eq (withInstr_fetch hf _ (hasOpc_self h) _), fun ht => finishAt_pins hk h1 h2 none (setTarget_pins _ _ _ ht), fun ht => ?_, fun ht => ?_,
    fun ht => reg (fun c => { c with x := BitVec.ofNat 32 imm }) rfl (by simp only [setTarget, ht, imm]),
    fun ht => reg (fun c => { c with y := BitVec.ofNat 32 imm }) rfl (by simp only [setTarget, ht, imm]),
    fun ht => reg (fun c => { c with lc := BitVec.ofNat 16 imm }) rfl (by simp only [setTarget, ht, imm]),
    fun ht => reg (fun c => { c with x := (c.x <<< 13) ||| BitVec.ofNat 32 imm }) rfl (by simp only [setTarget, ht, imm]),
    fun ht => reg (fun c => { c with y := (c.y <<< 13) ||| BitVec.ofNat 32 imm }) rfl (by simp only [setTarget, ht, imm])⟩
  · rw [setTarget_outs _ _ _ ht]
    rfl
  · rw [setTarget_sides _ _ _ ht]
    rfl

/-- CRANE_MOV by its destination (R272). -/
theorem craneMov_facts (s : State) (g : Fin 64) (w : Nat) (hk : keysFrom 0 s.cranes) (hf : Fetches g.val w s) (toff : BitVec 32) (h : opc w = 6) :
    let c := s.ended g.val w none
    let dst := fld (operand w) 12 4
    let u := applySides g.val w s
    let v := u.movValue g.val w toff.toNat
    let t := finish g.val w (movWrite g.val dst v u)
    (¬ ((dst = 9 ∨ dst = 10) ∧ 64 < v.toNat) → exec (.craneMov g toff) s = .next t) ∧
    ((dst = 9 ∨ dst = 10) → 64 < v.toNat → exec (.craneMov g toff) s = .next (craneFault g.val 2 s)) ∧
    (dst = 0 → Stepped g.val { c with x := v } s t) ∧ (dst = 1 → Stepped g.val { c with y := v } s t) ∧
    (dst = 2 → Stepped g.val { c with lc := v.setWidth 16 } s t) ∧
    (dst = 5 → Stepped g.val { c with sor := v.setWidth 64, op := 0 } s t) ∧
    (dst = 6 → Stepped g.val { c with sor := w64 (c.sor.toNat % 2 ^ 32 + v.toNat * 2 ^ 32) } s t) ∧
    (dst = 9 → Stepped g.val { c with sc := v.toNat, sir := w64 (c.sir.toNat % 2 ^ v.toNat) } s t) ∧
    (dst = 10 → Stepped g.val { c with op := v.toNat } s t) := by
  intro c dst u v t
  have h1 : opc w ≠ 1 := by omega
  have h2 : opc w ≠ 2 := by omega
  have moved : exec (.craneMov g toff) s = .next (if (dst = 9 ∨ dst = 10) ∧ 64 < v.toNat then craneFault g.val 2 s else t) :=
    next_eq (withInstr_fetch hf _ (hasOpc_self h) _)
  have reg (f : Crane → Crane) (hpc : (f (s.crane g.val)).pc = (s.crane g.val).pc) (e : movWrite g.val dst v u = modCrane g.val f u) :
      Stepped g.val { f (s.crane g.val) with st := .running, pc := s.nextPc g.val none, phase := if s.delayOf g.val w = 0 then .ready else .delay (s.delayOf g.val w) } s t := by
    unfold t
    rw [e]
    exact finishAt_modCrane hk h1 h2 none f hpc
  exact ⟨fun hn => moved.trans (next_neg hn), fun hd hv => moved.trans (next_pos ⟨hd, hv⟩),
    fun hd => reg (fun c => { c with x := v }) rfl (by simp only [movWrite, hd]),
    fun hd => reg (fun c => { c with y := v }) rfl (by simp only [movWrite, hd]),
    fun hd => reg (fun c => { c with lc := v.setWidth 16 }) rfl (by simp only [movWrite, hd]),
    fun hd => reg (fun c => { c with sor := v.setWidth 64, op := 0 }) rfl (by simp only [movWrite, hd]),
    fun hd => reg (fun c => { c with sor := w64 (c.sor.toNat % 2 ^ 32 + v.toNat * 2 ^ 32) }) rfl (by simp only [movWrite, hd]),
    fun hd => reg (fun c => { c with sc := v.toNat, sir := w64 (c.sir.toNat % 2 ^ v.toNat) }) rfl (by simp only [movWrite, hd]),
    fun hd => reg (fun c => { c with op := v.toNat }) rfl (by simp only [movWrite, hd])⟩

/-- CRANE_LOOP: LC decremented, and the jump unless it was 1 (R273). -/
theorem craneLoop_facts (s : State) (g : Fin 64) (w : Nat) (hk : keysFrom 0 s.cranes) (hf : Fetches g.val w s) (h : opc w = 8) :
    ∃ t, exec (.craneLoop g) s = .next t ∧
      Stepped g.val { s.ended g.val w (if (s.crane g.val).lc = 1 then none else some (fld (operand w) 0 10)) with lc := (s.crane g.val).lc - 1 } s t := by
  have h1 : opc w ≠ 1 := by omega
  have h2 : opc w ≠ 2 := by omega
  have hdec := modCrane_within (applySides_other (g := g.val) hk h1 h2) (fun c => { c with lc := c.lc - 1 })
  have hlc : ((decLc g.val (applySides g.val w s)).crane g.val).lc = (s.crane g.val).lc - 1 := congrArg Crane.lc hdec.crane
  have hzero : (s.crane g.val).lc - 1 = 0 ↔ (s.crane g.val).lc = 1 := by bv_omega
  refine ⟨_, next_eq (withInstr_fetch hf _ (hasOpc_self h) _), ?_⟩
  dsimp only
  rw [hlc]
  simp only [hzero]
  exact (finishAt_within hdec rfl).toStepped

/-- Settles O20: the effect on the crane's registers or pins, then the end of the instruction. -/
theorem craneRegisters : Obligations.CraneRegisters := by
  intro q s g w wf hf c imm dst u
  have hk := crane_keys wf
  refine ⟨craneSet_facts s g w hk hf, craneMov_facts s g w hk hf, fun h => ⟨_, next_eq (withInstr_fetch hf _ (hasOpc_self h) _), ?_⟩, craneLoop_facts s g w hk hf⟩
  exact finishAt_pins hk (by omega) (by omega) _ (.refl _)

/-- The user flags after a WAIT: the one it waited for is cleared (R259). -/
def flagsSeen (w : Nat) (c : Crane) : Crane :=
  { c with
    usrRd := if fld (operand w) 13 3 = 2 ∧ fld (operand w) 6 5 = 16 then false else c.usrRd
    usrWr := if fld (operand w) 13 3 = 2 ∧ fld (operand w) 6 5 = 17 then false else c.usrWr }

theorem wakeWait_eq (g w : Nat) (s : State) : wakeWait g w s =
    if bit (operand w) 11 then restartDivider g (finish g w (modCrane g (flagsSeen w) s)) else finish g w (modCrane g (flagsSeen w) s) := by
  have hflags : (fun c : Crane => if fld (operand w) 13 3 = 2 ∧ fld (operand w) 6 5 = 16 then { c with usrRd := false }
      else if fld (operand w) 13 3 = 2 ∧ fld (operand w) 6 5 = 17 then { c with usrWr := false } else c) = flagsSeen w := by
    funext c
    unfold flagsSeen
    by_cases h1 : fld (operand w) 13 3 = 2 ∧ fld (operand w) 6 5 = 16
    · simp [h1]
    · by_cases h2 : fld (operand w) 13 3 = 2 ∧ fld (operand w) 6 5 = 17 <;> simp [h1, h2]
  rw [← hflags]
  rfl

theorem wakeWait_within (s : State) (g w : Nat) (hk : keysFrom 0 s.cranes) :
    let c := s.crane g
    let src := fld (operand w) 13 3
    let ix := fld (operand w) 6 5
    Stepped g { s.ended g w none with
      usrRd := if src = 2 ∧ ix = 16 then false else c.usrRd
      usrWr := if src = 2 ∧ ix = 17 then false else c.usrWr
      divRestarts := c.divRestarts + (if bit (operand w) 11 then 1 else 0)
      leads := c.leads } s (wakeWait g w s) := by
  intro c src ix
  have hend := finishAt_within (w := w) (target := none) (modCrane_within (Within.start (g := g) hk) (flagsSeen w)) rfl
  rw [wakeWait_eq]
  cases hb : bit (operand w) 11 with
  | false => exact hend.toStepped
  | true =>
    have hphase : (if s.delayOf g w = 0 then Phase.ready else .delay (s.delayOf g w)) ≠ .shifting := by
      split <;> exact Phase.noConfusion
    have hr := (modCrane_within hend (fun c => { c with divRestarts := c.divRestarts + 1, leads := if c.phase = .shifting then c.shiftDone else c.leads })).toStepped
    simp only [if_neg hphase] at hr
    exact hr

/-- Two members on one quay, or a boundary since each arrived: the barrier opens. -/
theorem syncOpen_of (s : State) (l : List Nat)
    (h : (∀ k ∈ l, ∀ j ∈ l, k / 16 = j / 16) ∨ (∀ k ∈ l, (s.crane k).syncBeat < s.tide.beat)) : s.syncOpen l := by
  unfold State.syncOpen
  simp only [Bool.or_eq_true, List.all_eq_true, beq_iff_eq, decide_eq_true_eq]
  refine h.imp (fun h k hk => ?_) id
  cases l with
  | nil => exact absurd hk List.not_mem_nil
  | cons a l => exact h k hk a List.mem_cons_self

theorem syncOpen_not (s : State) (l : List Nat) (hq : ∃ k ∈ l, ∃ j ∈ l, k / 16 ≠ j / 16) (hb : ∃ k ∈ l, s.tide.beat ≤ (s.crane k).syncBeat) :
    s.syncOpen l = false := by
  obtain ⟨k, hk, j, hj, hkj⟩ := hq
  obtain ⟨i, hi, hbeat⟩ := hb
  unfold State.syncOpen
  rw [Bool.or_eq_false_iff, List.all_eq_false, List.all_eq_false]
  refine ⟨?_, i, hi, by simpa using hbeat⟩
  by_cases h : k / 16 = l.headD 0 / 16
  · exact ⟨j, hj, fun e => hkj (h.trans (beq_iff_eq.1 e).symm)⟩
  · exact ⟨k, hk, fun e => h (beq_iff_eq.1 e)⟩

theorem gangMembers_nodup (s : State) (n : Nat) : (s.gangMembers n).Nodup := List.Pairwise.filter _ List.nodup_range

theorem syncRelease_open (s : State) (n : Nat) (hn : n ≠ 0) (hm : s.gangMembers n ≠ []) (hs : ∀ k ∈ s.gangMembers n, s.inSync k)
    (ho : s.syncOpen (s.gangMembers n)) : syncRelease n s = (s.gangMembers n).foldl (fun s g => finish g (s.insWord g) s) s := by
  refine if_neg ?_
  have hall : (s.gangMembers n).all s.inSync = true := List.all_eq_true.2 hs
  simp [hn, hm, hall, ho]

/-- A SYNC: no gang, no wait. -/
theorem craneSync_alone (s : State) (g : Fin 64) (w : Nat) (hk : keysFrom 0 s.cranes) (hf : Fetches g.val w s) (h : opc w = 11) (hg : s.gangOf g.val = 0) :
    ∃ t, exec (.craneSync g) s = .next t ∧ Stepped g.val (s.ended g.val w none) s t := by
  have hw := applySides_other (g := g.val) (w := w) hk (by omega) (by omega)
  have hg' : (applySides g.val w s).gangOf g.val = 0 := by
    unfold State.gangOf
    rw [hw.get]
    exact hg
  refine ⟨_, next_eq ((withInstr_fetch hf _ (hasOpc_self h) _).trans (if_pos hg')), finishAt_pins hk (by omega) (by omega) none (.refl _)⟩

theorem craneSync_gang (s : State) (g : Fin 64) (w : Nat) (hk : keysFrom 0 s.cranes) (hf : Fetches g.val w s) (h : opc w = 11) (hg : s.gangOf g.val ≠ 0) :
    ∃ t, exec (.craneSync g) s = .next t ∧ Stepped g.val { s.crane g.val with st := .stalled, phase := .sync, syncBeat := s.tide.beat } s t := by
  have hw := applySides_other (g := g.val) (w := w) hk (by omega) (by omega)
  have hg' : (applySides g.val w s).gangOf g.val ≠ 0 := by
    unfold State.gangOf
    rw [hw.get]
    exact hg
  have hbeat : (applySides g.val w s).tide = s.tide := (congrArg State.tide hw.frame :)
  refine ⟨_, next_eq ((withInstr_fetch hf _ (hasOpc_self h) _).trans (if_neg hg')), ?_⟩
  rw [hbeat]
  exact (modCrane_within (stall_within hw .sync) (fun c => { c with syncBeat := s.tide.beat })).toStepped

/-- Settles O21: a wait is a phase of the crane, its wake the end of the instruction. -/
theorem craneWaits : Obligations.CraneWaits := by
  intro q s g w wf c
  have hk := crane_keys wf
  refine ⟨fun hf h => ⟨_, next_eq (withInstr_fetch hf _ (hasOpc_self h) _), (stall_within (applySides_other hk (by omega) (by omega)) _).toStepped⟩,
    fun edge toff ha hp hi hs => ⟨_, next_eq ((inPhase_at ha hp).trans ?_), wakeWait_within s g.val w hk⟩, fun edge toff ha hp hi hs => next_eq ((inPhase_at ha hp).trans ?_),
    craneSync_alone s g w hk, craneSync_gang s g w hk, fun n hn hm hs => ⟨fun ho => ?_, fun hq hb => ?_⟩, fun d ha hp => ?_⟩
  · rw [hi]
    exact if_pos hs
  · rw [hi]
    exact if_neg (by simp [hs])
  · refine ⟨_, next_eq (syncRelease_open s n.val hn hm hs (syncOpen_of s _ ho)), syncFold _ s hk (gangMembers_nodup s n.val)⟩
  · refine next_eq (if_pos ?_)
    simp [syncOpen_not s _ hq hb]
  · refine (exec_instructionDelayEnd g s).trans (next_eq ?_)
    dsimp only
    rw [show (s.crane g.val).phase = .delay d from hp]
    exact if_pos ha

end Sys2Proof.Laws

/-! SHIN and SHOUT: a shift begun, its strobes, its end. -/

namespace Sys2Proof.Laws

open Sys2Proof.Machine

/-- The registers of a crane once its shift has ended (R261, R262). -/
def shiftedOff (h : Shift) (c : Crane) : Crane :=
  let c := if h.out then { c with op := c.op + h.count } else c
  let c := if !h.out ∨ h.duplex then { c with sir := c.sir ||| w64 (c.shiftPart.toNat * 2 ^ c.sc), sc := c.sc + h.count } else c
  { c with shiftDone := 0, shiftPart := 0, leads := 0 }

theorem shiftedOff_keep (h : Shift) (c : Crane) : (shiftedOff h c).pc = c.pc ∧ (shiftedOff h c).lateHalt = c.lateHalt := by
  unfold shiftedOff
  split <;> split <;> exact ⟨rfl, rfl⟩

theorem setClock_pins (g clk : Nat) (b : Bool) (s : State) : PinsOnly s (setClock g clk b s) := by
  unfold setClock
  split
  · exact .refl _
  · exact ⟨rfl, rfl⟩

/-- The end of an unframed shift with no late halt (R261, R262). -/
theorem endShift_stepped (g w : Nat) (h : Shift) (s : State) (hk : keysFrom 0 s.cranes) (hf : h.frame = false) (hl : (s.crane g).lateHalt = false) :
    Stepped g { shiftedOff h (s.crane g) with st := .running, pc := s.nextPc g none, phase := if s.delayOf g w = 0 then .ready else .delay (s.delayOf g w) } s
      (endShift g w h s) := by
  let x := modCrane g (shiftedOff h) (setClock g h.clk (clkIdle h.clk) s)
  have hw : Within g (shiftedOff h (s.crane g)) s x := modCrane_within ((Within.start hk).pins (setClock_pins g h.clk (clkIdle h.clk) s)) (shiftedOff h)
  have hlate : (x.crane g).lateHalt = false := by
    rw [hw.crane, (shiftedOff_keep h _).2, hl]
  have hplain : (if h.frame ∧ !h.out then frameCheck g x else x) = x := if_neg (by simp [hf])
  have he : endShift g w h s = finish g w x := by
    show (let v := if h.frame ∧ !h.out then frameCheck g x else x; if (v.crane g).lateHalt then haltLate g (finish g w v) else finish g w v) = _
    rw [hplain]
    exact if_neg (by rw [hlate]; exact Bool.false_ne_true)
  rw [he]
  exact (finishAt_within hw (shiftedOff_keep h _).1).toStepped

theorem beginShift_stepped (s : State) (g w : Nat) (hk : keysFrom 0 s.cranes) (h : opc w = 1 ∨ opc w = 2) :
    Stepped g { s.crane g with
      clkPin := if fld (operand w) 11 2 ≠ 0 then some (s.clkSide g) else (s.crane g).clkPin
      phase := .shifting, shiftDone := 0, shiftPart := 0, leads := 0, frStart := false, frStop := false } s (beginShift g (applySides g w s)) :=
  (modCrane_within (sides_shift hk h) (fun c => { c with phase := .shifting, shiftDone := 0, shiftPart := 0, leads := 0, frStart := false, frStop := false })).toStepped

/-- Settles O22: the registers at the end of a shift are those of `shiftedOff`. -/
theorem craneShifts : Obligations.CraneShifts := by
  intro q s g w wf h begun
  have hk := crane_keys wf
  refine ⟨fun hf ho => ⟨_, next_eq (withInstr_fetch hf _ (hasOpc_self ho) _), beginShift_stepped s g.val w hk (.inl ho)⟩,
    fun hf ho => ⟨_, next_eq (withInstr_fetch hf _ (hasOpc_self ho) _), beginShift_stepped s g.val w hk (.inr ho)⟩,
    fun n lead samples ha hp hi => next_eq ((inPhase_at ha hp).trans (congrArg (shiftStrobes g.val · n.toNat lead (samples.map BitVec.toNat) s) hi)),
    fun levels ho hf => (trailStrobe_plain (Within.start hk) ho hf).toStepped, fun hf hl => ?_⟩
  have he := endShift_stepped g.val w h s hk hf hl
  refine ⟨fun ho => ?_, fun ho hd => ?_, fun ho hd => ?_⟩
  · simp only [shiftedOff, ho] at he
    exact he
  · simp only [shiftedOff, ho, hd] at he
    exact he
  · simp only [shiftedOff, ho, hd] at he
    exact he

end Sys2Proof.Laws

/-! SIG and CHK; the checks of a fetch. -/

namespace Sys2Proof.Laws

open Sys2Proof.Machine

theorem opc_of_sigFn {n w : Nat} (h : sigFn n w) : opc w ≠ 1 ∧ opc w ≠ 2 := by
  unfold sigFn at h
  simp only [Bool.and_eq_true, beq_iff_eq] at h
  omega

/-- The end of an instruction reads three objects of its crane and the crane alone. -/
theorem finishAt_crane {g w : Nat} {target : Option Nat} {s v : State} (hk : keysFrom 0 v.cranes) (hc : v.crane g = s.crane g)
    (h1 : v.get (Obj.tallyLen g) = s.get (Obj.tallyLen g)) (h2 : v.get (Obj.wrap g) = s.get (Obj.wrap g))
    (h3 : v.get (Obj.craneCtrl g) = s.get (Obj.craneCtrl g)) : (finishAt g w target v).crane g = s.ended g w target := by
  have he : v.ended g w target = s.ended g w target := by
    unfold State.ended State.nextPc State.delayOf State.sideBits
    rw [hc, h1, h2, h3]
  exact (finishAt_within (Within.start hk) rfl).crane.trans he

/-- A notice is counted and marked, and ends the SIG (R274). -/
theorem sigNote_facts (s : State) (g : Fin 64) (w : Nat) (hk : keysFrom 0 s.cranes) (ho : keysFrom 0 s.objs) (hf : Fetches g.val w s) (h : sigFn 3 w) :
    ∃ t, exec (.sigNote g) s = .next t ∧ t.get (Obj.noticeCnt g.val) = (s.get (Obj.noticeCnt g.val) + 1) % 2 ^ 32 ∧
      t.quay.notices = setBit s.quay.notices g.val true ∧ t.crane g.val = s.ended g.val w none := by
  obtain ⟨h1, h2⟩ := opc_of_sigFn h
  have hw := applySides_other (g := g.val) hk h1 h2
  have hobjs : (applySides g.val w s).objs = s.objs := (congrArg State.objs hw.frame :)
  have hquay : (applySides g.val w s).quay = s.quay := (congrArg State.quay hw.frame :)
  have hou : keysFrom 0 (applySides g.val w s).objs := by
    rw [hobjs]
    exact ho
  have other (o : Obj) (hne : o.key ≠ (Obj.noticeCnt g.val).key) : (craneNotice g.val (applySides g.val w s)).get o = s.get o :=
    (bump_ne _ _ _ hou hne).trans (hw.get o)
  refine ⟨_, next_eq (withInstr_fetch hf _ h _), ?_, ?_, ?_⟩
  · exact (get_put_self _ _ _ hou).trans (congrArg (fun n => (n + 1) % 2 ^ 32) (hw.get _))
  · exact congrArg (fun q : QuayState => setBit q.notices g.val true) hquay
  · exact finishAt_crane hw.keys hw.crane (other _ (note_ne1 g)) (other _ (note_ne2 g)) (other _ (note_ne3 g))

/-- A CHK that waits: its crane stalls, and the wait is counted (R277, R340). -/
theorem chkWait_facts (s : State) (g : Fin 64) (w : Nat) (f : ChkFeed) (hk : keysFrom 0 s.cranes) (ho : keysFrom 0 s.objs) (h : opc w = 12) :
    let u := applySides g.val w s
    let t := chkWaitFor (u.chkUnit g.val) f (stall g.val .chkWait u)
    t.crane g.val = { s.crane g.val with st := .stalled, phase := .chkWait } ∧
      t.get (Obj.chkWaitCnt (s.chkUnit g.val)) = (s.get (Obj.chkWaitCnt (s.chkUnit g.val)) + 1) % 2 ^ 32 := by
  intro u t
  have hw : Within g.val (s.crane g.val) s u := applySides_other hk (by omega) (by omega)
  have hobjs : u.objs = s.objs := (congrArg State.objs hw.frame :)
  have hou : keysFrom 0 u.objs := by
    rw [hobjs]
    exact ho
  have hunit : s.chkUnit g.val = u.chkUnit g.val := by
    unfold State.chkUnit
    rw [hw.get]
  refine ⟨(stall_within hw .chkWait).crane, ?_⟩
  rw [hunit]
  exact (get_put_self _ _ _ hou).trans (congrArg (fun n => (n + 1) % 2 ^ 32) (hw.get _))

/-- CRANE_CHK on a free unit, and on one that is busy or waited for (R277, R340). -/
theorem craneChk_taken (s : State) (g : Fin 64) (w : Nat) (busy : Bool) (hf : Fetches g.val w s) (h : opc w = 12) :
    exec (.craneChk g busy) s = .next (beginChk g.val w busy (applySides g.val w s)) :=
  next_eq (withInstr_fetch hf (hasOpc 0xC) (hasOpc_self h) (fun w s => beginChk g.val w busy s))

theorem beginChk_free {g w : Nat} {s : State} (h : s.chkQueue (s.chkUnit g) = []) : beginChk g w false s = chkFeeds g w s :=
  if_neg (by simp [h])

theorem beginChk_waits {g w : Nat} {busy : Bool} {s : State} (h : busy = true ∨ s.chkQueue (s.chkUnit g) ≠ []) :
    beginChk g w busy s = chkWaitFor (s.chkUnit g) (s.chkData g w) (stall g .chkWait s) :=
  if_pos (by simpa using h)

theorem chkServe_crane {u g : Nat} {s : State} {f : ChkFeed} {l : List ChkFeed} (h : s.chkQueue u = f :: l) (hc : f.crane = some g) :
    chkServe u s = chkFeeds g (s.insWord g) (s.setUnit u { s.unit u with waiting := l }) := by
  unfold chkServe
  rw [h]
  simp only [hc]
  rfl

theorem chkServe_feed {u : Nat} {s : State} {f : ChkFeed} {l : List ChkFeed} (h : s.chkQueue u = f :: l) (hc : f.crane = none) :
    chkServe u s = chkFeed u f (s.setUnit u { s.unit u with waiting := l }) := by
  unfold chkServe
  rw [h]
  simp only [hc]

/-- Settles O24: each SIG acts on its quay, and CHK on its unit or on the queue before it. -/
theorem craneSignals : Obligations.CraneSignals := by
  intro q s g w wf u flags data
  have hk := crane_keys wf
  refine ⟨fun hf => ⟨fun h => next_eq (withInstr_fetch hf _ h _), fun h => ⟨next_eq (withInstr_fetch hf _ h _), next_eq (withInstr_fetch hf _ h _)⟩,
    fun h => next_eq (withInstr_fetch hf _ h _), sigNote_facts s g w hk wf.objs hf, fun h => ⟨fun he => ?_, fun busy hb => ?_, chkWait_facts s g w _ hk wf.objs h⟩⟩, ?_⟩
  · exact (craneChk_taken s g w false hf h).trans (next_eq (beginChk_free he))
  · exact (craneChk_taken s g w busy hf h).trans (next_eq (beginChk_waits hb))
  · intro f l hq hc hi x
    refine next_eq ?_
    dsimp only
    rw [hq]
    exact (if_pos hc).trans ((chkServe_crane hq hc).trans (congrArg (chkFeeds g.val · x) hi))

/-- A word that the crane cannot run, named by the command or with a reserved opcode (R291). -/
theorem withInstr_opcode {g n cause : Nat} {f : Nat → State → State} {s : State} (h : s.atInstr g) (hp : (s.crane g).pc < s.get (Obj.tallyLen g))
    (hi : popCount 24 (s.tallyInv (s.get (Obj.tallyBase g) + (s.crane g).pc)) = 0)
    (hc : s.insCause g (s.tallyWord (s.get (Obj.tallyBase g) + (s.crane g).pc)) = some cause)
    (ho : opc (s.tallyWord (s.get (Obj.tallyBase g) + (s.crane g).pc)) = n ∨ cause = 1) :
    withInstr g (hasOpc n) f s = craneFault g cause s :=
  withInstr_illegal h hp hi hc (ho.imp_left hasOpc_self)

/-- The crane of a fault that is not cause 9, and what the fault leaves (R291). -/
theorem craneFault_facts (q : List Instr) (s : State) (wf : s.Wf q) (g : Fin 64) (cause : Nat) (hc : cause ≠ 9) :
    (craneFault g.val cause s).crane g.val = { s.crane g.val with st := .faulted, phase := .ready, lateHalt := false } ∧
      (craneFault g.val cause s).get (Obj.faultCause g.val) = cause % 256 ∧ (craneFault g.val cause s).pins = s.pins ∧
      (craneFault g.val cause s).fifos = s.fifos ∧ (craneFault g.val cause s).tally = s.tally ∧
      ∀ k, k ≠ g.val → (craneFault g.val cause s).crane k = s.crane k := by
  have hk := crane_keys wf
  have hobj : keysFrom 0 s.objs := wf.objs
  have hw := modCrane_within (Within.start (g := g.val) hk) (fun c => { c with st := .faulted, phase := .ready, lateHalt := false })
  have hko : keysFrom 0 (modCrane g.val (fun c => { c with st := .faulted, phase := .ready, lateHalt := false }) s).objs := hobj
  have hs := (craneFault_shape g.val cause s hc).resolve_right (absurd hk)
  have hy : { modCrane g.val (fun c => { c with st := .faulted, phase := .ready, lateHalt := false }) s with cranes := s.cranes } = s := rfl
  generalize modCrane g.val (fun c => { c with st := .faulted, phase := .ready, lateHalt := false }) s = y at hw hko hs hy
  have hput := key_put y (Obj.faultCause g.val) cause hko
  have hr := (raise_records 0x20 g.val ((s.crane g.val).pc % 1024 * 2 ^ 16 + cause) ((y.put (Obj.faultCause g.val) cause).put (Obj.haltInfo g.val) 0) (by decide)).frame
  rw [← hs] at hr
  have hcr : (craneFault g.val cause s).cranes = y.cranes := (congrArg State.cranes hr :)
  have crane (k : Nat) : (craneFault g.val cause s).crane k = y.crane k := by
    unfold State.crane
    rw [hcr]
  refine ⟨(crane _).trans hw.crane, ?_, (congrArg State.pins hr :).trans (congrArg State.pins hy :), (congrArg State.fifos hr :).trans (congrArg State.fifos hy :),
    (congrArg State.tally hr :).trans (congrArg State.tally hy :), fun k hne => (crane k).trans (hw.others k hne)⟩
  rw [hs, raise20_get _ _ _ (key_put _ _ _ hput) _ (cause_src g) (cause_cnt g).1 (cause_cnt g).2, get_put_ne _ _ _ _ hput (cause_ne g)]
  exact get_put_self _ _ _ hko

/-- What `TALLY_FETCH_ERROR` does by the number of inverted bits (R312; three or more act as an uncorrected error by log entry 16). -/
theorem tallyFetchError_corrected {s : State} {g : Fin 64} {upset : BitVec 24} (h : s.atInstr g.val) (hp : (s.crane g.val).pc < s.get (Obj.tallyLen g.val))
    (hn : popCount 24 ((tallyUpset (s.get (Obj.tallyBase g.val) + (s.crane g.val).pc) upset.toNat s).tallyInv (s.get (Obj.tallyBase g.val) + (s.crane g.val).pc)) = 1) :
    execTallyFetchError g upset s = .next (tallyCorrected (s.get (Obj.tallyBase g.val) + (s.crane g.val).pc) true
      (tallyUpset (s.get (Obj.tallyBase g.val) + (s.crane g.val).pc) upset.toNat s)) := by
  unfold execTallyFetchError
  rw [if_pos ⟨h, hp⟩]
  simp only [hn]

theorem tallyFetchError_uncorrected {s : State} {g : Fin 64} {upset : BitVec 24} (h : s.atInstr g.val) (hp : (s.crane g.val).pc < s.get (Obj.tallyLen g.val))
    (hn : 2 ≤ popCount 24 ((tallyUpset (s.get (Obj.tallyBase g.val) + (s.crane g.val).pc) upset.toNat s).tallyInv (s.get (Obj.tallyBase g.val) + (s.crane g.val).pc))) :
    execTallyFetchError g upset s = .next (craneFault g.val 9 (tallyUncorrected (s.get (Obj.tallyBase g.val) + (s.crane g.val).pc) true
      (tallyUpset (s.get (Obj.tallyBase g.val) + (s.crane g.val).pc) upset.toNat s))) := by
  obtain ⟨n, hn⟩ := Nat.exists_eq_add_of_le' hn
  unfold execTallyFetchError
  rw [if_pos ⟨h, hp⟩]
  simp only [hn]

/-- Settles O25: the checks of a fetch, and what the fault of a crane leaves (three or more inverted bits as an uncorrected error: log entry 16). -/
theorem craneFetchFaults : Obligations.CraneFetchFaults := by
  intro q s g wf a w
  refine ⟨fun cause toff n c h hp hi hc hm ho => ?_, fun h hp => next_eq (withInstr_past h hp), fun upset h hp => ⟨fun hn => (exec_tallyFetchError g upset s).trans (tallyFetchError_corrected h hp hn),
      fun hn => (exec_tallyFetchError g upset s).trans (tallyFetchError_uncorrected h hp hn)⟩,
    craneFault_facts q s wf g⟩
  simp only [List.mem_cons, Prod.mk.injEq, List.not_mem_nil, or_false] at hm
  rcases hm with ⟨rfl, rfl⟩ | ⟨rfl, rfl⟩ | ⟨rfl, rfl⟩ | ⟨rfl, rfl⟩ | ⟨rfl, rfl⟩ | ⟨rfl, rfl⟩ | ⟨rfl, rfl⟩ | ⟨rfl, rfl⟩ | ⟨rfl, rfl⟩ | ⟨rfl, rfl⟩ | ⟨rfl, rfl⟩ <;>
    exact next_eq (withInstr_opcode h hp hi hc ho)

end Sys2Proof.Laws

/-! Commands of cranes, gangs and quays; check units. -/

namespace Sys2Proof.Laws

open Sys2Proof.Machine

theorem haltOne_plain (g : Nat) (s : State) (h : (s.crane g).phase ≠ .shifting) : haltOne g s = haltCrane g s := if_neg fun x => h x.2.1

theorem haltCrane_active (q : List Instr) (g : Nat) (s : State) (wf : s.Wf q) (h : (s.crane g).active) :
    (haltCrane g s).crane g = { s.crane g with st := .halted, changed := false, lateHalt := false, pendStart := false, pendClk := false } ∧
      (haltCrane g s).get (Obj.haltInfo g) = (s.crane g).phase.haltInfo := by
  have he : haltCrane g s = (s.setCrane g { s.crane g with st := .halted, changed := false, lateHalt := false, pendStart := false, pendClk := false }).put
      (Obj.haltInfo g) (s.crane g).phase.haltInfo := if_pos h
  rw [he]
  refine ⟨crane_setCrane_self s g _ (crane_keys wf), (get_put_self _ _ _ ?_).trans (Nat.mod_eq_of_lt ?_)⟩
  · exact wf.objs
  · show (s.crane g).phase.haltInfo < 2 ^ (8 * (Obj.haltInfo g).ty.size)
    have hsize : (Obj.haltInfo g).ty.size = 1 := rfl
    rw [hsize]
    cases (s.crane g).phase <;> simp [Phase.haltInfo]

/-- START of an idle or stopped crane: a gang start of one (R283). -/
theorem cmdStart_idle (g : Fin 64) (s : State) (ho : s.node.owns) (ha : !s.craneActive g.val) :
    cmdStart g.val s = ((startCrane g.val (s.put Obj.gangRefused 0)).put (Obj.craneCmd g.val) stDone, ecOk) := by
  have hq : oneQuay (2 ^ g.val) = true := by
    unfold oneQuay
    rw [gang_one]
    rfl
  have ha : s.craneActive g.val = false := by simpa using ha
  simp [cmdStart, gangStart, ho, gang_one, ha, hq, ecOk]

theorem cmdStart_active (g : Fin 64) (s : State) (ho : s.node.owns) (ha : s.craneActive g.val) :
    cmdStart g.val s = (s.put Obj.gangRefused (maskOf [g.val]), ecStateBusy) := by
  simp [cmdStart, gangStart, ho, gang_one, ha, ecOk, ecStateBusy]

/-- RESTART of a crane halted outside a shift with nothing changed: it runs on (R288). -/
theorem cmdRestart_on (g : Nat) (s : State) (ho : s.node.owns) (hs : (s.crane g).st = .halted) (hc : !(s.crane g).changed) (hp : (s.crane g).phase ≠ .shifting) :
    cmdRestart g s = ((settleCauseNine (s.setCrane g { s.crane g with
      st := .running, changed := false, lateHalt := false, divRestarts := (s.crane g).divRestarts + 1, phase := .ready })).put (Obj.craneCmd g) stDone, ecOk) := by
  have hc : (s.crane g).changed = false := by simpa using hc
  simp [cmdRestart, ho, hs, hc, hp, modCrane]

theorem cmdRestart_code (g : Nat) (s : State) (ho : s.node.owns) (h : (s.crane g).st = .halted ∨ (s.crane g).st = .faulted) : (cmdRestart g s).2 = ecOk := by
  have hn : ¬ ((s.crane g).st ≠ .halted ∧ (s.crane g).st ≠ .faulted) := fun x => h.elim x.1 x.2
  unfold cmdRestart
  rw [if_neg (by simp [ho])]
  dsimp only
  rw [if_neg hn]

/-- No member of a mask is active (R283). -/
theorem filter_active_nil {s : State} {m : Nat} (h : ∀ g ∈ masked m, !s.craneActive g) : (masked m).filter s.craneActive = [] := by
  rw [List.filter_eq_nil_iff]
  intro g hg
  simpa using h g hg

theorem gangStart_idle (m : Nat) (s : State) (ho : s.node.owns) (h : ∀ g ∈ masked m, !s.craneActive g) :
    writeGangStart m s = ((if oneQuay m then (masked m).foldl (fun s g => startCrane g s) (s.put Obj.gangRefused 0)
      else (masked m).foldl (fun s g => modCrane g (fun c => { c with pendStart := true }) s) (s.put Obj.gangRefused 0)).put Obj.gangStart
        (if oneQuay m then 1 else 2), ecOk) := by
  unfold writeGangStart gangStart
  rw [if_neg (by simp [ho]), filter_active_nil h]
  cases oneQuay m <;> rfl

theorem clockRestart_owner (m : Nat) (s : State) (ho : s.node.owns) :
    writeClockRestart m s = if oneQuay m then ((((masked m).filter s.craneActive).foldl (fun s g => restartDivider g s) (s.put Obj.gangRefused 0)).put Obj.clockRestart 1, ecOk)
      else ((((masked m).filter s.craneActive).foldl (fun s g => modCrane g (fun c => { c with pendClk := true }) s) (s.put Obj.gangRefused 0)).put Obj.clockRestart 2, ecOk) := by
  unfold writeClockRestart
  rw [if_neg (by simp [ho])]
  rfl

/-- The commands of one crane (R282, R287 to R289). -/
theorem oneCraneCommands (r : Req) (s : State) (g : Fin 64) :
    let o := Obj.craneCmd g.val
    let c := s.crane g.val
    (TakenVal r o 1 s → exec (.craneHalt r g) s = .next (accepted r o ((haltOne g.val s).put o (if ((haltOne g.val s).crane g.val).lateHalt then 2 else 1)))) ∧
    (TakenVal r o 3 s → s.node.owns → !s.craneActive g.val → exec (.craneStart r g) s = .next (accepted r o ((startCrane g.val (s.put Obj.gangRefused 0)).put o 1))) ∧
    (TakenVal r o 3 s → s.node.owns → s.craneActive g.val →
      exec (.craneStart r g) s = .next (refusedWith r o 8 (s.put Obj.gangRefused (maskOf [g.val])))) ∧
    (TakenVal r o 2 s → s.node.owns → c.st = .halted → !c.changed → c.phase ≠ .shifting → exec (.craneRestart r g) s = .next (accepted r o
      ((settleCauseNine (s.setCrane g.val { c with st := .running, changed := false, lateHalt := false, divRestarts := c.divRestarts + 1, phase := .ready })).put o 1))) ∧
    (TakenVal r o 2 s → s.node.owns → (c.st = .halted ∨ c.st = .faulted) → exec (.craneRestart r g) s = .next (accepted r o (cmdRestart g.val s).1)) := by
  intro o c
  have sp (v : Nat) {x : State × Nat} (h : craneCmdWrite g.val v s = x) (bs : List Byte) : writeSpecial r o v bs s = some x :=
    (sp_craneCmd r g v bs s).trans (congrArg some h)
  refine ⟨fun h => next_eq (writeVal_special h (by decide : (1 : Nat) < 256) (sp 1 rfl _)),
    fun h ho ha => next_eq (writeVal_special h (by decide : (3 : Nat) < 256) (sp 3 (cmdStart_idle g s ho ha) _)),
    fun h ho ha => next_eq (writeVal_refused h (by decide : (3 : Nat) < 256) (by decide) (sp 3 (cmdStart_active g s ho ha) _)),
    fun h ho hs hc hp => next_eq (writeVal_special h (by decide : (2 : Nat) < 256) (sp 2 (cmdRestart_on g.val s ho hs hc hp) _)),
    fun h ho hs => next_eq (writeVal_special h (by decide : (2 : Nat) < 256) (sp 2 (x := ((cmdRestart g.val s).1, ecOk)) (Prod.ext rfl (cmdRestart_code g.val s ho hs)) _))⟩

/-- Settles O26: each command by its meaning on the crane or on the gang. -/
theorem craneCommands : Obligations.CraneCommands := by
  intro q r s wf none_
  refine ⟨fun g => ?_, fun m => ?_⟩
  · obtain ⟨halt, start, refused, restartOn, restart⟩ := oneCraneCommands r s g
    exact ⟨halt, haltOne_plain g.val s, haltCrane_active q g.val s wf, start, refused, restartOn, restart, startCrane_crane q g.val s wf⟩
  · intro l
    have hm : m.toNat < 256 ^ 8 := m.isLt
    refine ⟨fun h ho hl hq => ?_, fun h ho hl hq => ?_, fun h => next_eq (writeVal_special h hm rfl), fun h ho hq => ?_, fun h ho hq => ?_⟩
    · refine next_eq (writeVal_special h hm (congrArg some ((gangStart_idle _ s ho hl).trans ?_)))
      rw [hq]
      rfl
    · refine next_eq (writeVal_special h hm (congrArg some ((gangStart_idle _ s ho hl).trans ?_)))
      rw [show oneQuay m.toNat = false by simpa using hq]
      rfl
    · exact next_eq (writeVal_special h hm (congrArg some ((clockRestart_owner _ s ho).trans (if_pos hq))))
    · exact next_eq (writeVal_special h hm (congrArg some ((clockRestart_owner _ s ho).trans (if_neg (by simpa using hq)))))

theorem fifoFlushWrite_idle (g v : Nat) (s : State) (hv : v ≠ 0) (h3 : v ≤ 3) (ha : !s.craneActive g) :
    fifoFlushWrite g v s =
      (let t := if bit v 0 then flushFifo g s else s
       (if bit v 1 then flushFifo (64 + g) t else t).put (Obj.fifoFlush g) stDone, ecOk) := by
  unfold fifoFlushWrite
  rw [if_neg (by omega), if_neg (by simpa using ha)]

theorem fifoFlushWrite_active (g v : Nat) (s : State) (hv : v ≠ 0) (h3 : v ≤ 3) (ha : s.craneActive g) : fifoFlushWrite g v s = (s, ecStateBusy) := by
  unfold fifoFlushWrite
  rw [if_neg (by omega), if_pos ha]

theorem sp_fifoFlush (r : Req) (g : Fin 64) (v : Nat) (bs : List Byte) (s : State) :
    writeSpecial r (Obj.fifoFlush g.val) v bs s = some (fifoFlushWrite g.val v s) :=
  (sp_fifo r g (Obj.fifoFlush g.val) rfl v bs s).trans ((if_neg (show ¬ (12 : Nat) = 3 by decide)).trans (if_pos rfl))

/-- A commit that reads BUSY keeps its place in the tide queue, another one takes none (R70). -/
theorem commitQueued_waits {o : Obj} {f : State → State × Nat} {s t w : State} (ht : queueTide o.key [1] s = some t) (hf : f s = (w, ecOk))
    (hb : w.get o = stBusy) : commitQueued o f s = ({ w with tide := { w.tide with queue := t.tide.queue } }, ecOk) := by
  unfold commitQueued
  rw [ht, hf]
  exact if_pos hb

theorem commitQueued_over {o : Obj} {f : State → State × Nat} {s t w : State} (ht : queueTide o.key [1] s = some t) (hf : f s = (w, ecOk))
    (hb : w.get o ≠ stBusy) : commitQueued o f s = (w, ecOk) := by
  unfold commitQueued
  rw [ht, hf]
  exact if_neg hb

/-- A commit that its quay takes waits for the boundary, with its place in the tide queue (R70, R293; log entries 22 and 59). -/
theorem quayCommit_taken (q : List Instr) (s t : State) (wf : s.Wf q) (u : Fin 4) (ht : queueTide (Obj.quayCommit u.val).key [1] s = some t)
    (hf : s.quayFault u.val = none) :
    let mine := s.staged.filter (fun e => keyQuay e.1 == some u.val)
    let v := { s with staged := s.staged.filter (fun e => keyQuay e.1 != some u.val), quay := { s.quay with commits := s.quay.commits ++ mine } }
    let w := configCommit ((v.put (Obj.quayResult u.val) 0xFFFF0000).put (Obj.quayCommit u.val) 2)
    commitQueued (Obj.quayCommit u.val) (quayCommit u.val) s = ({ w with tide := { w.tide with queue := t.tide.queue } }, ecOk) := by
  intro mine v w
  have hc : quayCommit u.val s = (w, ecOk) := by
    unfold quayCommit
    rw [hf]
    rfl
  have hv : keysFrom 0 v.objs := wf.objs
  have hkeys := key_put v (Obj.quayResult u.val) 0xFFFF0000 hv
  exact commitQueued_waits ht hc ((configCommit_get _ _ (key_put _ _ _ hkeys) (quayCommit_ne u)).trans (get_put_self _ _ _ hkeys))

/-- A commit that meets a fault is refused with its code (R294, R310). -/
theorem quayCommit_refused (q : List Instr) (s t : State) (wf : s.Wf q) (u : Fin 4) (ht : queueTide (Obj.quayCommit u.val).key [1] s = some t)
    (code what : Nat) (hf : s.quayFault u.val = some (code, what)) :
    let w := ((if code = 0x22 ∨ code = 0x23 then tallyResult (u.val * 16 + what) code s else s).put (Obj.quayResult u.val) (what * 2 ^ 16 + code)).put
      (Obj.quayCommit u.val) 4
    commitQueued (Obj.quayCommit u.val) (quayCommit u.val) s = (w, ecOk) := by
  intro w
  have hc : quayCommit u.val s = (w, ecOk) := by
    unfold quayCommit
    rw [hf]
    rfl
  have hx : keysFrom 0 (if code = 0x22 ∨ code = 0x23 then tallyResult (u.val * 16 + what) code s else s).objs := by
    split
    · exact key_put _ _ _ wf.objs
    · exact wf.objs
  have hrefused : w.get (Obj.quayCommit u.val) = 4 := get_put_self _ _ _ (key_put _ _ _ hx)
  exact commitQueued_over ht hc (by rw [hrefused]; decide)

theorem fifoFlush_facts (r : Req) (s : State) (g : Fin 64) :
    let o := Obj.fifoFlush g.val
    (TakenVal r o 1 s → !s.craneActive g.val → exec (.fifoFlush r g 1) s = .next (accepted r o ((flushFifo g.val s).put o 1))) ∧
    (TakenVal r o 2 s → !s.craneActive g.val → exec (.fifoFlush r g 2) s = .next (accepted r o ((flushFifo (64 + g.val) s).put o 1))) ∧
    (TakenVal r o 3 s → !s.craneActive g.val → exec (.fifoFlush r g 3) s = .next (accepted r o ((flushFifo (64 + g.val) (flushFifo g.val s)).put o 1))) ∧
    (TakenVal r o 3 s → s.craneActive g.val → exec (.fifoFlush r g 3) s = .next (refusedWith r o 8 s)) := by
  intro o
  refine ⟨fun h ha => next_eq (writeVal_special h (by decide : (1 : Nat) < 256) ?_), fun h ha => next_eq (writeVal_special h (by decide : (2 : Nat) < 256) ?_),
    fun h ha => next_eq (writeVal_special h (by decide : (3 : Nat) < 256) ?_), fun h ha => next_eq (writeVal_refused h (by decide : (3 : Nat) < 256) (by decide) ?_)⟩
  · exact (sp_fifoFlush r g 1 _ s).trans (congrArg some (fifoFlushWrite_idle g.val 1 s (by decide) (by decide) ha))
  · exact (sp_fifoFlush r g 2 _ s).trans (congrArg some (fifoFlushWrite_idle g.val 2 s (by decide) (by decide) ha))
  · exact (sp_fifoFlush r g 3 _ s).trans (congrArg some (fifoFlushWrite_idle g.val 3 s (by decide) (by decide) ha))
  · exact (sp_fifoFlush r g 3 _ s).trans (congrArg some (fifoFlushWrite_active g.val 3 s (by decide) (by decide) ha))

theorem clearWrite_small (o : Obj) (n v : Nat) (s : State) (h : v < n) : clearWrite o n v s = (s.put o (clearBits (s.get o) v), ecOk) :=
  if_neg (by omega)

/-- Settles O27: each write by what its object does (the result 0xFFFF0000 and the place in the tide queue are log entries 22 and 59). -/
theorem quayCommands : Obligations.QuayCommands := by
  intro q r s wf
  have sp (u : Fin 4) (o : Obj) (hi : o.idx = 0x4100 + u.val) (v : Nat) (bs : List Byte) := sp_quay r u o hi v bs s
  refine ⟨fun u h t ht => ⟨fun hf => ?_, fun code what hf => ?_⟩, fun u v h => ?_, fun u v h => ?_, fifoFlush_facts r s, fun g v hv h => ?_⟩
  · exact next_eq (writeVal_special h (by decide : (1 : Nat) < 256) (((sp u _ rfl 1 _).1 rfl).trans (congrArg some (quayCommit_taken q s t wf u ht hf))))
  · exact next_eq (writeVal_special h (by decide : (1 : Nat) < 256) (((sp u _ rfl 1 _).1 rfl).trans (congrArg some (quayCommit_refused q s t wf u ht code what hf))))
  · refine next_eq (writeVal_special h v.isLt (((sp u _ rfl v.toNat _).2.1 rfl).trans (congrArg some ?_)))
    unfold writeQuayFlags
    rw [Nat.mod_eq_of_lt v.isLt]
  · exact next_eq (writeVal_special h v.isLt ((sp u _ rfl v.toNat _).2.2 rfl))
  · exact next_eq (writeVal_special h v.isLt ((sp_fifo r g (Obj.noticePend g.val) rfl v.toNat _ s).trans ((if_pos rfl).trans
      (congrArg some (clearWrite_small _ 8 _ s hv)))))

theorem unit_setUnit (s : State) (u : Nat) (y : ChkUnit) (h : u < s.chk.length) : (s.setUnit u y).unit u = y := by
  unfold State.unit State.setUnit
  simp [List.getD, h]

/-- A feed that comes while its unit is busy, or behind others, waits last (R340). -/
theorem chkArrive_waits (u : Nat) (busy : Bool) (f : ChkFeed) (s : State) (hf : f.crane = none) (h : busy = true ∨ s.chkQueue u ≠ []) :
    chkArrive u busy f s = (s.setUnit u { s.unit u with waiting := s.chkQueue u ++ [f] }).bump (Obj.chkWaitCnt u) := by
  have hrest : (s.chkQueue u).filter (fun x => f.crane.isNone || x.crane != f.crane) = s.chkQueue u :=
    List.filter_eq_self.2 fun x _ => by rw [hf]; rfl
  unfold chkArrive
  rw [if_pos (by simpa using h)]
  unfold chkWaitFor
  rw [hrest]

/-- The feed that waits first is taken with its counters; nothing but the units and the counters changes (R340, R341). -/
theorem chkServe_facts (u : Nat) (s : State) (hu : u < s.chk.length) (f : ChkFeed) (t : List ChkFeed) (hq : s.chkQueue u = f :: t) (hc : f.crane = none) :
    (chkServe u s).unit u = ({ s.unit u with waiting := t } : ChkUnit).feed f ∧ { chkServe u s with chk := s.chk, objs := s.objs } = s := by
  rw [chkServe_feed hq hc]
  have h1 := unit_setUnit s u { s.unit u with waiting := t } hu
  have hlen : u < (s.setUnit u { s.unit u with waiting := t }).chk.length := by
    simpa [State.setUnit] using hu
  have hrest : ({ s.setUnit u { s.unit u with waiting := t } with chk := s.chk, objs := s.objs } : State) = s := rfl
  generalize s.setUnit u { s.unit u with waiting := t } = x at h1 hlen hrest ⊢
  have h2 := unit_setUnit x u ((x.unit u).feed f) hlen
  rw [h1] at h2
  unfold chkFeed
  rw [h1]
  dsimp only
  split
  · exact ⟨h2, hrest⟩
  · exact ⟨h2, hrest⟩

/-- Settles O28: each access by what it does to its unit (the inverted bit of a parity error is a free value, log entry 3). -/
theorem checkUnits : Obligations.CheckUnits := by
  intro s u hu x only
  refine ⟨fun width data p => ⟨fun hq => ?_, fun busy h => ?_⟩, fun f t hq hc => ⟨_, rfl, chkServe_facts u.val s hu f t hq hc⟩,
    fun f t g hq hc => next_eq (chkServe_crane hq hc), fun v => rfl, rfl, fun poly h => next_neg h, fun poly h => next_pos h, rfl⟩
  · exact next_eq (if_neg (by simp [hq]))
  · exact next_eq (chkArrive_waits u.val busy ⟨2 ^ width.val, data, p, none⟩ s rfl h)

end Sys2Proof.Laws

/-! The Tally, its scrubber and the tide swap; tide plans. -/

namespace Sys2Proof.Laws

open Sys2Proof.Machine

/-- A load that no page holds back (R299, R300). -/
theorem tallyLoad_taken {bs : List Byte} {s : State} {a : Nat} {ws : List Nat} (h : tallyRecord 1024 bs = some (a, ws))
    (hf : ∀ i, i < ws.length → !s.swapPending ((a + i) / 16) ∧ !s.pageBusy ((a + i) / 16)) :
    tallyLoad bs s = ((((List.range 64).filter (fun g => (List.range 64).any (fun p =>
      inPages a ws.length p && s.covers g p))).foldl (fun s g => markChanged g s) (setTallyWords a ws s)).putBlob Obj.tallyLoad bs, ecOk) := by
  have hs := find_none (p := fun w => s.swapPending (w / 16)) fun i hi => by simpa using (hf i hi).1
  have hb := find_none (p := fun w => s.pageBusy (w / 16)) fun i hi => by simpa using (hf i hi).2
  unfold tallyLoad
  simp only [h, hs, hb]

theorem tallyLoad_bad {bs : List Byte} {s : State} (h : tallyRecord 1024 bs = none) : tallyLoad bs s = (s.put Obj.tallyResult 0xFFFF0020, ecCheck) := by
  unfold tallyLoad
  rw [h]
  rfl

theorem tallyLoad_busy {bs : List Byte} {s : State} {a i : Nat} {ws : List Nat} (h : tallyRecord 1024 bs = some (a, ws))
    (hs : ∀ k, k < ws.length → !s.swapPending ((a + k) / 16)) (hi : i < ws.length) (hb : s.pageBusy ((a + i) / 16))
    (hl : ∀ k, k < i → !s.pageBusy ((a + k) / 16)) : tallyLoad bs s = (s.put Obj.tallyResult ((a + i) * 2 ^ 16 + 0x21), ecCheck) := by
  have hs := find_none (p := fun w => s.swapPending (w / 16)) fun k hk => by simpa using hs k hk
  have hb := find_first (p := fun w => s.pageBusy (w / 16)) hi hb fun k hk => by simpa using hl k hk
  unfold tallyLoad
  simp only [h, hs, hb]
  rfl

theorem stageLoad_taken {bs : List Byte} {s : State} {a : Nat} {ws : List Nat} (h : tallyRecord 64 bs = some (a, ws)) (hi : s.tally.swap = .idle) :
    stageLoad bs s = ((setTallyWords (1024 + a) ws s).putBlob Obj.stageLoad bs, ecOk) := by
  unfold stageLoad
  simp only [h]
  exact if_neg (not_not_intro hi)

/-- A word of the Tally reads as written, the others as before (R296). -/
theorem setTallyWord_word (k v : Nat) (s : State) (h : keysFrom 0 s.tally.words) (j : Nat) :
    (setTallyWord k v s).tallyWord j = if j = k ∧ k < 1024 then v else s.tallyWord j := by
  have hw : (setTallyWord k v s).tallyWord j = mapGet 0 (if k < 1024 then mapSet 0 s.tally.words k v else s.tally.words) j := rfl
  rw [hw]
  by_cases hk : k < 1024
  · rw [if_pos hk]
    by_cases hj : j = k
    · rw [if_pos ⟨hj, hk⟩, hj]
      exact mapGet_mapSet_self _ _ _ _ 0 h
    · rw [if_neg fun x => hj x.1]
      exact mapGet_mapSet_ne _ _ _ _ _ hj _ 0 h
  · rw [if_neg hk, if_neg fun x => hk x.2]
    rfl

theorem setTallyWord_stage (k v : Nat) (s : State) (h : keysFrom 0 s.tally.stage) (hk : 1024 ≤ k) : (setTallyWord k v s).stageWord (k - 1024) = v := by
  have hw : (setTallyWord k v s).stageWord (k - 1024) = mapGet 0 (if k < 1024 then s.tally.stage else mapSet 0 s.tally.stage (k - 1024) v) (k - 1024) := rfl
  rw [hw, if_neg (Nat.not_lt.2 hk)]
  exact mapGet_mapSet_self _ _ _ _ 0 h

/-- The runs of corrected errors of word k noted. -/
def passRuns (k n : Nat) (s : State) : State := setTally (fun t => { t with cePass := mapSet 0 t.cePass k n }) s

/-- The scrubber goes on from word k, a pass counted after the last (R311). -/
def scrubOn (k : Nat) (s : State) : State :=
  setTally (fun t => { t with scrub := if k = 1087 then 0 else k + 1 }) (if k = 1087 then s.bump Obj.scrubPassCnt else s)

/-- A corrected word, and its page worn after too many runs (R313). -/
def scrubCorrected (k runs : Nat) (s : State) : State :=
  if s.get Obj.tallyCePasses ≤ runs then wearPage 0x21 k s else s

theorem scrubRead_on (m : Nat) (s : State) (h : ∀ late, s.tally.swap ≠ .copying late) :
    scrubRead m s = scrubOn s.tally.scrub (
      if popCount 24 ((tallyUpset s.tally.scrub m s).tallyInv s.tally.scrub) = 0 then passRuns s.tally.scrub 0 (tallyUpset s.tally.scrub m s)
      else if popCount 24 ((tallyUpset s.tally.scrub m s).tallyInv s.tally.scrub) = 1 then
        scrubCorrected s.tally.scrub (mapGet 0 s.tally.cePass s.tally.scrub + 1)
          (passRuns s.tally.scrub (mapGet 0 s.tally.cePass s.tally.scrub + 1) (tallyCorrected s.tally.scrub false (tallyUpset s.tally.scrub m s)))
      else passRuns s.tally.scrub 0 (tallyUncorrected s.tally.scrub false (selfTestFail 2 (tallyUpset s.tally.scrub m s)))) := by
  unfold scrubRead
  split
  · rename_i late hl
    exact absurd hl (h late)
  · rfl

theorem scrubRead_copying (m : Nat) (s : State) (late : Bool) (h : s.tally.swap = .copying late) : scrubRead m s = s := by
  unfold scrubRead
  rw [h]

/-- The corrections of one scrubbed word read the limit that stood before. -/
theorem passRuns_passes (k n : Nat) (u s : State) (hk : keysFrom 0 u.objs) (hu : u.get Obj.tallyCePasses = s.get Obj.tallyCePasses) :
    (passRuns k n (tallyCorrected k false u)).get Obj.tallyCePasses = s.get Obj.tallyCePasses :=
  (tallyCorrected_passes k false u hk).trans hu

/-- Settles O29: loads, reads and each outcome of a scrubbed word (three or more inverted bits as an uncorrected error: log entry 16). -/
theorem tallyMemory : Obligations.TallyMemory := by
  intro q r s wf
  have hw : keysFrom 0 s.tally.words := ((mapWf_iff _ _).1 wf.words).1
  have hs : keysFrom 0 s.tally.stage := ((mapWf_iff _ _).1 wf.stage).1
  refine ⟨fun bs a ws h hr hf => next_eq (writeBytes_special h ((tally_idle_load r bs s _).trans (congrArg some (tallyLoad_taken hr hf)))),
    fun bs h hr => next_eq (writeBytes_refused h (by decide) ((tally_idle_load r bs s _).trans (congrArg some (tallyLoad_bad hr)))),
    fun bs a ws i h hr hp hi hb hl => next_eq (writeBytes_refused h (by decide) ((tally_idle_load r bs s _).trans (congrArg some (tallyLoad_busy hr hp hi hb hl)))),
    fun bs a ws h hr hi => next_eq (writeBytes_special h ((stage_load r bs s _).trans (congrArg some (stageLoad_taken hr hi)))),
    fun k v => ⟨fun hk => ?_, setTallyWord_stage k v s hs, rfl, fun j hj => ?_, rfl⟩, fun h => next_eq (readVal_ok h), fun upset hc => ?_,
    fun late upset hl => next_eq (scrubRead_copying _ s late hl)⟩
  · rw [setTallyWord_word k v s hw, if_pos ⟨rfl, hk⟩]
  · rw [setTallyWord_word k v s hw, if_neg fun x => hj x.1]
  · intro k u pass on runs
    have hon := scrubRead_on upset.toNat s hc
    have hlimit := passRuns_passes k runs u s wf.objs rfl
    refine ⟨fun hn => next_eq (hon.trans (congrArg (scrubOn k) (if_pos hn))), fun hn hr => next_eq (hon.trans (congrArg (scrubOn k) ?_)),
      fun hn hr => next_eq (hon.trans (congrArg (scrubOn k) ?_)), fun hn => next_eq (hon.trans (congrArg (scrubOn k) ?_))⟩
    · have h0 : popCount 24 (u.tallyInv k) ≠ 0 := by rw [hn]; decide
      refine (if_neg h0).trans ((if_pos hn).trans (if_neg ?_))
      rw [hlimit]
      exact Nat.not_le.2 hr
    · have h0 : popCount 24 (u.tallyInv k) ≠ 0 := by rw [hn]; decide
      refine (if_neg h0).trans ((if_pos hn).trans (if_pos ?_))
      rw [hlimit]
      exact hr
    · have h0 : popCount 24 (u.tallyInv k) ≠ 0 := fun e => absurd (e ▸ hn : 2 ≤ 0) (by decide)
      have h1 : popCount 24 (u.tallyInv k) ≠ 1 := fun e => absurd (e ▸ hn : 2 ≤ 1) (by decide)
      exact (if_neg h0).trans (if_neg h1)

end Sys2Proof.Laws

/-! The tide swap, tide plans, the tick boundary and tick markers. -/

namespace Sys2Proof.Laws

open Sys2Proof.Machine

theorem swapArm_passes {s : State} (hi : s.tally.swap = .idle) (hf : s.swapFault (num (s.blob Obj.swapReq) 0 16) = none) :
    swapArm s = (({ s with tally := { s.tally with swap := .armed, desc := num (s.blob Obj.swapReq) 0 16 } }).put Obj.swapCmd 2, ecOk) := by
  unfold swapArm
  rw [if_neg (not_not_intro hi)]
  dsimp only
  rw [hf]
  rfl

theorem swapArm_fails {s : State} {code what : Nat} (hi : s.tally.swap = .idle) (hf : s.swapFault (num (s.blob Obj.swapReq) 0 16) = some (code, what)) :
    swapArm s = ((s.put Obj.tallyResult (what * 2 ^ 16 + code)).put Obj.swapCmd 4, ecOk) := by
  unfold swapArm
  rw [if_neg (not_not_intro hi)]
  dsimp only
  rw [hf]
  rfl

theorem swapCancel_by (s : State) : swapCancel s = match s.tally.swap with
    | .idle => (s, ecOk)
    | .armed => (({ s with tally := { s.tally with swap := .idle } }).put Obj.swapCmd 3, ecOk)
    | .copying _ => ({ s with tally := { s.tally with swap := .copying true } }, ecOk) := rfl

theorem swapDone_copying {s : State} {late : Bool} (h : s.tally.swap = .copying late) :
    swapDone s = configCommit (({ s with tally := { s.tally with swap := .idle } }).put Obj.swapCmd (1 + (if late then 128 else 0))) := by
  unfold swapDone
  rw [h]
  rfl

theorem sp_swapArm (r : Req) (bs : List Byte) (s : State) : writeSpecial r Obj.swapCmd 1 bs s = some (swapArm s) := rfl

theorem sp_swapCancel (r : Req) (bs : List Byte) (s : State) : writeSpecial r Obj.swapCmd 2 bs s = some (swapCancel s) := rfl

/-- Settles O30: arm, cancel and the end of the copy by the state of the swap. -/
theorem tideSwap : Obligations.TideSwap := by
  intro r s d
  have h1 : (1 : Nat) < 256 ^ Obj.swapCmd.ty.size := by decide
  have h2 : (2 : Nat) < 256 ^ Obj.swapCmd.ty.size := by decide
  refine ⟨fun h hi hf => next_eq (writeVal_special h h1 ((sp_swapArm r _ s).trans (congrArg some (swapArm_passes hi hf)))),
    fun h hi code what hf => next_eq (writeVal_special h h1 ((sp_swapArm r _ s).trans (congrArg some (swapArm_fails hi hf)))),
    fun h hs => next_eq (writeVal_special h h2 ((sp_swapCancel r _ s).trans (congrArg some ((swapCancel_by s).trans (by rw [hs]))))),
    fun late h hs => next_eq (writeVal_special h h2 ((sp_swapCancel r _ s).trans (congrArg some ((swapCancel_by s).trans (by rw [hs]))))),
    fun h hs => next_eq (writeVal_special h h2 ((sp_swapCancel r _ s).trans (congrArg some ((swapCancel_by s).trans (by rw [hs]))))),
    fun late hs => next_eq (swapDone_copying hs), fun u hu => if_pos hu⟩

theorem execTidePlanCheckComplete_fails {s : State} {bs : List Byte} {code : Nat} (h : s.tide.checking = some bs) (hf : s.planFail bs = some code) :
    execTidePlanCheckComplete s =
      .next ((({ s with tide := { s.tide with checking := none } } : State).put Obj.tidePlanCommit 4).put Obj.tidePlanResult code) := by
  unfold execTidePlanCheckComplete
  simp only [h, hf]
  rfl

theorem execTidePlanCheckComplete_passes {s : State} {bs : List Byte} (h : s.tide.checking = some bs) (hf : s.planFail bs = none) :
    let u := { s with tide := { s.tide with checking := none } }
    let v := if s.stagedOf Obj.tidePlanStage = some bs then u.unstage Obj.tidePlanStage else u
    execTidePlanCheckComplete s =
      .next (configCommit (((armPlan (some (planOf bs)) (v.putBlob Obj.tidePlanStage bs)).put Obj.tidePlanCommit 1).put Obj.tidePlanResult 0xFFFF0000)) := by
  unfold execTidePlanCheckComplete
  simp only [h, hf]
  rfl

theorem planBoundary_takes {s : State} {a : Plan} (h : s.tide.armed = some a) (hp : s.tide.placed) (ht : a.actTick ≤ s.tide.tick) :
    planBoundary s = takePlan a (armPlan none s) := by
  unfold planBoundary
  rw [h]
  exact if_pos ⟨hp, ht⟩

theorem planBoundary_early {s : State} {a : Plan} (h : s.tide.armed = some a) (ht : s.tide.tick < a.actTick) : planBoundary s = s := by
  unfold planBoundary
  rw [h]
  exact if_neg fun x => absurd x.2 (Nat.not_le.2 ht)

theorem planBoundary_none {s : State} (h : s.tide.armed = none) : planBoundary s = s := by
  unfold planBoundary
  rw [h]

theorem planFail_head {s : State} {bs : List Byte} {c : Nat} (h : s.planHead bs (planOf bs) = some c) : s.planFail bs = some (planHdr c) := by
  unfold State.planFail
  simp only [h]

theorem planHead_form {s : State} {bs : List Byte} {p : Plan} (h : p.format ≠ 1 ∨ bs.length ≠ 32 + 16 * p.count) : s.planHead bs p = some 0x01 := if_pos h

theorem planHead_crc {s : State} {bs : List Byte} {p : Plan} (hf : p.format = 1) (hl : bs.length = 32 + 16 * p.count)
    (hc : p.crc ≠ crc32c (slice bs 0 28 ++ bs.drop 32)) : s.planHead bs p = some 0x02 :=
  (if_neg fun h => h.elim (absurd hf) (absurd hl)).trans (if_pos hc)

theorem sp_tidePlanCommit (r : Req) (v : Nat) (bs : List Byte) (s : State) : writeSpecial r Obj.tidePlanCommit v bs s = some (planCommitWrite s) := rfl

/-- Settles O31: a commit, the end of its check and the boundary of its activation (the result 0xFFFF0000 is log entry 22). -/
theorem tidePlans : Obligations.TidePlans := by
  intro r s
  refine ⟨fun h => next_eq (writeVal_special h (by decide) (sp_tidePlanCommit r 1 _ s)),
    fun bs h => ⟨fun code hf => execTidePlanCheckComplete_fails h hf, fun hf => execTidePlanCheckComplete_passes h hf⟩,
    fun a => ⟨rfl, rfl⟩, fun a h hp ht => ?_, fun a h ht => planBoundary_early h ht, planBoundary_none,
    fun bs => ⟨fun h => planFail_head (planHead_form h), fun hf hl hc => planFail_head (planHead_crc hf hl hc)⟩⟩
  rw [planBoundary_takes h hp ht]
  rfl

theorem boundarySecond_eq (e : TickEnv) (p : Option Plan) (n pause : Nat) (s : State) :
    boundarySecond e p n (decide (0 < pause)) s =
      latchOutputs (discardStale (settleTick p n (craneEdge (applyOutputs (e.quaysGood == 15) (if 0 < pause then cfgResume s else s))))) := by
  unfold boundarySecond
  simp only [decide_eq_true_eq]

/-- The steps of a boundary, one after another (R68). -/
theorem tickBoundary_taken (env : TickEnv) (s : State) (h : s.released 4) :
    let first := swapBoundary (cfgApply (tideWrites (modeBoundary (imageTick (tickAdvance (sampleInputs s))))))
    let outputs := applyOutputs (env.quaysGood == 15) (if 0 < s.tide.pause then cfgResume first else first)
    let settled := discardStale (settleTick s.tide.active s.tide.tick (craneEdge outputs))
    exec (.tickBoundary env) s =
      .next (boundaryThird env (s.get Obj.tideGenActive) s.tide.code { settled with pins := { settled.pins with outSent := settled.pins.outImg } }) := by
  have hs := boundarySecond_eq env s.tide.active s.tide.tick s.tide.pause (boundaryFirst s)
  unfold latchOutputs boundaryFirst at hs
  exact (next_pos h).trans (next_eq (congrArg (boundaryThird env (s.get Obj.tideGenActive) s.tide.code) hs))

/-- With no plan armed and the period unchanged, the plan's step of a boundary changes nothing. -/
theorem planStep_none (old : Nat) (x : State) (ha : x.tide.armed = none) (hc : x.tide.code = old) : periodStep old (planBoundary x) = x := by
  rw [planBoundary_none ha]
  exact if_pos hc

theorem tickAdvance_unarmed (s : State) (h : s.tide.armed = none) : tickAdvance s = { s with tide := { s.tide with
    tick := (s.tide.tick + 1) % 2 ^ 48, beat := s.tide.beat + 1, clock := s.tide.clock + 2 ^ s.tide.code, placed := s.tide.placed || s.ownPlaced } } :=
  planStep_none s.tide.code { s with tide := { s.tide with
    tick := (s.tide.tick + 1) % 2 ^ 48, beat := s.tide.beat + 1, clock := s.tide.clock + 2 ^ s.tide.code, placed := s.tide.placed || s.ownPlaced } } h rfl

/-- A tide-applied write of an object below 0x4000 stores its value (R70). -/
theorem tideApply_stored (o : Obj) (hi : o.idx < 0x4000) (ho : objAt o.idx o.sub = some o) (hs : o.sub < 256) (h1 : o.key ≠ 0x220008) (h2 : o.key ≠ 0x26000E)
    (bs : List Byte) (s : State) : tideApply (o.key, bs) s = storeObj o bs s := by
  have hdiv : o.key / 256 = o.idx := by unfold Obj.key; omega
  have hmod : o.key % 256 = o.sub := by unfold Obj.key; omega
  unfold tideApply
  dsimp only
  rw [hdiv, hmod, if_neg (by omega), if_neg (by omega), ho]
  dsimp only
  rw [if_neg (by omega), if_neg (by omega)]

/-- The set and the number that a good TICK carries, its stamp noted (R82). -/
def markTaken (p : Nat) (m : TickMark) (w : W64) (s : State) : State :=
  noteStamp p (wfld w 0 48) m.stamp (match majoritySet ((goodTicks m).map (fun w => wfld w 51 5)) with
    | some set => adoptSet p set (wfld w 0 48) s
    | none => s)

theorem tickReceive_none {p : Nat} {m : TickMark} {s : State} (h : goodTicks m = []) :
    tickReceive p m s = (Machine.lanesOf p).foldl (fun s l => tickLane p l (m.ticks.getD l none) s) s := by
  unfold tickReceive
  rw [h]

theorem tickReceive_good {p : Nat} {m : TickMark} {s : State} {w : W64} {l : List W64} (h : goodTicks m = w :: l) :
    tickReceive p m s =
      (let v := markTaken p m w ((Machine.lanesOf p).foldl (fun s l => tickLane p l (m.ticks.getD l none) s) s)
       if p < 2 ∧ v.rxOpen p then headerTake p (wfld w 0 48) m v else v) := by
  unfold tickReceive markTaken
  simp only [h] <;> rfl

theorem adoptTick_placed (p n : Nat) (s : State) (hp : s.tide.placed) (ha : s.tide.armed = none) :
    adoptTick p n s = { s with tide := { s.tide with tick := n } } := by
  have hcode : (if !s.tide.placed ∧ bit (s.get (Obj.farHarbour p)) 28 then fld (s.get (Obj.farHarbour p)) 29 2 else s.tide.code) = s.tide.code :=
    if_neg (by simp [hp])
  unfold adoptTick
  dsimp only
  rw [hcode]
  have hmod : modTide (fun d => { d with placed := true, code := s.tide.code, tick := n }) s = { s with tide := { s.tide with tick := n } } := by
    unfold modTide
    rw [← show s.tide.placed = true from hp]
  rw [hmod]
  exact planStep_none s.tide.code { s with tide := { s.tide with tick := n } } ha rfl

/-- A tick marker at a direction that listens (R49, R82). -/
theorem tickMarker_facts (port : Fin 3) (m : TickMark) (s : State) (hl : s.listens port.val) (h1 : dBlock ≤ s.rx port.val) (h2 : s.rx port.val ≤ dActive) :
    exec (.tickMarkerReceive port m) s = .next (tickReceive port.val m (returned port.val (m.ticks.filterMap (fun t => t.map (.ctrl tyTick))) s)) :=
  next_pos ⟨hl, h1, h2⟩

theorem headerTake_kept {p tick : Nat} {m : TickMark} {s : State}
    (h : (modTide (fun d => { d with gens := d.gens.set p (some (wfld m.ring 0 32)), bellIn := d.bellIn.set p m.bells.toNat }) s).timeLocked ∨
      (s.tide.placed ∧ s.tide.tick = tick)) :
    headerTake p tick m s = modTide (fun d => { d with gens := d.gens.set p (some (wfld m.ring 0 32)), bellIn := d.bellIn.set p m.bells.toNat }) s :=
  if_pos h

theorem headerTake_adopted {p tick : Nat} {m : TickMark} {s : State}
    (hl : (modTide (fun d => { d with gens := d.gens.set p (some (wfld m.ring 0 32)), bellIn := d.bellIn.set p m.bells.toNat }) s).timeLocked = false)
    (ht : s.tide.tick ≠ tick) :
    headerTake p tick m s = adoptTick p tick (modTide (fun d => { d with gens := d.gens.set p (some (wfld m.ring 0 32)), bellIn := d.bellIn.set p m.bells.toNat }) s) :=
  if_neg fun h => h.elim (by simp [hl]) fun x => ht x.2

/-- Settles O32: the boundary is its steps in order, and a marker its blocks and its header (the 25-us clock is log entry 8, the place of the mode changes 70). -/
theorem tickBoundary : Obligations.TickBoundary := by
  refine ⟨fun env s => ⟨tickBoundary_taken env s, fun h => next_neg (by simp [h]), tickAdvance_unarmed s, sampleInputs_pins s, rfl,
    fun o hi ho hs h1 h2 bs => tideApply_stored o hi ho hs h1 h2 bs s⟩, fun port m s => ?_⟩
  refine ⟨fun h => next_neg ?_, fun hl h1 h2 => ⟨fun hn => ?_, fun w l hg => ⟨fun hp => ?_, fun hp ho hk => ?_, fun hp ho hk ht => ?_⟩⟩,
    fun n hp ha => adoptTick_placed port.val n s hp ha⟩
  · rintro ⟨a, b, c⟩
    rcases h with h | h | h
    · rw [h] at a
      exact Bool.false_ne_true a
    · omega
    · omega
  · exact (tickMarker_facts port m s hl h1 h2).trans (next_eq (tickReceive_none hn))
  · refine (tickMarker_facts port m s hl h1 h2).trans (next_eq ((tickReceive_good hg).trans (if_neg ?_)))
    rintro ⟨a, b⟩
    rcases hp with hp | hp
    · omega
    · exact Bool.false_ne_true (hp.symm.trans b)
  · exact (tickMarker_facts port m s hl h1 h2).trans (next_eq ((tickReceive_good hg).trans ((if_pos ⟨hp, ho⟩).trans (headerTake_kept hk))))
  · exact (tickMarker_facts port m s hl h1 h2).trans (next_eq ((tickReceive_good hg).trans ((if_pos ⟨hp, ho⟩).trans (headerTake_adopted hk ht))))

end Sys2Proof.Laws

/-! Scheduled frames: sent at their entry, taken by their copies. -/

namespace Sys2Proof.Laws

open Sys2Proof.Machine

/-- An own entry that is due sends one frame each way (R46, R58, R59). -/
theorem scheduledEntryDue_own {s : State} {n : Fin 2048} {p : Plan} {e : PlanEntry} (hp : s.tide.active = some p) (he : p.entries[n.val]? = some e)
    (h : s.sends ∧ e.snode = s.node.pair ∧ s.node.pair ≠ 0 ∧ e.due s.tide.tick) :
    execScheduledEntryDue n s = .next (
      let x := schedSource e s
      let hd := mkHdr e.dnode e.snode e.dport 0 (p.seqOf s.tide.tick n.val e) x.1.length x.2.ttl (setBit 8 1 (x.1.any (·.p)))
      let f : Frame := ⟨hd, x.1, mkTrl s.tide.tick x.1⟩
      schedCopy 1 f (schedCopy 0 f x.2)) := by
  unfold execScheduledEntryDue
  simp only [hp, he]
  exact next_pos h

theorem schedCopy_room {o : Nat} {f : Frame} {s : State} (hw : s.tide.waits = []) (hr : bayCount f.pay.length ≤ s.ownRoom 7 0) :
    schedCopy o f s = enqueue 7 o .node (Frame.words f) s := if_pos ⟨by rw [hw]; rfl, hr⟩

theorem schedCopy_waits {o : Nat} {f : Frame} {s : State} (h : s.tide.waits ≠ [] ∨ s.ownRoom 7 0 < bayCount f.pay.length) :
    schedCopy o f s = { s with tide := { s.tide with waits := s.tide.waits ++ [(o, f)] } } := by
  refine if_neg ?_
  rintro ⟨hw, hr⟩
  rcases h with h | h
  · exact h (List.isEmpty_iff.1 hw)
  · omega

/-- A local port with no scheduled frame waiting, and one that takes the next (R53 to R56). -/
theorem schedFrameReceive_none {s : State} {i : Fin 5} (h : s.localNext (3 + i.val) (fun j => j.sched) = none) : execSchedFrameReceive i s = .next s := by
  unfold execSchedFrameReceive
  simp only [h]

theorem schedFrameReceive_frame {s : State} {i : Fin 5} {j : Job} {f : Frame} (h : s.localNext (3 + i.val) (fun j => j.sched) = some j)
    (hf : frameOf (departJob j s).1 = some f) :
    execSchedFrameReceive i s = .next (if tTick f.trl = s.tide.tick % 2 ^ 16 then schedTake (Frame.sound f) f (departJob j s).2
      else staleTide j.input (departJob j s).2) := by
  unfold execSchedFrameReceive
  simp only [h, hf]

theorem schedFrameReceive_broken {s : State} {i : Fin 5} {j : Job} (h : s.localNext (3 + i.val) (fun j => j.sched) = some j)
    (hf : frameOf (departJob j s).1 = none) :
    execSchedFrameReceive i s = .next (schedTake false (brokenCopy (departJob j s).1) (departJob j s).2) := by
  unfold execSchedFrameReceive
  simp only [h, hf]

theorem schedTake_unknown {f : Frame} {s : State} (h : s.schedEntry f.hdr = none) : schedTake true f s = s.bump Obj.schedUnknownCnt := by
  unfold schedTake
  simp only [h]
  rfl

/-- A copy of an entry that is due: absorbed after a delivery, delivered when good, else a candidate or absorbed (R54, R56). -/
theorem schedTake_entry {ok : Bool} {f : Frame} {s : State} {i : Nat} {e : PlanEntry} (h : s.schedEntry f.hdr = some (i, e)) :
    schedTake ok f s =
      if i ∈ s.tide.delivered then s.bump Obj.schedAbsorbedCnt
      else if ok then schedDeliver e f.pay { s with tide := { s.tide with
        delivered := s.tide.delivered ++ [i], candidates := s.tide.candidates.filter (fun c => c.entry != i) } }
      else if ∃ c ∈ s.tide.candidates, c.entry = i then s.bump Obj.schedAbsorbedCnt
      else { s with tide := { s.tide with candidates := s.tide.candidates ++ [⟨i, f⟩] } } := by
  unfold schedTake
  simp only [h, List.contains_iff_mem, List.any_eq_true, beq_iff_eq]
  rfl

/-- Settles O33: each frame by the state of its copies. -/
theorem scheduledFrames : Obligations.ScheduledFrames := by
  intro s
  refine ⟨fun n p e hp he h1 h2 h3 h4 => scheduledEntryDue_own hp he ⟨h1, h2, h3, h4⟩, fun o f => ⟨fun hw hr => schedCopy_room hw hr, schedCopy_waits⟩,
    fun i h => schedFrameReceive_none h, fun i j h => ⟨fun f hf ht => ?_, fun f hf ht => ?_, schedFrameReceive_broken h⟩, fun f h => schedTake_unknown h,
    fun ok f i e h => ⟨fun hd => ?_, fun hd => ?_, fun hd hc => ?_, fun hd hc => ?_⟩⟩
  · exact (schedFrameReceive_frame h hf).trans (next_pos ht)
  · exact (schedFrameReceive_frame h hf).trans (next_neg ht)
  · rw [schedTake_entry h, if_pos hd]
  · rw [schedTake_entry h, if_neg hd, if_pos rfl]
  · have hn : ¬ ∃ c ∈ s.tide.candidates, c.entry = i := fun ⟨c, hm, hi⟩ => hc c hm hi
    rw [schedTake_entry h, if_neg hd, if_neg Bool.false_ne_true, if_neg hn]
  · rw [schedTake_entry h, if_neg hd, if_neg Bool.false_ne_true, if_pos hc]

end Sys2Proof.Laws

/-! Bring-up of a direction of a port. -/

namespace Sys2Proof.Laws

open Sys2Proof.Machine

/-- A timeout of one of two directions acts on the direction it names. -/
theorem ofDir_tx {A B : Prop} [Decidable A] [Decidable B] (a b s : State) :
    (if (true = true ∧ A) then a else if (!true) = true ∧ B then b else s) = if A then a else s := by simp

theorem ofDir_rx {A B : Prop} [Decidable A] [Decidable B] (a b s : State) :
    (if (false = true ∧ A) then a else if (!false) = true ∧ B then b else s) = if B then b else s := by simp

/-- A probe that finds too little on a receiver in Detect, the transmitter elsewhere (R88). -/
theorem detectProbe_few {p : Nat} {present : List Bool} {clock : Bool} {s : State} (hr : s.rx p = dDetect)
    (hc : clock = false ∨ ((Machine.lanesOf p).filter (fun l => present.getD l false)).length < lanesNeeded p) :
    detectProbe p present clock s = notePresent p present clock s := by
  have hfew : ¬ (clock = true ∧ lanesNeeded p ≤ ((Machine.lanesOf p).filter (fun l => present.getD l false)).length) := by
    rintro ⟨a, b⟩
    rcases hc with hc | hc
    · exact Bool.false_ne_true (hc.symm.trans a)
    · omega
  unfold detectProbe
  simp only [hr, if_neg hfew, true_or, if_true]

/-- A probe that finds enough on a port in Detect both ways (R88). -/
theorem detectProbe_both {p : Nat} {present : List Bool} {s : State} (hr : s.rx p = dDetect) (ht : s.tx p = dDetect)
    (hc : lanesNeeded p ≤ ((Machine.lanesOf p).filter (fun l => present.getD l false)).length) :
    detectProbe p present true s = rxPilot p (txPilot p (notePresent p present true s)) := by
  unfold detectProbe
  simp only [hr, ht, hc, true_or, if_true, and_self]

/-- A HARBOUR block whose code is not 0 is raised, and ends the way to Active (R93). -/
theorem harbourBlock_fault {p : Nat} {h : W64} {u : State}
    (hc : (harbourAdopt p h (u.put (Obj.farHarbour p) h.toNat)).harbourCode p h ≠ 0) :
    let v := harbourAdopt p h (u.put (Obj.farHarbour p) h.toNat)
    harbourBlock p h u = raise 0x05 p (v.harbourCode p h) (modPort p (fun x => { x with rxGo := false }) (v.put (Obj.harbourResult p) (v.harbourCode p h))) :=
  if_neg hc

/-- The three blocks and controls of a port in Harbour or Active that `HARBOUR_BLOCK_RECEIVE` reads (R88, R93). -/
theorem harbourBlockReceive_heard {port : Fin 3} {h : W64} {s : State} (hl : s.listens port.val) (hr : s.rx port.val = dHarbour ∨ s.rx port.val = dActive) :
    exec (.harbourBlockReceive port h) s = .next (if blockOk h then harbourBlock port.val h (returned port.val [.ctrl tyHarbour h] s)
      else badBlock port.val (returned port.val [.ctrl tyHarbour h] s)) := next_pos ⟨hl, hr⟩

theorem harbourTimeout_idle {port : Fin 3} {tx : Bool} {s : State}
    (h : s.get (Obj.harbourResult port.val) ≠ 0 ∨ (if tx then s.tx port.val else s.rx port.val) ≠ dHarbour) :
    exec (.harbourTimeout port tx) s = .next s := by
  by_cases h0 : s.get (Obj.harbourResult port.val) ≠ 0
  · exact next_pos h0
  · have hd := h.resolve_left h0
    refine (next_neg h0).trans (next_eq ?_)
    cases tx with
    | true => exact (ofDir_tx _ _ _).trans (if_neg hd)
    | false => exact (ofDir_rx _ _ _).trans (if_neg hd)

theorem harbourTimeout_open {port : Fin 3} {tx : Bool} {s : State} (h : s.get (Obj.harbourResult port.val) = 0) :
    exec (.harbourTimeout port tx) s = .next (if tx ∧ s.tx port.val = dHarbour then (txLeave port.val dDetect s).bump (Obj.retrainCnt port.val)
      else if !tx ∧ s.rx port.val = dHarbour then (rxLeave port.val dDetect s).bump (Obj.retrainCnt port.val) else s) :=
  next_neg (not_not_intro h)

/-- The first block of a training frame on straight wires (R76, R83, R96). -/
theorem frameReceive_mark {p l : Nat} {b : Line} {trains : List (BitVec 72)} {s : State} (hp : s.get (Obj.rxPolarity p l) = 0) (hm : b.isMark) :
    frameReceive p l b trains s = markReceive p l (w64 b.body)
      (prbsCheck p l trains (returned p (.ctrl tyMark (w64 b.body) :: trains.map (fun _ => .ctrl tyTrain 0)) s)) := by
  unfold frameReceive
  simp [hp, hm]

theorem markReceive_bad {p l : Nat} {m : W64} {s : State} (h : blockOk m = false) : markReceive p l m s = s.bump (Obj.controlErrCnt p) :=
  if_pos (by simp [h])

theorem markReceive_misnamed {p l : Nat} {m : W64} {s : State} (h : blockOk m) (hl : wfld m 6 3 ≠ l) : markReceive p l m s = laneFail p l 6 s :=
  (if_neg (by simp [h])).trans (if_pos hl)

/-- Settles O34: each event by the state of its direction (one probe moves both directions of the port: log entry 27). -/
theorem portBringUp : Obligations.PortBringUp := by
  intro port s p
  refine ⟨fun _ _ h => next_pos h, fun _ _ h => next_neg (by simp [h]), fun _ _ hr _ _ hc => detectProbe_few hr hc,
    fun _ hr ht hc => detectProbe_both hr ht hc, fun h => next_eq ((ofDir_tx _ _ _).trans (if_pos h)), fun h => next_eq ((ofDir_tx _ _ _).trans (if_neg h)),
    fun h => next_eq ((ofDir_rx _ _ _).trans (if_pos h)), fun h => next_eq ((ofDir_rx _ _ _).trans (if_neg h)),
    fun errFree h => ?_, fun _ h => next_neg h, fun h => next_eq ((ofDir_tx _ _ _).trans (if_pos h)), fun h => next_eq ((ofDir_tx _ _ _).trans (if_neg h)),
    fun h => next_eq ((ofDir_rx _ _ _).trans (if_pos h)), fun h => next_eq ((ofDir_rx _ _ _).trans (if_neg h)), fun h => next_pos h,
    fun h => next_eq ((ofDir_tx _ _ _).trans (if_pos h)), fun h => next_eq ((ofDir_tx _ _ _).trans (if_neg h)),
    fun h => next_eq ((ofDir_rx _ _ _).trans (if_pos h)), fun h => next_eq ((ofDir_rx _ _ _).trans (if_neg h)), fun h hl hr => ?_,
    fun h ht => (harbourTimeout_open h).trans (next_eq ((ofDir_tx _ _ _).trans (if_pos ht))),
    fun h hr => (harbourTimeout_open h).trans (next_eq ((ofDir_rx _ _ _).trans (if_pos hr))), fun tx h => harbourTimeout_idle h,
    fun h ht => ?_, fun h hr => ?_, fun h => next_pos h, fun lane f hl hr hn => ?_⟩
  · intro t
    exact ⟨fun hn => (next_pos h).trans (next_eq (if_pos hn)), fun hn => (next_pos h).trans (next_eq (if_neg (Nat.not_le.2 hn)))⟩
  · intro u v
    exact ⟨fun ho => (harbourBlockReceive_heard hl hr).trans (next_pos ho), fun ho => (harbourBlockReceive_heard hl hr).trans (next_neg (by simp [ho])),
      harbourBlock_fault⟩
  · exact (next_neg (by simp [h])).trans (next_eq ((if_pos rfl).trans (if_neg ht)))
  · exact (next_neg (by simp [h])).trans (next_eq ((if_neg Bool.false_ne_true).trans (if_neg hr)))
  · intro b m u
    exact ⟨next_pos ⟨hl, hr, hn⟩, frameReceive_mark, markReceive_bad, markReceive_misnamed⟩

end Sys2Proof.Laws

/-! Lanes of a port that fail and come back. -/

namespace Sys2Proof.Laws

open Sys2Proof.Machine

theorem laneFail_gone {p l cause : Nat} {s : State} (h : s.get (Obj.laneState p l) = 0 ∨ s.get (Obj.laneState p l) = 5) : laneFail p l cause s = s := if_pos h

/-- A lane of an Active direction's set that fails: the set with the spare, or the lanes left, is asked for (R107, R108). -/
theorem laneFail_inSet {p l cause : Nat} {s : State} (h0 : s.get (Obj.laneState p l) ≠ 0) (h5 : s.get (Obj.laneState p l) ≠ 5)
    (h6 : s.get (Obj.laneState p l) ≠ 6) (hb : bit (s.get (Obj.rxSet p)) l) (hr : (failLane p l cause s).rx p = dActive) :
    let u := modPort p (fun x => { x with failing := setBit x.failing l true }) (failLane p l cause s)
    laneFail p l cause s = match u.spareLane p with
      | some k => requestSet p (setBit (u.lanesLeft p) k true) u
      | none => requestSet p (u.lanesLeft p) u := by
  intro u
  have hgone : ¬ (s.get (Obj.laneState p l) = 0 ∨ s.get (Obj.laneState p l) = 5) := fun h => h.elim h0 h5
  unfold laneFail
  simp only [if_neg hgone, if_neg h6, if_pos (show (failLane p l cause s).rx p = dActive ∧ bit (s.get (Obj.rxSet p)) l = true from ⟨hr, hb⟩)]
  rfl

theorem requestSet_down {p new : Nat} {s : State} (h : p = 2 ∨ laneNum new < 3) : requestSet p new s = rxDown p 2 s := if_pos h

theorem requestSet_asked {p new : Nat} {s : State} (hp : p < 2) (h : 3 ≤ laneNum new) :
    let u := modPort p (fun x => { x with reqSet := new }) s
    requestSet p new s = if s.tx p = dActive then sendBlock p tyLanemap (sealBlock (new * 2 ^ 51)) u else u := if_neg (by omega)

theorem execLaneFail_cause {port : Fin 3} {lane : Fin 5} {cause : BitVec 8} {s : State} (h1 : 3 ≤ cause.toNat) (h2 : cause.toNat ≤ 8)
    (hl : lane.val < laneCount port.val) :
    exec (.laneFail port lane cause) s = .next (if cause.toNat = 4 ∧ (s.port port.val).errs.getD lane.val 0 ≤ s.get (Obj.laneErrLimit port.val) then s
      else laneFail port.val lane.val cause.toNat s) :=
  next_neg (by omega)

/-- A block that its sync header or TYPE makes bad (R79). -/
theorem execSyncError_bad {port : Fin 3} {b : BadBlock} {c : Cargo} {s : State} (hl : s.listens port.val) (hn : b.lane.val < laneCount port.val)
    (h : readLine ⟨b.hdr.toNat, b.body.toNat⟩ = .bad c) :
    execSyncError port b s = .next (match b.place with
      | some i => if i.val = 0 then syncCount port.val b.lane.val s else noteRepl port.val i.val c (syncCount port.val b.lane.val s)
      | none => syncCount port.val b.lane.val s) := by
  unfold execSyncError
  simp only [if_pos (show s.listens port.val = true ∧ b.lane.val < laneCount port.val from ⟨hl, hn⟩), h] <;> rfl

/-- The burst of a lane in Ebb whose direction is not in Ebb (R101). -/
theorem ebbExit_lane {port : Fin 3} {lane : Fin 5} {locked : Bool} {s : State} (h : s.rx port.val ≠ dEbb) (h4 : s.get (Obj.laneState port.val lane.val) = 4) :
    exec (.ebbExitLockResult port lane locked) s = .next (
      let p := port.val
      let l := lane.val
      let u := modLane p l (fun c => { c with retrain := dPilot }) (laneChanged p l ((s.put (Obj.laneState p l) 6).put (Obj.failCause p l) 8))
      if locked && !s.longAgo (s.laneCal p l).ebbAt then s.put (Obj.laneState p l) 3
      else if bit (u.port p).reqSet l then requestSet p (u.lanesLeft p) u else u) :=
  (next_neg fun x => h x.1).trans (next_pos h4)

theorem laneRetrainWrite_failed {p l : Nat} {s : State} (h : s.get (Obj.laneState p l) = 5) (hb : bit (s.get (Obj.rxSet p)) l = false) :
    laneRetrainWrite p l s = (modLane p l (fun c => { c with retrain := dPilot })
      (laneChanged p l ((s.put (Obj.laneState p l) 6).put (Obj.laneRetrain p l) 2)), ecOk) := if_pos ⟨h, by simp [hb]⟩

theorem laneRetrainWrite_sound {p l : Nat} {s : State} (h : s.get (Obj.laneState p l) ≠ 5) : laneRetrainWrite p l s = (s, ecStateBusy) := if_neg fun x => h x.1

/-- A lane that has passed its retraining (R110). -/
theorem laneRetrainComplete_passed {port : Fin 3} {lane : Fin 5} {s : State} (h : s.get (Obj.laneState port.val lane.val) = 6)
    (hb : (s.laneCal port.val lane.val).retrain = dBlock) :
    exec (.laneRetrainComplete port lane true) s = .next (
      let p := port.val
      let l := lane.val
      let u0 := modLane p l (fun c => { c with retrain := 0 }) ((s.put (Obj.laneState p l) (if p = 2 then 1 else 3)).put (Obj.failCause p l) 0)
      let u := if u0.get (Obj.laneRetrain p l) = 2 then u0.put (Obj.laneRetrain p l) 1 else u0
      if p ≠ 2 ∧ u.rx p = dActive ∧ laneNum (u.get (Obj.rxSet p)) = 3 then requestSet p (setBit (u.get (Obj.rxSet p)) l true) u else u) :=
  (next_pos h).trans (next_pos ⟨rfl, hb⟩)

theorem laneRetrainComplete_missed {port : Fin 3} {lane : Fin 5} {s : State} (h : s.get (Obj.laneState port.val lane.val) = 6) :
    exec (.laneRetrainComplete port lane false) s = .next (retrainFailed port.val lane.val (s.get (Obj.failCause port.val lane.val)) s) :=
  (next_pos h).trans (next_neg fun x => Bool.false_ne_true x.1)

theorem portRetrainWrite_down {p : Nat} {s : State} (h : s.get (Obj.admin p) = 1 ∨ s.rx p ≠ dActive ∨ s.tx p ≠ dActive) :
    portRetrainWrite p s = ((portRestart p s).put (Obj.retrain p) 1, ecOk) := if_pos h

theorem portRetrainWrite_up {p : Nat} {s : State} (ha : s.get (Obj.admin p) ≠ 1) (hr : s.rx p = dActive) (ht : s.tx p = dActive) :
    portRetrainWrite p s = (s, ecStateBusy) := if_neg fun h => h.elim ha fun h => h.elim (absurd hr) (absurd ht)

theorem sp_portRetrain (r : Req) (p : Fin 3) (v : Nat) (bs : List Byte) (s : State) :
    writeSpecial r (Obj.retrain p.val) v bs s = some (portRetrainWrite p.val s) := (sp_port r p (Obj.retrain p.val) (by simp [Obj.retrain]; omega) v bs s).2.2 rfl

/-- Settles O35: each event by the state of the lane, its set and its direction. -/
theorem laneFailures : Obligations.LaneFailures := by
  intro port lane r s p l set
  have h1 : (1 : Nat) < 256 := by decide
  refine ⟨fun cause a b c hl => (execLaneFail_cause a b hl).trans (next_neg fun x => c x.1), fun hl he => ?_, fun he => ?_, fun cause h => next_pos ?_,
    fun cause h => laneFail_gone h, fun cause k h0 h5 h6 hb hr => ⟨fun hs => ?_, fun hs => ?_⟩, fun new h => requestSet_down h, fun new hp h => requestSet_asked hp h,
    fun b c hl hn h => ⟨fun hp => ?_, fun i hi hp => ?_⟩, rfl, fun hl hp => next_pos ⟨hl, hp⟩, fun h => next_pos h, fun h h4 ha => ?_, fun h h4 => ⟨fun hb => ?_, fun hb => ?_⟩,
    fun h h5 hb => next_eq (writeVal_special h h1 ((sp_lane r port lane 1 _ s).trans (congrArg some (laneRetrainWrite_failed h5 hb)))),
    fun h h5 => next_eq (writeVal_refused h h1 (by decide) ((sp_lane r port lane 1 _ s).trans (congrArg some (laneRetrainWrite_sound h5)))),
    fun h => ⟨laneRetrainComplete_missed h, fun hb => ⟨fun hn => ?_, fun hp hr hn => ?_⟩⟩,
    fun h hd => next_eq (writeVal_special h h1 ((sp_portRetrain r port 1 _ s).trans (congrArg some (portRetrainWrite_down hd)))),
    fun h ha hr ht => next_eq (writeVal_refused h h1 (by decide) ((sp_portRetrain r port 1 _ s).trans (congrArg some (portRetrainWrite_up ha hr ht))))⟩
  · exact (execLaneFail_cause (by decide) (by decide) hl).trans (next_neg fun x => absurd x.2 (Nat.not_le.2 he))
  · by_cases hl : lane.val < laneCount port.val
    · exact (execLaneFail_cause (by decide) (by decide) hl).trans (next_pos ⟨rfl, he⟩)
    · exact next_pos (.inr (.inr (Nat.not_lt.1 hl)))
  · exact h
  · exact (laneFail_inSet h0 h5 h6 hb hr).trans (by rw [hs])
  · exact (laneFail_inSet h0 h5 h6 hb hr).trans (by rw [hs])
  · refine (exec_syncError port b s).trans ((execSyncError_bad hl hn h).trans (next_eq ?_))
    rcases hp with hp | hp
    · rw [hp]
      rfl
    · rw [hp]
      rfl
  · refine (exec_syncError port b s).trans ((execSyncError_bad hl hn h).trans (next_eq ?_))
    rw [hp]
    exact if_neg hi
  · exact (ebbExit_lane h h4).trans (next_pos (by simp [p, l] at ha ⊢; exact ha))
  · exact (ebbExit_lane h h4).trans ((next_neg Bool.false_ne_true).trans (next_neg (by rw [hb]; exact Bool.false_ne_true)))
  · exact (ebbExit_lane h h4).trans ((next_neg Bool.false_ne_true).trans (next_pos hb))
  · refine (laneRetrainComplete_passed h hb).trans (next_neg ?_)
    rintro ⟨a, b, c⟩
    exact hn.elim (absurd · a) fun hn => hn.elim (absurd b) (absurd c)
  · exact (laneRetrainComplete_passed h hb).trans (next_pos ⟨hp, hr, hn⟩)

end Sys2Proof.Laws

/-! SPAN, LANEMAP, EBB and LOOP blocks, test loops and the PRBS controls. -/

namespace Sys2Proof.Laws

open Sys2Proof.Machine

theorem sendBlock_node (p type : Nat) (c : W64) (s : State) : (sendBlock p type c s).node = s.node := by
  unfold sendBlock
  dsimp only
  split
  · rfl
  · rfl

theorem nodeNumber_of_node {s t : State} (h : t.node = s.node) : t.nodeNumber = s.nodeNumber := by
  unfold State.nodeNumber
  rw [h]

theorem applySpan_keep (origin far : Nat) (up : Bool) (s : State) :
    (applySpan origin far up s).node = s.node ∧ (applySpan origin far up s).ring.relayed = s.ring.relayed ∧
      (applySpan origin far up s).ring.spans = s.ring.spans.filter (fun d => !(d.origin == origin && d.far == far)) ++ [⟨origin, far, up, s.tide.beat, up⟩] := by
  cases up <;> exact ⟨rfl, rfl, rfl⟩

/-- A notice relayed from the other port, when that is Active, once, and not its own (R113). -/
def spanRelay (p : Nat) (n : W64) (u : State) : State :=
  if wfld n 48 8 = u.nodeNumber ∨ u.ring.relayed.contains (wfld n 48 8, wfld n 32 4) ∨ u.tx (1 - p) ≠ dActive then u
  else modRing (fun x => { x with relayed := (wfld n 48 8, wfld n 32 4) :: x.relayed }) (sendBlock (1 - p) tySpan n u)

theorem spanRelay_nodeNumber (p : Nat) (n : W64) (u : State) : (spanRelay p n u).nodeNumber = u.nodeNumber := by
  unfold spanRelay
  split
  · rfl
  · exact nodeNumber_of_node (sendBlock_node _ _ _ u)

/-- A notice that does not name this node as its far end: the ring map, and the relay (R113). -/
theorem spanNotice_other (p : Nat) (n : W64) (s : State) (hn : wfld n 40 8 ≠ s.nodeNumber ∨ wfld n 40 8 = 0) :
    let u := (applySpan (wfld n 48 8) (wfld n 40 8) (bit n.toNat 39) s).bump Obj.spanNoticeCnt
    spanNotice p n s = if wfld n 48 8 = s.nodeNumber ∨ s.ring.relayed.contains (wfld n 48 8, wfld n 32 4) ∨ u.tx (1 - p) ≠ dActive then u
      else modRing (fun x => { x with relayed := (wfld n 48 8, wfld n 32 4) :: x.relayed }) (sendBlock (1 - p) tySpan n u) := by
  intro u
  obtain ⟨hnode, hrel, -⟩ := applySpan_keep (wfld n 48 8) (wfld n 40 8) (bit n.toNat 39) s
  have hu : u.nodeNumber = s.nodeNumber := nodeNumber_of_node hnode
  have hr : u.ring.relayed = s.ring.relayed := hrel
  have hv : (spanRelay p n u).nodeNumber = s.nodeNumber := (spanRelay_nodeNumber p n u).trans hu
  have hfar : ¬ (wfld n 40 8 = (spanRelay p n u).nodeNumber ∧ wfld n 40 8 ≠ 0) := by
    rw [hv]
    exact fun h => hn.elim (absurd h.1) h.2
  have he : spanNotice p n s = spanRelay p n u := if_neg hfar
  rw [he]
  unfold spanRelay
  rw [hu, hr]

/-- The hold of a direction that came back long enough ago ends (R117). -/
theorem returnHold_entry (c : Bool) (e : Prop) [Decidable e] (d : SpanDir) :
    ({ d with hold := d.hold && !(c && decide e) } : SpanDir) = if c ∧ e then { d with hold := false } else d := by
  cases c <;> by_cases he : e <;> simp [he]

theorem lanemap_heard {port : Fin 3} {m : W64} {ready : Bool} {s : State} (h : port.val < 2 ∧ s.tx port.val = dActive ∧ s.listens port.val ∧ s.rxOpen port.val) :
    let u := returned port.val [.ctrl tyLanemap m] s
    exec (.lanemapReceive port m ready) s = .next (if blockOk m then
        (if laneNum (wfld m 51 5) < 3 then u
         else modPort port.val (fun x => { x with nextSet := wfld m 51 5, nextLater := !ready }) (wakeLanes port.val ((u.port port.val).txEbb &&& wfld m 51 5) u))
      else badBlock port.val u) := next_pos h

theorem ebbBlock_heard {port : Fin 3} {m : W64} {s : State} (h : s.listens port.val ∧ (dHarbour ≤ s.rx port.val ∧ s.rx port.val ≤ dActive ∨ port.val = 2)) :
    let p := port.val
    let u := returned p [.ctrl tyEbb m] s
    let v := (bitsOf 5 (wfld m 51 5)).foldl (fun s l =>
      let s := modLane p l (fun c => { c with ebbAt := s.tide.clock, retrain := 0 }) s
      if s.get (Obj.laneState p l) = 3 then s.put (Obj.laneState p l) 4 else s) u
    exec (.ebbBlockReceive port m) s = .next (if blockOk m then
        (if v.get (Obj.rxSet p) ≠ 0 ∧ v.get (Obj.rxSet p) &&& wfld m 51 5 = v.get (Obj.rxSet p) then keepSets p (rxLeave p dEbb) v else v)
      else badBlock p u) := next_pos h

theorem loopRequest_heard {port : Fin 3} {m : W64} {s : State} (h : s.listens port.val ∧ dHarbour ≤ s.rx port.val) :
    exec (.loopRequestReceive port m) s = .next (if blockOk m then loopReceive port.val m (returned port.val [.ctrl tyLoop m] s)
      else badBlock port.val (returned port.val [.ctrl tyLoop m] s)) := next_pos h

theorem loopReceive_own {p : Nat} {m : W64} {s : State} (h1 : wfld m 48 8 = s.nodeNumber) (h2 : (s.port p).asked) (h3 : wfld m 38 2 = 1) :
    loopReceive p m s = keepSets p (rxLeave p dLoop) s := if_pos ⟨h1, h2, h3⟩

/-- A LOOP block of another node that names this one (R103). -/
theorem loopReceive_far {p : Nat} {m : W64} {s : State} (h1 : wfld m 48 8 ≠ s.nodeNumber) (h2 : wfld m 40 8 = s.nodeNumber) (h3 : s.nodeNumber ≠ 0) :
    loopReceive p m s = if wfld m 38 2 = 1 ∧ s.get (Obj.farLoopAccept p) = 1 ∧ s.loopAllowed p then
        modPort p (fun x => { x with returning := true }) (keepSets p (txLeave p dLoop) (wakePort p s))
      else if wfld m 38 2 = 2 ∧ (s.port p).returning then loopEnd p s else s := by
  unfold loopReceive
  simp only [if_neg (show ¬ (wfld m 48 8 = s.nodeNumber ∧ (s.port p).asked = true ∧ wfld m 38 2 = 1) from fun h => h1 h.1), h2, h3, ne_eq, not_false_eq_true,
    and_self, true_and]

theorem loopModeWrite_begin {p v : Nat} {s : State} (hv : v = 1 ∨ v = 2) (ha : s.loopAllowed p ∨ p = 2) (h0 : s.get (Obj.loopMode p) = 0) :
    loopModeWrite p v s = (keepSets p (fun s => txLeave p dLoop (rxLeave p dLoop s)) (wakePort p (s.put (Obj.loopMode p) v)), ecOk) := by
  have hclosed : ¬ ((!s.loopAllowed p) = true ∧ p ≠ 2) := fun h => ha.elim (by simpa using h.1) h.2
  unfold loopModeWrite
  dsimp only
  rw [if_neg (by omega), if_neg hclosed, h0, if_neg (by omega), if_neg (by omega), if_neg (by omega), if_neg (by omega), if_neg (by omega)]

theorem loopModeWrite_closed {p v : Nat} {s : State} (hv : v ≤ 3) (ha : s.loopAllowed p = false) (hp : p < 2) : loopModeWrite p v s = (s, ecMode) := by
  unfold loopModeWrite
  dsimp only
  rw [if_neg (by omega), if_pos ⟨by simp [ha], by omega⟩]

/-- A write of `PRBS_CTRL` that leaves the counters (R104). -/
theorem prbsWrite_set {p v : Nat} {s : State} (h3 : v ≤ 3) (h0 : v ≠ 0) : prbsWrite p v s = (wakePort p (s.put (Obj.prbsCtrl p) v), ecOk) := by
  have hm : v % 4 = v := Nat.mod_eq_of_lt (by omega)
  have hb : bit v 2 = false := Nat.testBit_lt_two_pow (by omega)
  unfold prbsWrite
  rw [if_neg (by omega)]
  dsimp only
  rw [hm, if_neg h0, if_neg (by rw [hb]; exact Bool.false_ne_true)]

theorem prbsWrite_clear {p v : Nat} {s : State} (h7 : v ≤ 7) (hb : bit v 2) :
    prbsWrite p v s = ((Machine.lanesOf p).foldl (fun s l => s.put (Obj.prbsErr p l) 0)
      (if v % 4 = 0 then s.put (Obj.prbsCtrl p) (v % 4) else wakePort p (s.put (Obj.prbsCtrl p) (v % 4))), ecOk) := by
  unfold prbsWrite
  rw [if_neg (by omega)]
  dsimp only
  rw [if_pos hb]

theorem sp_loopMode (r : Req) (p : Fin 3) (v : Nat) (bs : List Byte) (s : State) :
    writeSpecial r (Obj.loopMode p.val) v bs s = some (loopModeWrite p.val v s) := (sp_port r p (Obj.loopMode p.val) (by simp [Obj.loopMode]; omega) v bs s).1 rfl

theorem sp_prbs (r : Req) (p : Fin 3) (v : Nat) (bs : List Byte) (s : State) :
    writeSpecial r (Obj.prbsCtrl p.val) v bs s = some (prbsWrite p.val v s) := (sp_port r p (Obj.prbsCtrl p.val) (by simp [Obj.prbsCtrl]; omega) v bs s).2.1 rfl

theorem or_bit (v : BitVec 8) : (v ||| 1).toNat ≠ 0 ∧ (v ||| 2).toNat ≠ 0 ∧ bit (v ||| 4).toNat 2 = true := by
  refine ⟨?_, ?_, ?_⟩
  · have h : 1 ≤ v.toNat ||| 1 := Nat.right_le_or
    rw [BitVec.toNat_or]
    exact Nat.one_le_iff_ne_zero.1 h
  · have h : 2 ≤ v.toNat ||| 2 := Nat.right_le_or
    rw [BitVec.toNat_or]
    exact Nat.ne_of_gt (Nat.lt_of_lt_of_le (by decide : 0 < 2) h)
  · have h : (v.toNat ||| 4).testBit 2 = true := (Nat.testBit_or _ _ _).trans (Bool.or_true _)
    rw [BitVec.toNat_or]
    exact h

/-- Settles O36: each block and control by the state of its port. -/
theorem portControl : Obligations.PortControl := by
  intro port r s p
  refine ⟨fun n hp hl ho => ?_, fun n hn => ?_, fun origin far up => (applySpan_keep origin far up s).2.2, ?_, fun m ready hp ht hl ho => ?_, fun m hl hr => ?_,
    fun m hl hr => ?_, fun m h1 h2 h3 => loopReceive_own h1 h2 h3, fun m h1 h2 h3 => ⟨fun hop ha hl => ?_, fun hop hr => ?_⟩, fun h => next_pos h, fun h => ?_,
    fun v hv h ha h0 => ?_, fun v hv h ha hp => ?_, fun v => ?_, fun v => ?_, fun v => ?_⟩
  · intro u
    exact ⟨fun hb => (next_pos ⟨hp, hl, ho⟩).trans (next_pos hb), fun hb => (next_pos ⟨hp, hl, ho⟩).trans (next_neg (by simp [hb]))⟩
  · intro u key
    refine ⟨fun h => (spanNotice_other p n s hn).trans (if_pos h), fun ha hb hc => (spanNotice_other p n s hn).trans (if_neg ?_)⟩
    rintro (h | h | h)
    · exact ha h
    · exact Bool.false_ne_true (hb.symm.trans h)
    · exact h hc
  · refine next_eq (congrArg (fun l => ({ s with ring := { s.ring with spans := l } } : State)) (List.map_congr_left fun d _ => ?_))
    exact returnHold_entry (s.onSide p d) _ d
  · intro u
    have heard := lanemap_heard (m := m) (ready := ready) ⟨hp, ht, hl, ho⟩
    exact ⟨fun hb hn => heard.trans ((next_pos hb).trans (next_neg (Nat.not_lt.2 hn))), fun hb hn => heard.trans ((next_pos hb).trans (next_pos hn)),
      fun hb => heard.trans (next_neg (by simp [hb]))⟩
  · intro u v
    have heard := ebbBlock_heard (m := m) ⟨hl, hr⟩
    exact ⟨fun hb => heard.trans (next_neg (by simp [hb])), fun hb h0 he => heard.trans ((next_pos hb).trans (next_pos ⟨h0, he⟩)),
      fun hb h => heard.trans ((next_pos hb).trans (next_neg fun x => h.elim x.1 fun h => h x.2))⟩
  · intro u
    exact ⟨fun hb => (loopRequest_heard ⟨hl, hr⟩).trans (next_neg (by simp [hb])), fun hb => (loopRequest_heard ⟨hl, hr⟩).trans (next_pos hb)⟩
  · rw [loopReceive_far h1 h2 h3, if_pos ⟨hop, ha, hl⟩]
  · rw [loopReceive_far h1 h2 h3, if_neg (by omega), if_pos ⟨hop, hr⟩]
  · exact next_neg (by rw [show (s.port port.val).returning = false from h]; exact Bool.false_ne_true)
  · have hv' : v.toNat = 1 ∨ v.toNat = 2 := hv.imp (fun h => by rw [h]; rfl) (fun h => by rw [h]; rfl)
    exact next_eq (writeVal_special h v.isLt ((sp_loopMode r port _ _ s).trans (congrArg some (loopModeWrite_begin hv' ha h0))))
  · exact next_eq (writeVal_refused h v.isLt (by decide) ((sp_loopMode r port _ _ s).trans (congrArg some (loopModeWrite_closed hv ha hp))))
  · intro g hg h
    exact next_eq (writeVal_special h (v ||| 1).isLt ((sp_prbs r port _ _ s).trans (congrArg some (prbsWrite_set hg (or_bit v).1))))
  · intro g hg h
    exact next_eq (writeVal_special h (v ||| 2).isLt ((sp_prbs r port _ _ s).trans (congrArg some (prbsWrite_set hg (or_bit v).2.1))))
  · intro g hg h
    exact next_eq (writeVal_special h (v ||| 4).isLt ((sp_prbs r port _ _ s).trans (congrArg some (prbsWrite_clear hg (or_bit v).2.2))))

end Sys2Proof.Laws

/-! Calibration in live traffic: coefficients, slack water, trials, scans and maps. -/

namespace Sys2Proof.Laws

open Sys2Proof.Machine

/-- Coefficients within the limits of R94. -/
theorem taps_within {a b c : Int} (h : ¬ (a < 0 ∨ 6 < a ∨ b < 16 ∨ 32 < b ∨ c < 0 ∨ 12 < c)) :
    tapPre (tapsOf a.toNat b.toNat c.toNat) = a.toNat ∧ tapMain (tapsOf a.toNat b.toNat c.toNat) = b.toNat ∧ tapPost (tapsOf a.toNat b.toNat c.toNat) = c.toNat :=
  taps_fields _ _ _ (by omega) (by omega) (by omega)

theorem handleReq_facts (taps req : Nat) :
    let x := handleReq taps req
    (x.2 = 1 ∨ x.2 = 2 ∨ x.2 = 3) ∧ (x.2 ≠ 1 → x.1 = taps) ∧
    (x.2 = 1 → tapPre x.1 ≤ 6 ∧ 16 ≤ tapMain x.1 ∧ tapMain x.1 ≤ 32 ∧ tapPost x.1 ≤ 12 ∧ tapPre x.1 + tapMain x.1 + tapPost x.1 ≤ 32) := by
  generalize hx : handleReq taps req = x
  unfold handleReq at hx
  extract_lets base pre main post at hx
  by_cases hlim : pre < 0 ∨ 6 < pre ∨ main < 16 ∨ 32 < main ∨ post < 0 ∨ 12 < post
  · rw [if_pos hlim] at hx
    subst hx
    exact ⟨.inr (.inl rfl), fun _ => rfl, fun h => absurd h (show (2 : Nat) ≠ 1 by decide)⟩
  · rw [if_neg hlim] at hx
    by_cases hsum : 32 < pre + main + post
    · rw [if_pos hsum] at hx
      subst hx
      exact ⟨.inr (.inr rfl), fun _ => rfl, fun h => absurd h (show (3 : Nat) ≠ 1 by decide)⟩
    · rw [if_neg hsum] at hx
      subst hx
      obtain ⟨h1, h2, h3⟩ := taps_within hlim
      refine ⟨.inl rfl, fun h => absurd rfl h, fun _ => ?_⟩
      dsimp only
      rw [h1, h2, h3]
      omega

theorem tapsAfter_within (taps action t : Nat) (h : tapsAfter taps action = some t) : tapPre t ≤ 6 ∧ 16 ≤ tapMain t ∧ tapMain t ≤ 32 ∧ tapPost t ≤ 12 := by
  unfold tapsAfter at h
  extract_lets pre main post at h
  by_cases hlim : pre < 0 ∨ 6 < pre ∨ main < 16 ∨ 32 < main ∨ post < 0 ∨ 12 < post ∨ 32 < pre + main + post
  · rw [if_pos hlim] at h
    exact absurd h (by simp)
  · rw [if_neg hlim] at h
    obtain ⟨h1, h2, h3⟩ := taps_within (a := pre) (b := main) (c := post) (by omega)
    rw [← Option.some.inj h, h1, h2, h3]
    omega

theorem presetTaps_within : ∀ n, n < 8 → let t := presetTaps n
    tapPre t ≤ 6 ∧ 16 ≤ tapMain t ∧ tapMain t ≤ 32 ∧ tapPost t ≤ 12 ∧ tapPre t + tapMain t + tapPost t = 32 := by
  decide

theorem lanesOf_ring {p : Nat} (h : p < 2) : Machine.lanesOf p = [0, 1, 2, 3, 4] := by
  have hp : p = 0 ∨ p = 1 := by omega
  rcases hp with rfl | rfl <;> rfl

/-- The 21 word positions of a ring port (R131). -/
theorem slackWords_ring (s : State) {p : Nat} (off : Nat) (h : p < 2) : ∃ m : List Sym, m.length = 6 ∧
    s.slackWords p off = List.replicate 8 (Sym.ctrl tyIdle 0) ++ ([0, 1, 2, 3, 4].map (fun l => Sym.ctrl tyTapreq (s.reqWord p l 0)) ++
      (m ++ (s.calWords p s.boundaryMoved off).map (Sym.ctrl tyCal))) := by
  refine ⟨((s.calPort p).psteps.take 6).map (Sym.ctrl tyPstep) ++ List.replicate (6 - (((s.calPort p).psteps.take 6).map (Sym.ctrl tyPstep)).length) (.ctrl tyIdle 0), ?_, ?_⟩
  · simp only [List.length_append, List.length_map, List.length_take, List.length_replicate]
    omega
  · unfold State.slackWords
    rw [if_pos h, lanesOf_ring h]
    simp only [List.append_assoc]

theorem slackWords_facts (s : State) {p : Nat} (off : Nat) (h : p < 2) :
    let w := s.slackWords p off
    w.length = 21 ∧ w.take 8 = List.replicate 8 (Sym.ctrl tyIdle 0) ∧
      (w.drop 8).take 5 = [0, 1, 2, 3, 4].map (fun l => Sym.ctrl tyTapreq (s.reqWord p l 0)) ∧
      w.drop 19 = (s.calWords p s.boundaryMoved off).map (Sym.ctrl tyCal) := by
  obtain ⟨m, hm, hw⟩ := slackWords_ring s off h
  have hc : (s.calWords p s.boundaryMoved off).length = 2 := rfl
  dsimp only
  rw [hw]
  refine ⟨?_, rfl, rfl, ?_⟩
  · simp only [List.length_append, List.length_replicate, List.length_map, hm, hc]
    rfl
  · have h13 : (List.replicate 8 (Sym.ctrl tyIdle 0) ++ ([0, 1, 2, 3, 4].map (fun l => Sym.ctrl tyTapreq (s.reqWord p l 0)) ++ m)).length = 19 := by
      simp only [List.length_append, List.length_replicate, List.length_map, hm]
      rfl
    rw [← List.append_assoc _ m, ← List.append_assoc]
    exact List.drop_left' h13

/-- A trial whose request was sent 8 times without an answer, to its change or, by log entry 107, to its revert (R142). -/
theorem trialAnswerTimeout_sent {port : Fin 3} {lane : Fin 5} {s : State} {t : Trial} (h : (s.calPort port.val).trial = some t)
    (hl : t.lane = lane.val) (ha : t.action ≤ 6) (hs : 8 ≤ t.sent) (hst : t.st = .requested ∨ t.st = .reverting) :
    execTrialAnswerTimeout port lane s = .next (if (s.laneCal port.val t.lane).farTaps ≠ t.taps0 then trialApplied port.val t s else abandonTrial port.val s) := by
  unfold execTrialAnswerTimeout
  dsimp only
  rw [h]
  exact next_pos ⟨hl, ha, hs, hst⟩

theorem abandonTrial_some {p : Nat} {s : State} {t : Trial} (h : (s.calPort p).trial = some t) : abandonTrial p s = (endTrial p s).bump (Obj.calAbandonCnt p) :=
  if_pos (by rw [h]; rfl)

/-- Settles O37: each event by its lane's trial, scan or map (a missing answer to a revert: log entry 107). -/
theorem laneCalibration : Obligations.LaneCalibration := by
  refine ⟨⟨handleReq_facts, presetTaps_within, tapsAfter_within⟩, fun port lane s => ?_⟩
  intro p l
  refine ⟨fun txOff => ⟨fun h => next_pos h, fun h => next_neg h⟩, fun off hp => slackWords_facts s off hp, fun idles taps steps calRef calRep => ?_,
    fun t h hl ha hs hst => ⟨fun hf => ?_, fun hf => ?_⟩, fun mid left right down up hm ha => next_pos ⟨hm, ?_⟩, fun mid left right down up h => next_neg ?_,
    fun left right down up => rfl, fun points hm ha => ⟨_, next_pos ⟨hm, ha⟩, ?_, rfl, rfl, rfl⟩, fun up down hm hf => next_pos ⟨hm, ?_⟩, fun up down hf => next_neg ?_⟩
  · intro u
    refine ⟨fun hl ho => next_pos ⟨hl, ho⟩, fun h => next_neg ?_⟩
    rintro ⟨a, b⟩
    exact h.elim (fun h => Bool.false_ne_true (h.symm.trans a)) fun h => Bool.false_ne_true (h.symm.trans b)
  · refine (exec_trialAnswerTimeout port lane s).trans ((trialAnswerTimeout_sent h hl ha hs hst).trans (next_pos ?_))
    rw [hl]
    exact hf
  · refine (exec_trialAnswerTimeout port lane s).trans ((trialAnswerTimeout_sent h hl ha hs hst).trans ((next_neg ?_).trans (next_eq (abandonTrial_some h))))
    rw [hl]
    exact not_not_intro hf
  · exact (congrArg (!·) ha :)
  · rintro ⟨a, b⟩
    rcases h with h | h
    · exact Bool.false_ne_true (h.symm.trans a)
    · exact Bool.false_ne_true ((congrArg (!·) h : _).symm.trans b)
  · exact (List.length_map _).trans List.length_range
  · exact (congrArg (!·) hf :)
  · rintro ⟨a, b⟩
    exact Bool.false_ne_true ((congrArg (!·) hf : _).symm.trans b)

end Sys2Proof.Laws


/-! Surveys of the spans, and the frames that arrive on a port. -/

namespace Sys2Proof.Laws

open Sys2Proof.Machine

theorem all_clean {ws : List PWord} (h : ∀ w ∈ ws, w.p = false) : ws.all (fun w => !w.p) := by
  refine List.all_eq_true.2 fun w hw => ?_
  rw [h w hw, Bool.not_false]

/-- With a survey missing the computation is frozen and nothing is moved (R151). -/
theorem asymCompute_missing (s : State)
    (h : ((s.mapNodes.map (s.surveyFor ((s.tide.tick / 64 - 1) % 16))).filterMap id).length ≠ s.mapNodes.length) :
    asymCompute s = ((((s.put Obj.asymWindow (s.tide.tick / 64 - 1)).bump Obj.asymFrozenCnt).put (Obj.asymState 0) 2).put (Obj.asymState 1) 2) := by
  unfold asymCompute asymState
  dsimp only
  rw [if_neg h, if_pos (.inr (.inl (by rw [decide_eq_false h]; rfl))), if_neg (fun c => h c.1)]

theorem execAsymSurveyReceive_taken {s t : State} {j : Job} {f : Frame} (hj : s.mgmtNext 0xFD = some j) (hf : localFrame j s = (some f, t))
    (hl : f.pay.length = 2) (hp : ∀ w ∈ f.pay, w.p = false) : execAsymSurveyReceive s = .next (asymSurveyTake f t) := by
  unfold execAsymSurveyReceive
  simp only [hj, hf]
  rw [if_pos ⟨hl, all_clean hp⟩]

theorem execSurveyNoticeReceive_taken {s t : State} {j : Job} {f : Frame} (hj : s.mgmtNext 0xFE = some j) (hf : localFrame j s = (some f, t))
    (hl : f.pay.length = 1) (hp : ∀ w ∈ f.pay, w.p = false) : execSurveyNoticeReceive s = .next (keepNode (Frame.word f 0) t) := by
  unfold execSurveyNoticeReceive
  simp only [hj, hf]
  rw [if_pos ⟨hl, all_clean hp⟩]

/-- Settles O38: each event acts at its tick, and a frozen computation only notes its window. -/
theorem spanSurveys : Obligations.SpanSurveys := by
  intro s
  refine ⟨fun port hp h0 h64 => next_pos ⟨hp, h0, h64⟩, fun h4 h1 h65 hroom => next_pos ⟨h4, h1, h65, hroom⟩, fun v => rfl,
    fun h8 h72 => next_pos ⟨h8, h72⟩, asymCompute_missing s, fun j f t hj hf hl hp => ?_,
    fun h4 hn hroom hc => next_pos ⟨h4, hn, hroom, hc⟩, fun heq hlt => next_neg fun h => ?_, fun j f t hj hf hl hp => ?_, fun node => rfl⟩
  · exact (exec_asymSurveyReceive s).trans (execAsymSurveyReceive_taken hj hf hl hp)
  · obtain ⟨-, -, -, hc⟩ := h
    exact hc.elim (absurd heq) (Nat.not_le.2 hlt)
  · exact (exec_surveyNoticeReceive s).trans (execSurveyNoticeReceive_taken hj hf hl hp)

/-- A node that is none of this pair is not the twin. -/
theorem ne_twinNumber_of_not_inPair {s : State} {d : Nat} (hn : d ≠ s.nodeNumber) (h : s.inPair d = false) : d ≠ s.twinNumber := by
  unfold State.inPair State.nodeNumber State.twinNumber at *
  by_cases hp : s.node.pair = 0
  · rw [if_pos hp] at hn ⊢
    exact hn
  · rw [if_neg hp] at *
    intro ht
    simp [ht] at h
    omega

/-- A unicast frame from a ring port for another pair (R166). -/
theorem route_otherPair {s : State} {p : Nat} {h : W64} (hp : p < 2) (hb : hDnode h ≠ 255) (hn : hDnode h ≠ s.nodeNumber)
    (hi : s.inPair (hDnode h) = false) : s.route p h = ⟨[1 - p], false, none⟩ := by
  unfold State.route
  dsimp only
  rw [if_neg hb, if_neg (fun c => hn c.1), if_neg (fun c => Bool.false_ne_true (hi.symm.trans c.1)),
    if_neg (fun c => ne_twinNumber_of_not_inPair hn hi c.1), if_neg (by omega : ¬ p = 2)]

/-- A broadcast from a ring port that this node does not consume (R166). -/
theorem route_broadcast {s : State} {p : Nat} {h : W64} (hp : p < 2) (hb : hDnode h = 255) (hc : s.consumes h = false) (hw : s.workingChip) :
    s.route p h = ⟨[1 - p], true, none⟩ := by
  have ho : ¬ (p = 2 ∨ s.consumes h) := fun c => c.elim (by omega) (fun c => Bool.false_ne_true (hc.symm.trans c))
  unfold State.route
  dsimp only
  rw [if_pos hb, if_neg ho, hw]
  rfl

/-- A chip-addressed frame for this node (R166). -/
theorem route_chip {s : State} {p : Nat} {h : W64} (hd : hDnode h = s.nodeNumber) (hb : s.nodeNumber ≠ 255) (hc : chipPort (hDport h)) :
    s.route p h = ⟨[], true, none⟩ := by
  unfold State.route
  dsimp only
  rw [if_neg (fun c => hb (hd.symm.trans c)), if_pos ⟨hd, hc⟩]

/-- A pair-addressed frame for this pair from the twin's side, at a chip that is not Working (R166). -/
theorem route_notWorking {s : State} {p : Nat} {h : W64} (hb : hDnode h ≠ 255) (hc : chipPort (hDport h) = false) (hi : s.inPair (hDnode h))
    (hp : pairPort (hDport h)) (hw : s.workingChip = false) (hs : p = 2 ∨ p = s.twinSide) : s.route p h = ⟨[], false, some bsNotWorking⟩ := by
  unfold State.route
  dsimp only
  rw [if_neg hb, if_neg (fun c => Bool.false_ne_true (hc.symm.trans c.2)), if_pos ⟨hi, hp⟩, if_neg (by simp [hw]), if_pos hs]

theorem words_cons (f : Frame) : ∃ w t, Frame.words f = w :: t ∧ w.p = false ∧ beginsFrame w ∧ w.data = f.hdr := ⟨_, _, rfl, rfl, rfl, rfl⟩

/-- A whole frame with a good header and the length it names is counted and routed as it stands (R164, R165). -/
theorem ringReceive_whole {p : Nat} {f : Frame} (s : State) (hh : hdrOk f.hdr) (hl : hLen f.hdr = f.pay.length)
    (ht : ¬ (p = 2 ∧ hClass f.hdr = 2 ∧ hDport f.hdr = 0xFB)) :
    ringReceive p (Frame.words f) s = routeFrame p f.hdr (Frame.words f) ((tagErrors p (Frame.words f) s).bump (Obj.framesInCnt p)) := by
  obtain ⟨w, t, hws, hp, hb, hdata⟩ := words_cons f
  have hc := words_clean f
  have hd := delimit_words f hl
  rw [hws] at hc hd ⊢
  unfold ringReceive
  rw [hc]
  dsimp only
  rw [hdata, if_neg (by simp [hp, hb, hh]), if_neg ht, hd]
  rfl

/-- A first word that is poisoned, begins no frame or has a bad header costs the frame (R164). -/
theorem ringReceive_bad {p : Nat} {w : Cargo} {t : List Cargo} (s : State) (hv : w.v)
    (hw : w.p ∨ 8 < w.bytes.toNat ∨ beginsFrame w = false ∨ hdrOk w.data = false) :
    ringReceive p (w :: t) s = countDiscard 2 p (tagErrors p (w :: t) s) := by
  have hpv : (portWord w).v = true := by unfold portWord; split <;> exact hv
  have hbad : (portWord w).p ∨ !beginsFrame (portWord w) ∨ !hdrOk (portWord w).data := by
    unfold portWord
    split
    · exact .inl rfl
    · next hb => exact hw.imp_right fun h => (h.resolve_left hb).imp (by simp [·]) (by simp [·])
  unfold ringReceive
  rw [List.map_cons, List.filter_cons_of_pos hpv]
  exact if_pos hbad

/-- Settles O39: a port that listens takes the words, and the rules of a route exclude each other in their order (a Working chip in Reduced draught
too, log entry 36). -/
theorem framesArrive : Obligations.FramesArrive := by
  intro port s p
  refine ⟨fun f hl ho => next_pos ⟨hl, ho⟩, fun f h => next_neg fun c => ?_, fun f hh hl ht => ringReceive_whole s hh hl ht,
    fun w t hv hw => ringReceive_bad s hv hw, fun w hl ho hv hb => next_pos ⟨hl, ho, hv, by rw [hb]; rfl⟩, fun h hp hb hn hi => ?_,
    fun h hp hb hc hw => route_broadcast hp hb hc hw, fun h hd hb hc => route_chip hd hb hc,
    fun h hb hc hi hp hw hs => route_notWorking hb hc hi hp hw hs⟩
  · obtain ⟨hl, ho⟩ := c
    exact h.elim (fun h => Bool.false_ne_true (h.symm.trans hl)) (fun h => Bool.false_ne_true (h.symm.trans ho))
  · have hr := route_otherPair hp hb hn hi
    rw [hr]
    have hout : 1 - p < 2 := by omega
    refine ⟨rfl, fun hs ht => ⟨?_, if_pos ⟨hp, hs, by simp [hout]⟩⟩, fun hs ht => ?_⟩
    · simp [State.ttlOut, hout, ht]
    · simp [State.ttlOut, hout, ht, hp, hs]

end Sys2Proof.Laws


/-! Outputs, credit words, stalls, linger and the peaks. -/

namespace Sys2Proof.Laws

open Sys2Proof.Machine

theorem returned_hold (p : Nat) (ys : List Sym) (s : State) : (returned p ys s).hold = s.hold := by
  unfold returned
  split <;> rfl

theorem returned_len (p : Nat) (ys : List Sym) (s : State) : (returned p ys s).ring.ports.length = s.ring.ports.length := by
  unfold returned
  split
  · exact modPort_len p _ s
  · rfl

/-- What a port sends back is no part of its credit. -/
theorem returned_port {α : Type} (f : Port → α) (hf : ∀ (q : Port) ys, f { q with looped := q.looped ++ ys } = f q) (p : Nat) (ys : List Sym) (s : State)
    (h : p < s.ring.ports.length) : f ((returned p ys s).port p) = f (s.port p) := by
  unfold returned
  split
  · unfold turnBack
    rw [modPort_port p _ s h, hf]
  · rfl

/-- A credit word taken on port p (R179). -/
def creditTaken (p : Nat) (w : W64) (s : State) : State :=
  (modPort p (fun q =>
    let go := q.fresh || q.lastEpoch != wfld w 50 2
    { q with farLimit := wfld w 40 10, farFreed := wfld w 0 16, fresh := go, lastEpoch := if go then wfld w 50 2 else q.lastEpoch }) s).put
    (Obj.farLimit p) (wfld w 40 10)

theorem creditTaken_port {p : Nat} (w : W64) {s : State} (h : p < s.ring.ports.length) :
    ((creditTaken p w s).port p).farLimit = wfld w 40 10 ∧ ((creditTaken p w s).port p).farFreed = wfld w 0 16 ∧
      ((creditTaken p w s).port p).fresh = ((s.port p).fresh || (s.port p).lastEpoch != wfld w 50 2) := by
  unfold creditTaken
  rw [port_of_put, modPort_port p _ s h]
  exact ⟨rfl, rfl, rfl⟩

/-- The end of a stall by the credit that has come, before the output returns (R183). -/
def creditSettled (p : Nat) (u : State) : State :=
  if (u.port p).fresh ∧ ((u.port p).stalled ∧ (u.port p).need ≤ u.creditOf p ∨ u.hasCredit p) then
    modPort p (fun q => { q with stalled := false, starved := 0 }) u
  else u

theorem creditSettled_eq (p : Nat) (u : State) :
    creditSettled p u = u ∨ creditSettled p u = modPort p (fun q => { q with stalled := false, starved := 0 }) u := by
  unfold creditSettled
  split
  · exact .inr rfl
  · exact .inl rfl

theorem creditSettled_hold (p : Nat) (u : State) : (creditSettled p u).hold = u.hold := by
  unfold creditSettled
  split <;> rfl

theorem creditReceive_good {p : Nat} {w : W64} (s : State) (h0 : w ≠ 0) (hb : blockOk w) (hv : wfld w 52 4 = 1) :
    creditReceive p w s = outputReturn p (creditSettled p (creditTaken p w s)) := by
  unfold creditReceive creditSettled creditTaken
  rw [if_neg h0, if_neg (by simp [hb]), if_neg (not_not_intro hv)]

theorem creditReceive_bad {p : Nat} {w : W64} (s : State) (h0 : w ≠ 0) (hb : blockOk w = false) : creditReceive p w s = s.bump (Obj.controlErrCnt p) := by
  unfold creditReceive
  rw [if_neg h0, if_pos (by simp [hb])]
  rfl

/-- What a good credit word leaves at its port: the settling of a stall and the return of the output touch none of it. -/
theorem creditReceive_port {p : Nat} {w : W64} {s : State} (h0 : w ≠ 0) (hb : blockOk w) (hv : wfld w 52 4 = 1) (hp : p < s.ring.ports.length) :
    let t := creditReceive p w s
    (t.port p).farLimit = wfld w 40 10 ∧ (t.port p).farFreed = wfld w 0 16 ∧
      (t.port p).fresh = ((s.port p).fresh || (s.port p).lastEpoch != wfld w 50 2) ∧ t.hold = s.hold := by
  intro t
  have ht : t = outputReturn p (creditSettled p (creditTaken p w s)) := creditReceive_good s h0 hb hv
  have hlen : p < (creditTaken p w s).ring.ports.length := lt_of_lt_of_eq hp (modPort_len p _ s).symm
  have hs := creditSettled_eq p (creditTaken p w s)
  obtain ⟨hlim, hfreed, hfresh⟩ := creditTaken_port w hp
  rw [ht]
  refine ⟨(settled_port (·.farLimit) (fun _ => rfl) p _ _ hlen hs).trans hlim, (settled_port (·.farFreed) (fun _ => rfl) p _ _ hlen hs).trans hfreed,
    (settled_port (·.fresh) (fun _ => rfl) p _ _ hlen hs).trans hfresh, ?_⟩
  rw [outputReturn_hold, creditSettled_hold]
  rfl

theorem outputStart_job {p : Nat} {async : Bool} {room : Nat} {s : State} {j : Job} (hup : (schedGo s).txUp p)
    (ho : (schedGo s).get (Obj.outState p) = 0) (hl : (schedGo s).faults.lanesIdle = false)
    (hj : ((schedGo s).turns p).find? ((schedGo s).mayStart p async room) = some j) :
    outputStart p async room s = if (schedGo s).manifestStale j then promote (discardJob 4 j (schedGo s)) else startFrame p j (schedGo s) := by
  unfold outputStart
  dsimp only
  rw [if_pos ⟨hup, ho, by rw [hl]; rfl⟩]
  simp only [hj]

theorem lingerTicks_ne : ∀ p : Fin 3, Obj.lingerTicks.key ≠ (Obj.outState p.val).key ∧ Obj.lingerTicks.key ≠ (Obj.lingerCnt p.val).key := by decide

/-- With a linger time an output that goes down keeps its frames (R184). -/
theorem outputDown_lingers {p : Fin 3} {s : State} (hk : keysFrom 0 s.objs) (ho : s.get (Obj.outState p.val) = 0) (hl : s.get Obj.lingerTicks ≠ 0) :
    outputDown p.val s = modPort p.val (fun q => { q with linger := s.get Obj.lingerTicks })
      ((s.put (Obj.outState p.val) 1).bump (Obj.lingerCnt p.val)) := by
  obtain ⟨h1, h2⟩ := lingerTicks_ne p
  obtain ⟨ha, hka⟩ := get_put_far s (Obj.outState p.val) Obj.lingerTicks 1 hk h1
  have hb : ((s.put (Obj.outState p.val) 1).bump (Obj.lingerCnt p.val)).get Obj.lingerTicks = s.get Obj.lingerTicks :=
    (get_put_ne _ _ _ _ hka h2).trans ha
  have hc : (modPort p.val (fun q => { q with linger := s.get Obj.lingerTicks })
      ((s.put (Obj.outState p.val) 1).bump (Obj.lingerCnt p.val))).get Obj.lingerTicks ≠ 0 := fun h => hl (hb.symm.trans h)
  unfold outputDown
  rw [if_pos ho]
  dsimp only
  rw [hb, if_neg hc]

theorem readObj_reseqPeak (out : Fin 8) (s : State) :
    readObj (Obj.reseqPeak out.val) s = (bytesOf 1 (s.get (Obj.reseqPeak out.val)), s.put (Obj.reseqPeak out.val) 0) := by
  have hne : Obj.reseqPeak out.val ≠ Obj.sharedPeak := by revert out; decide
  have hix : 0x3010 ≤ (Obj.reseqPeak out.val).idx ∧ (Obj.reseqPeak out.val).idx < 0x3018 ∧ (Obj.reseqPeak out.val).sub = 0x0D := by revert out; decide
  unfold readObj
  dsimp only
  rw [if_neg hne, if_pos hix]
  rfl

/-- Settles O40: an output takes the first frame that may start, and what settles a credit word leaves the credit it brought. -/
theorem outputsAndCredit : Obligations.OutputsAndCredit := by
  intro port r s p
  refine ⟨fun async room j => ?_, fun w hl ho h0 hb => (next_pos ⟨hl, ho⟩).trans (congrArg _ (creditReceive_bad _ h0 hb)),
    fun w hl ho h0 hb hv hlen => ⟨_, next_pos ⟨hl, ho⟩, ?_⟩, fun ht hl hf => next_pos ⟨ht, by rw [hl]; rfl, hf⟩,
    fun hu ho hs hst => next_pos ⟨hu, ho, by rw [hs]; rfl, hst⟩, fun q w ho hl => outputDown_lingers w.objs ho hl,
    fun ho hl => (next_pos ⟨ho, hl⟩).trans (congrArg _ (if_pos ho)), fun h => next_eq (readVal_ok h), fun out => ?_⟩
  · intro u hup ho hl hj
    have h := outputStart_job hup ho hl hj
    exact ⟨fun hs => next_eq (h.trans (if_neg (by rw [hs]; exact Bool.false_ne_true))), fun hs => next_eq (h.trans (if_pos hs))⟩
  · have hp : p < s.ring.ports.length := lt_of_lt_of_eq port.isLt hlen.symm
    have hp' : p < (returned p [.ctrl tyIdle w] s).ring.ports.length := lt_of_lt_of_eq hp (returned_len p _ s).symm
    obtain ⟨hlim, hfreed, hfresh, hhold⟩ := creditReceive_port h0 hb hv hp'
    rw [returned_port (·.fresh) (fun _ _ => rfl) p _ s hp, returned_port (·.lastEpoch) (fun _ _ => rfl) p _ s hp] at hfresh
    refine ⟨hlim, hfreed, ?_, hhold.trans (returned_hold p _ s)⟩
    rw [hfresh]
    simp
  · intro o h
    exact next_eq ((readVal_ok h).trans (by rw [readObj_reseqPeak]))

end Sys2Proof.Laws


/-! The bridge as an origin: posted writes and requests issued, answers, timeouts and aborts. -/

namespace Sys2Proof.Laws

open Sys2Proof.Machine

/-- The first frame of a posted write of the core decides for all of them. -/
theorem posted_first (addr : W64) (words : List W64) (ack : Bool) (s : State) :
    ∃ r ∈ postedFrames addr words ack .core s.bridge.nextXfer, r.dport = aSpace addr ∧ r.src = .core ∧ r.xid = s.bridge.nextXfer ∧
      exec (.postedWriteIssue addr words ack) s = .next (if s.issueCode r ≠ bsOk then refuseIssue (s.issueCode r) r (beginXfer (!ack) s)
        else if s.roomForAll (postedFrames addr words ack .core s.bridge.nextXfer) then
          acceptPosted ack (postedFrames addr words ack .core s.bridge.nextXfer) s else s) := by
  obtain ⟨r, t, hl⟩ := posted_cons addr words ack s.bridge.nextXfer
  have hmem : r ∈ postedFrames addr words ack .core s.bridge.nextXfer := by rw [hl]; exact List.mem_cons_self
  obtain ⟨hport, -, -, -, -, hsrc, hid⟩ := posted_mem addr words ack _ r hmem
  refine ⟨r, hmem, hport, hsrc, hid, ?_⟩
  rw [exec_posted addr words ack s r t hl, hl]

theorem execRequestIssue_eq (op size : BitVec 4) (count : BitVec 8) (addr : W64) (words : List W64) (s : State) :
    let r : LocalReq := ⟨7, 2, false, aNode addr, aSpace addr,
        pw (cmdWord op.toNat size.toNat count.toNat 0 0 0 0 0) :: pw addr :: words.map pw, .core, s.bridge.nextXfer, none, false, false⟩
    exec (.requestIssue op size count addr words) s = .next (if s.issueCode r ≠ bsOk then refuseIssue (s.issueCode r) r (beginXfer false s)
      else sendOrWait r (beginXfer false s)) := rfl

/-- A class 10 frame with room and a free tag goes out with the lowest of them (R222). -/
theorem sendOrWait_tagged {r : LocalReq} {s : State} {tag : Nat} (hc : r.cls = 2) (hr : s.roomFor r) (ht : s.freeTag = some tag)
    (hw : s.bridge.reqWait = []) :
    sendOrWait r s = modBridge (fun b => { b with
      tags := b.tags.set tag ⟨.waiting, r.dnode, r.dport, (sendLocal (withTag tag r) s).1, 2, false, r.src, r.xid, r.mdest.isSome, s.tide.beat⟩ })
      (sendLocal (withTag tag r) s).2 := by
  have htag : LocalReq.tagged r = true := by simp [LocalReq.tagged, hc]
  unfold sendOrWait trySend
  simp only [hw, List.isEmpty_nil, if_true, hr, htag, ht, hc, Bool.not_true, Bool.false_eq_true, if_false]
  rfl

theorem trySend_noTag {r : LocalReq} {s : State} (hc : r.cls = 2 ∨ r.ack) (ht : s.freeTag = none) : trySend r s = none := by
  have htag : LocalReq.tagged r = true := by
    unfold LocalReq.tagged
    exact hc.elim (by simp +contextual) (by simp +contextual)
  unfold trySend
  simp only [htag, ht, Bool.not_true, Bool.false_eq_true, if_false, ite_self]

/-- Without a free tag a frame that needs one waits last (R222). -/
theorem sendOrWait_noTag {r : LocalReq} {s : State} (hc : r.cls = 2 ∨ r.ack) (ht : s.freeTag = none) :
    sendOrWait r s = modBridge (fun b => { b with reqWait := b.reqWait ++ [r] }) s := by
  unfold sendOrWait
  rw [trySend_noTag hc ht, ite_self]

theorem execTagWaitResume_cons {s : State} {r : LocalReq} {t : List LocalReq} (h : s.bridge.reqWait = r :: t) :
    execTagWaitResume s = .next ((trySend r (modBridge (fun b => { b with reqWait := t }) s)).getD s) := by
  unfold execTagWaitResume
  rw [h]

theorem execTagWaitResume_nil {s : State} (h : s.bridge.reqWait = []) : execTagWaitResume s = .next s := by
  unfold execTagWaitResume
  rw [h]

/-- Settles O41: the first frame of a posted write names its space and path for all of them; without room for the whole of it nothing changes
(log entry 68). -/
theorem bridgeIssues : Obligations.BridgeIssues := by
  intro addr words s n
  refine ⟨fun ack => ?_, fun op size count => ?_, fun r tag hc hr ht hw => sendOrWait_tagged hc hr ht hw, fun r hc ht => sendOrWait_noTag hc ht,
    fun r t u hw hs => ?_, fun r t hw hs => ?_, fun hw => (exec_tagWaitResume s).trans (execTagWaitResume_nil hw)⟩
  · intro l v
    obtain ⟨r, hmem, hport, hsrc, hid, hexec⟩ := posted_first addr words ack s
    refine ⟨fun hx => ?_, fun hx hp => ?_, fun hx hp hroom => ?_, fun hx hp hroom => ?_, ⟨rfl, rfl⟩, fun r hr => ?_⟩
    · rw [hexec, issue_space s r (by rw [hport]; exact hx), if_pos (by decide), refuse_space _ r hsrc, hid]
    · rw [hexec, issue_unreach s r (by rw [hport]; exact hx) (hp r hmem), if_pos (by decide), refuse_unreach _ r hsrc, hid]
    · rw [hexec, issue_ok s r (by rw [hport]; exact hx) (hp r hmem), if_neg (not_not_intro rfl), if_pos hroom]
      rfl
    · rw [hexec, issue_ok s r (by rw [hport]; exact hx) (hp r hmem), if_neg (not_not_intro rfl),
        if_neg (fun c => Bool.false_ne_true (hroom.symm.trans c))]
    · obtain ⟨hport, hnode, hcls, hack, hlen, -, -⟩ := posted_mem addr words ack n r hr
      exact ⟨hport, hnode, hcls, hack, hlen⟩
  · intro r v
    have hexec := execRequestIssue_eq op size count addr words s
    refine ⟨fun hx => ?_, fun hx hp => ?_, fun hx hp => ?_⟩
    · rw [hexec, issue_space s _ hx, if_pos (by decide), refuse_space _ _ rfl]
    · rw [hexec, issue_unreach s _ hx hp, if_pos (by decide), refuse_unreach _ _ rfl]
    · rw [hexec, issue_ok s _ hx hp, if_neg (not_not_intro rfl)]
  · rw [exec_tagWaitResume, execTagWaitResume_cons hw, hs, Option.getD_some]
  · rw [exec_tagWaitResume, execTagWaitResume_cons hw, hs, Option.getD_none]

theorem nextResponse_taken {op : Nat} {s t : State} {j : Job} {f : Frame} (hj : s.localNext 7 (Job.forBridge (fun _ w => cOp w == op)) = some j)
    (hf : localFrame j s = (some f, t)) : nextResponse op s = takeResponse f t := by
  unfold nextResponse
  simp only [hj, hf]

/-- A response that answers a waiting tag of a source that still listens. -/
theorem takeResponse_tag {f : Frame} {t : State} {i : Nat} (hp : (f.pay.getD 0 ⟨0, true⟩).p = false) (hi : t.tagFor .waiting f = some i)
    (hm : (t.bridge.tags.getD i Tag.zero).msg = false) :
    takeResponse f t = tellResponse (t.bridge.tags.getD i Tag.zero).src (t.bridge.tags.getD i Tag.zero).xid f
      (setTag i Tag.zero (if cStatus (Frame.word f 0) = bsOk then t else t.bump Obj.refusedOutCnt)) := by
  unfold takeResponse
  dsimp only
  rw [if_neg (by rw [hp]; exact Bool.false_ne_true)]
  simp only [hi]
  rw [if_neg (by rw [hm]; exact Bool.false_ne_true)]

theorem takeResponse_late {f : Frame} {t : State} (hp : (f.pay.getD 0 ⟨0, true⟩).p = false) (hi : t.tagFor .waiting f = none)
    (hc : cRcls (Frame.word f 0) = 2) : takeResponse f t = t.bump Obj.lateResponseCnt := by
  unfold takeResponse
  dsimp only
  rw [if_neg (by rw [hp]; exact Bool.false_ne_true)]
  simp only [hi]
  rw [if_neg (fun c => by omega)]

theorem execTransferAbort_some {s : State} {y : Xfer} (h : s.bridge.xfers.find? (fun x => !x.aborted) = some y) :
    execTransferAbort s = .next (if 0 < s.unsentOf y.id then abortTransfer y s else abortLate y s) := by
  unfold execTransferAbort
  rw [h]

theorem execTransferAbort_none {s : State} (h : s.bridge.xfers.find? (fun x => !x.aborted) = none) : execTransferAbort s = .next s := by
  unfold execTransferAbort
  rw [h]

theorem responsesGo_response {s : State} {r : LocalReq} {t : List LocalReq} (hw : s.bridge.respWait = r :: t) (hr : s.roomFor r) :
    responsesGo s = (sendLocal r (modBridge (fun b => { b with respWait := t }) s)).2 := by
  unfold responsesGo
  rw [hw]
  exact if_pos hr

theorem responsesGo_refusal {s : State} {r : LocalReq} {t : List LocalReq} (hn : s.bridge.respWait = []) (hw : s.bridge.refusals = r :: t)
    (hr : s.roomFor r) : responsesGo s = (sendLocal r (modBridge (fun b => { b with refusals := t }) s)).2 := by
  unfold responsesGo
  rw [hn, hw]
  exact if_pos hr

/-- Settles O42: a response acts on the tag that it answers, each that is not OK counted (log entry 67), and a tag's times act at their tick. -/
theorem bridgeAnswers : Obligations.BridgeAnswers := by
  intro tag s x
  refine ⟨fun c op j f t hc hj hf hp => ?_, fun hu hl ht hm => ?_, fun hu hl ht hm => ?_, fun hu ht => next_pos ⟨hu, ht⟩, fun y hy => ?_,
    fun h => (exec_transferAbort s).trans (execTransferAbort_none h), fun r t hw hr => next_eq (responsesGo_response hw hr),
    fun r t hn hw hr => next_eq (responsesGo_refusal hn hw hr)⟩
  · have hexec : exec c s = .next (takeResponse f t) := by
      rcases hc with ⟨rfl, rfl⟩ | ⟨rfl, rfl⟩
      · exact (exec_readResponseReceive s).trans (congrArg _ (nextResponse_taken hj hf))
      · exact (exec_writeResponseReceive s).trans (congrArg _ (nextResponse_taken hj hf))
    refine ⟨fun i hi hs hm => ?_, fun i hi hs hm => ?_, fun hi hcl => ?_⟩
    · rw [hexec, takeResponse_tag hp hi hm, if_pos hs]
    · rw [hexec, takeResponse_tag hp hi hm, if_neg hs]
    · rw [hexec, takeResponse_late hp hi hcl]
  · exact (next_pos ⟨hu, hl, ht⟩).trans (congrArg _ (if_neg (by rw [show x.msg = false from hm]; exact Bool.false_ne_true)))
  · exact (next_pos ⟨hu, hl, ht⟩).trans (congrArg _ (if_pos hm))
  · have he := (exec_transferAbort s).trans (execTransferAbort_some hy)
    refine ⟨fun h => ⟨_, he.trans (congrArg _ (if_pos (Nat.pos_of_ne_zero h))), rfl, rfl, rfl⟩, fun h => ?_⟩
    exact he.trans (congrArg _ (if_neg (by rw [h]; exact Nat.lt_irrefl 0)))

end Sys2Proof.Laws


/-! The bridge as a target: requests served, posted writes, and prefetch. -/

namespace Sys2Proof.Laws

open Sys2Proof.Machine

theorem takeRequest_taken {q : Fin 5} {test : W64 → W64 → Bool} {s t : State} {j : Job} {f : Frame}
    (hj : s.localNext (3 + q.val) (Job.forBridge test) = some j) (hf : localFrame j s = (some f, t)) :
    takeRequest q test s = serveRequest j.input f t := by
  unfold takeRequest
  simp only [hj, hf]

theorem takeRequest_none {q : Fin 5} {test : W64 → W64 → Bool} {s : State} (hj : s.localNext (3 + q.val) (Job.forBridge test) = none) :
    takeRequest q test s = s := by
  unfold takeRequest
  rw [hj]

/-- The three commands take a request each by their test. -/
theorem exec_takeRequest {q : Fin 5} {c : Instr} {test : W64 → W64 → Bool} (s : State)
    (h : (c = .readRequestReceive q ∧ test = fun h w => !badOp h w && isReadOp (cOp w)) ∨
      (c = .writeRequestReceive q ∧ test = fun h w => !badOp h w && !isReadOp (cOp w)) ∨
      (c = .badOpRequest q ∧ test = fun h w => badOp h w && !isRespOp (cOp w))) : exec c s = .next (takeRequest q test s) := by
  rcases h with ⟨rfl, rfl⟩ | ⟨rfl, rfl⟩ | ⟨rfl, rfl⟩
  · rfl
  · rfl
  · rfl

/-- A request with its command and address words, none of them poisoned, by the checks of R209. -/
theorem serveRequest_whole {input : Nat} {f : Frame} {c a : PWord} {rest : List PWord} (s : State) (hpay : f.pay = c :: a :: rest) (hc : c.p = false)
    (ha : a.p = false) (ho : ¬ (cOp c.data = 8 ∧ (rest.getD 0 ⟨0, false⟩).p)) (hd : hDnode f.hdr ≠ 255) :
    serveRequest input f s = if badOp f.hdr c.data then refuseFrame bsBadOp 0 f.hdr f.pay s
      else if (admitReq input (tTick f.trl) f.hdr a.data s).1 ≠ bsOk then
        refuseFrame (admitReq input (tTick f.trl) f.hdr a.data s).1 0 f.hdr f.pay (admitReq input (tTick f.trl) f.hdr a.data s).2
      else if aSpace a.data = 0 then serveDict f.hdr f.pay (admitReq input (tTick f.trl) f.hdr a.data s).2
      else serveWindow f.hdr f.pay (cOp c.data) (cSize c.data) (cCount c.data) a.data (admitReq input (tTick f.trl) f.hdr a.data s).2 := by
  have hcd : ¬ (c.p ∨ hDnode f.hdr = 255) := by simp [hc, hd]
  have hao : ¬ (a.p ∨ cOp c.data = 8 ∧ ((c :: a :: rest).getD 2 ⟨0, false⟩).p) := fun h => h.elim (by simp [ha]) ho
  unfold serveRequest
  rw [hpay]
  dsimp only
  rw [if_neg hcd, if_neg hao]

theorem admitReq_notWorking {input tick : Nat} {h a : W64} {s : State} (hc : s.spaceCode h a = bsNotWorking) :
    admitReq input tick h a s = (bsNotWorking, s.bump Obj.notWorkingCnt) := by
  unfold admitReq
  rw [hc]
  rfl

theorem admitReq_overtaken {input tick : Nat} {h a : W64} {s : State} (hc : s.spaceCode h a = bsOk) (ho : orderTake input (hSnode h) tick s = none) :
    admitReq input tick h a s = (bsOrder, s.bump Obj.orderRefusedCnt) := by
  unfold admitReq
  rw [hc, ho]
  rfl

theorem admitReq_inOrder {input tick : Nat} {h a : W64} {s u : State} (hc : s.spaceCode h a = bsOk) (ho : orderTake input (hSnode h) tick s = some u) :
    admitReq input tick h a s = (bsOk, u) := by
  unfold admitReq
  rw [hc, ho]
  rfl

/-- A READ of a window that passes its checks is served, and a WRITE. -/
theorem serveWindow_read {h : W64} {pay : List PWord} {a : W64} {size count : Nat} {s : State} {w : Win} (hw : winAt (aSpace a) (aOff a) = some w)
    (hc : readCheck w (aOff a) size count = bsOk) : serveWindow h pay 1 size count a s = serveRead h pay w (aOff a) size count s := by
  unfold serveWindow
  simp only [hw, if_true, hc, ne_eq, not_true_eq_false, if_false]

theorem serveWindow_write {h : W64} {pay : List PWord} {a : W64} {size count : Nat} {s : State} {w : Win} (hw : winAt (aSpace a) (aOff a) = some w)
    (hc : writeCheck w (aOff a) size count (decide (3 ≤ pay.length)) = bsOk) :
    serveWindow h pay 2 size count a s = serveWrite h pay w (aOff a) size count s := by
  unfold serveWindow
  simp only [hw, (by decide : ¬ (2 : Nat) = 1), if_false, hc, ne_eq, not_true_eq_false]

/-- Settles O43: the checks of a request are tried in the order of R209, and a window serves what passes them. -/
theorem requestsServed : Obligations.RequestsServed := by
  intro q s
  refine ⟨fun c test j f t hc hj hf => (exec_takeRequest s hc).trans (congrArg _ (takeRequest_taken hj hf)),
    fun c test hc hj => (exec_takeRequest s hc).trans (congrArg _ (takeRequest_none hj)), fun input f c a rest hpay hc ha ho hd => ?_,
    fun h pay a size count hw => ?_, fun h pay a size count w hw hk hc => (serveWindow_read hw hc).trans (if_neg (by rw [hk]; exact Bool.false_ne_true)),
    fun h pay a size count w hw hk hc => (serveWindow_read hw hc).trans (if_pos hk), fun h pay a size count w hw hc => ?_⟩
  · intro x
    have hs := serveRequest_whole (input := input) s hpay hc ha ho hd
    have hgood (hb : badOp f.hdr c.data = false) : ¬ badOp f.hdr c.data := fun h => Bool.false_ne_true (hb.symm.trans h)
    refine ⟨fun hb => hs.trans (if_pos hb), fun hb hx => hs.trans ((if_neg (hgood hb)).trans (if_pos hx)),
      fun hb hx hsp => hs.trans ((if_neg (hgood hb)).trans ((if_neg (not_not_intro hx)).trans (if_pos hsp))),
      fun hb hx hsp => hs.trans ((if_neg (hgood hb)).trans ((if_neg (not_not_intro hx)).trans (if_neg hsp))),
      fun hsc => admitReq_notWorking hsc, fun hsc ho => admitReq_overtaken hsc ho, fun hsc u ho => admitReq_inOrder hsc ho⟩
  · unfold serveWindow
    rw [hw]
  · intro r
    exact ⟨fun hr => (serveWindow_write hw hc).trans (if_pos hr), fun hr => (serveWindow_write hw hc).trans (if_neg hr)⟩

/-- The frame of a posted write has left the Hold for its port. -/
theorem takePosted_good {out : Nat} {s t : State} {j : Job} {u : List Cargo} {f : Frame} (hw : s.postWaits out = none)
    (hj : s.localNext out (fun j => hClass j.hdr == 1) = some j) (hr : readWords j.bays 0 j.words s = (u, t)) (ho : j.own = false)
    (hf : frameOf u = some f) (hc : Frame.crcOk f) : takePosted out s = arrivePosted out j f t := by
  unfold takePosted
  simp only [hw, hj, hr, ho, Option.isSome_none, Bool.false_eq_true, if_false, hf, hc, if_true]

theorem takePosted_same {out : Nat} {s : State} (h : (s.postWaits out).isSome ∨ s.localNext out (fun j => hClass j.hdr == 1) = none) :
    takePosted out s = s := by
  unfold takePosted
  by_cases hw : (s.postWaits out).isSome
  · exact if_pos hw
  · rw [if_neg hw, h.resolve_left hw]

/-- A posted write to a served space that passes its checks is what its window makes of it. -/
theorem tryPosted_checked {f : Frame} {a : PWord} {data : List PWord} {s : State} (hpay : f.pay = a :: data) (ha : a.p = false)
    (hs : s.spaceCode f.hdr a.data = bsOk) (hc : s.postedCheck a.data data.length = bsOk) :
    tryPosted f s = (performPosted a.data data s).map (fun r => endPosted f r.1 r.2.1 r.2.2) := by
  unfold tryPosted
  simp only [hpay, ha, hs, hc, Bool.false_eq_true, if_false, ne_eq, not_true_eq_false]

/-- A posted write that is admitted is tried out of the Hold, and else waits. -/
theorem arrivePosted_admitted {out : Nat} {j : Job} {f : Frame} {a : PWord} {data : List PWord} {s x : State} (hpay : f.pay = a :: data)
    (ha : a.p = false) (hs : s.spaceCode f.hdr a.data = bsOk) (hx : admitReq j.input (tTick f.trl) f.hdr a.data s = (bsOk, x)) :
    arrivePosted out j f s = (tryPosted f (noteLeft j (leaveHold j x))).getD (modBridge (fun b => { b with
      postWait := b.postWait ++ [⟨f, if hAck f.hdr && hDnode f.hdr != 255 then none else some j.ser, out, s.tide.beat⟩] })
      (if hAck f.hdr && hDnode f.hdr != 255 then noteLeft j (leaveHold j x) else x)) := by
  have hword : Frame.word f 0 = a.data := by unfold Frame.word; rw [hpay]; rfl
  have hhead : ¬ (s.spaceCode f.hdr a.data ≠ bsOk ∨ (f.pay.getD 0 ⟨0, true⟩).p) := by
    rw [hpay]
    exact fun h => h.elim (· hs) (fun h => Bool.false_ne_true (ha.symm.trans h))
  unfold arrivePosted
  dsimp only
  rw [hword, if_neg hhead, hx, if_neg (not_not_intro rfl)]
  cases tryPosted f (noteLeft j (leaveHold j x)) <;> rfl

theorem endPosted_ok (f : Frame) (s : State) :
    endPosted f bsOk 0 s = if hAck f.hdr ∧ hDnode f.hdr ≠ 255 then answer f.hdr f.pay 4 0 0 bsOk 0 [pw (Frame.word f 0)] (s.bump Obj.postedInCnt)
      else s.bump Obj.postedInCnt := if_neg (not_not_intro rfl)

theorem execPostedWriteResume_done {q : Fin 5} {s t : State} {w : PostWait} (hw : s.postWaits (3 + q.val) = some w)
    (ht : tryPosted w.frame (unwait w s) = some t) : execPostedWriteResume q s = .next t := by
  unfold execPostedWriteResume
  simp only [hw, ht, Option.getD_some]

theorem execTargetWaitExpiry_due {q : Fin 5} {s : State} {w : PostWait} (hw : s.postWaits (3 + q.val) = some w)
    (hs : s.spaceCode w.frame.hdr (Frame.word w.frame 0) = bsOk) (ht : w.tick + s.get Obj.targetWait ≤ s.tide.beat) :
    execTargetWaitExpiry q s = .next (refuseFrame bsBusy 1 w.frame.hdr w.frame.pay (unwait w s)) := by
  unfold execTargetWaitExpiry
  simp only [hw]
  rw [if_pos ht, hs, if_neg (not_not_intro rfl)]
  rfl

theorem execPrefetchReadAhead_due {s : State} {node : Nat} {w : Win} {off : Nat} (ha : s.bridge.ahead = some (node, w, off)) (hp : s.prefetches w)
    (hs : s.serves w.space) : execPrefetchReadAhead s = .next (readAhead node w off (modBridge (fun b => { b with ahead := none }) s)) := by
  unfold execPrefetchReadAhead
  simp only [ha]
  exact next_pos ⟨hp, hs⟩

/-- Settles O44: a posted write is tried once it is admitted; what waits is refused with part 1 of its BUSY (log entry 65), out of the Hold where it
has an acknowledgement to give (log entry 67). -/
theorem postedWritesAndPrefetch : Obligations.PostedWritesAndPrefetch := by
  intro q s out
  refine ⟨fun j f u t hw hj hr ho hf hc => next_eq (takePosted_good hw hj hr ho hf hc), fun h => next_eq (takePosted_same h),
    fun j f a data x hpay ha hs hx hs' hc => ?_, fun f hk => ?_, fun f hk hd => (endPosted_ok f s).trans (if_pos ⟨hk, hd⟩),
    fun w t hw ht => (exec_postedWriteResume q s).trans (execPostedWriteResume_done hw ht),
    fun w hw hs ht => (exec_targetWaitExpiry q s).trans (execTargetWaitExpiry_due hw hs ht),
    fun node w off ha hp hs => (exec_prefetchReadAhead s).trans (execPrefetchReadAhead_due ha hp hs), rfl, fun st hw hk => ?_⟩
  · have harr := arrivePosted_admitted (out := out) hpay ha hs hx
    rw [tryPosted_checked hpay ha hs' hc] at harr
    refine ⟨fun st d t hp => ?_, fun hp hk => ?_, fun hp hk hd => ?_⟩
    · rw [harr, hp]
      rfl
    · rw [harr, hp, hk]
      rfl
    · rw [harr, hp, hk, bne_iff_ne.2 hd]
      rfl
  · exact (endPosted_ok f s).trans (if_neg fun c => Bool.false_ne_true (hk.symm.trans c.1))
  · unfold dropStream
    simp [hw, hk]

end Sys2Proof.Laws


/-! Messages of a CAN controller. -/

namespace Sys2Proof.Laws

open Sys2Proof.Machine

theorem bufTransmit_taken {k b retry : Nat} {s : State} (ht : s.canTxBuf k b) (hs : (s.canBuf k b).status ∈ [0, 3, 4, 6, 9]) :
    bufTransmit k b retry s = some (modBuf k b (fun y => { y with
      status := if headRejected (ccFd (s.ctl k).ctrl) (CanBuf.head (s.canBuf k b)) then 9
        else if (s.ctl k).st = .busOff ∨ (s.ctl k).st = .recovering then 5 else 1,
      retry := retry, attempts := 0, late := false }) s) := if_pos ⟨ht, List.contains_iff_mem.2 hs⟩

/-- A message that is not in an attempt on the bus is aborted at once; an attempt in progress takes the abort at its end. -/
theorem bufAbort_atOnce {k b : Nat} {s : State} (h : (s.canBuf k b).status = 1 ∨ (s.canBuf k b).status = 5 ∨ ((s.canBuf k b).status = 2 ∧ s.sending k b = false)) :
    bufAbort k b s = some (setBufStatus k b 4 s) := if_pos (h.imp_right (Or.imp_right fun h => ⟨h.1, by rw [h.2]; rfl⟩))

theorem bufAbort_sending {k b : Nat} {s : State} (h : (s.canBuf k b).status = 2) (hs : s.sending k b) :
    bufAbort k b s = some (modCtl k (fun c => { c with tx := c.tx.map (fun t => { t with abort := true }) }) s) :=
  (if_neg (by simp [h, hs])).trans (if_pos h)

theorem canChoose_none {k : Nat} {s : State} (h : s.candidates k = []) : canChoose k s = s := by
  unfold canChoose
  rw [h]
  rfl

theorem canChoose_buf {k n key : Nat} {s : State} (h : least (s.candidates k) = some (n, key)) (hn : n ≠ 65) (hb : (bufBad k n s).1 = false) :
    canChoose k s = modCtl k (fun c => { c with tx := some ((bufBad k n s).2.txBuf k n) }) (setBufStatus k n 2 (bufBad k n s).2) := by
  unfold canChoose
  simp only [h, hn, hb, if_false, Bool.false_eq_true]

theorem canChoose_queue {k key : Nat} {s : State} (h : least (s.candidates k) = some (65, key)) (hb : s.gwBad k = false) :
    canChoose k s = modCtl k (fun c => { c with tx := some (s.txQueue k) }) s := by
  unfold canChoose
  simp only [h, hb, if_true, if_false, Bool.false_eq_true]

/-- Without a transmission its ends change nothing. -/
theorem canTxEnds_none {k : Fin 8} {s : State} (h : (s.ctl k.val).tx = none) (tdc : BitVec 8) (sof : W64) (kind : Fin 5) (pos : BitVec 8) (past counts : Bool) :
    exec (.canArbLost k) s = .next s ∧ exec (.canTxComplete k tdc sof) s = .next s ∧ exec (.canTxError k kind pos past counts) s = .next s := by
  rw [exec_canArbLost, exec_canTxComplete, exec_canTxError]
  unfold execCanArbLost execCanTxComplete execCanTxError
  rw [h]
  exact ⟨rfl, rfl, rfl⟩

theorem canArbLost_some {k : Fin 8} {s : State} {t : CanTx} (h : (s.ctl k.val).tx = some t) :
    exec (.canArbLost k) s = .next (if t.src = 65 then
        (if ((endTx k.val (s.bump (Obj.arbLostCnt k.val))).ctl k.val).gwFlush = 1 then gwFlushHead k.val (endTx k.val (s.bump (Obj.arbLostCnt k.val)))
          else endTx k.val (s.bump (Obj.arbLostCnt k.val)))
      else setBufStatus k.val t.src (if t.abort then 4 else 1) (endTx k.val (s.bump (Obj.arbLostCnt k.val)))) := by
  rw [exec_canArbLost]
  unfold execCanArbLost
  rw [h]

/-- The transmission of controller k has succeeded: counted, over, its error counter lowered. -/
def txDone (k : Nat) (s : State) : State :=
  setCounters k (((endTx k (canIrqSet k 0 (s.bump (Obj.txOkCnt k)))).ctl k).txErr - 1) ((endTx k (canIrqSet k 0 (s.bump (Obj.txOkCnt k)))).ctl k).rxErr
    (endTx k (canIrqSet k 0 (s.bump (Obj.txOkCnt k))))

/-- A buffer whose message has been sent. -/
def bufDone (k : Nat) (t : CanTx) (sof : W64) (s : State) : State :=
  if t.abort then
    (modBuf k t.src (fun x => { x with status := 3, attempts := capAt 255 (x.attempts + 1), late := t.abort, stamp := sof }) s).bump (Obj.lateAbortCnt k)
  else modBuf k t.src (fun x => { x with status := 3, attempts := capAt 255 (x.attempts + 1), late := t.abort, stamp := sof }) s

/-- The data of the first word of a queue. -/
def headData : List Cargo → W64
  | w :: _ => w.data
  | [] => 0

theorem canTxComplete_some {k : Fin 8} {tdc : BitVec 8} {sof : W64} {s : State} {t : CanTx} (h : (s.ctl k.val).tx = some t) :
    exec (.canTxComplete k tdc sof) s = .next (if t.src = 65 then
        queueDrop k.val (noteTdc k.val tdc.toNat (headData ((txDone k.val s).fifo (gwQueue k.val)).words) (txDone k.val s))
      else if t.src = 64 then
        canIrqSet k.val 3 (bufDone k.val t sof (noteTdc k.val tdc.toNat (CanBuf.head ((txDone k.val s).canBuf k.val t.src)) (txDone k.val s)))
      else bufDone k.val t sof (noteTdc k.val tdc.toNat (CanBuf.head ((txDone k.val s).canBuf k.val t.src)) (txDone k.val s))) := by
  rw [exec_canTxComplete]
  unfold execCanTxComplete txDone bufDone
  rw [h]
  rfl

theorem canTxError_some {k : Fin 8} {kind : Fin 5} {pos : BitVec 8} {past counts : Bool} {s : State} {t : CanTx} (h : (s.ctl k.val).tx = some t) :
    exec (.canTxError k kind pos past counts) s = .next (canTxError k.val kind.val pos.toNat past counts t s) := by
  rw [exec_canTxError]
  unfold execCanTxError
  rw [h]

theorem storeInBuffer_free {k b i : Nat} {f : CanFrame} {sof : W64} {s : State} (h7 : (s.canBuf k b).status ≠ 7) (h8 : (s.canBuf k b).status ≠ 8) :
    storeInBuffer k b i f sof s = modBuf k b (fun _ => ⟨7, CanFrame.head k f :: wordsOf 8 f.data, 0, 0, false, i, sof, 0⟩)
      (modCtl k (fun c => { c with inv := c.inv.filter (fun e => e.1 / 16 != b) }) s) := by
  have hfull : ¬ ((s.canBuf k b).status = 7 ∨ (s.canBuf k b).status = 8) := fun h => h.elim h7 h8
  unfold storeInBuffer
  simp only [if_neg hfull]

/-- Settles O45: a buffer's STATUS says what a command may do (an attempt cut off is aborted at once, log entry 76; ATTEMPTS stop at 255, log entry
116), and the ends of a transmission act on its source. -/
theorem canMessages : Obligations.CanMessages := by
  intro k b s x c
  refine ⟨fun retry hp ht hs => ?_, fun hp h => ?_, fun hp h hs => ?_, fun hp h => ?_, fun hon hn ha hm => ?_, least_spec,
    fun h tdc sof kind pos past counts => canTxEnds_none h tdc sof kind pos past counts, fun t ht => ?_,
    fun f sof hon hv hf => next_pos ⟨hon, hv, hf.imp_left (by simp [·])⟩, fun f i h => find_lowest h, fun f sof i h7 h8 => storeInBuffer_free h7 h8⟩
  · exact (next_pos hp).trans (congrArg _ (congrArg (Option.getD · s) (bufTransmit_taken ht hs)))
  · exact (next_pos hp).trans (congrArg _ (congrArg (Option.getD · s) (bufAbort_atOnce h)))
  · exact (next_pos hp).trans (congrArg _ (congrArg (Option.getD · s) (bufAbort_sending h hs)))
  · exact (next_pos hp).trans (congrArg _ (congrArg (Option.getD · s) (if_pos (List.contains_iff_mem.2 h))))
  · have hexec : exec (.canTxChoose k) s = .next (canChoose k.val s) := next_pos ⟨hon, hn, by rw [show (s.ctl k.val).applyDue = false from ha]; rfl, hm⟩
    exact ⟨fun h => hexec.trans (congrArg _ (canChoose_none h)), fun n key h hn hb => hexec.trans (congrArg _ (canChoose_buf h hn hb)),
      fun key h hb => hexec.trans (congrArg _ (canChoose_queue h hb))⟩
  · refine ⟨fun hsrc => (canArbLost_some ht).trans (next_neg hsrc), fun hsrc => (canArbLost_some ht).trans (next_pos hsrc), fun tdc sof => ?_,
      fun kind pos past counts => canTxError_some ht⟩
    intro u v
    refine ⟨fun hsrc => (canTxComplete_some ht).trans (next_pos hsrc), fun hsrc => ?_⟩
    exact (canTxComplete_some ht).trans (next_neg hsrc)

/-- A commit that its controller takes waits for the boundary, with its place in the tide queue (R374, R375). -/
theorem canCommit_taken {q : List Instr} {s t : State} (wf : s.Wf q) (k : Fin 8) (ht : queueTide (Obj.canCommit k.val).key [1] s = some t)
    (hf : s.canFault k.val = none) :
    let mine := s.staged.filter (fun e => canKey k.val e.1)
    let v := { s with staged := s.staged.filter (fun e => !canKey k.val e.1), can := { s.can with commits := s.can.commits ++ mine } }
    let w := configCommit ((v.put (Obj.canResult k.val) 0xFFFF0000).put (Obj.canCommit k.val) 2)
    commitQueued (Obj.canCommit k.val) (canCommit k.val) s = ({ w with tide := { w.tide with queue := t.tide.queue } }, ecOk) := by
  intro mine v w
  have hc : canCommit k.val s = (w, ecOk) := by
    unfold canCommit
    rw [hf]
    rfl
  have hkeys := key_put v (Obj.canResult k.val) 0xFFFF0000 wf.objs
  exact commitQueued_waits ht hc ((configCommit_get _ _ (key_put _ _ _ hkeys) (canCommit_ne k)).trans (get_put_self _ _ _ hkeys))

/-- A commit whose check fails is refused with its code (R374). -/
theorem canCommit_refused {q : List Instr} {s t : State} (wf : s.Wf q) (k : Fin 8) (ht : queueTide (Obj.canCommit k.val).key [1] s = some t)
    {code what : Nat} (hf : s.canFault k.val = some (code, what)) :
    commitQueued (Obj.canCommit k.val) (canCommit k.val) s =
      ((s.put (Obj.canResult k.val) (what * 2 ^ 16 + code)).put (Obj.canCommit k.val) 4, ecOk) := by
  have hc : canCommit k.val s = ((s.put (Obj.canResult k.val) (what * 2 ^ 16 + code)).put (Obj.canCommit k.val) 4, ecOk) := by
    unfold canCommit
    rw [hf]
    rfl
  have hrefused : ((s.put (Obj.canResult k.val) (what * 2 ^ 16 + code)).put (Obj.canCommit k.val) 4).get (Obj.canCommit k.val) = 4 :=
    get_put_self _ _ _ (key_put _ _ _ wf.objs)
  exact commitQueued_over ht hc (by rw [hrefused]; decide)

theorem canRecover_busOff {k : Nat} {s : State} (h : (s.ctl k).st = .busOff) :
    canRecover k s = (modCtl k (fun c => { c with st := .recovering }) s).put (Obj.canCmd k) 1 := by
  unfold canRecover
  rw [h]
  rfl

theorem canRecover_on {k : Nat} {s : State} (h : (s.ctl k).st = .on) : canRecover k s = s.put (Obj.canCmd k) 4 := by
  unfold canRecover
  rw [h]
  rfl

/-- Settles O46: an event acts in the state that its controller is in (RECOVER outside bus-off is refused, log entry 76; the steps of the receive
errors are those of log entry 77; a commit's result and place are log entries 22 and 59). -/
theorem canControl : Obligations.CanControl := by
  intro r k s c cmd
  have spCmd (v : Nat) (bs : List Byte) := (sp_can r k cmd v bs s).2.1 rfl rfl
  refine ⟨fun kind pos heavy hon hm => (next_pos hon).trans (congrArg _ (if_pos hm)), fun kind pos heavy hon hm => (next_pos hon).trans (congrArg _ (if_neg hm)),
    fun kind pos heavy hoff => next_neg hoff, fun h hst => ?_, fun h hst => ?_, fun h => ?_, fun h => ?_, fun hst => next_pos hst, fun hst => next_pos hst,
    fun hd hn => next_pos ⟨hd, hn⟩, fun v hv h => ?_, fun q wf => ?_⟩
  · exact next_eq (writeVal_special h (by decide : (1 : Nat) < 256) ((spCmd 1 _).trans (congrArg (fun t => some (t, ecOk)) (canRecover_busOff hst))))
  · exact next_eq (writeVal_special h (by decide : (1 : Nat) < 256) ((spCmd 1 _).trans (congrArg (fun t => some (t, ecOk)) (canRecover_on hst))))
  · exact next_eq (writeVal_special h (by decide : (2 : Nat) < 256) (spCmd 2 _))
  · exact next_eq (writeVal_special h (by decide : (3 : Nat) < 256) (spCmd 3 _))
  · exact next_eq (writeVal_special h v.isLt (((sp_can r k (Obj.canIrq k.val) v.toNat _ s).2.2 rfl rfl).trans (congrArg some (clearWrite_small _ _ _ s hv))))
  · intro o h t ht
    have sp (bs : List Byte) := (sp_can r k o 1 bs s).1 rfl rfl
    exact ⟨fun hf => next_eq (writeVal_special h (by decide : (1 : Nat) < 256) ((sp _).trans (congrArg some (canCommit_taken wf k ht hf)))),
      fun code what hf => next_eq (writeVal_special h (by decide : (1 : Nat) < 256) ((sp _).trans (congrArg some (canCommit_refused wf k ht hf))))⟩

end Sys2Proof.Laws


/-! The time unit: time and echo words, PPS, the time's commands, edges of pins and pulse generators. -/

namespace Sys2Proof.Laws

open Sys2Proof.Machine

theorem execEchoWordsReceive_eq {port : Fin 2} {fields rest : List Cargo} {walk check : Cargo} {s : State} {words : List Cargo} {u : State}
    (hw : words = fields ++ [walk] ++ rest ++ [check]) (hu : u = returned port.val (words.map .word) s) (hl : u.listens port.val)
    (ho : u.rxOpen port.val) :
    (checkEight words → words.any (·.p) = false →
      (∀ v, u.echoSample port.val words = some v →
        exec (.echoWordsReceive port fields walk rest check) s = .next (walkStep port.val words (rtSample port.val v u))) ∧
      (u.echoSample port.val words = none →
        exec (.echoWordsReceive port fields walk rest check) s = .next (walkStep port.val words (u.bump (Obj.echoInvalidCnt port.val))))) ∧
    (checkEight words = false ∨ words.any (·.p) →
      exec (.echoWordsReceive port fields walk rest check) s = .next (u.bump (Obj.echoInvalidCnt port.val))) := by
  have hopen : ¬ (!u.listens port.val ∨ !u.rxOpen port.val) := by simp [hl, ho]
  rw [exec_echoWordsReceive]
  unfold execEchoWordsReceive
  dsimp only
  rw [← hw, ← hu, if_neg hopen]
  refine ⟨fun hc hp => ⟨fun v hv => ?_, fun hv => ?_⟩, fun hb => ?_⟩
  · simp only [hc, hp, Bool.not_false, Bool.and_self, if_true, hv]
  · simp only [hc, hp, Bool.not_false, Bool.and_self, if_true, hv]
  · have hgood : (checkEight words && !words.any (·.p)) = false := by
      rcases hb with hb | hb
      · rw [hb, Bool.false_and]
      · rw [hb, Bool.not_true, Bool.and_false]
    rw [hgood]
    rfl

/-- The PPS edge as a domain takes it (R382, R383): v is its distance from the last boundary. -/
def ppsFeed (d : Nat) (v : Int) (s : State) : State :=
  if s.masters d ∧ bit (s.get Obj.masterSrc) (4 * d) then
    match (s.domain d).setTo with
    | some x => setDomTime d (x - (s.time.w + v + (s.domain d).off)) (modDomain d (fun x => { x with setTo := none }) s)
    | none => modDomain d (fun x => { x with
        pps := some ((s.time.w + v + (s.domain d).off + (secUnits / 2 : Nat)) / (secUnits : Int) * (secUnits : Int) - (s.time.w + v + (s.domain d).off)) }) s
  else s

/-- A PPS edge accepted at a time (R383). -/
def ppsTaken (t : Int) (s : State) : State := (modTime (fun x => { x with pps := some t }) (s.put Obj.ppsState 1)).put Obj.ppsLast (time96 t)

theorem ppsFeed_other {d : Nat} {v : Int} {s : State} (h : s.masters d = false) : ppsFeed d v s = s :=
  if_neg fun c => Bool.false_ne_true (h.symm.trans c.1)

theorem ppsFeed_master {d : Nat} {v : Int} {s : State} (h : s.masters d) (hs : bit (s.get Obj.masterSrc) (4 * d)) (hn : (s.domain d).setTo = none) :
    ppsFeed d v s = modDomain d (fun x => { x with
        pps := some ((s.time.w + v + (s.domain d).off + (secUnits / 2 : Nat)) / (secUnits : Int) * (secUnits : Int) - (s.time.w + v + (s.domain d).off)) }) s := by
  unfold ppsFeed
  rw [if_pos ⟨h, hs⟩, hn]

/-- A PPS edge is accepted when it falls 1 s, to within 1 ms, after the last accepted one, or is the first (R383). -/
def ppsGood (t : Int) (s : State) : Bool :=
  match s.time.pps with
  | none => true
  | some l => decide ((t - l - (secUnits : Int)).natAbs ≤ 1000000 * nsUnits)

theorem ppsEdge_eq (off : BitVec 32) (s : State) :
    let t : Int := s.time.w + (off.toNat * 8192 : Nat)
    let u := ppsTaken t s
    exec (.ppsEdge off) s = .next (if !s.released 7 then s else if !ppsGood t s then s.bump Obj.ppsRejectCnt
      else ppsFeed 1 (t - psInt (u.getI Obj.ppsDelay) - u.time.w) (ppsFeed 0 (t - psInt (u.getI Obj.ppsDelay) - u.time.w) u)) := rfl

theorem ppsGood_first {t : Int} {s : State} (h : ∀ l, s.time.pps = some l → (t - l - (secUnits : Int)).natAbs ≤ 1000000 * nsUnits) : ppsGood t s := by
  unfold ppsGood
  cases hp : s.time.pps with
  | none => rfl
  | some l => exact decide_eq_true (h l hp)

theorem ppsGood_far {t l : Int} {s : State} (hp : s.time.pps = some l) (hl : 1000000 * nsUnits < (t - l - (secUnits : Int)).natAbs) :
    ppsGood t s = false := by
  unfold ppsGood
  rw [hp]
  exact decide_eq_false (Nat.not_le.2 hl)

theorem ppsEdge_rejected {off : BitVec 32} {s : State} {l : Int} (h7 : s.released 7) (hp : s.time.pps = some l)
    (hl : 1000000 * nsUnits < (s.time.w + (off.toNat * 8192 : Nat) - l - (secUnits : Int)).natAbs) :
    exec (.ppsEdge off) s = .next (s.bump Obj.ppsRejectCnt) :=
  (ppsEdge_eq off s).trans ((next_neg (by simp [h7])).trans (next_pos (by rw [ppsGood_far hp hl]; rfl)))

theorem ppsEdge_accepted {off : BitVec 32} {s : State} (h7 : s.released 7)
    (hl : ∀ l, s.time.pps = some l → (s.time.w + (off.toNat * 8192 : Nat) - l - (secUnits : Int)).natAbs ≤ 1000000 * nsUnits) :
    let t : Int := s.time.w + (off.toNat * 8192 : Nat)
    let u := ppsTaken t s
    exec (.ppsEdge off) s = .next (ppsFeed 1 (t - psInt (u.getI Obj.ppsDelay) - u.time.w) (ppsFeed 0 (t - psInt (u.getI Obj.ppsDelay) - u.time.w) u)) :=
  (ppsEdge_eq off s).trans ((next_neg (by simp [h7])).trans (next_neg (by rw [ppsGood_first hl]; decide)))

/-- `TIME_SET` kept for a domain that the node masters (R382). -/
def timeTake (v d : Nat) (s : State) : State :=
  if s.masters d then modDomain d (fun x => { x with setTo := some (timeOf (fld v 32 48) (fld v 0 32) 0) }) s else s

theorem timeSetWrite_taken {v : Nat} {s : State} (h : s.masters 0 ∨ s.masters 1) (hv : fld v 0 32 < 1000000000) :
    timeSetWrite v s = (timeTake v 1 (timeTake v 0 (s.put Obj.timeSet v)), ecOk) := by
  have hm : ¬ (!s.masters 0 ∧ !s.masters 1) := by rcases h with h | h <;> simp [h]
  exact (if_neg hm).trans (if_neg (Nat.not_le.2 hv))

theorem timeSetWrite_value {v : Nat} {s : State} (h : s.masters 0 ∨ s.masters 1) (hv : 1000000000 ≤ fld v 0 32) : timeSetWrite v s = (s, ecValue) := by
  have hm : ¬ (!s.masters 0 ∧ !s.masters 1) := by rcases h with h | h <;> simp [h]
  exact (if_neg hm).trans (if_pos hv)

theorem usable_iff (poisoned valid stamped delayed : Bool) (quality : Nat) :
    (!poisoned && valid && quality != 3 && stamped && delayed) = true ↔ poisoned = false ∧ valid ∧ quality ≠ 3 ∧ stamped ∧ delayed := by
  simp [and_assoc]

/-- Settles O47: words that are heard are judged by their CHECK, an edge by the last accepted one (which a miss forgets, log entry 113), and a write by
what the node masters. -/
theorem timesReceived : Obligations.TimesReceived := by
  intro port r s p
  refine ⟨fun fields rest check => ?_, fun fields walk rest check => ?_, fun off h7 => ?_, fun h7 h1 => ?_, fun v h hm => ⟨fun hv => ?_, fun hv => ?_⟩,
    fun v h h0 h1 => ?_, fun v => ?_⟩
  · intro words u d hl ho
    have hopen : ¬ (!u.listens p ∨ !u.rxOpen p) := by rw [hl, ho]; decide
    refine ⟨fun hc => (next_neg hopen).trans (next_pos (by rw [hc]; rfl)),
      fun hc => ⟨_, (next_neg hopen).trans (next_neg (by rw [hc]; decide)), rfl, rfl, rfl, rfl, rfl, ?_⟩⟩
    exact usable_iff _ _ _ _ _
  · intro words u hl ho
    exact execEchoWordsReceive_eq rfl rfl hl ho
  · intro t u
    refine ⟨fun l hp hl => ppsEdge_rejected h7 hp hl, fun hl h1 => ?_⟩
    have hexec := ppsEdge_accepted h7 hl
    refine ⟨fun h0 => ?_, fun h0 hs hn => ?_⟩
    · exact hexec.trans (congrArg _ ((congrArg (ppsFeed 1 _) (ppsFeed_other h0)).trans (ppsFeed_other h1)))
    · intro here v hv
      exact hexec.trans (congrArg _ ((congrArg (ppsFeed 1 _) (ppsFeed_master h0 hs hn)).trans (ppsFeed_other hv)))
  · intro u
    have hexec := next_pos (a := if (s.masters 0 && bit (s.get Obj.masterSrc) 0 || s.masters 1 && bit (s.get Obj.masterSrc) 4) then
      u.bump Obj.ppsMissCnt else u) (b := s) (p := s.released 7 ∧ s.get Obj.ppsState = 1) ⟨h7, h1⟩
    exact ⟨fun hm => hexec.trans (next_neg (by rw [hm]; exact Bool.false_ne_true)), fun hm => hexec.trans (next_pos hm)⟩
  · exact next_eq (writeVal_special h v.isLt (congrArg some (timeSetWrite_taken hm hv)))
  · exact next_eq (writeVal_refused h v.isLt (by decide) (congrArg some (timeSetWrite_value hm hv)))
  · exact next_eq (writeVal_refused h v.isLt (by decide) (congrArg some (if_pos ⟨by rw [h0]; rfl, by rw [h1]; rfl⟩)))
  · intro o h
    exact ⟨fun hc => next_eq (writeVal_special h v.isLt (congrArg some ((if_pos hc).trans (by rw [hc]; rfl)))),
      fun hc => next_eq (writeVal_special h v.isLt (congrArg some (if_neg hc)))⟩

/-- A coarse capture changes that of its pin and level alone (R399). -/
theorem coarseCapture_capture (pin : Nat) (level : Bool) (t : Nat) (s : State) (q : Nat) (b : Bool) :
    (coarseCapture pin level t s).capture b q = if q = pin ∧ b = level then some t else s.capture b q := by
  have hlast (l : List (Nat × Nat)) : ((l.filter (fun e => e.1 != pin) ++ [(pin, t)]).find? (fun e => e.1 == q)).map (·.2) =
      if q = pin then some t else (l.find? (fun e => e.1 == q)).map (·.2) := by
    rw [find_last]
    split <;> rfl
  unfold coarseCapture State.capture modTime
  cases level <;> cases b
  case false.false => exact (hlast s.time.fall).trans (by simp)
  case true.true => exact (hlast s.time.rise).trans (by simp)
  case false.true => simp
  case true.false => simp

theorem pgControlWrite_stop {n v : Nat} {now : Int} {s : State} (ha : bit v 16 = false) (hs : bit v 17) (h : (s.gen n).st = 1) :
    pgControlWrite n v now s = (genDrive n (setGen n { (genStop n s).gen n with invert := bit v 9 } (genStop n s))).put (Obj.pgControl n) (v % 2 ^ 11) := by
  have hrel : genRelease n (fld v 0 9) s = s := by
    unfold genRelease
    dsimp only
    split
    · exact if_pos (Or.inl h)
    · rfl
  unfold pgControlWrite
  dsimp only
  rw [hrel, ha, if_pos hs, if_pos (Or.inl h)]
  rfl

/-- The generator of an ARM before its code is judged (R403, R404). -/
def armReady (n v : Nat) (s : State) : State :=
  genDrive n (setGen n { (genRelease n (fld v 0 9) s).gen n with invert := bit v 9 } (genRelease n (fld v 0 9) s))

theorem pgControlWrite_arm {n v : Nat} {now : Int} {s : State} (ha : bit v 16) (hs : bit v 17 = false) :
    pgControlWrite n v now s = if (armReady n v s).armCode n v = 0 then genArm n v now ((armReady n v s).put (Obj.pgControl n) (v % 2 ^ 11))
      else setGen n { ((armReady n v s).put (Obj.pgControl n) (v % 2 ^ 11)).gen n with code := (armReady n v s).armCode n v }
        ((armReady n v s).put (Obj.pgControl n) (v % 2 ^ 11)) := by
  have hno : ¬ bit v 17 = true := fun h => Bool.false_ne_true (hs.symm.trans h)
  have hyes : ¬ (!bit v 16) = true := by rw [ha]; decide
  unfold pgControlWrite armReady
  dsimp only
  rw [if_neg hno, if_neg hyes, if_pos ha]

/-- Settles O48: an edge is captured where its pin is heard, and CONTROL acts by its bits (INVERT at once, and the code of a refused ARM kept, log entry
113; the operands of the three writes, log entry 63). -/
theorem pinsAndPulses : Obligations.PinsAndPulses := by
  intro r n s g o
  refine ⟨fun pin level ns fine => ?_, fun pin level t => ⟨?_, fun q b hne => ?_⟩, fun h => ⟨fun ha => ?_, fun ha => ?_⟩,
    fun h1 h2 => next_pos ⟨h1, h2⟩, fun v ns => ?_, fun v => ?_, fun t => ?_, fun v now ha hs h => pgControlWrite_stop ha hs h, fun v now ha hs => ?_,
    fun h v => if_pos h⟩
  · intro t c u
    refine ⟨fun hp h7 => (next_pos hp).trans (next_pos h7), fun hp h7 => (next_pos hp).trans (next_neg (by rw [show c.released 7 = false from h7]; decide)),
      fun hp h => (next_neg (Nat.not_le.2 hp)).trans (next_neg fun hc => ?_), fun hp hh h7 => (next_neg (Nat.not_le.2 hp)).trans (next_pos ⟨hh, h7⟩)⟩
    obtain ⟨hh, h7⟩ := hc
    exact h.elim (fun h => Bool.false_ne_true (h.symm.trans hh)) (fun h => Bool.false_ne_true (h.symm.trans h7))
  · exact (coarseCapture_capture pin level t s pin level).trans (if_pos ⟨rfl, rfl⟩)
  · exact (coarseCapture_capture pin level t s q b).trans (if_neg fun h => hne.elim (absurd h.1) (absurd h.2))
  · have hst : ¬ (g.st ≠ 1 ∧ g.st ≠ 2) := by omega
    exact (next_neg hst).trans (next_pos (by rw [show g.active = false from ha]; rfl))
  · have hst : ¬ (g.st ≠ 1 ∧ g.st ≠ 2) := by omega
    exact (next_neg hst).trans (next_neg (by rw [show g.active = true from ha]; decide))
  · exact fun h => next_eq (pulse_taken r n _ _ s h)
  · exact fun h => next_eq (pulse_taken r n _ _ s h)
  · exact fun h => next_eq (pulse_taken r n _ _ s h)
  · exact ⟨fun hc => (pgControlWrite_arm ha hs).trans (if_pos hc), fun hc => (pgControlWrite_arm ha hs).trans (if_neg hc)⟩

end Sys2Proof.Laws


/-! The twin pair: frames from the twin, copies of the saved state, and how ownership passes. -/

namespace Sys2Proof.Laws

open Sys2Proof.Machine

/-- The copy received so far is put away before it is judged (R431). -/
def copyTaken (s : State) : State := modTwin (fun t => { t with rxSegs := [], rxBad := false }) s

theorem takeCopy_bad {bs : List Byte} {v : Bool} {s : State} (h : s.twin.rxBad ∨ slotValid bs = false) :
    takeCopy bs v s = sendAck s.twin.rxGen 1 (copyTaken s) := by
  have hbad : (s.twin.rxBad || !slotValid bs) = true := by rcases h with h | h <;> simp [h]
  exact if_pos hbad

/-- A whole copy: of another pair, or with its slot to be verified (R431). -/
theorem takeCopy_good {bs : List Byte} {v : Bool} {s : State} (hb : s.twin.rxBad = false) (hv : slotValid bs) :
    takeCopy bs v s = if slPair bs ≠ s.node.pair ∧ !(s.node.mode == .berthing && s.node.pair == 0) then sendAck s.twin.rxGen 3 (copyTaken s)
      else if !v then sendAck s.twin.rxGen 2 (setSlot (copyTaken s).spareSlot [] (copyTaken s))
      else modTwin (fun t => { t with toLoad := some ((copyTaken s).mixedSlot (slPair bs) bs) })
        ((setSlot (copyTaken s).spareSlot ((copyTaken s).mixedSlot (slPair bs) bs) (copyTaken s)).put Obj.slotSeq
          (slSeq ((copyTaken s).mixedSlot (slPair bs) bs))) := by
  have hgood : ¬ (s.twin.rxBad || !slotValid bs) = true := by rw [hb, hv]; decide
  exact if_neg hgood

theorem fresh_iff (s : State) : (s.node.mode == Mode.berthing && s.node.pair == 0) = true ↔ s.node.mode = .berthing ∧ s.node.pair = 0 := by
  rw [Bool.and_eq_true, beq_iff_eq, beq_iff_eq]

theorem takeCopy_otherPair {bs : List Byte} {v : Bool} {s : State} (hb : s.twin.rxBad = false) (hv : slotValid bs) (hp : slPair bs ≠ s.node.pair)
    (hf : ¬ (s.node.mode = .berthing ∧ s.node.pair = 0)) : takeCopy bs v s = sendAck s.twin.rxGen 3 (copyTaken s) :=
  (takeCopy_good hb hv).trans (if_pos ⟨hp, by rw [Bool.eq_false_iff.2 (fun h => hf ((fresh_iff s).1 h))]; rfl⟩)

theorem takeCopy_mine {bs : List Byte} {v : Bool} {s : State} (hb : s.twin.rxBad = false) (hv : slotValid bs)
    (hp : slPair bs = s.node.pair ∨ (s.node.mode = .berthing ∧ s.node.pair = 0)) :
    takeCopy bs v s = if !v then sendAck s.twin.rxGen 2 (setSlot (copyTaken s).spareSlot [] (copyTaken s))
      else modTwin (fun t => { t with toLoad := some ((copyTaken s).mixedSlot (slPair bs) bs) })
        ((setSlot (copyTaken s).spareSlot ((copyTaken s).mixedSlot (slPair bs) bs) (copyTaken s)).put Obj.slotSeq
          (slSeq ((copyTaken s).mixedSlot (slPair bs) bs))) := by
  refine (takeCopy_good hb hv).trans (if_neg fun ⟨hne, hnf⟩ => ?_)
  rcases hp with hp | hp
  · exact hne hp
  · rw [(fresh_iff s).2 hp] at hnf
    exact Bool.false_ne_true hnf

/-- The copy being sent is done with (R431). -/
def copyDone (u : State) : State := modTwin (fun t => { t with sending := none, retryWait := false }) (u.put Obj.saveState 0)

theorem execCopyAckReceive_sending {f : Frame} {s : State} {bs : List Byte} (h : s.twin.sending = some bs) :
    execCopyAckReceive f s = .next (if s.takesTwin f 4 1 ∧ wfld (Frame.word f 0) 16 32 = slGen bs then
        (if wfld (Frame.word f 0) 8 8 = 0 then copyDone (s.bump Obj.copyOkCnt)
        else if wfld (Frame.word f 0) 8 8 = 1 ∨ wfld (Frame.word f 0) 8 8 = 2 then
          (if s.twin.tries < 3 then modTwin (fun t => { t with retryWait := true }) s
            else copyDone (raise 0x32 0 (wfld (Frame.word f 0) 8 8) (s.bump Obj.copyErrCnt)))
        else copyDone s)
      else s) := by
  unfold execCopyAckReceive copyDone
  rw [h]

theorem execCopyAckReceive_idle {f : Frame} {s : State} (h : s.twin.sending = none) : execCopyAckReceive f s = .next s := by
  unfold execCopyAckReceive
  rw [h]

theorem execCopyRetryTimer_waits {s : State} {bs : List Byte} (h : s.twin.sending = some bs) (hw : s.twin.retryWait) :
    execCopyRetryTimer s = .next (sendCopy bs (modTwin (fun t => { t with retryWait := false, tries := t.tries + 1 }) s)) := by
  unfold execCopyRetryTimer
  rw [h]
  exact next_pos hw

theorem execCopyRetryTimer_same {s : State} (h : s.twin.sending = none ∨ s.twin.retryWait = false) : execCopyRetryTimer s = .next s := by
  unfold execCopyRetryTimer
  cases hs : s.twin.sending with
  | none => rfl
  | some bs => exact next_neg fun hw => h.elim (fun h => by rw [hs] at h; exact Option.some_ne_none bs h) (fun h => Bool.false_ne_true (h.symm.trans hw))

/-- Settles O49: a twin frame is taken by its kind and length (one with a poisoned word is counted as an error, log entry 45; a copy refused otherwise is
not sent again, log entry 50). -/
theorem twinFrames : Obligations.TwinFrames := by
  intro f s w done
  refine ⟨fun h => ⟨_, next_pos h, rfl, rfl, rfl⟩, fun h => next_neg (ne_true_of_eq_false h), fun h => next_pos h, fun h => next_neg (ne_true_of_eq_false h),
    fun h hb => next_pos ⟨h, hb.imp_left (by simp [·])⟩, fun h => next_neg fun x => ne_true_of_eq_false h x.1, fun hc hp h0 h4 => next_neg fun x => ?_, fun v ht hc => ?_,
    fun v h => next_neg fun x => h.elim (fun h => ne_true_of_eq_false h x.1) (fun h => ne_true_of_eq_false h x.2), fun bs v => ?_, fun bs hs ht hg => ?_, fun bs hs h => ?_,
    fun bs hs hw => (exec_copyRetryTimer s).trans (execCopyRetryTimer_waits hs hw),
    fun h => ⟨(exec_copyAckReceive f s).trans (execCopyAckReceive_idle h), (exec_copyRetryTimer s).trans (execCopyRetryTimer_same (.inl h))⟩,
    fun h => (exec_copyRetryTimer s).trans (execCopyRetryTimer_same (.inr h))⟩
  · obtain ⟨-, h | h | h | h⟩ := x
    · simp [hc] at h
    · exact ne_true_of_eq_false hp h
    · exact h0 h
    · omega
  · intro a b
    have hexec := next_pos (a := if bit w.toNat 55 then takeCopy b.twin.rxSegs.flatten v b else b) (b := s) (p := s.takesTwin f 3 32 ∧ s.takesCopy) ⟨ht, hc⟩
    exact ⟨fun h => hexec.trans (next_neg (ne_true_of_eq_false h)), fun h => hexec.trans (next_pos h)⟩
  · intro u fresh slot
    exact ⟨takeCopy_bad, fun hb hv => ⟨takeCopy_otherPair hb hv, fun hp => ⟨takeCopy_mine hb hv hp, takeCopy_mine hb hv hp⟩⟩⟩
  · intro r
    have hexec := ((exec_copyAckReceive f s).trans (execCopyAckReceive_sending hs)).trans (next_pos ⟨ht, hg⟩)
    refine ⟨fun h => hexec.trans (next_pos h), fun h hn => ?_, fun h hn => ?_, fun h => ?_⟩
    · exact hexec.trans ((next_neg (show ¬ r = 0 by omega)).trans ((next_pos h).trans (next_pos hn)))
    · exact hexec.trans ((next_neg (show ¬ r = 0 by omega)).trans ((next_pos h).trans (next_neg (Nat.not_lt.2 hn))))
    · exact hexec.trans ((next_neg (show ¬ r = 0 by omega)).trans (next_neg (show ¬ (r = 1 ∨ r = 2) by omega)))
  · exact ((exec_copyAckReceive f s).trans (execCopyAckReceive_sending hs)).trans (next_neg fun x => h.elim (fun h => ne_true_of_eq_false h x.1) (fun h => h x.2))

/-- Ownership passed on leaves the chip Anchored and waiting for the claim (R424, R440). -/
theorem passOn_facts (h : Bool) (s : State) : (passOn h s).twin.claimWait ∧ (passOn h s).twin.handed = h ∧ (passOn h s).node.claim = false ∧
    (passOn h s).node.owns = false ∧ (passOn h s).node.mode = .anchored := by
  have hnode (u : State) : (enterAnchored u).node = { (setMode .anchored u).node with
      owns := false, claim := false, toAnchored := false, waitB := false, keptOwn := false } := dropStreams_node _ _
  have hp : (passOn h s).node = (enterAnchored (releaseOwnership s)).node := rfl
  rw [hp, hnode]
  exact ⟨rfl, rfl, rfl, rfl, setMode_mode _ _⟩

theorem execGiveUp_released {s : State} {c : Nat} (hc : s.giveUpCode = some c) (h : s.mayRelease ∧ s.twinReady) :
    execGiveUp s = .next (passOn false (raise 0x31 0 c
      (((releaseOwnership s).put Obj.lastGiveup ((releaseOwnership s).tide.tick % 2 ^ 16 * 2 ^ 16 + c)).bump Obj.giveupCnt))) := by
  unfold execGiveUp
  rw [hc]
  exact next_pos h

theorem execGiveUp_same {s : State} (h : s.giveUpCode = none ∨ s.mayRelease = false ∨ s.twinReady = false) : execGiveUp s = .next s := by
  unfold execGiveUp
  cases hc : s.giveUpCode with
  | none => rfl
  | some c =>
    refine next_neg fun ⟨hm, ht⟩ => ?_
    rcases h with h | h | h
    · exact Option.some_ne_none c (hc.symm.trans h)
    · exact ne_true_of_eq_false h hm
    · exact ne_true_of_eq_false h ht

/-- A write of 1 to `HANDOVER` (R425, log entry 46). -/
theorem handoverWrite_one {s : State} (hb : s.get Obj.handover ≠ stBusy) :
    handoverWrite 1 s = if !s.mayRelease then (s, ecMode) else if !s.twinReady then (s.put Obj.handover stNotReady, ecCheck)
      else if s.abortNext then (modTwin (fun t => { t with handPend := true }) (s.put Obj.handover stBusy), ecOk) else (handOver s, ecOk) := by
  unfold handoverWrite
  rw [if_neg (fun x => absurd x.1 (by decide)), if_neg (by decide), if_neg (by decide), if_neg hb]

/-- An abort that stops a hand-over, comes late, or finds none (R425). -/
theorem handoverWrite_stops {s : State} (h : s.twin.handPend) :
    handoverWrite 2 s = (modTwin (fun t => { t with handPend := false }) (s.put Obj.handover 3), ecOk) := if_pos ⟨rfl, h⟩

theorem handoverWrite_late {s : State} (h : s.twin.handPend = false) :
    handoverWrite 2 s = (if s.twin.handed ∧ s.twin.claimWait then modTwin (fun t => { t with lateAbort := true }) s else s, ecOk) :=
  (if_neg fun x => ne_true_of_eq_false h x.2).trans (if_pos rfl)

/-- The abort's own answer is all that follows where no hand-over waits any more. -/
theorem handOn_accepted {r : Req} {o : Obj} {t : State} (h : t.twin.handPend = false) : handOn (accepted r o t) = accepted r o t :=
  if_neg (by rw [accepted_twin]; exact ne_true_of_eq_false h)

theorem execPickupSample_started {levels : BitVec 256} {s : State} (h : s.twin.pick = .started) :
    execPickupSample levels s = .next (pickSample 0 { s with pins := { s.pins with line := levels.toNat } }) := by
  unfold execPickupSample
  rw [h]

theorem execPickupSample_sampling {levels : BitVec 256} {s : State} {n : Nat} (h : s.twin.pick = .sampling n) :
    execPickupSample levels s = .next (pickSample n { s with pins := { s.pins with line := levels.toNat } }) := by
  unfold execPickupSample
  rw [h]

theorem execPickupSample_same {levels : BitVec 256} {s : State} (h1 : s.twin.pick ≠ .started) (h2 : ∀ n, s.twin.pick ≠ .sampling n) :
    execPickupSample levels s = .next s := by
  unfold execPickupSample
  cases h : s.twin.pick with
  | started => exact absurd h h1
  | sampling n => exact absurd h (h2 n)
  | _ => rfl

/-- With the line low a pick-up ends and nothing but its pins and the line's mark changes (R434). -/
theorem pickLost_facts {s : State} (h : s.twin.pick = .driven) : (pickLost s).pins.drive = clearBits s.pins.drive s.twin.map ∧
    (pickLost s).twin.pick = .none ∧ (pickLost s).node = { s.node with twinLow := true } := by
  have hp : s.twin.pick ≠ .none := by rw [h]; decide
  unfold pickLost stopPickup
  rw [if_neg hp, if_neg Bool.false_ne_true]
  exact ⟨rfl, rfl, rfl⟩

/-- Settles O50: each event acts in the state that its guard names, and a passing of ownership goes through `passOn` (log entry 46). -/
theorem ownershipPasses : Obligations.OwnershipPasses := by
  intro r s o low
  have spWrite (v : Nat) (bs : List Byte) : writeSpecial r o v bs s = some (handoverWrite v s) := (sp_twin r o v bs s).1 rfl
  refine ⟨fun c hc hm ht => (exec_giveUp s).trans (execGiveUp_released hc ⟨hm, ht⟩), fun h => (exec_giveUp s).trans (execGiveUp_same h),
    fun h => passOn_facts h s, fun h hb => ?_, fun h hp => ?_, fun h hp => ?_, fun ha hh hl hc hp h3 h5 hn => ?_, fun h => next_neg fun x => ?_,
    fun map => ⟨rfl, rfl, rfl, rfl, rfl⟩, fun levels => ?_, fun hp ha => ?_, fun b h => next_neg fun x => ?_, fun hc hp hm => ?_, ⟨rfl, rfl, rfl⟩,
    fun h => next_neg fun x => ?_, fun hc ha hl h3 h5 => next_pos ⟨hc, ha, hl, h3, h5⟩, fun h => next_neg fun x => ?_⟩
  · have hw := handoverWrite_one hb
    refine ⟨fun hm ht ha => ?_, fun hm ht ha => ?_, fun hm => ?_, fun hm ht => ?_⟩
    · refine next_eq (writeVal_special h (by decide : (1 : Nat) < 256) ((spWrite 1 _).trans (congrArg some (hw.trans ?_))))
      rw [hm, ht, ha]
      rfl
    · refine next_eq (writeVal_special h (by decide : (1 : Nat) < 256) ((spWrite 1 _).trans (congrArg some (hw.trans ?_))))
      rw [hm, ht, ha]
      rfl
    · refine next_eq (writeVal_refused h (by decide : (1 : Nat) < 256) (by decide) ((spWrite 1 _).trans (congrArg some (hw.trans ?_))))
      rw [hm]
      rfl
    · refine next_eq (writeVal_refused h (by decide : (1 : Nat) < 256) (by decide) ((spWrite 1 _).trans (congrArg some (hw.trans ?_))))
      rw [hm, ht]
      rfl
  · have hw := writeVal_special h (by decide : (2 : Nat) < 256) ((spWrite 2 _).trans (congrArg some (handoverWrite_stops hp)))
    exact next_eq ((congrArg handOn hw).trans (handOn_accepted rfl))
  · have hw (u : State) (hu : handoverWrite 2 s = (u, ecOk)) : writeVal r o 2 s = accepted r o u :=
      writeVal_special h (by decide : (2 : Nat) < 256) ((spWrite 2 _).trans (congrArg some hu))
    refine ⟨fun hh hc => ?_, fun hn => ?_⟩
    · have hlate := (handoverWrite_late hp).trans (congrArg (·, ecOk) (if_pos ⟨hh, hc⟩))
      exact next_eq ((congrArg handOn (hw _ hlate)).trans (handOn_accepted hp))
    · have hnone := (handoverWrite_late hp).trans (congrArg (·, ecOk)
        (if_neg fun x => hn.elim (fun h => ne_true_of_eq_false h x.1) (fun h => ne_true_of_eq_false h x.2)))
      exact next_eq ((congrArg handOn (hw _ hnone)).trans (handOn_accepted hp))
  · exact next_pos ⟨ha, hh, hl, by rw [hc]; rfl, hp, h3, h5, by rw [hn]; rfl⟩
  · obtain ⟨ha, hh, hl, hc, hp, h3, h5, hn⟩ := x
    simp_all
  · intro t
    exact ⟨fun h => (exec_pickupSample levels s).trans (execPickupSample_started h), fun n h => (exec_pickupSample levels s).trans (execPickupSample_sampling h),
      fun h1 h2 => (exec_pickupSample levels s).trans (execPickupSample_same h1 h2)⟩
  · obtain ⟨hmode, howns, hclaim, -⟩ := enterWorking_facts s
    exact ⟨(next_pos ⟨hp, ha⟩).trans (next_neg Bool.false_ne_true), howns, hclaim, hmode, (next_pos ⟨hp, ha⟩).trans (next_pos rfl), pickLost_facts hp⟩
  · obtain ⟨hp, ha⟩ := x
    exact h.elim (· hp) (fun h => ne_true_of_eq_false h ha)
  · intro k u
    have hk : u.rst = s.rst := by
      show k.rst = s.rst
      unfold k
      split <;> rfl
    have hexec := next_pos (a := if u.rst.crit = .waitKeepers then { u with rst := { u.rst with crit := .running } } else u) (b := s)
      (p := !s.node.claim ∧ s.twin.pick = .none ∧ s.node.mode ≠ .approach) ⟨by rw [hc]; rfl, hp, hm⟩
    exact ⟨fun h => hexec.trans (next_neg (by rw [hk]; exact h)), fun h => hexec.trans (next_pos (by rw [hk]; exact h))⟩
  · obtain ⟨hc, hp, hm⟩ := x
    simp_all
  · obtain ⟨hc, ha, hl, h3, h5⟩ := x
    simp_all

end Sys2Proof.Laws


/-! Health and the saved state. -/

namespace Sys2Proof.Laws

open Sys2Proof.Machine

/-- `STATE_SAVE` written while it is not busy, by the mode (R428, R429). -/
theorem stateSaveWrite_commits {s : State} (hb : s.get Obj.stateSave ≠ stBusy) (h : s.node.owns ∨ s.node.mode = .berthing) :
    stateSaveWrite s = (configCommit ((commitPair s).put Obj.stateSave 2), ecOk) := (if_neg hb).trans (if_pos h)

theorem stateSaveWrite_slot {s : State} {i : Nat} (hb : s.get Obj.stateSave ≠ stBusy) (h : ¬ (s.node.owns ∨ s.node.mode = .berthing)) (ha : s.anchored)
    (hi : ((commitPair s).put Obj.stateSave 2).latestSlot = some i) :
    stateSaveWrite s = (beginWrite (((commitPair s).put Obj.stateSave 2).mixedSlot (((commitPair s).put Obj.stateSave 2).get Obj.pairNode)
      (((commitPair s).put Obj.stateSave 2).savedSlot i)) ((commitPair s).put Obj.stateSave 2), ecOk) := by
  unfold stateSaveWrite
  rw [if_neg hb, if_neg h, if_pos ha]
  rw [show stBusy = 2 from rfl, hi]

theorem stateSaveWrite_own {s : State} (hb : s.get Obj.stateSave ≠ stBusy) (h : ¬ (s.node.owns ∨ s.node.mode = .berthing)) (ha : s.anchored)
    (hi : ((commitPair s).put Obj.stateSave 2).latestSlot = none) :
    stateSaveWrite s = (beginWrite ((commitPair s).put Obj.stateSave 2).ownSlot ((commitPair s).put Obj.stateSave 2), ecOk) := by
  unfold stateSaveWrite
  rw [if_neg hb, if_neg h, if_pos ha]
  rw [show stBusy = 2 from rfl, hi]

theorem stateSaveWrite_mode {s : State} (hb : s.get Obj.stateSave ≠ stBusy) (h : ¬ (s.node.owns ∨ s.node.mode = .berthing)) (ha : s.anchored = false) :
    stateSaveWrite s = (s, ecMode) := (if_neg hb).trans ((if_neg h).trans (if_neg (ne_true_of_eq_false ha)))

/-- A command object that reads BUSY refuses another command of its own (R18). -/
theorem gateCode_stateSave_busy {r : Req} {s : State} (hm : s.modeCode Obj.stateSave = ecOk) (hr : s.rightCode r Obj.stateSave = ecOk)
    (hb : s.get Obj.stateSave = stBusy) : s.gateCode r Obj.stateSave (bytesOf 1 1) = ecStateBusy := by
  have hbusy : s.cmdBusy Obj.stateSave (ofBytes (bytesOf 1 1)) = true := by
    unfold State.cmdBusy
    rw [hb]
    decide
  unfold State.gateCode
  rw [if_neg (by decide), hm, hr, if_neg (by decide), if_neg (by decide), if_pos hbusy]

/-- What the end of a slot's write tells `STATE_SAVE` (R428). -/
def saveTold (due : Bool) (st : Nat) (u : State) : State := if u.get Obj.stateSave = stBusy ∧ !due then u.put Obj.stateSave st else u

theorem saveTold_eq (due : Bool) : saveTold due = fun st u => if u.get Obj.stateSave = stBusy ∧ due = false then u.put Obj.stateSave st else u := by
  funext st u
  cases due <;> simp [saveTold]

/-- The end of a slot's write, verified or not (R428, R430). -/
theorem savedStateWriteComplete_writing {s u : State} {bs : List Byte} {told : Nat → State → State} (hw : s.twin.writing = some bs)
    (hu : modTwin (fun t => { t with writing := none }) s = u) (ht : saveTold s.twin.saveDue = told) :
    let a := told 1 ((((setSlot s.spareSlot bs u).put Obj.slotSeq (slSeq bs)).put Obj.savedTick (slTick bs)).put Obj.savedLen (slLength bs))
    let b := if a.node.mode = .berthing then { a.put Obj.savedSource 3 with node := { a.node with loaded := true } } else a
    let c := if s.cfgWriting then cfgWritten true b else b
    let d := raise 0x37 0 ecInternal (told 4 (u.put Obj.saveState 3))
    (c.node.owns → exec (.savedStateWriteComplete true) s =
      .next (sendCopy (copyBytes bs) (modTwin (fun t => { t with sending := some (copyBytes bs), tries := 0 }) c))) ∧
    (c.node.owns = false → exec (.savedStateWriteComplete true) s = .next (c.put Obj.saveState 0)) ∧
    exec (.savedStateWriteComplete false) s = .next (if s.cfgWriting then cfgWritten false d else d) := by
  intro a b c d
  have hgood : execSavedStateWriteComplete true s = .next (if c.node.owns then
      sendCopy (copyBytes bs) (modTwin (fun t => { t with sending := some (copyBytes bs), tries := 0 }) c) else c.put Obj.saveState 0) := by
    subst ht hu
    unfold execSavedStateWriteComplete
    rw [hw]
    rfl
  have hbad : execSavedStateWriteComplete false s = .next (if s.cfgWriting then cfgWritten false d else d) := by
    subst ht hu
    unfold execSavedStateWriteComplete
    rw [hw]
    rfl
  clear_value c
  exact ⟨fun hc => hgood.trans (next_pos hc), fun hc => hgood.trans (next_neg (ne_true_of_eq_false hc)), hbad⟩

theorem execSavedStateWriteComplete_none {s : State} {v : Bool} (hw : s.twin.writing = none) : execSavedStateWriteComplete v s = .next s := by
  unfold execSavedStateWriteComplete
  rw [hw]

/-- Settles O51: `STATE_SAVE` acts by the mode (MODE elsewhere and BUSY until its write ends, log entry 50), and the end of a write tells those that wait
for it (SLOT_SEQ taken at the verified write, log entry 23). -/
theorem savedState : Obligations.SavedState := by
  intro r s o
  have spWrite (v : Nat) (bs : List Byte) : writeSpecial r o v bs s = some (stateSaveWrite s) := (sp_twin r o v bs s).2 rfl
  refine ⟨fun ha => next_pos ha, fun ha => next_neg (ne_true_of_eq_false ha), ?_, ?_, fun h hb => ?_, fun hs hf hm hr hb => next_eq ?_, fun h => if_pos h,
    fun bs hw => ?_, fun v hw => (exec_savedStateWriteComplete v s).trans (execSavedStateWriteComplete_none hw)⟩
  · unfold State.selfTestOk
    rw [Bool.and_eq_true, beq_iff_eq]
  · unfold State.readyNow
    rw [Bool.and_eq_true, Bool.and_eq_true, Bool.and_eq_true, beq_iff_eq, and_assoc, and_assoc]
  · intro t
    have hw (u : State) (hu : stateSaveWrite s = (u, ecOk)) : exec (.stateSave r) s = .next (accepted r o u) :=
      next_eq (writeVal_special h (by decide : (1 : Nat) < 256) ((spWrite 1 _).trans (congrArg some hu)))
    have hnot (hn : s.node.owns = false) (hm : s.node.mode ≠ .berthing) : ¬ (s.node.owns ∨ s.node.mode = .berthing) :=
      fun x => x.elim (ne_true_of_eq_false hn) hm
    exact ⟨fun hm => hw _ (stateSaveWrite_commits hb hm), fun hn hm ha =>
      ⟨fun i hi => hw _ (stateSaveWrite_slot hb (hnot hn hm) ha hi), fun hi => hw _ (stateSaveWrite_own hb (hnot hn hm) ha hi)⟩,
      fun hn hm ha => next_eq (writeVal_refused h (by decide : (1 : Nat) < 256) (by decide)
        ((spWrite 1 _).trans (congrArg some (stateSaveWrite_mode hb (hnot hn hm) ha))))⟩
  · have hg := gateCode_stateSave_busy hm hr hb
    refine (writeBytes_gate (o := o) (bs := bytesOf 1 1) hs hf (by rw [hg]; decide) (by decide) (by decide)).trans ?_
    rw [hg]
    rfl
  · intro u told
    exact savedStateWriteComplete_writing hw rfl (saveTold_eq _)

end Sys2Proof.Laws


/-! Update sessions: delivery and checks, activation, trial and fallback. -/

namespace Sys2Proof.Laws

open Sys2Proof.Machine

theorem freeCode_ne (s : State) : (freeCode s).1 ≠ 0 := Nat.succ_ne_zero _

theorem updOpen_refused {resume : Bool} {s : State} (h : s.openCode true ≠ 0) :
    updOpen resume true s = (s.openCode true, updResult (s.openCode true) s) := if_pos h

theorem updOpen_notResumable {s : State} (h : s.upd.resumable = false) : updOpen true true s = updOpen false true s := by
  have hk : (true && (updResult (s.openCode true) s).upd.resumable) = (false && (updResult (s.openCode true) s).upd.resumable) :=
    (Bool.true_and _).trans h
  unfold updOpen
  dsimp only
  rw [hk]

/-- What a new session leaves (R543). -/
theorem updOpen_new_facts {s : State} (h : s.openCode true = 0) : (updOpen false true s).2.upd.isOpen ∧ (updOpen false true s).2.upd.erasing ∧
    (updOpen false true s).2.node.toDryDock ∧ (updOpen false true s).2.image s.spareImage = [] := by
  rw [updOpen_new s h]
  obtain ⟨hupd, hnode⟩ := setImage_upd s.spareImage [] (modUpd (fun u => { u with
      isOpen := true, resumable := false, state := 1, erasing := true, verifying := false, guardEnd := false })
      { (updResult 0 s) with node := { (updResult 0 s).node with toDryDock := true, leaveDryDock := false } })
  exact ⟨congrArg UpdState.isOpen hupd, congrArg UpdState.erasing hupd, congrArg NodeState.toDryDock hnode, setImage_image _ _ _⟩

theorem updOpen_resume_facts {s : State} (h : s.openCode true = 0) (hr : s.upd.resumable) :
    (updOpen true true s).2.flash = s.flash ∧ (updOpen true true s).2.upd.erasing = false := by
  rw [updOpen_resume s h hr]
  exact ⟨rfl, rfl⟩

/-- Bytes delivered to an open session, by where they lie (R545). -/
theorem chunkWrite_open {off : Nat} {data : List Byte} {s : State} (ho : s.upd.isOpen) (he : s.upd.erasing = false)
    (hs : s.upd.state = 1 ∨ s.upd.state = 2) :
    chunkWrite off data s = if off = s.get Obj.updReceived ∧ off + data.length ≤ 524288 then
        (0, modUpd (fun u => { u with state := 1 })
          ((setImage s.spareImage (s.image s.spareImage ++ data) s).put Obj.updReceived (s.get Obj.updReceived + data.length)))
      else if off + data.length ≤ s.get Obj.updReceived ∧ slice (s.image s.spareImage) off data.length = data then
        (0, modUpd (fun u => { u with state := 1 }) s)
      else if 524288 < off + data.length then (0x16, s) else (0x15, s) := by
  have hopen : (s.upd.isOpen && !s.upd.erasing && (s.upd.state == 1 || s.upd.state == 2)) = true := by
    rw [ho, he]
    simpa using hs
  unfold chunkWrite
  dsimp only
  rw [hopen]
  simp only [true_and]

theorem updChunkWrite_long {bs : List Byte} (s : State) (h : 5 ≤ bs.length) : updChunkWrite bs s = updAnswer (chunkWrite (num bs 0 4) (bs.drop 4) s) :=
  if_neg (Nat.not_lt.2 h)

theorem chunk_taken {r : Req} {bs : List Byte} {s t : State} (h : Taken r Obj.updChunk bs s) (hl : 5 ≤ bs.length)
    (hc : chunkWrite (num bs 0 4) (bs.drop 4) s = (0, t)) : exec (.updChunkWrite r bs) s = .next (accepted r Obj.updChunk t) :=
  next_eq (writeBytes_special h ((sp_chunk r _ bs s).trans (congrArg some ((updChunkWrite_long s hl).trans (congrArg updAnswer hc)))))

theorem chunk_refused {r : Req} {bs : List Byte} {s : State} {c : Nat} (h : Taken r Obj.updChunk bs s) (hl : 5 ≤ bs.length)
    (hc : chunkWrite (num bs 0 4) (bs.drop 4) s = (c, s)) (h0 : c ≠ 0) :
    exec (.updChunkWrite r bs) s = .next (refusedWith r Obj.updChunk ecCheck (updResult c s)) := by
  have hw : updAnswer (c, s) = (updResult c s, ecCheck) := if_neg h0
  exact next_eq (writeBytes_refused h (by decide) ((sp_chunk r _ bs s).trans (congrArg some ((updChunkWrite_long s hl).trans ((congrArg updAnswer hc).trans hw)))))

/-- An image that the check passes is whole, good and signed (R548). -/
theorem verifyCode_zero {s : State} (h : s.verifyCode = 0) : imBad (s.image s.spareImage) = false ∧ imDevice (s.image s.spareImage) = 0x72 ∧
    Config.keyBlank (imKey (s.image s.spareImage)) = false ∧
    Config.signatureOk (imKey (s.image s.spareImage)) ((s.image s.spareImage).take s.updTotal) := by
  unfold State.verifyCode at h
  dsimp only at h
  split at h
  · exact absurd h (by decide)
  · split at h
    · exact absurd h (by decide)
    · next hbad =>
      split at h
      · exact absurd h (by decide)
      · next hdev =>
        split at h
        · exact absurd h (by decide)
        · next hkey =>
          split at h
          · exact absurd h (by decide)
          · next hsig =>
            exact ⟨Bool.eq_false_iff.2 hbad, Decidable.not_not.1 fun x => hdev (.inl x), Bool.eq_false_iff.2 fun x => hkey (.inr x), by simpa using hsig⟩

/-- Settles O52: OPEN by the guards in their order, a chunk by where its bytes lie, VERIFY and CLOSE in their states; elsewhere they are refused with a free
code (log entry 44), and CLOSE is taken before activation only (log entry 51). -/
theorem updateSession : Obligations.UpdateSession := by
  intro r s o free
  refine ⟨fun h hc => ⟨next_eq (upd_ok h (by decide) rfl (congrArg Prod.fst (updOpen_new s hc))), updOpen_new_facts hc⟩, fun h hc => ?_,
    fun h hc hr => ⟨next_eq (upd_ok h (by decide) rfl (congrArg Prod.fst (updOpen_resume s hc hr))), updOpen_resume_facts hc hr⟩, fun h hc hr => ?_,
    fun h hc => ?_, openCode_zero s, fun h => next_pos h, fun h => next_neg (ne_true_of_eq_false h), fun bs h hl ho he hs => ?_, fun h ho hs => ?_,
    fun h hn => ?_, fun h => ?_, fun h => next_neg (ne_true_of_eq_false h), ?_, fun h ho hs => ⟨?_, rfl, rfl, rfl⟩, fun h hn => ?_, freeCode_ne s⟩
  · exact next_eq (upd_bad h (by decide) (congrArg updAnswer (updOpen_refused hc)) hc)
  · exact next_eq (upd_ok h (by decide) (congrArg updAnswer (updOpen_notResumable hr)) (congrArg Prod.fst (updOpen_new s hc)))
  · exact next_eq (upd_bad h (by decide) (congrArg updAnswer (updOpen_refused hc)) hc)
  · intro off n got
    have hn : (bs.drop 4).length = n := List.length_drop
    have hc := chunkWrite_open (off := off) (data := bs.drop 4) ho he hs
    rw [hn] at hc
    have hrep (h : got < off + n ∨ slice (s.image s.spareImage) off n ≠ bs.drop 4) : ¬ (off + n ≤ got ∧ slice (s.image s.spareImage) off n = bs.drop 4) :=
      fun x => h.elim (Nat.not_lt.2 x.1) (absurd x.2)
    refine ⟨fun he hle => chunk_taken h hl (hc.trans (if_pos ⟨he, hle⟩)),
      fun hle hsl hne => chunk_taken h hl (hc.trans ((if_neg fun x => hne x.1).trans (if_pos ⟨hle, hsl⟩))), fun hne hno hle => ?_, fun hlt hno => ?_⟩
    · exact chunk_refused h hl (hc.trans ((if_neg fun x => hne x.1).trans ((if_neg (hrep hno)).trans (if_neg (Nat.not_lt.2 hle))))) (by decide)
    · exact chunk_refused h hl (hc.trans ((if_neg fun x => Nat.not_lt.2 x.2 hlt).trans ((if_neg (hrep hno)).trans (if_pos hlt)))) (by decide)
  · exact next_eq (upd_ok h (by decide) (congrArg updAnswer (if_pos ⟨ho, hs⟩)) rfl)
  · have hno : ¬ (s.upd.isOpen ∧ (s.upd.state = 1 ∨ s.upd.state = 2)) := fun x => hn.elim (fun h => ne_true_of_eq_false h x.1) (by omega)
    exact next_eq (upd_bad h (by decide) (congrArg updAnswer (if_neg hno)) (freeCode_ne s))
  · intro c u
    exact ⟨fun hg => (next_pos h).trans (next_neg (ne_true_of_eq_false hg)), fun hg => (next_pos h).trans (next_pos hg)⟩
  · intro bs
    exact (Decidable.em (s.verifyCode = 0)).symm.imp_right verifyCode_zero
  · have hno : ¬ (!s.upd.isOpen ∨ 3 ≤ s.upd.state) := by simp [ho, hs]
    exact next_eq (upd_ok h (by decide) (congrArg updAnswer (if_neg hno)) rfl)
  · have hyes : !s.upd.isOpen ∨ 3 ≤ s.upd.state := hn.imp_left (by simp [·])
    exact next_eq (upd_bad h (by decide) (congrArg updAnswer (if_pos hyes)) (freeCode_ne s))

theorem updActivate_guard {s : State} (ho : s.upd.isOpen) (hs : s.upd.state = 2) (hv : s.upd.verifying = false) (hg : s.guardCode ≠ 0) :
    updActivate s = (s.guardCode, updResult s.guardCode s) := by
  unfold updActivate
  rw [if_neg (by simp [ho, hs, hv]), if_pos hg]

/-- ACTIVATE of a verified image whose guards hold, by the kind of the image (R549, R550). -/
theorem updActivate_firmware {s : State} (ho : s.upd.isOpen) (hs : s.upd.state = 2) (hv : s.upd.verifying = false) (hg : s.guardCode = 0)
    (hk : imKind (s.image s.spareImage) ≠ 2) :
    let t := modUpd (fun u => { u with state := 3, config := false, late := false, oldState := [] }) (s.put Obj.updCmd stBusy)
    updActivate s = (0, (writeBoot t.spareImage true t).bump Obj.updActivateCnt) := by
  intro t
  have hcfg : (imKind (s.image s.spareImage) == 2) = false := beq_eq_false_iff_ne.2 hk
  unfold updActivate
  rw [if_neg (by simp [ho, hs, hv]), if_neg (not_not_intro hg)]
  dsimp only
  rw [hcfg]
  rfl

/-- The saved state that a configuration switch replaces (R550). -/
def replacedState (s : State) : List Byte :=
  match s.latestSlot with
  | some i => s.savedSlot i
  | none => s.ownSlot

theorem updActivate_config {s : State} (ho : s.upd.isOpen) (hs : s.upd.state = 2) (hv : s.upd.verifying = false) (hg : s.guardCode = 0)
    (hk : imKind (s.image s.spareImage) = 2) :
    updActivate s = (0, cfgStart (modUpd (fun u => { u with state := 3, config := true, late := false, oldState := replacedState s })
      (s.put Obj.updCmd stBusy))) := by
  have hcfg : (imKind (s.image s.spareImage) == 2) = true := beq_iff_eq.2 hk
  unfold updActivate
  rw [if_neg (by simp [ho, hs, hv]), if_neg (not_not_intro hg)]
  dsimp only
  rw [hcfg]
  rfl

theorem updActivate_unverified {s : State} (h : s.upd.isOpen = false ∨ s.upd.state ≠ 2 ∨ s.upd.verifying) : updActivate s = freeCode s := by
  refine if_pos ?_
  rcases h with h | h | h <;> simp [h]

theorem beginTrial_facts {t : State} (h : t.upd.relay = none) : (beginTrial t).upd.state = 4 ∧ (beginTrial t).upd.trialAt = t.tide.clock := by
  unfold beginTrial
  dsimp only
  rw [relayDone_none]
  · exact ⟨rfl, rfl⟩
  · exact h

/-- The firmware of the other slot runs and the pause ends (R549, R552). -/
def loaded (trial : Bool) (s : State) : State :=
  restartCycle (modBridge (fun b => { b with sram := [], sramZero := true, sramInv := [] })
    { s with rst := { s.rst with wdt := true }, upd := { s.upd with pause := false, slot := 1 - s.upd.slot, trial := trial } })

theorem restartCycle_upd (s : State) : (restartCycle s).upd = s.upd := by
  unfold restartCycle
  split <;> rfl

theorem loaded_state (trial : Bool) (s : State) : (loaded trial s).upd.state = s.upd.state := by
  unfold loaded
  rw [restartCycle_upd]
  rfl

theorem activateLoadComplete_trial {s : State} (hp : s.upd.pause) (h : s.upd.state = 3) : exec .activateLoadComplete s = .next (beginTrial (loaded true s)) := by
  have hexec : exec .activateLoadComplete s = .next (beginTrial (loaded (s.upd.state == 3) s)) :=
    (next_pos ⟨hp, .inl h⟩).trans (next_pos ((loaded_state _ s).trans h))
  rw [h] at hexec
  exact hexec

theorem activateLoadComplete_revert {s : State} (hp : s.upd.pause) (h : s.upd.state = 5) :
    exec .activateLoadComplete s = .next (endSession ((loaded false s).get Obj.updEndCause) (loaded false s)) := by
  have hexec : exec .activateLoadComplete s = .next (endSession ((loaded (s.upd.state == 3) s).get Obj.updEndCause) (loaded (s.upd.state == 3) s)) :=
    (next_pos ⟨hp, .inr h⟩).trans (next_neg fun c => absurd (((loaded_state _ s).trans h).symm.trans c) (by decide))
  rw [h] at hexec
  exact hexec

theorem updConfirm_trial {s : State} (h : s.upd.state = 4) :
    updConfirm s = (0, (endSession 0 (if s.upd.config then s else modUpd (fun u => { u with trial := false }) (writeBoot s.upd.slot false s))).put
      Obj.updCmd stDone) := if_neg (not_not_intro h)

theorem updAbort_late {s : State} (h3 : s.upd.state = 3) (h : s.upd.config = false ∨ s.upd.cfgReady ∨ s.tide.pause ≠ 0) :
    updAbort s = modUpd (fun u => { u with late := true }) s := by
  have hno : ¬ (s.upd.config ∧ !s.upd.cfgReady ∧ s.tide.pause = 0) := by rcases h with h | h | h <;> simp [h]
  exact (if_neg (not_not_intro h3)).trans (if_neg hno)

theorem updAbort_undone {s : State} (h3 : s.upd.state = 3) (hc : s.upd.config) (hr : s.upd.cfgReady = false) (hp : s.tide.pause = 0) :
    let a := if s.cfgWriting then { s with twin := { s.twin with writing := none } } else s
    let d := freeCode a
    updAbort s = relayDone d.1 ((modUpd (fun u => { u with state := 2, cfgDue := false }) (d.2.put Obj.saveState 0)).put Obj.updCmd stAborted) :=
  (if_neg (not_not_intro h3)).trans (if_pos ⟨hc, by rw [hr]; rfl, hp⟩)

/-- Settles O53: each command and event acts in the state of the session that it names; elsewhere a command is refused with a free code (log entry 44), and
ABORT outside an activation does nothing (log entry 51). -/
theorem updateActivation : Obligations.UpdateActivation := by
  intro r s o u free
  have spAbort (bs : List Byte) : writeSpecial r o 7 bs s = some (updAbort s, ecOk) := rfl
  refine ⟨fun h ho hs hv hg hk => ?_, fun h ho hs hv hg hk => ⟨replacedState s, ?_⟩, fun h ho hs hv hg => ?_, fun h hn => ?_, freeCode_ne s,
    fun hs hc hp => next_pos ⟨hs, by rw [show s.upd.config = false from hc]; rfl, by rw [show s.upd.pause = false from hp]; rfl⟩,
    fun h => next_neg fun x => ?_, fun hp => ?_, fun h => next_neg fun x => ?_, fun t ht => beginTrial_facts ht, fun h h4 => ⟨fun hc => ?_, fun hc => ?_⟩,
    fun h h4 => ?_, fun h4 hc => (next_pos h4).trans (next_neg (ne_true_of_eq_false hc)), fun h4 hc => (next_pos h4).trans (next_pos hc),
    fun h4 => next_neg h4, fun h h3 => ?_, fun h h3 hl => ?_, fun h h3 hc hr hp => ?_⟩
  · exact next_eq (upd_ok h (by decide) (congrArg updAnswer (updActivate_firmware ho hs hv hg hk)) rfl)
  · exact next_eq (upd_ok h (by decide) (congrArg updAnswer (updActivate_config ho hs hv hg hk)) rfl)
  · exact next_eq (upd_bad h (by decide) (congrArg updAnswer (updActivate_guard ho hs hv hg)) hg)
  · exact next_eq (upd_bad h (by decide) (congrArg updAnswer (updActivate_unverified hn)) (freeCode_ne s))
  · obtain ⟨hs, hc, hp⟩ := x
    rcases h with h | h | h
    · exact hs.elim h.1 h.2
    · rw [show s.upd.config = true from h] at hc
      exact Bool.false_ne_true hc
    · rw [show s.upd.pause = true from h] at hp
      exact Bool.false_ne_true hp
  · intro w
    exact ⟨activateLoadComplete_trial hp, activateLoadComplete_revert hp⟩
  · exact h.elim (fun h => ne_true_of_eq_false h x.1) (fun h => x.2.elim h.1 h.2)
  · exact next_eq (upd_ok h (by decide) (congrArg updAnswer ((updConfirm_trial h4).trans (by rw [if_neg (ne_true_of_eq_false hc)]))) rfl)
  · exact next_eq (upd_ok h (by decide) (congrArg updAnswer ((updConfirm_trial h4).trans (by rw [if_pos hc]))) rfl)
  · exact next_eq (upd_bad h (by decide) (congrArg updAnswer (if_pos h4)) (freeCode_ne s))
  · exact next_eq (writeVal_special h (by decide : (7 : Nat) < 256) ((spAbort _).trans (congrArg (fun t => some (t, ecOk)) (if_pos h3))))
  · exact next_eq (writeVal_special h (by decide : (7 : Nat) < 256) ((spAbort _).trans (congrArg (fun t => some (t, ecOk)) (updAbort_late h3 hl))))
  · exact next_eq (writeVal_special h (by decide : (7 : Nat) < 256) ((spAbort _).trans (congrArg (fun t => some (t, ecOk)) (updAbort_undone h3 hc hr hp))))

end Sys2Proof.Laws


/-! The relay path of an update, and segmented transfers. -/

namespace Sys2Proof.Laws

open Sys2Proof.Machine

/-- The commands of the relay path, each with its RKIND and its effect (R547). -/
def relayCmds : List (Instr × Nat × (Frame → State → State)) :=
  [(Instr.relayOpen, 1, relayOpen), (Instr.relayBlock, 2, relayBlock), (Instr.relayVerify, 3, fun f => relayCommand f updVerify),
    (Instr.relayActivate, 4, fun f => relayCommand f updActivate), (Instr.relayConfirm, 5, fun f => relayCommand f updConfirm),
    (Instr.relayClose, 6, fun f => relayCommand f updClose)]

theorem exec_relayNext {c : Instr} {k : Nat} {act : Frame → State → State} (s : State) (h : (c, k, act) ∈ relayCmds) :
    exec c s = .next (relayNext (· == k) (relayTake act) s) := by
  simp only [relayCmds, List.mem_cons, List.not_mem_nil, or_false, Prod.mk.injEq] at h
  rcases h with ⟨rfl, rfl, rfl⟩ | ⟨rfl, rfl, rfl⟩ | ⟨rfl, rfl, rfl⟩ | ⟨rfl, rfl, rfl⟩ | ⟨rfl, rfl, rfl⟩ | ⟨rfl, rfl, rfl⟩
  · rfl
  · rfl
  · rfl
  · rfl
  · rfl
  · rfl

/-- The next relay frame at port 7: taken, lost in the Hold, or not there. -/
theorem relayNext_frame {p : Nat → Bool} {act : Frame → State → State} {s t : State} {j : Job} {f : Frame}
    (hj : s.localNext 7 (Job.relayed p) = some j) (hf : localFrame j s = (some f, t)) : relayNext p act s = act f t := by
  unfold relayNext
  simp only [hj, hf]

theorem relayNext_gone {p : Nat → Bool} {act : Frame → State → State} {s t : State} {j : Job}
    (hj : s.localNext 7 (Job.relayed p) = some j) (hf : localFrame j s = (none, t)) : relayNext p act s = t := by
  unfold relayNext
  simp only [hj, hf]

theorem relayNext_none {p : Nat → Bool} {act : Frame → State → State} {s : State} (hj : s.localNext 7 (Job.relayed p) = none) :
    relayNext p act s = s := by
  unfold relayNext
  rw [hj]

/-- A relay request without a poisoned word, in a pause and without one (R547). -/
theorem relayTake_paused {act : Frame → State → State} {f : Frame} {t : State} (hp : f.pay.any (·.p) = false) (h : t.upd.pause ∨ t.tide.pause ≠ 0) :
    relayTake act f t = relayAnswer f 0x18 (t.bump Obj.relayFrameCnt) :=
  (if_neg (ne_true_of_eq_false hp)).trans (if_pos (h.imp_right Nat.pos_of_ne_zero))

theorem relayTake_served {act : Frame → State → State} {f : Frame} {t : State} (hp : f.pay.any (·.p) = false) (hu : t.upd.pause = false)
    (ht : t.tide.pause = 0) : relayTake act f t = act f (t.bump Obj.relayFrameCnt) := by
  have hno : ¬ (t.upd.pause ∨ 0 < t.tide.pause) := by simp [hu, ht]
  exact (if_neg (ne_true_of_eq_false hp)).trans (if_neg hno)

/-- What comes of a BLOCK: its code and the state (R545, R547). -/
def blockResult (f : Frame) (t : State) : Nat × State :=
  if !t.holds (relayReq f) then (0x12, t)
  else if rCount (Frame.word f 0) = 0 ∨ 240 < rCount (Frame.word f 0) ∨ f.pay.length ≠ 1 + wordCount (rCount (Frame.word f 0)) then (0x15, t)
  else chunkWrite (rOffset (Frame.word f 0)) ((dataBytes (f.pay.drop 1)).take (rCount (Frame.word f 0))) t

theorem relayBlock_eq (f : Frame) (t : State) : relayBlock f t = relayAnswer f (blockResult f t).1
    (if (blockResult f t).1 = 0 then (blockResult f t).2 else updResult (blockResult f t).1 (blockResult f t).2) := rfl

theorem relayBlock_done {f : Frame} {t : State} {x : Nat × State} (h : blockResult f t = x) (h0 : x.1 = 0) : relayBlock f t = relayAnswer f 0 x.2 := by
  rw [relayBlock_eq, h, if_pos h0, h0]

theorem relayBlock_refused {f : Frame} {t : State} {x : Nat × State} (h : blockResult f t = x) (h0 : x.1 ≠ 0) :
    relayBlock f t = relayAnswer f x.1 (updResult x.1 x.2) := by
  rw [relayBlock_eq, h, if_neg h0]

/-- What a relay frame does, by whether its sender holds the lock and by what comes of it (R543, R547). -/
theorem relay_effects (f : Frame) (t : State) :
    let w := Frame.word f 0
    let k := Frame.word f 1
    let n := rCount w
    let lock := lockWrite (relayReq f) (1 * 2 ^ 56 + wfld k 0 32) t
    let sent := chunkWrite (rOffset w) ((dataBytes (f.pay.drop 1)).take n) t
    (lock.2 ≠ ecOk → relayOpen f t = relayAnswer f 0x12 (updResult 0x12 lock.1)) ∧
    (lock.2 = ecOk → relayOpen f t = relayResult f (updOpen (bit k.toNat 32) true lock.1)) ∧
    (∀ cmd, t.holds (relayReq f) = false → relayCommand f cmd t = relayAnswer f 0x12 (updResult 0x12 t)) ∧
    (∀ cmd, t.holds (relayReq f) → t.get Obj.updCmd = stBusy →
      relayCommand f cmd t = relayAnswer f (freeCode t).1 (updResult (freeCode t).1 (freeCode t).2)) ∧
    (∀ cmd, t.holds (relayReq f) → t.get Obj.updCmd ≠ stBusy → relayCommand f cmd t = relayResult f (cmd t)) ∧
    (∀ v : Nat × State,
      (v.1 ≠ 0 → relayResult f v = relayAnswer f v.1 (updResult v.1 v.2)) ∧
      (v.1 = 0 → v.2.get Obj.updCmd = stBusy → relayResult f v = { v.2 with upd := { v.2.upd with relay := some (hSnode f.hdr, rSeq w) } }) ∧
      (v.1 = 0 → v.2.get Obj.updCmd ≠ stBusy → relayResult f v = relayAnswer f 0 v.2)) ∧
    (t.holds (relayReq f) = false → relayBlock f t = relayAnswer f 0x12 (updResult 0x12 t)) ∧
    (t.holds (relayReq f) → n = 0 ∨ 240 < n ∨ f.pay.length ≠ 1 + wordCount n → relayBlock f t = relayAnswer f 0x15 (updResult 0x15 t)) ∧
    (t.holds (relayReq f) → n ≠ 0 → n ≤ 240 → f.pay.length = 1 + wordCount n →
      (sent.1 = 0 → relayBlock f t = relayAnswer f 0 sent.2) ∧
      (sent.1 ≠ 0 → relayBlock f t = relayAnswer f sent.1 (updResult sent.1 sent.2))) := by
  intro w k n lock sent
  have hnot (h : t.holds (relayReq f) = false) : !t.holds (relayReq f) := by rw [h]; rfl
  have hyes (h : t.holds (relayReq f)) : ¬ !t.holds (relayReq f) := by rw [h]; decide
  refine ⟨fun h => if_pos h, fun h => if_neg (not_not_intro h), fun cmd h => if_pos (hnot h), fun cmd h hb => (if_neg (hyes h)).trans (if_pos hb),
    fun cmd h hb => (if_neg (hyes h)).trans (if_neg hb), fun v => ⟨fun h => if_pos h, fun h hb => (if_neg (not_not_intro h)).trans (if_pos hb),
    fun h hb => (if_neg (not_not_intro h)).trans (if_neg hb)⟩, fun h => relayBlock_refused (x := (0x12, t)) (if_pos (hnot h)) (Nat.succ_ne_zero _),
    fun h hn => relayBlock_refused (x := (0x15, t)) ((if_neg (hyes h)).trans (if_pos hn)) (Nat.succ_ne_zero _), fun h h0 h240 hl => ?_⟩
  have hgood : ¬ (n = 0 ∨ 240 < n ∨ f.pay.length ≠ 1 + wordCount n) := fun x => x.elim h0 fun x => x.elim (Nat.not_lt.2 h240) (absurd hl)
  have hres : blockResult f t = sent := (if_neg (hyes h)).trans (if_neg hgood)
  exact ⟨relayBlock_done hres, relayBlock_refused hres⟩

/-- Settles O54: a relay frame is taken by its kind, and its command is that of the session for the sender that holds the lock (a free code during a
command in progress, log entry 44; a poisoned frame has no effect, log entry 53; a refusal stands in `UPD_RESULT`, log entry 69). -/
theorem relayPath : Obligations.RelayPath := by
  intro s cmds other
  refine ⟨fun j f t hf => ⟨fun c k act hc hj => ?_, fun hj => ?_⟩, fun j t hf => ⟨fun c k act hc hj => ?_, fun hj => next_eq (relayNext_gone hj hf)⟩,
    fun c k act hc hj => ?_, fun hj => next_eq (relayNext_none hj), relay_effects⟩
  · intro u
    have hexec : exec c s = .next (relayTake act f t) := (exec_relayNext s hc).trans (congrArg _ (relayNext_frame hj hf))
    exact ⟨fun hp => hexec.trans (next_pos hp), fun hp h => hexec.trans (congrArg _ (relayTake_paused hp h)),
      fun hp hu ht => hexec.trans (congrArg _ (relayTake_served hp hu ht))⟩
  · have hexec : exec .relayFrameDrop s = .next (relayDrop f t) := next_eq (relayNext_frame hj hf)
    exact ⟨fun hk => hexec.trans (next_neg hk), fun hk => hexec.trans (next_pos hk)⟩
  · exact (exec_relayNext s hc).trans (congrArg _ (relayNext_gone hj hf))
  · exact (exec_relayNext s hc).trans (congrArg _ (relayNext_none hj))

/-- A segment from an offset: at most the count of bytes, the last where it reaches the end (R514, R517). -/
theorem segPart_part {bs : List Byte} {off n : Nat} {s : State} (h : off ≤ bs.length) :
    segPart bs off n s = ⟨s, ecOk, decide (bs.length ≤ off + ((bs.drop off).take n).length), (bs.drop off).take n⟩ := by
  have hs : slice bs off (Nat.min n (bs.length - off)) = (bs.drop off).take n := by
    unfold slice
    rw [← List.length_drop]
    exact List.take_eq_take_min.symm
  unfold segPart
  rw [if_neg (Nat.not_lt.2 h), hs]

/-- A request of the dictionary that is served, not served, or of no object. -/
theorem dictServe_unserved {op : DictOp} {r : Req} {idx sub : Nat} {s : State} (h : s.serveCode idx sub ≠ ecOk) :
    dictServe op r idx sub s = ⟨s, s.serveCode idx sub, false, []⟩ := if_pos h

theorem dictServe_absent {op : DictOp} {r : Req} {idx sub : Nat} {s : State} (h : s.serveCode idx sub = ecOk) (hf : s.findObj idx sub = none) :
    dictServe op r idx sub s = ⟨settle r idx sub 1 s, 1, false, []⟩ := by
  have hw : withObj idx sub (runOp op r) s = ⟨s, 1, false, []⟩ := by
    unfold withObj
    rw [hf]
    rfl
  unfold dictServe serve
  dsimp only
  rw [if_neg (not_not_intro h), hw]

theorem dictServe_object {op : DictOp} {r : Req} {idx sub : Nat} {s : State} {o : Obj} (h : s.serveCode idx sub = ecOk) (hf : s.findObj idx sub = some o) :
    dictServe op r idx sub s = { runOp op r o s with st := settle r idx sub (runOp op r o s).code (runOp op r o s).st } := by
  have hw : withObj idx sub (runOp op r) s = runOp op r o s := by
    unfold withObj
    rw [hf]
  unfold dictServe serve
  dsimp only
  rw [if_neg (not_not_intro h), hw]

/-- A SEG_READ of an object that is read, with a good count and no copy of its own (R517). -/
theorem segRead_counted {r : Req} {off n : Nat} {o : Obj} {s : State} (hm : s.modeCode o = ecOk) (ha : o.acc ≠ .wo) (h0 : n ≠ 0) (h240 : n ≤ 240) :
    segRead r off n o s = if copyObj o then segReadCopy o off n s else if off = 0 then segReadOpen r o n s else segReadNext r o off n s := by
  have hn : ¬ (n = 0 ∨ 240 < n) := fun x => x.elim h0 (Nat.not_lt.2 h240)
  unfold segRead
  rw [if_neg (not_not_intro hm), if_neg ha, if_neg hn]

theorem segReadOpen_some {r : Req} {o : Obj} {n : Nat} {s t : State}
    (h : openCtx r o ⟨r, o.idx, o.sub, false, (readObj o s).1.length, (readObj o s).1, 0⟩ (readObj o s).2 = some t) :
    segReadOpen r o n s = segPart (readObj o s).1 0 n t := by
  unfold segReadOpen
  simp only [h]

theorem segReadOpen_none {r : Req} {o : Obj} {n : Nat} {s : State}
    (h : openCtx r o ⟨r, o.idx, o.sub, false, (readObj o s).1.length, (readObj o s).1, 0⟩ (readObj o s).2 = none) :
    segReadOpen r o n s = ⟨s, 0xD, false, []⟩ := by
  unfold segReadOpen
  simp only [h]
  rfl

theorem segReadNext_none {r : Req} {o : Obj} {off n : Nat} {s : State} (h : s.ctxOf r o = none) : segReadNext r o off n s = ⟨s, 0xC, false, []⟩ := by
  unfold segReadNext
  rw [h]
  rfl

theorem segReadNext_some {r : Req} {o : Obj} {off n : Nat} {s : State} {c : Ctx} (h : s.ctxOf r o = some c) :
    segReadNext r o off n s = if c.download then ⟨s, 0xB, false, []⟩ else segPart c.data off n s := by
  unfold segReadNext
  rw [h]
  rfl

/-- SEG_READ of a present object (R513, R517, R518). -/
theorem segRead_facts (r : Req) (s : State) (o : Obj) (off n : Nat) :
    let copy : Ctx := ⟨r, o.idx, o.sub, false, (readObj o s).1.length, (readObj o s).1, 0⟩
    (s.modeCode o ≠ ecOk → segRead r off n o s = ⟨s, s.modeCode o, false, []⟩) ∧
    (s.modeCode o = ecOk → o.acc = .wo → segRead r off n o s = ⟨s, 4, false, []⟩) ∧
    (s.modeCode o = ecOk → o.acc ≠ .wo →
      (n = 0 ∨ 240 < n → segRead r off n o s = ⟨s, 2, false, []⟩) ∧
      (n ≠ 0 → n ≤ 240 → copyObj o → segRead r off n o s = segReadCopy o off n s) ∧
      (n ≠ 0 → n ≤ 240 → copyObj o = false →
        (∀ t, off = 0 → openCtx r o copy (readObj o s).2 = some t → segRead r off n o s = segPart copy.data 0 n t) ∧
        (off = 0 → openCtx r o copy (readObj o s).2 = none → segRead r off n o s = ⟨s, 0xD, false, []⟩) ∧
        (off ≠ 0 → s.ctxOf r o = none → segRead r off n o s = ⟨s, 0xC, false, []⟩) ∧
        (∀ c, off ≠ 0 → s.ctxOf r o = some c → c.download → segRead r off n o s = ⟨s, 0xB, false, []⟩) ∧
        (∀ c, off ≠ 0 → s.ctxOf r o = some c → c.download = false → segRead r off n o s = segPart c.data off n s))) := by
  intro copy
  refine ⟨fun hm => if_pos hm, fun hm ha => (if_neg (not_not_intro hm)).trans (if_pos ha), fun hm ha => ⟨fun hn => ?_, fun h0 h240 hc => ?_,
    fun h0 h240 hc => ?_⟩⟩
  · exact (if_neg (not_not_intro hm)).trans ((if_neg ha).trans (if_pos hn))
  · exact (segRead_counted hm ha h0 h240).trans (if_pos hc)
  · have hread := (segRead_counted (r := r) (off := off) hm ha h0 h240).trans (if_neg (ne_true_of_eq_false hc))
    exact ⟨fun t ho ht => hread.trans ((if_pos ho).trans (segReadOpen_some ht)), fun ho ht => hread.trans ((if_pos ho).trans (segReadOpen_none ht)),
      fun ho hn => hread.trans ((if_neg ho).trans (segReadNext_none hn)),
      fun c ho hn hd => hread.trans ((if_neg ho).trans ((segReadNext_some hn).trans (if_pos hd))),
      fun c ho hn hd => hread.trans ((if_neg ho).trans ((segReadNext_some hn).trans (if_neg (ne_true_of_eq_false hd))))⟩

/-- SEG_WRITE of a present object (R513, R516, R518). -/
theorem segWrite_facts (r : Req) (s : State) (o : Obj) (total off n : Nat) (bs : List Byte) :
    (copyObj o → segWrite r total off n bs false o s = ⟨s, 3, false, []⟩) ∧
    (copyObj o = false →
      (n = 0 ∨ 232 < n ∨ bs.length < n → segWrite r total off n bs false o s = ⟨s, 2, false, []⟩) ∧
      (n ≠ 0 → n ≤ 232 → n ≤ bs.length →
        (off = 0 → segWrite r total off n bs false o s = segWriteOpen r total (bs.take n) o s) ∧
        (off ≠ 0 → segWrite r total off n bs false o s = segWriteNext r off (bs.take n) o s))) := by
  refine ⟨fun hc => if_pos hc, fun hc => ⟨fun hn => (if_neg (ne_true_of_eq_false hc)).trans (if_pos hn), fun h0 h232 hl => ?_⟩⟩
  have hn : ¬ (n = 0 ∨ 232 < n ∨ bs.length < n) := by omega
  have hwrite : segWrite r total off n bs false o s = if off = 0 then segWriteOpen r total (bs.take n) o s else segWriteNext r off (bs.take n) o s :=
    (if_neg (ne_true_of_eq_false hc)).trans ((if_neg hn).trans (if_neg Bool.false_ne_true))
  exact ⟨fun h => hwrite.trans (if_pos h), fun h => hwrite.trans (if_neg h)⟩

/-- A SEG_WRITE with OFFSET 0 of bytes that may be written (R516, R519). -/
theorem segWriteOpen_allowed {r : Req} {o : Obj} {total : Nat} {bs : List Byte} {s : State} (h0 : total ≠ 0)
    (hc : (closeCtx r o s).segOpenCode r o = ecOk) (hl : total ≤ if o.ty.size = 0 then o.maxLen else o.ty.size)
    (hd : (closeCtx r o s).otherDownload r o = false) :
    (openCtx r o ⟨r, o.idx, o.sub, true, total, [], 0⟩ (closeCtx r o s) = none →
      segWriteOpen r total bs o s = ⟨closeCtx r o s, 0xD, false, []⟩) ∧
    (∀ u, openCtx r o ⟨r, o.idx, o.sub, true, total, [], 0⟩ (closeCtx r o s) = some u →
      segWriteOpen r total bs o s = segTake r o ⟨r, o.idx, o.sub, true, total, [], 0⟩ 0 bs u) := by
  unfold segWriteOpen
  dsimp only
  rw [if_neg h0, if_neg (not_not_intro hc), if_neg (Nat.not_lt.2 hl), if_neg (ne_true_of_eq_false hd)]
  refine ⟨fun hn => ?_, fun u hu => ?_⟩
  · rw [hn]
    rfl
  · rw [hu]

theorem segWriteOpen_facts (r : Req) (s : State) (o : Obj) (total : Nat) (bs : List Byte) :
    let t := closeCtx r o s
    let size := if o.ty.size = 0 then o.maxLen else o.ty.size
    (total = 0 → segWriteOpen r total bs o s = written (writeObj r o [] t)) ∧
    (total ≠ 0 → t.segOpenCode r o ≠ ecOk → segWriteOpen r total bs o s = ⟨t, t.segOpenCode r o, false, []⟩) ∧
    (total ≠ 0 → t.segOpenCode r o = ecOk →
      (size < total → segWriteOpen r total bs o s = ⟨t, 2, false, []⟩) ∧
      (total ≤ size → t.otherDownload r o → segWriteOpen r total bs o s = ⟨t, 8, false, []⟩) ∧
      (total ≤ size → t.otherDownload r o = false → openCtx r o ⟨r, o.idx, o.sub, true, total, [], 0⟩ t = none →
        segWriteOpen r total bs o s = ⟨t, 0xD, false, []⟩) ∧
      (∀ u, total ≤ size → t.otherDownload r o = false → openCtx r o ⟨r, o.idx, o.sub, true, total, [], 0⟩ t = some u →
        segWriteOpen r total bs o s = segTake r o ⟨r, o.idx, o.sub, true, total, [], 0⟩ 0 bs u)) := by
  intro t size
  refine ⟨fun h => if_pos h, fun h hc => (if_neg h).trans (if_pos hc), fun h hc => ⟨fun hl => ?_, fun hl hd => ?_,
    fun hl hd hn => (segWriteOpen_allowed h hc hl hd).1 hn, fun u hl hd hu => (segWriteOpen_allowed h hc hl hd).2 u hu⟩⟩
  · exact (if_neg h).trans ((if_neg (not_not_intro hc)).trans (if_pos hl))
  · exact (if_neg h).trans ((if_neg (not_not_intro hc)).trans ((if_neg (Nat.not_lt.2 hl)).trans (if_pos hd)))

theorem segWriteNext_none {r : Req} {off : Nat} {bs : List Byte} {o : Obj} {s : State} (h : s.ctxOf r o = none) :
    segWriteNext r off bs o s = ⟨s, 0xC, false, []⟩ := by
  unfold segWriteNext
  rw [h]
  rfl

theorem segWriteNext_some {r : Req} {off : Nat} {bs : List Byte} {o : Obj} {s : State} {c : Ctx} (h : s.ctxOf r o = some c) :
    segWriteNext r off bs o s = if c.download ∧ off + bs.length = c.data.length ∧ off = c.lastOff then ⟨s, ecOk, false, []⟩
      else if c.download ∧ off = c.data.length then segTake r o c off bs s else ⟨closeCtx r o s, 0xB, false, []⟩ := by
  unfold segWriteNext
  rw [h]
  rfl

theorem segTake_facts (r : Req) (s : State) (o : Obj) (c : Ctx) (off : Nat) (bs : List Byte) :
    let n := c.data.length + bs.length
    (n < c.total → segTake r o c off bs s = ⟨setCtx r o { c with data := c.data ++ bs, lastOff := off } s, ecOk, false, []⟩) ∧
    (n = c.total → segTake r o c off bs s = written (writeObj r o (c.data ++ bs) (closeCtx r o s))) ∧
    (c.total < n → segTake r o c off bs s = ⟨closeCtx r o s, 0xB, false, []⟩) := by
  intro n
  have hlen : (c.data ++ bs).length = n := List.length_append
  unfold segTake
  dsimp only
  rw [hlen]
  exact ⟨fun h => (if_neg (Nat.lt_asymm h)).trans (if_neg (Nat.ne_of_lt h)), fun h => (if_neg (Nat.not_lt.2 (Nat.le_of_eq h))).trans (if_pos h),
    fun h => if_pos h⟩

/-- Settles O55: a request is served through its operation, and each operation by its checks in their order (the two objects with copies of their own, log
entry 61; SIZE for COUNT and TOTAL, the context closed at offset 0 and SEGMENT on a download, log entry 62). -/
theorem segmentedTransfers : Obligations.SegmentedTransfers := by
  intro r idx sub s i j out
  have served (c : Instr) (op : DictOp) (hc : exec c s = .next (shown (dictServe op r i j s))) : out c (fun o => runOp op r o s) :=
    ⟨fun h => hc.trans (congrArg _ (congrArg shown (dictServe_unserved h))), fun h hf => hc.trans (congrArg _ (congrArg shown (dictServe_absent h hf))),
      fun o h hf => hc.trans (congrArg _ (congrArg shown (dictServe_object h hf)))⟩
  refine ⟨fun off n => served _ (.segRead off.toNat n.toNat) rfl, fun total off v => served _ (.segWrite total.toNat off.toNat v.length v false) rfl,
    served _ .segAbort rfl, served _ .info rfl, fun o off n => segRead_facts r s o off n, fun bs off n => ⟨fun h => if_pos h, fun h => segPart_part h⟩,
    fun o total off n bs => segWrite_facts r s o total off n bs, fun o total bs => segWriteOpen_facts r s o total bs,
    fun o off bs => ⟨segWriteNext_none, fun c hc => ?_⟩, fun o c off bs => segTake_facts r s o c off bs, fun o => ?_, ?_⟩
  · intro again
    have hnext := segWriteNext_some (off := off) (bs := bs) hc
    exact ⟨fun h => hnext.trans (if_pos h), fun h hd ho => hnext.trans ((if_neg h).trans (if_pos ⟨hd, ho⟩)),
      fun h hn => hnext.trans ((if_neg h).trans (if_neg fun x => hn.elim (fun hd => ne_true_of_eq_false hd x.1) (fun ho => ho x.2)))⟩
  · exact ⟨fun h => if_pos h, fun h hm => (if_neg (ne_true_of_eq_false h)).trans (if_pos hm),
      fun h hm => (if_neg (ne_true_of_eq_false h)).trans (if_neg (not_not_intro hm)), fun hm => if_pos hm, fun hm => if_neg (not_not_intro hm)⟩
  · intro mine
    exact ⟨fun h => next_pos h, fun h => next_neg (ne_true_of_eq_false h)⟩

end Sys2Proof.Laws

/-! Windows read and written by a local source, and Gangplank. -/

namespace Sys2Proof.Laws

open Sys2Proof.Machine

/-- The user window of a crane. -/
def userWin (g : Fin 64) : Win := ⟨7, 0x10 + g.val / 16, g.val % 16 * 0x100 + 0xC0, g.val % 16 * 0x100 + 0x100, 8, g.val⟩

theorem winAt_userWin (g : Fin 64) : winAt (0x10 + g.val / 16) (g.val % 16 * 0x100 + 0xC0) = some (userWin g) := winAt_user g

theorem execUserWindowRead_served {s : State} (g : Fin 64) (i : Fin 8) (h : s.serves 0x10) :
    execUserWindowRead g i s = .next (reportData [pw (s.userWord g i)] (s.setCrane g { s.crane g with usrRd := true })) := by
  unfold execUserWindowRead
  rw [if_pos h, winAt_userWin]
  rfl

theorem userWin_offset (g : Fin 64) (i : Fin 8) : ((userWin g).base + 8 * i.val - (userWin g).base) / 8 = i.val ∧ ((userWin g).base + 8 * i.val) % 8 = 0 := by
  simp only [userWin]
  omega

/-- A whole word written to a user window takes every byte. -/
theorem writeElem_user (g : Fin 64) (i : Fin 8) (v : W64) (s : State) :
    let t := touchWord 7 g i s
    let u := t.setUserWord g i v
    (writeElem (userWin g) ((userWin g).base + 8 * i.val) 8 (pw v) s).2 = u.setCrane g { u.crane g with usrWr := true } := by
  intro t u
  obtain ⟨hi, h0⟩ := userWin_offset g i
  have hw : w64 ((pw v).data.toNat % 2 ^ (8 * 8) * 2 ^ (8 * 0)) = v := by
    apply BitVec.eq_of_toNat_eq
    simpa [w64, pw] using v.isLt
  have hm : mergeBytes (t.userWord g i) v (lowBits 8 * 2 ^ 0) = v := merge_all _ v
  unfold writeElem
  dsimp only
  rw [hi, h0, hw]
  change (t.setUserWord g i (mergeBytes (t.userWord g i) v (lowBits 8 * 2 ^ 0))).setCrane g { t.crane g with usrWr := true } = _
  rw [hm]
  rfl

theorem execUserWindowWrite_served {s : State} (g : Fin 64) (i : Fin 8) (v : W64) (h : s.serves 0x10) :
    let u := (touchWord 7 g i s).setUserWord g i v
    execUserWindowWrite g i v s = .next (u.setCrane g { u.crane g with usrWr := true }) := by
  intro u
  unfold execUserWindowWrite
  rw [if_pos h, winAt_userWin]
  exact next_eq (writeElem_user g i v s)

theorem popWords_empty {f : Nat} (n : Nat) {s : State} (h : (fifoPop f s).1.v = false) :
    popWords f (n + 1) s = ([(fifoPop f s).1], (fifoPop f s).2) := by
  rw [popWords, if_neg (by rw [h]; decide)]

theorem popWords_word {f : Nat} (n : Nat) {s : State} (h : (fifoPop f s).1.v) :
    popWords f (n + 1) s = ((fifoPop f s).1 :: (popWords f n (fifoPop f s).2).1, (popWords f n (fifoPop f s).2).2) := by
  rw [popWords, if_pos h]

/-- The kept second word holds until the end of the next tick. -/
theorem readTimeWord_kept {s : State} {w : W64} {t : Nat} (h : s.bridge.latch = some (w, t)) (ht : s.tide.beat ≤ t + 1) :
    readTimeWord 1 s = (pw w, modBridge (fun b => { b with latch := none }) s) := by
  unfold readTimeWord
  simp only [h, ht, if_true]
  rfl

theorem readTimeWord_stale {s : State} {w : W64} {t : Nat} (h : s.bridge.latch = some (w, t)) (ht : t + 1 < s.tide.beat) :
    let u := modBridge (fun b => { b with latch := none }) s
    readTimeWord 1 s = (pw (timeWord1 (workNow u).1), (workNow u).2) := by
  unfold readTimeWord
  simp only [h, Nat.not_le.2 ht, if_false]
  rfl

theorem readTimeWord_unlatched {s : State} (h : s.bridge.latch = none) :
    readTimeWord 1 s = (pw (timeWord1 (workNow s).1), (workNow s).2) := by
  unfold readTimeWord
  simp only [h]
  rfl

theorem execWorkTimeWindowRead_served {s : State} (b : Bool) {x : PWord × State} (h : s.serves 0x40) (hx : readTimeWord (b2n b) s = x) :
    execWorkTimeWindowRead b s = .next (reportData [x.1] x.2) := by
  subst hx
  exact next_pos h

/-- Settles O57: by the kind of window. That the kept word holds until the end of the next tick is log entry 78, the time at the moment of a read
is a free value of log entry 3. -/
theorem localWindows : Obligations.LocalWindows := by
  intro s
  refine ⟨?_, ?_, fun f n => popWords_empty n, fun f n => popWords_word n, fun _ => rfl, ?_, ?_, ?_, ?_⟩
  · intro g i v t u
    exact ⟨fun h => ⟨execUserWindowRead_served g i h, execUserWindowWrite_served g i v h⟩,
      fun h => ⟨next_neg (ne_true_of_eq_false h), next_neg (ne_true_of_eq_false h)⟩⟩
  · intro f n r popped
    exact ⟨fun h hp => next_pos ⟨h, hp⟩, fun h => next_neg fun x => h.elim (fun hs => ne_true_of_eq_false hs x.1) (fun hp => hp x.2)⟩
  · exact fun h => execWorkTimeWindowRead_served false h rfl
  · intro w t h hl u
    exact ⟨fun ht => execWorkTimeWindowRead_served true h (readTimeWord_kept hl ht),
      fun ht => execWorkTimeWindowRead_served true h (readTimeWord_stale hl ht)⟩
  · exact fun h hl => execWorkTimeWindowRead_served true h (readTimeWord_unlatched hl)
  · exact fun b h => next_neg (ne_true_of_eq_false h)

/-- The ports of Gangplank, while the harbourmaster core runs. -/
def gpAt (d : Datagram) (s : State) : Prop :=
  (s.released 5 ∧ s.node.mode ≠ .approach) ∧ (d.dstPort.toNat = 47270 ∨ d.dstPort.toNat = 47271)

theorem execGangplankDatagram_at {d : Datagram} {s : State} (h : gpAt d s) : execGangplankDatagram d s = .next (gpReceive d s) :=
  next_pos ⟨h.1.1, h.1.2, h.2⟩

theorem gpReceive_room {d : Datagram} {s : State} (hp : s.paused) (h : s.dict.waiting.length < 16) :
    gpReceive d s = { s with dict := { s.dict with waiting := s.dict.waiting ++ [d] } } := by
  rw [gpReceive, if_pos hp, if_neg (Nat.not_le.2 h)]

theorem gpReceive_full {d : Datagram} {s : State} (hp : s.paused) (h : 16 ≤ s.dict.waiting.length) : gpReceive d s = s.bump Obj.gpDropCnt := by
  rw [gpReceive, if_pos hp, if_pos h, gpDrop]

/-- Without a pause the datagrams that waited come first. -/
theorem gpReceive_now {d : Datagram} {s : State} (hp : s.paused = false) :
    gpReceive d s = gpTake d (s.dict.waiting.foldl (fun t e => gpTake e t) { s with dict := { s.dict with waiting := [] } }) := by
  rw [gpReceive, if_neg (ne_true_of_eq_false hp), gpWaiting, if_neg (ne_true_of_eq_false hp)]

theorem gpTake_malformed {d : Datagram} {u : State} (h : Datagram.good d = false) : gpTake d u = u.bump Obj.gpDropCnt := by
  rw [gpTake, if_pos (by simp [h]), gpDrop]

theorem gpTake_otherRole {d : Datagram} {u : State} (h : Datagram.good d) (hr : u.gpRole d = false) :
    gpTake d u = gpRefuse d bsAccess ecRole (u.bump Obj.gpRoleRefusedCnt) := by
  rw [gpTake, if_neg (by simp [h]), if_pos (by simp [hr])]

/-- A datagram within its role is the dictionary's or the bridge's. -/
theorem gpTake_role {d : Datagram} {u : State} (h : Datagram.good d) (hr : u.gpRole d) :
    gpTake d u = if (u.bump Obj.gpRxCnt).gpOwn d then gpServe d (u.bump Obj.gpRxCnt) else gpBridge d (u.bump Obj.gpRxCnt) := by
  rw [gpTake, if_neg (by simp [h]), if_neg (by simp [hr])]

theorem gpRole_host {d : Datagram} {s : State} (h : d.dstPort.toNat = 47270) :
    s.gpRole d ↔ s.get Obj.gpHostAddr ≠ 0 ∧ d.srcIp.toNat = s.get Obj.gpHostAddr ∧ Datagram.hostOp d := by
  rw [State.gpRole, if_pos h]
  simp only [Bool.and_eq_true, bne_iff_ne, beq_iff_eq, and_assoc]

theorem gpRole_own {d : Datagram} {s : State} (h : d.dstPort.toNat = 47271) : s.gpRole d = s.gpOwn d := by
  rw [State.gpRole, if_neg (by omega)]

section
variable {d : Datagram} {t : State}

theorem gpServe_badOp (h : badOp (Datagram.header d) ((Datagram.payload d).getD 0 0)) : gpServe d t = gpRefuse d bsBadOp 0 t := if_pos h

theorem gpServe_short (h : badOp (Datagram.header d) ((Datagram.payload d).getD 0 0) = false) (hl : (Datagram.payload d).length < 2) :
    gpServe d t = gpRefuse d bsSize 0 t :=
  (if_neg (ne_true_of_eq_false h)).trans (if_pos hl)

theorem gpServe_elsewhere (h : badOp (Datagram.header d) ((Datagram.payload d).getD 0 0) = false) (hl : 2 ≤ (Datagram.payload d).length)
    (ha : aSpace ((Datagram.payload d).getD 1 0) ≠ 0 ∨ aNode ((Datagram.payload d).getD 1 0) ≠ t.nodeNumber) :
    gpServe d t = gpRefuse d bsSpace 0 t :=
  (if_neg (ne_true_of_eq_false h)).trans ((if_neg (Nat.not_lt.2 hl)).trans (if_pos ha))

/-- A request that the own dictionary takes: a known operation with an address in space 0x00 of this node. -/
def ownGood (d : Datagram) (t : State) : Prop :=
  badOp (Datagram.header d) ((Datagram.payload d).getD 0 0) = false ∧ 2 ≤ (Datagram.payload d).length ∧
    aSpace ((Datagram.payload d).getD 1 0) = 0 ∧ aNode ((Datagram.payload d).getD 1 0) = t.nodeNumber

/-- The answer of the own dictionary to a datagram that it takes. -/
def ownAnswer (d : Datagram) (x : DictReply) : State :=
  if x.silent then x.st
  else if x.status ≠ bsOk then gpRefuse d x.status x.detail x.st
  else
    let r := ownResponse ((Datagram.payload d).getD 0 0) x ((Datagram.payload d).getD 1 0) x.st
    gpReply d.srcIp.toNat (gpBytes (Datagram.xid d) 0x82 0 0 r.1 r.2.1) r.2.2

theorem gpServe_good (h : ownGood d t) : gpServe d t = ownAnswer d (dictRequest (Datagram.req d) ((Datagram.payload d).map pw) t) := by
  obtain ⟨hop, hlen, hspace, hnode⟩ := h
  refine (if_neg (ne_true_of_eq_false hop)).trans ((if_neg (Nat.not_lt.2 hlen)).trans (if_neg ?_))
  rintro (ha | ha)
  · exact ha hspace
  · exact ha hnode

theorem gpBridge_refused (h : t.issueCode (Datagram.frame d) ≠ bsOk) :
    gpBridge d t = refuseIssue (t.issueCode (Datagram.frame d)) (Datagram.frame d) t := if_pos h

theorem gpBridge_posted (h : t.issueCode (Datagram.frame d) = bsOk) (hc : (Datagram.frame d).cls = 1) :
    gpBridge d t = if t.roomFor (Datagram.frame d) then
      gpReply d.srcIp.toNat (gpBytes (Datagram.frame d).xid 0x81 0 0 0 []) (gpIssue (Datagram.frame d) t) else gpDrop t :=
  (if_neg (not_not_intro h)).trans (if_pos hc)

theorem gpBridge_request (h : t.issueCode (Datagram.frame d) = bsOk) (hc : (Datagram.frame d).cls ≠ 1) : gpBridge d t = gpIssue (Datagram.frame d) t :=
  (if_neg (not_not_intro h)).trans (if_neg hc)

end

/-- Settles O56: by the port of the datagram, the pause, its form and its role. Drops and counts of a wrong form, or of a posted write without room,
and the answers of the own dictionary are log entry 64; the wait in a pause is log entry 47. -/
theorem gangplankHost : Obligations.GangplankHost := by
  intro d s runs mine
  refine ⟨fun hr hm hp => ⟨fun h => ?_, fun h => ?_⟩, ?_, ?_, gpRole_host, gpRole_own, ?_, ?_, ?_⟩
  · exact (execGangplankDatagram_at ⟨hr, hm⟩).trans (next_eq (gpReceive_room hp h))
  · exact (execGangplankDatagram_at ⟨hr, hm⟩).trans (next_eq (gpReceive_full hp h))
  · intro hr hm hp u rx
    have now : exec (.gangplankDatagram d) s = .next (gpTake d u) := (execGangplankDatagram_at ⟨hr, hm⟩).trans (next_eq (gpReceive_now hp))
    exact ⟨fun h => now.trans (next_eq (gpTake_malformed h)), fun h ho => now.trans (next_eq (gpTake_otherRole h ho)),
      fun h ho hown => now.trans (next_eq ((gpTake_role h ho).trans (if_pos hown))),
      fun h ho hown => now.trans (next_eq ((gpTake_role h ho).trans (if_neg (ne_true_of_eq_false hown))))⟩
  · exact fun h => next_neg fun ⟨h5, hmode, hport⟩ => h.elim (fun hr => hr ⟨h5, hmode⟩) (fun hm => hm hport)
  · intro t ws c x refuse good
    exact ⟨gpServe_badOp, gpServe_short, gpServe_elsewhere, fun h hs => (gpServe_good h).trans (if_pos hs),
      fun h hs hx => (gpServe_good h).trans ((if_neg (ne_true_of_eq_false hs)).trans (if_pos hx)),
      fun h hs hx => (gpServe_good h).trans ((if_neg (ne_true_of_eq_false hs)).trans (if_neg (not_not_intro hx)))⟩
  · intro t q
    exact ⟨gpBridge_refused, fun h hc hroom => (gpBridge_posted h hc).trans (if_pos hroom),
      fun h hc hroom => (gpBridge_posted h hc).trans (if_neg (ne_true_of_eq_false hroom)), gpBridge_request⟩
  · intro a
    exact ⟨fun hr ha => next_pos ⟨hr.1, hr.2, ha⟩,
      fun h => next_neg fun ⟨h5, hmode, haddr⟩ => h.elim (fun hr => hr ⟨h5, hmode⟩) (fun ha => ha haddr)⟩

end Sys2Proof.Laws

/-! Changing the manifest: the commit, the end of its check, and what a check that passes says of the records and the list. -/

namespace Sys2Proof.Laws

open Sys2Proof.Machine

theorem sp_manifestCommit (r : Req) (bs : List Byte) (s : State) : writeSpecial r Obj.manifestCommit 1 bs s = some (manifestCommitWrite s) := rfl

theorem execManifestCommitComplete_idle {s : State} (h : s.man.checking = none) : execManifestCommitComplete s = .next s := by
  unfold execManifestCommitComplete
  simp only [h]

theorem execManifestCommitComplete_fails {s : State} {bs : List Byte} {dis : Option (List Byte)} {f : Nat} (h : s.man.checking = some (bs, dis))
    (hf : manFail s.man bs dis = some f) : execManifestCommitComplete s =
      .next ((({ s with man := { s.man with checking := none } } : State).put Obj.manifestCommit stRefused).put Obj.manifestResult f) := by
  unfold execManifestCommitComplete
  simp only [h, hf]

/-- The table and the list as the staged records and list leave them, with no check under way. -/
def manChanged (bs : List Byte) (dis : Option (List Byte)) (s : State) : State :=
  { s with man := { s.man with entries := manTable s.man.entries bs, disable := manDisable s.man.disable dis, checking := none } }

/-- What the end of a check that passes leaves, before the configuration is committed. -/
def manDone (bs : List Byte) (dis : Option (List Byte)) (s : State) : State :=
  ((((unstageIf Obj.manifestDisable dis (unstageIf Obj.manifestStage (some bs) (manChanged bs dis s))).putBlob Obj.manifestStage bs).bump
    Obj.manifestGen).put Obj.manifestCommit stDone).put Obj.manifestResult 0xFFFF0000

theorem execManifestCommitComplete_passes {s : State} {bs : List Byte} {dis : Option (List Byte)} (h : s.man.checking = some (bs, dis))
    (hf : manFail s.man bs dis = none) : execManifestCommitComplete s = .next (configCommit (manDone bs dis s)) := by
  unfold execManifestCommitComplete
  simp only [h, hf]
  rfl

theorem manDone_man (bs : List Byte) (dis : Option (List Byte)) (s : State) : (manDone bs dis s).man = (manChanged bs dis s).man :=
  (unstageIf_keeps _ _ _).1.trans (unstageIf_keeps _ _ _).1

/-- The generation counts and the commit reads DONE; the commit of the configuration touches neither. -/
theorem manDone_get (bs : List Byte) (dis : Option (List Byte)) (s : State) (hk : keysFrom 0 s.objs) :
    (configCommit (manDone bs dis s)).get Obj.manifestGen = (s.get Obj.manifestGen + 1) % 2 ^ 32 ∧
      (configCommit (manDone bs dis s)).get Obj.manifestCommit = stDone := by
  unfold manDone
  generalize hx : unstageIf Obj.manifestDisable dis (unstageIf Obj.manifestStage (some bs) (manChanged bs dis s)) = x
  have hobjs : x.objs = s.objs := by rw [← hx, (unstageIf_keeps _ _ _).2, (unstageIf_keeps _ _ _).2]; rfl
  have kx : keysFrom 0 (x.putBlob Obj.manifestStage bs).objs := by
    have : (x.putBlob Obj.manifestStage bs).objs = x.objs := rfl
    rw [this, hobjs]; exact hk
  have kb := bump_keys _ Obj.manifestGen kx
  have kc := key_put _ Obj.manifestCommit stDone kb
  have kr := key_put _ Obj.manifestResult 0xFFFF0000 kc
  constructor
  · rw [configCommit_get _ _ kr (by decide), get_put_ne _ _ _ _ kc (by decide), get_put_ne _ _ _ _ kb (by decide)]
    refine (get_put_self _ _ _ kx).trans ?_
    have : (x.putBlob Obj.manifestStage bs).get Obj.manifestGen = s.get Obj.manifestGen := by
      unfold State.get
      rw [← hobjs]
      rfl
    rw [this]
    rfl
  · rw [configCommit_get _ _ kr (by decide), get_put_ne _ _ _ _ kc (by decide), get_put_self _ _ _ kb]
    rfl

/-- What a pass of the checks of R240 says of each record. -/
theorem manFail_none_records {m : ManState} {bs : List Byte} {dis : Option (List Byte)} (h : manFail m bs dis = none) {i : Nat} (hi : i < bs.length / 20) :
    (recIndex bs i < 2048 ∧ ∀ j, j < i → recIndex bs j ≠ recIndex bs i) ∧ srcBad (recEntry bs i) = false ∧ keyBad (recEntry bs i) = false ∧
      destBad (recEntry bs i) = false ∧ reservedBad bs i = false := by
  unfold manFail at h
  dsimp only at h
  split at h
  · cases h
  · simp only [Option.or_eq_none_iff] at h
    obtain ⟨index, src, key, dest, -, reserved, -, -⟩ := h
    refine ⟨?_, firstRec_none src i hi, firstRec_none key i hi, firstRec_none dest i hi, firstRec_none reserved i hi⟩
    simpa using firstRec_none index i hi

/-- What it says of each descriptor of the list. -/
theorem manFail_none_list {m : ManState} {bs : List Byte} {dis : Option (List Byte)} (h : manFail m bs dis = none) {i : Nat}
    (hi : i < (dis.getD []).length / 4) : destNone (descAt (dis.getD []) i) = false ∧ fld (descAt (dis.getD []) i) 0 12 = 0 := by
  unfold manFail at h
  dsimp only at h
  split at h
  · cases h
  · simp only [Option.or_eq_none_iff] at h
    obtain ⟨-, -, -, -, dest, -, reserved, -⟩ := h
    exact ⟨firstRec_none dest i hi, by simpa using firstRec_none reserved i hi⟩

/-- Settles O58: the end of a check by what the check finds. `MANIFEST_RESULT` at 0xFFFF0000 from the commit on is log entry 22, the checks of a
disable list are log entry 40. -/
theorem manifestCommits : Obligations.ManifestCommits := by
  intro r s o
  have hv : (1 : Nat) < 256 ^ Obj.manifestCommit.ty.size := by decide
  refine ⟨fun h => next_eq (writeVal_special h hv (sp_manifestCommit r _ s)), execManifestCommitComplete_idle,
    fun bs dis f hc hf => execManifestCommitComplete_fails hc hf, ?_, ?_⟩
  · intro bs dis hc hf t u v
    exact ⟨execManifestCommitComplete_passes hc hf, (configCommit_man _).trans (manDone_man bs dis s),
      fun q wf => manDone_get bs dis s wf.objs⟩
  · intro bs dis h
    refine ⟨fun i hi => ?_, fun i hi => manFail_none_list h hi⟩
    obtain ⟨⟨index, first⟩, src, key, dest, reserved⟩ := manFail_none_records h hi
    exact ⟨index, src, key, dest, reserved, first⟩

end Sys2Proof.Laws
